-- ==== Sys2Proof/Word.lean ====
section
/-! DEFINITION. Byte strings: the only plain word type the device's packed structures need (R14). -/

namespace Sys2Proof

/-- One byte of a packed structure (R14). -/
abbrev Byte := BitVec 8

/-- A byte string; bytes stand in the order in which they are stored and transmitted. -/
abbrev Bytes := List Byte

end Sys2Proof
end

