-- ==== Sys2Proof/Syntax.lean ====
section
/-! DEFINITION. The commands and events of the RB9224: one constructor per row of the spec's table of
operations and events. Operands carry what comes from outside the block (a session slot, a unit number, frame
bytes, a level on a pin, a measured value); everything else is read from the state. -/

namespace Sys2Proof.Machine

/-- A quality seam and the Welt's configuration it was found under (R164). -/
structure Seam where
  pos : Nat
  cfg : List Int
  deriving DecidableEq, Repr

/-- The match sums of one Welt and plane over a strip (R166). -/
structure MatchSum where
  sl : Nat
  sr : Nat
  c  : Nat
  deriving DecidableEq, Repr

/-- The background of one pixel of one plane (R177): S unsigned 16.16, updates and gated lines. -/
structure BgPix where
  s     : Nat
  cnt   : Nat
  gated : Nat
  deriving DecidableEq, Repr

/-- The features collected for a piece of a blob, or for a saturated region (R188, R189, R193). `lines` is the first
and the last LIX with a run; the sums are over its pixels with u the output pixel and l the LIX. `flags` holds
Suspect, AnyMissing, Degraded and Uncertain in bits 0 to 3 up to the last line with a run, `pend` those of the lines
since. -/
structure Piece where
  lines     : Option (Nat × Nat)
  area      : Nat
  cdFirst   : Nat
  cdLast    : Nat
  peak      : Nat
  peakCd    : Nat
  peakLix   : Nat
  peakZone  : Nat
  flags     : Nat
  pend      : Nat
  bridged   : Bool
  truncated : Bool
  edge      : Bool
  merges    : Nat
  sumDev    : Nat
  sumVal    : Nat
  su        : Nat
  sl        : Nat
  suu       : Nat
  sll       : Nat
  sul       : Nat
  deriving DecidableEq, Repr

/-- An open blob (R184, R185): `hold` counts consecutive lines held; `spans` are the runs of its last line. -/
structure Blob where
  serial   : Nat
  segIndex : Nat
  dark     : Bool
  hold     : Nat
  spans    : List (Nat × Nat)
  piece    : Piece
  deriving DecidableEq, Repr

/-- A reference entry of the next line (R184): a span, its polarity, and its blob, none for a folded run. -/
structure RefEntry where
  first : Nat
  last  : Nat
  dark  : Bool
  blob  : Option Nat
  deriving DecidableEq, Repr

/-- The captured state of a View that a join hands over (R317): gains, targets, seams and match sums of the stitcher;
background, reference spans, blob table and accumulators of the segmenter; NextSerial and the next CandSeq. -/
structure Captured where
  gains      : List Nat
  targets    : List Nat
  newTargets : List (Nat × Nat × Nat)
  seams      : List (Nat × Seam)
  sums       : List (Nat × MatchSum)
  bg         : List (List BgPix)
  refs       : List RefEntry
  blobs      : List Blob
  satBright  : Option (Piece × Nat)
  satDark    : Option (Piece × Nat)
  nextSerial : Nat
  nextCand   : Nat
  deriving DecidableEq, Repr

/-- A PSET armed on a port (R136). `step` is the next camera write; `issued` the issue LIX once issuing. -/
structure Armed where
  pset     : Nat
  target   : Nat
  issueLix : Nat
  preload  : Bool
  issued   : Option Nat
  step     : Nat
  table    : Option Bytes
  deriving DecidableEq, Repr

/-- A switch of PSET found for a line not yet corrected (R137). -/
structure Switch where
  line  : Nat
  pset  : Nat
  table : Option Bytes
  deriving DecidableEq, Repr

/-- The PSETs of a running port as a join hands them over (R317): the one in force with its table, the armed one, the switches to come,
and the lines that carry PsetUncertain (R135 to R138). -/
structure PortPsets where
  pset      : Nat
  table     : Option Bytes
  armed     : Option Armed
  switches  : List Switch
  uncertain : List (Nat × Option Nat)
  deriving DecidableEq, Repr

/-- A TOL session as it is mirrored (R313). -/
structure SessionCopy where
  id        : Nat
  level     : Nat
  transport : Nat
  nextSeq   : Nat
  enrol     : Bool
  h2d       : Bytes
  d2h       : Bytes
  kept      : List (Nat × Bytes)
  deriving DecidableEq, Repr

end Sys2Proof.Machine

namespace Sys2Proof

/-- A write of a register over PCI Express (R392). -/
inductive RegWrite where
  | w32 (value : Nat)
  | w64 (value : Nat)
  deriving DecidableEq, Repr

/-- An access of the host to BAR0 (R392). -/
inductive BarAccess where
  | read (length : Nat)
  | write (data : Bytes)
  deriving DecidableEq, Repr

/-- The packets of an access through a BAR: the bytes that a read asks for, and the correctable errors that the endpoint found on the link
with them (R390, R408). -/
structure BarTlp where
  length    : Nat
  corrected : Nat
  deriving DecidableEq, Repr

/-- A write of the host to the MSI-X registers (R398): the mask bit of a vector, or MSI-X Enable and the function mask. -/
inductive MsixWrite where
  | vector (vector : Nat) (masked : Bool)
  | control (enable mask : Bool)
  deriving DecidableEq, Repr

/-- What the other parties on a two-wire bus do to one transaction attempt (R401 to R403): whether the address is
acknowledged, how many data bytes, whether the address of a read after a write; the bytes read; a loss of arbitration with
the detail of R403, how many samples of 10 ns the level that shows it stood (R400), and whether all bytes had been acknowledged by
then. -/
structure BusReply where
  addrAck   : Bool
  dataAcks  : Nat
  readAck   : Bool
  rx        : Bytes
  loss      : Option Nat
  lossHeld  : Nat
  lossAtEnd : Bool
  deriving DecidableEq, Repr

/-- The straps as they stand at the release of RST_POR_N, and what the boot finds in flash (R433, R435). -/
structure BootStraps where
  pairPosB   : Bool
  pcieSris   : Bool
  recovery   : Bool
  loaderGood : Bool
  deriving DecidableEq, Repr

/-- What a received Ethernet frame carries, as far as R344 and R347 judge it: TOL over UDP with its destination port, a PTP message that the device does not
use, a Pdelay_Req of a transport (as PtpTransport) and domainNumber, an ARP or NDP request, the answer to one with the MAC address it gives, an echo request, an IGMP or MLD query,
PAUSE or PFC, anything else that the table of R344 does not admit. -/
inductive EthKind where
  | tol (udpPort : Nat)
  | ptpOther
  | pdelayReq (transport number : Nat)
  | neighbour
  | neighbourReply (mac : Nat)
  | echo
  | groupQuery
  | pause
  | other
  deriving DecidableEq, Repr

/-- A received Ethernet frame: `vlan` is the VID of its tag, none where it has none; `mac` its destination; `ip` its destination
address, or the address that an ARP or NDP request asks for or that its answer names, empty where it has none. `frac` is how far into the nanosecond it came,
in 2^-16 ns (R348). -/
structure EthFrame where
  kind    : EthKind
  fcsOk   : Bool
  vlan    : Option Nat
  length  : Nat
  mac     : Nat
  ip      : Bytes
  payload : Bytes
  frac    : Nat
  deriving DecidableEq, Repr

/-- How a PTP message that the device uses is addressed: its transport (as PtpTransport), its domainNumber and the VID of its tag (R347). -/
structure PtpHead where
  transport : Nat
  number    : Nat
  vlan      : Option Nat
  deriving DecidableEq, Repr

/-- The answer that ends a delay exchange (R349): a Delay_Resp with t4, or a Pdelay_Resp with its Follow_Up and the responder's
turnaround t3 − t2, in 2^-16 ns. -/
inductive DelayReply where
  | endToEnd (t4 : Int)
  | peerToPeer (turnaround : Int)
  deriving DecidableEq, Repr

/-- What an Announce message carries (R347): the master's identity and the data set members of the default best
master clock algorithm, the smaller the better, in the order compared. -/
structure AnnounceMsg where
  port      : Nat
  head      : PtpHead
  master    : Bytes
  grandmaster : Nat
  dataset   : List Nat
  stepsRemoved : Nat
  utcOffset : Int
  arb       : Bool
  logInterval : Int
  deriving DecidableEq, Repr

/-- The sums of one column in one calibration pass (R264): M[0..8] and Q. -/
structure ColumnSums where
  m : List Int
  q : Int
  deriving DecidableEq, Repr

/-- What the two devices learn of each other when the Karylvo link comes up (R305, R317). -/
structure PartnerHello where
  publicKey  : Bytes
  proofOk    : Bool
  partCode   : Nat
  fwMajor    : Nat
  linkVersion : Nat
  role       : Nat
  hasStandby : Bool
  deriving DecidableEq, Repr

/-- One item of the mirror (R305, R313), and of the transfer of a join (R317): `value` is an object's value in force, `model`
the image of a slot, `psets` the PSETs of a running port, `bank` a table bank, as the length written to it and its bytes that are not 0, `syncLines` the end of the
transfer with the sync line of each LCG. A heartbeat carries the changes of Stalls since the last one (`news`: Stall, owner, state) and
the progress of those that are open (`stalls`: Stall, the last item handed over, its DatagramSeq). `webTime` is a correction of the
active's servo: I, F, the step with its cause (R364), EpochCount and WebTime after it, and when it came. -/
inductive MirrorItem where
  | heartbeat (role health : Nat) (lix : List Nat) (news stalls : List (Nat × Nat × Nat))
  | write (index sub offset : Nat) (data : Bytes) (atLix : Option Nat)
  | commit (csn group : Nat) (target : Option Nat)
  | abort (group csn : Nat)
  | hit (lcg lix : Nat) (pos : Int)
  | fire (port lix time : Nat)
  | pset (port issueLix switchLix result : Nat)
  | session (slot : Nat) (copy : Option Machine.SessionCopy)
  | stall (stall owner state : Nat)
  | webTime (freqInt freqApplied step : Int) (cause epoch web linkTime : Nat)
  | result (view candSeq : Nat) (bits : Nat)
  | digest (view strip : Nat) (bytes : Bytes)
  | yieldFrame (cause : Nat)
  | standbyReached (strip : Nat)
  | value (index sub : Nat) (data : Bytes)
  | model (slot : Nat) (image : Bytes)
  | psets (port : Nat) (state : Machine.PortPsets)
  | bank (port bank length : Nat) (cells : List Host.Cell)
  | syncLines (lines : List (Option Nat))
  | captured (view : Nat) (state : Machine.Captured)
  | badFrame
  deriving DecidableEq, Repr

/-- The commands and events, in the order of the spec's table. `ses` is the slot of the session that makes a TOL
operation. -/
inductive Instr where
  | hello (transport : Nat) (service : Bool) (frame : Bytes)
  | finish (transport : Nat) (frame : Bytes)
  | close (transport : Nat) (frame : Bytes)
  | handshakeTimeout (sessionId : Nat)
  | idleTimeout (slot : Nat)
  | heldRequestExpiry (slot seq : Nat)
  | read (ses index sub offset length : Nat)
  | write (ses index sub offset : Nat) (data : Bytes)
  | readShadow (ses index sub : Nat)
  | commit (ses : Nat) (data : Bytes)
  | abort (ses : Nat) (data : Bytes)
  | describe (ses index sub : Nat)
  | readDefault (ses index sub : Nat)
  | sesClose (ses slot : Nat)
  | atOnceHandoverTimeout (group : Nat)
  | encoderCount (axis : Nat) (a b : Bool)
  | standstill (axis : Nat)
  | signalLoss (axis pair : Nat) (lost : Bool) (a b z : Bool)
  | indexLatch (axis : Nat)
  | lcgHit (lcg : Nat)
  | portFire (port : Nat)
  | eyeletFire (eyelet : Nat)
  | actionPulseEnd (output : Nat)
  | lcgStart (ses lcg : Nat)
  | lcgStop (ses lcg : Nat)
  | failback (ses lcg : Nat)
  | eyeletArm (ses eyelet : Nat)
  | eyeletDisarm (ses eyelet : Nat)
  | ssiFrame (input : Nat) (highBefore lowAfter : Bool) (bits : List Bool)
  | eventInput (input : Nat) (level : Bool)
  | portEnable (ses port : Nat)
  | portDisable (ses port : Nat)
  | discoveryTimeout (port : Nat)
  | cameraConfigured (port : Nat) (accepted : Bool)
  | faultRetry (port : Nat)
  | heartbeatTimeout (port : Nat)
  | laneLock (lane : Nat)
  | laneLockLost (lane invalid : Nat)
  | streamPacket (port lane stream : Nat) (crcOk endOfLine : Bool) (samples : List Nat)
  | lineStart (port stream format : Nat)
  | windowExpiry (port : Nat)
  | lineDelivery (port : Nat)
  | triggerAcknowledge (port : Nat)
  | ackTimeout (port : Nat)
  | fallingEdgeTrigger (port : Nat)
  | triggerPulseEnd (port : Nat)
  | eventPacket (port : Nat)
  | ctlRead (ses port : Nat)
  | ctlWrite (ses port : Nat)
  | controlAcknowledge (port : Nat) (error : Bool) (data : Bytes)
  | controlTimeout (port : Nat)
  | engineLineEmit (port : Nat)
  | mpJobStart (engine : Nat)
  | mpJobEnd (engine : Nat)
  | mpJobLate (port : Nat)
  | psetArm (ses port pset : Nat)
  | psetDisarm (ses port : Nat)
  | psetPreloadDone (port : Nat)
  | tableData (ses port offset : Nat) (data : Bytes)
  | tableSeal (ses port : Nat)
  | ffFlat (ses port : Nat)
  | ffDark (ses port : Nat)
  | acquisitionTimeout (port : Nat)
  | correctedLineArrival (port : Nat)
  | stitchedLine (view : Nat)
  | stitchDeadline (view : Nat)
  | viewEnable (ses view : Nat)
  | viewDisable (ses view : Nat)
  | segmentLine (view : Nat)
  | segEnable (ses view : Nat)
  | segDisable (ses view : Nat)
  | bgReset (ses view : Nat)
  | patchCut (view : Nat)
  | classifierRequest (view : Nat)
  | mvpComplete (array : Nat) (err : List Int) (errEven errOdd : Int)
  | shedTimeout (view candSeq : Nat)
  | resultLeave (view : Nat)
  | retire (ses array : Nat)
  | spareProgrammed (array : Nat)
  | modelLoad (ses slot : Nat)
  | modelLoadComplete (slot : Nat)
  | modelUnload (ses slot : Nat)
  | recordRelease
  | lvFlush (channel : Nat)
  | lvEnable (ses channel : Nat)
  | stallClaim (ses stall : Nat)
  | stallOpen (ses stall : Nat)
  | stallClose (ses stall : Nat)
  | patchFetch (ses stall value : Nat)
  | creditLimit (ses stall value : Nat)
  | stallFlush (stall : Nat)
  | datagramSend (transport : Nat)
  | launch (port : Nat)
  | calStart (ses array : Nat)
  | calInterval (array : Nat)
  | temperatureChange (tenths : Int)
  | arrayCalibrationStart
  | arrayCalibrationComplete (passes : List (List ColumnSums))
  | rampStep
  | referenceCheck (bg0 bg1 reference : Int)
  | calRecordLoad (ses : Nat)
  | correctedError (buffer unit row : Nat)
  | rowReplacement (buffer unit row : Nat)
  | uncorrectableError (buffer unit item : Nat)
  | residueError (block unit : Nat)
  | parityError (block unit : Nat) (both : Bool)
  | replacementAcceptsInput (engine : Nat)
  | engineRetire (ses engine : Nat)
  | deadlineFault (view monitor : Nat)
  | pairEnable (ses : Nat)
  | pairDisable (ses : Nat)
  | karylvoLinkUp (partner : PartnerHello)
  | heartbeatSend
  | mirrorFrame (item : MirrorItem)
  | seekActivate
  | peerResample (peerHigh : Bool)
  | pairSwitch (ses : Nat)
  | pairYield
  | pairPeerFall
  | hbTimeout
  | linkJudgedDown
  | gapRefire
  | publishingResume
  | digestVerdict (view strip : Nat)
  | joinRetry (partner : PartnerHello)
  | capturedStateInstall (view : Nat) (state : Machine.Captured)
  | refreshDebt (pc bank : Nat)
  | commandSlot (pc : Nat)
  | pageIdle (pc bank : Nat)
  | trainingComplete (stack : Nat) (margins : List (Nat × Nat))
  | retrain (pc : Nat)
  | retrainStep (pc marginH marginV : Nat)
  | patrolScrub (pc : Nat)
  | hbmEccError (pc offset : Nat) (corrected : Bool)
  | pcFence (ses pc : Nat)
  | ethernetFrame (port : Nat) (frame : EthFrame)
  | linkUpDown (port : Nat) (up : Bool)
  | sync (port : Nat) (head : PtpHead) (frac : Nat) (master : Bytes) (t1 correction logInterval : Int)
  | delayResp (port : Nat) (head : PtpHead) (frac : Nat) (master : Bytes) (reply : DelayReply) (correction : Int)
  | announce (msg : AnnounceMsg)
  | delayReq (domain port : Nat)
  | domainLost (domain : Nat)
  | holdover
  | holdoverLimit
  | timeStep (ses : Nat) (ns : Int)
  | selectedDomain (ses domain : Nat)
  | gratuitousArp (port : Nat)
  | chanStart (ses channel : Nat)
  | chanKick (ses channel : Nat)
  | chanAbort (ses channel : Nat)
  | chanIrqAck (ses channel bits : Nat)
  | eocAck (ses channel : Nat)
  | descriptorFetch (channel : Nat) (hostOk : Bool) (hostData : Bytes)
  | burst (channel : Nat) (hostOk : Bool) (hostData : Bytes) (eccBad : Bool)
  | descriptorEnd (channel : Nat) (writeBackOk : Bool)
  | paceEvent (channel : Nat)
  | paceTimerTick (channel : Nat)
  | compressBlock (channel : Nat) (hostData : Bytes)
  | decompressBlock (channel : Nat) (hostData : Bytes)
  | powerDrainTimeout (domain : Nat)
  | mbxH2dLength (length : Nat) (frame : Bytes)
  | mbxD2hAck
  | ringCtl (ring register : Nat) (write : RegWrite)
  | ringHead (ring value : Nat)
  | msixUnmask (write : MsixWrite)
  | bar2Access (address : Nat) (write : Bool) (data : Bytes) (tlp : BarTlp)
  | bar0BadAccess (address : Nat) (access : BarAccess)
  | functionLevelReset
  | pciePerst (low : Bool)
  | twcWrite (ses controller : Nat) (bus : Option BusReply)
  | twcRead (ses controller : Nat) (bus : Option BusReply)
  | twcWriteRead (ses controller : Nat) (bus : Option BusReply)
  | busFree (controller : Nat) (bus : BusReply)
  | busClear (controller : Nat) (pulses : Nat) (bus : BusReply)
  | sclTimeout (controller : Nat)
  | twtAddress (address : Nat) (read : Bool) (count : Nat)
  | twtCommit (bytes : Bytes) (brokenByte : Option Nat)
  | twtTimeout (bytes : Nat)
  | fwData (ses offset : Nat) (data : Bytes)
  | fwVerify (ses : Nat)
  | fwActivate (ses : Nat)
  | fwConfirm (ses : Nat)
  | trialTimeout
  | fwRevert (ses : Nat)
  | settingsSave (ses : Nat)
  | attestNonce (ses : Nat) (nonce : Bytes)
  | powerOnReset (straps : BootStraps)
  | inspectionReady
  | hubRestart
  | watchdog
  | brownout (rail : Nat)
  | referenceClockLost (clock : Nat)
  | holdupOk (high : Bool)
  | thermalTrip (sensor : Nat) (tenths : Int)
  | domPowerOn (ses domain : Nat)
  | domPowerOff (ses domain : Nat)
  | domainPowerUpComplete (domain : Nat)
  | drainEnd (domain : Nat)
  | drainLimit (domain : Nat)
  | request (transport : Nat) (frame : Bytes)
  | masterConnectionAnswers (port : Nat) (speeds : List Nat) (connections : Nat)
  | karylvoLinkLost
  | pcieLinkUpDown (speed width : Nat)
  | aerUncorrectableError
  | refreshRateChange (stack : Nat) (tenths : Int)
  | supplyReturn (rail : Nat)
  | referenceClockReturn
  | thermalCooldown
  | rstPorNLow
  deriving DecidableEq, Repr

end Sys2Proof
end

