-- ==== Sys2Proof/Config.lean ====
section
/-! DEFINITION. What the spec leaves to published standards or to the implementation: constants without a body,
so that no proof can rest on a value of them. -/

namespace Sys2Proof.Config

/-- The first `n` bytes of a byte function, zero where it gives fewer: the length of what a standard gives is known, its bytes
are free. -/
def firstBytes (n : Nat) (bs : Bytes) : Bytes := (List.range n).map (fun i => bs.getD i 0)

opaque kmacBytes : Bytes → Bytes → String → Nat → Bytes

/-- KMAC256 (published standard): key, message, customisation, output bits. R38, R46, R253. -/
def kmac256 (key msg : Bytes) (custom : String) (bits : Nat) : Bytes := firstBytes (bits / 8) (kmacBytes key msg custom bits)

opaque shakeBytes : Bytes → Nat → Bytes

/-- SHAKE256 truncated to a number of bytes (published standard). R314, R412, R413, R427. -/
def shake256 (msg : Bytes) (n : Nat) : Bytes := firstBytes n (shakeBytes msg n)

/-- ML-DSA-65 verification (published standard): public key, message, signature. R46, R305, R413. -/
opaque mlDsaVerify : Bytes → Bytes → Bytes → Bool

opaque identitySignBytes : Bytes → String → Bytes

/-- An ML-DSA-65 signature made with the device identity key over a message with a context string. R46, R427. -/
def identitySign (msg : Bytes) (context : String) : Bytes := firstBytes 3309 (identitySignBytes msg context)

opaque mlKemCiphertextBytes : Bytes → Nat → Bytes

/-- ML-KEM-768 encapsulation (published standard): encapsulation key and the draw number; ciphertext. R46. -/
def mlKemCiphertext (key : Bytes) (n : Nat) : Bytes := firstBytes 1088 (mlKemCiphertextBytes key n)

opaque mlKemSecretBytes : Bytes → Nat → Bytes

/-- ML-KEM-768 encapsulation: the shared secret of the same draw. R46. -/
def mlKemSecret (key : Bytes) (n : Nat) : Bytes := firstBytes 32 (mlKemSecretBytes key n)

opaque deviceNonceBytes : Nat → Bytes

/-- The 32-byte device nonce of draw `n` (R46): random, so free. -/
def deviceNonce (n : Nat) : Bytes := firstBytes 32 (deviceNonceBytes n)

/-- The draw from which a SessionId is taken (R46: the device chooses any free non-zero value). -/
opaque sessionDraw : Nat → Nat

/-- The public key of the Vendor root that a key identifier names, if any (R47, R60). -/
opaque vendorKey : Nat → Option Bytes

/-- The Quarevor firmware key that a key identifier names, if any (R413). -/
opaque firmwareKey : Nat → Option Bytes

opaque identityKeyBytes : Bytes
opaque identityCertBytes : Bytes

/-- The device identity public key, 1,952 bytes, the certificate, at most 8,192 bytes, and the serial number (R428). -/
def identityKey : Bytes := firstBytes 1952 identityKeyBytes
def identityCert : Bytes := identityCertBytes.take 8192
opaque deviceSerial : Nat

/-- The MAC address of a network port, from the device identity (R361). -/
opaque portMac : Nat → Nat

/-- Spare rows a SRAM buffer has as shipped, by buffer code and unit (R284: the number is not stated). -/
opaque spareRowsShipped : Nat → Nat → Nat

/-- What a fault in an engine does to the check word of a line in an audit (R287, R288): engine, port, LIX. Zero is
no fault. Free: the spec gives no rate or pattern of faults. -/
opaque auditFault : Nat → Nat → Nat → Nat

/-- The eye margin of a lane as measured at a time (R118): lane, 0 horizontal or 1 vertical, time. -/
opaque eyeMargin : Nat → Nat → Nat → Nat

/-- The equaliser code that adaptive equalisation finds for a lane (R101, R118): lane, time. -/
opaque eqAdapted : Nat → Nat → Nat

/-- The initial ladder trims of an array (array, level index 0 to 7) and the initial RefTrim, as the factory area of the
calibration store holds them (R273: its layout and values are not stated). -/
opaque factoryLadder : Nat → Nat → Int
opaque factoryRefTrim : Nat

/-- Whether a write to the calibration store fails, and the bytes that a failed write leaves (R276): address, Sequence, time, first
or second write. Free: the spec gives no rate of faults. -/
opaque mramFails : Nat → Nat → Nat → Nat → Bool
opaque mramSpoiled : Nat → Nat → Nat → Nat → Bytes

/-- A write of the flash (R411): whether it fails, by place, moment and try, and what it then leaves; how long a long one takes, in
ns, and how many pages of it are done where it is cut off, by place and moment. Free: the spec gives no figures of the flash. -/
opaque flashFails : Nat → Nat → Nat → Bool
opaque flashSpoiled : Nat → Nat → Nat → Bytes
opaque flashNs : Nat → Nat → Nat
opaque flashPages : Nat → Nat → Nat

/-- How long a trigger packet takes on the low-speed upconnection, in ns, by LinkSpeed (CoaXPress; R114, R311). -/
opaque triggerPacketNs : Nat → Nat

/-- Values the spec leaves open, drawn in turn: draw number to number. -/
opaque freeNat : Nat → Nat

/-- Whether a 256-byte block of HBM, or (from 2^40 on) a pseudo-channel, holds a part of a line, band or pixel: block,
unit, line or band, pixel. Zero is no. R335: where slots, hold slots and histories lie in their regions is not stated. -/
opaque hbmHolds : Nat → Nat → Nat → Nat → Nat

/-- Where an object lies in its region of HBM, in 64-byte blocks: region, kind of object, unit, number. The spec leaves the
layout within the regions open (log entry 18). -/
opaque hbmPlace : Nat → Nat → Nat → Nat → Nat

/-- Where the controller puts a block of a second copy (R333): a pseudo-channel of the other stack, by its place in the list of
those, and the 256-byte block there. The spec leaves both open (log entry 18). -/
opaque copyPc : Nat → Nat
opaque copyBlock : Nat → Nat

/-- Of which block of a region's first copies a block of the second ones is the copy (R333). -/
opaque copyOf : Nat → Nat

/-- The credits of 4 KiB that an engine gives an in-line port (R110): the spec states no number. -/
opaque engineCredits : Nat → Nat

/-- What a DMA read finds in a byte of HBM that holds lines, bands or mirrored state (R366): address, time. The spec leaves their layout
open (log entry 18). -/
opaque hbmShows : Nat → Nat → Nat

/-- What a read finds in a byte of BAR0 that the map holds and no readable register (R392): offset. -/
opaque bar0Free : Nat → Nat

/-- How many MVPs an array has under way when it retires (R223): array, time. Free: the spec leaves the dispatch open
(log entry 67). -/
opaque mvpsUnderWay : Nat → Nat → Nat

opaque shippedImageBytes : Nat → Bytes

/-- The images that the device is shipped with: 0 running image, 1 loader (R411; their contents are not in the spec), of the size
that R413 and the area leave. -/
def shippedImage (kind : Nat) : Bytes := (shippedImageBytes kind).take (if kind = 0 then 16777216 else 1048576)

/-- The value of a Saved object that an older settings schema is converted to (R426): schema, key, bytes. -/
opaque convertSetting : Nat → Nat → Bytes → Bytes

/-- The version of the Karylvo link protocol that the firmware speaks (R317; the number is not stated). -/
opaque linkVersion : Nat

end Sys2Proof.Config
end

