-- ==== Sys2Proof/Machine/DictTypes.lean ====
section
/-! DEFINITION. The vocabulary of the object dictionary: types (R29), access modes (R30), apply classes (R31),
persistence (R32), result codes (R59), and the rows and blocks of the object tables. -/

namespace Sys2Proof.Machine

/-- The result codes of R59. -/
inductive RCode where
  | ok | noObject | noSub | access | type | range | state | locked | busy | late | commitFull | notPaired | integrity
  deriving DecidableEq, Repr

/-- The 16-bit value of a result code (R59). -/
def RCode.toNat : RCode → Nat
  | .ok => 0 | .noObject => 1 | .noSub => 2 | .access => 3 | .type => 4 | .range => 5 | .state => 6
  | .locked => 7 | .busy => 8 | .late => 9 | .commitFull => 10 | .notPaired => 11 | .integrity => 12

/-- An object's value: a number (the floating types as their 32 bits, a WTIME as its 80 bits) or a byte string. -/
inductive Val where
  | n (v : Int)
  | b (bytes : Bytes)
  deriving DecidableEq, Repr

/-- The object types of R29. -/
inductive Ty where
  | bool | u8 | u16 | u32 | u64 | i8 | i16 | i32 | i64 | f32 | lix64 | wtime | cdu32 | str | blob
  deriving DecidableEq, Repr

/-- The access modes of R30. -/
inductive Access where
  | ro | rw | wo | rwc
  deriving DecidableEq, Repr

/-- The apply classes of R31; `none` for read-only objects. -/
inductive Apply where
  | none | live | staged | halted
  deriving DecidableEq, Repr

/-- The persistence flags of R32. -/
inductive Persist where
  | volatile | saved | calibration
  deriving DecidableEq, Repr

/-- The range an object's own table row states (R456, item 6). -/
inductive Chk where
  | any
  | range (lo hi : Int)
  | oneOf (l : List Int)
  | rangeOr (lo hi : Int) (l : List Int)
  | steps (lo hi k : Int)
  | lens (l : List Nat)
  | maxLen (n : Nat)
  | nonZero
  | mask (bits : Nat)
  deriving DecidableEq, Repr

/-- How the commit group of a block's unit is found (R48 ff., and the opening text of each chapter). -/
inductive GroupKind where
  | unclocked | lcg | port | lane | view | zone | welt
  deriving DecidableEq, Repr

/-- Which block owns the HALTED objects of a dictionary block (R31 and each chapter). -/
inductive HaltKind where
  | never | axis | ssi | lcg | trig | port | lane | pset | view | seg | stall | live | pdCls | memory | allNet
  | net | domain | udp | dma | pcie | twc | twt
  deriving DecidableEq, Repr

/-- One row of an object table. `dflt` takes the unit's number. -/
structure ObjRow where
  sub    : Nat
  ty     : Ty
  acc    : Access
  app    : Apply
  dflt   : Nat → Val
  chk    : Chk
  pers   : Persist
  wl     : Nat
  maxLen : Nat

/-- One block of the index map: a base index and its units. -/
structure ObjBlock where
  base    : Nat
  units   : Nat
  units12 : Nat
  group   : GroupKind
  halt    : HaltKind
  rows    : List ObjRow

/-! Default values that a table row states in words. -/

/-- `Matrix` of R139: the identity, 4.12 coefficients 0x1000 on the diagonal. -/
def identityMatrix : Bytes :=
  (List.range 16).flatMap (fun k => if k / 4 = k % 4 then [0x00, 0x10] else [0x00, 0x00])

/-- `LvPalette` of R257: the grey ramp, R = G = B = index. -/
def greyRamp : Bytes :=
  (List.range 256).flatMap (fun k => List.replicate 3 (BitVec.ofNat 8 k))

/-- `MatchGain` and `MatchTarget` (R165, R174): 0x0001_0000 for every port and plane. -/
def unityGains : Bytes :=
  (List.range 48).flatMap (fun _ => [0x00, 0x00, 0x01, 0x00])

/-- The column map as shipped (R268, R275): logical column c on physical column c. -/
def identityColumnMap : Bytes :=
  (List.range 512).flatMap (fun c => [BitVec.ofNat 8 c, BitVec.ofNat 8 (c / 256)])

/-- Nominal column entries (R260, R275): G 0x1000, Off 0, Fit set, InUse for the mapped and checksum columns. -/
def nominalTrims : Bytes :=
  (List.range 546).flatMap (fun c =>
    [if c < 512 ∨ 544 ≤ c then 0x0A else 0x08, 0x00, 0x00, 0x10])

/-- Default region sizes in MiB (R331). -/
def regionDefaultMiB (r : Nat) : Int :=
  [4096, 22528, 4096, 4096, 8192, 256, 2816].getD r 0

/-- Default latency targets in ns (R327). -/
def latTargetDefault (i : Nat) : Int :=
  [4000, 4000, 4000, 2000, 4000, 2000, 20000, 20000, 50000, 50000, 20000, 1000000].getD i 0

/-- Default class of a pseudo-channel (R323): 0 real-time, 1 bulk. -/
def pcClassDefault (n : Nat) : Int :=
  if n < 24 ∨ (32 ≤ n ∧ n < 56) then 0 else 1

end Sys2Proof.Machine
end

