-- ==== Sys2Proof/Machine/Dict1.lean ====
section
/-! DEFINITION. The object dictionary of the RB9224 (R3, R61 and the object tables of every chapter): part 1.
One row per object row of the spec's tables: subindex, type (R29), access (R30), apply class (R31), default (of
unit `u`), the range the row itself states, persistence (R32), write level (R33, R34), size or maximum length. -/

namespace Sys2Proof.Machine

/-- Objects at 0x1000 (R3; 00_scope.md). -/
def blk1000 : List ObjRow :=
[⟨0x01, .u16, .ro, .none, fun _ => .n 37412, .any, .volatile, 2, 2⟩,
   ⟨0x02, .u8, .ro, .none, fun _ => .n 161, .any, .volatile, 2, 1⟩,
   ⟨0x03, .u8, .ro, .none, fun _ => .n 24, .any, .volatile, 2, 1⟩,
   ⟨0x04, .u8, .ro, .none, fun _ => .n 192, .any, .volatile, 2, 1⟩,
   ⟨0x05, .u64, .ro, .none, fun _ => .n 0, .any, .volatile, 2, 8⟩,
   ⟨0x06, .blob, .ro, .none, fun _ => .b [], .any, .volatile, 2, 1952⟩,
   ⟨0x07, .blob, .ro, .none, fun _ => .b [], .any, .volatile, 2, 8192⟩,
   ⟨0x08, .blob, .wo, .live, fun _ => .b [], .lens [32], .volatile, 2, 32⟩,
   ⟨0x09, .blob, .ro, .none, fun _ => .b [], .any, .volatile, 2, 3437⟩]

/-- Objects at 0x5400 (R60; 02_object_dictionary.md). -/
def blk5400 : List ObjRow :=
[⟨0x01, .u16, .rw, .halted, fun _ => .n 40870, .range (1) 65535, .saved, 2, 2⟩,
   ⟨0x02, .u8, .ro, .none, fun _ => .n 0, .any, .volatile, 2, 1⟩,
   ⟨0x03, .u8, .ro, .none, fun _ => .n 32, .any, .volatile, 2, 1⟩,
   ⟨0x04, .u16, .rw, .live, fun _ => .n 10000, .range (1000) 60000, .saved, 2, 2⟩,
   ⟨0x05, .bool, .rw, .live, fun _ => .n 0, .any, .saved, 3, 1⟩,
   ⟨0x06, .bool, .rw, .live, fun _ => .n 0, .any, .volatile, 3, 1⟩,
   ⟨0x07, .u32, .ro, .none, fun _ => .n 0, .any, .volatile, 2, 4⟩,
   ⟨0x08, .u32, .ro, .none, fun _ => .n 0, .any, .volatile, 2, 4⟩]

/-- Objects at 0x5410+g (R60; 02_object_dictionary.md). -/
def blk5410g : List ObjRow :=
[⟨0x01, .u32, .ro, .none, fun _ => .n 0, .any, .volatile, 2, 4⟩,
   ⟨0x02, .lix64, .ro, .none, fun _ => .n 0, .any, .volatile, 2, 8⟩,
   ⟨0x03, .u8, .ro, .none, fun _ => .n 0, .any, .volatile, 2, 1⟩,
   ⟨0x04, .u16, .ro, .none, fun _ => .n 0, .any, .volatile, 2, 2⟩]

/-- Objects at 0x5420+c (R60; 02_object_dictionary.md). -/
def blk5420c : List ObjRow :=
[⟨0x01, .u8, .rw, .live, fun _ => .n 0, .range (0) 3, .saved, 3, 1⟩,
   ⟨0x02, .u64, .rw, .live, fun _ => .n 0, .any, .saved, 3, 8⟩,
   ⟨0x03, .blob, .rw, .live, fun _ => .b [], .maxLen 1952, .saved, 3, 1952⟩,
   ⟨0x04, .bool, .rw, .live, fun _ => .n 0, .any, .saved, 3, 1⟩]

/-- Objects at 0x5440+i (R60; 02_object_dictionary.md). -/
def blk5440i : List ObjRow :=
[⟨0x01, .u32, .ro, .none, fun _ => .n 0, .any, .volatile, 2, 4⟩,
   ⟨0x02, .u8, .ro, .none, fun _ => .n 0, .any, .volatile, 2, 1⟩,
   ⟨0x03, .u8, .ro, .none, fun _ => .n 0, .any, .volatile, 2, 1⟩,
   ⟨0x04, .u32, .ro, .none, fun _ => .n 0, .any, .volatile, 2, 4⟩,
   ⟨0x05, .bool, .wo, .live, fun _ => .n 0, .any, .volatile, 3, 1⟩]

/-- Objects at 0x2000+a (R70; 03_web_position.md). -/
def blk2000a : List ObjRow :=
[⟨0x01, .bool, .rw, .live, fun _ => .n 0, .any, .saved, 2, 1⟩,
   ⟨0x02, .u8, .rw, .halted, fun _ => .n 4, .range (1) 255, .saved, 2, 1⟩,
   ⟨0x03, .bool, .rw, .halted, fun _ => .n 0, .any, .saved, 2, 1⟩,
   ⟨0x04, .i32, .ro, .none, fun _ => .n 0, .any, .volatile, 2, 4⟩,
   ⟨0x05, .i32, .ro, .none, fun _ => .n 0, .any, .volatile, 2, 4⟩,
   ⟨0x06, .i64, .ro, .none, fun _ => .n 0, .any, .volatile, 2, 8⟩,
   ⟨0x07, .i64, .ro, .none, fun _ => .n 0, .any, .volatile, 2, 8⟩,
   ⟨0x08, .u8, .ro, .none, fun _ => .n 0, .any, .volatile, 2, 1⟩,
   ⟨0x09, .f32, .ro, .none, fun _ => .n 0, .any, .volatile, 2, 4⟩,
   ⟨0x0a, .bool, .ro, .none, fun _ => .n 0, .any, .volatile, 2, 1⟩,
   ⟨0x0b, .bool, .ro, .none, fun _ => .n 1, .any, .volatile, 2, 1⟩,
   ⟨0x0c, .u8, .rw, .live, fun _ => .n 1, .oneOf [1, 2, 4, 8, 16, 32, 64], .saved, 2, 1⟩]
  ++ [⟨0x0d, .u16, .rw, .live, fun _ => .n 100, .range (1) 10000, .saved, 2, 2⟩,
   ⟨0x0e, .u32, .ro, .none, fun _ => .n 0, .any, .volatile, 2, 4⟩,
   ⟨0x0f, .u8, .ro, .none, fun _ => .n 0, .any, .volatile, 2, 1⟩,
   ⟨0x10, .u32, .rw, .live, fun _ => .n 10000000, .range (1) 4294967295, .saved, 2, 4⟩,
   ⟨0x11, .i64, .ro, .none, fun _ => .n 0, .any, .volatile, 2, 8⟩]

/-- Objects at 0x2008+s (R72; 03_web_position.md). -/
def blk2008s : List ObjRow :=
[⟨0x01, .bool, .rw, .live, fun _ => .n 0, .any, .saved, 2, 1⟩,
   ⟨0x02, .u8, .rw, .halted, fun _ => .n 25, .range (8) 32, .saved, 2, 1⟩,
   ⟨0x03, .u8, .rw, .halted, fun _ => .n 1, .range (0) 1, .saved, 2, 1⟩,
   ⟨0x04, .u8, .rw, .halted, fun _ => .n 0, .range (0) 2, .saved, 2, 1⟩,
   ⟨0x05, .u32, .rw, .halted, fun _ => .n 1000000, .range (100000) 2000000, .saved, 2, 4⟩,
   ⟨0x06, .u16, .rw, .halted, fun _ => .n 100, .range (40) 10000, .saved, 2, 2⟩,
   ⟨0x07, .u32, .ro, .none, fun _ => .n 0, .any, .volatile, 2, 4⟩,
   ⟨0x08, .u32, .ro, .none, fun _ => .n 0, .any, .volatile, 2, 4⟩,
   ⟨0x09, .bool, .ro, .none, fun _ => .n 0, .any, .volatile, 2, 1⟩]

/-- Objects at 0x2100+g (R83; 03_web_position.md). -/
def blk2100g : List ObjRow :=
[⟨0x01, .bool, .rw, .live, fun _ => .n 0, .any, .volatile, 2, 1⟩,
   ⟨0x02, .u8, .rw, .halted, fun u => .n u, .range (0) 3, .saved, 2, 1⟩,
   ⟨0x03, .u8, .rw, .halted, fun _ => .n 255, .rangeOr (0) 5 [255], .saved, 2, 1⟩,
   ⟨0x04, .i32, .rw, .halted, fun _ => .n 65536, .nonZero, .saved, 2, 4⟩,
   ⟨0x05, .u32, .rwc, .staged, fun _ => .n 262144, .range (65536) 4294967295, .saved, 2, 4⟩,
   ⟨0x06, .lix64, .rw, .halted, fun _ => .n 0, .any, .volatile, 2, 8⟩,
   ⟨0x07, .lix64, .ro, .none, fun _ => .n 0, .any, .volatile, 2, 8⟩,
   ⟨0x08, .i64, .ro, .none, fun _ => .n 0, .any, .volatile, 2, 8⟩,
   ⟨0x09, .i64, .ro, .none, fun _ => .n 0, .any, .volatile, 2, 8⟩,
   ⟨0x0a, .i64, .ro, .none, fun _ => .n 0, .any, .volatile, 2, 8⟩,
   ⟨0x0b, .u8, .ro, .none, fun u => .n u, .any, .volatile, 2, 1⟩,
   ⟨0x0c, .bool, .rw, .live, fun _ => .n 1, .any, .saved, 2, 1⟩]
  ++ [⟨0x0d, .u32, .rw, .live, fun _ => .n 131072, .range (32768) 16777216, .saved, 2, 4⟩,
   ⟨0x0e, .u32, .rw, .live, fun _ => .n 4096, .range (256) 16777216, .saved, 2, 4⟩,
   ⟨0x0f, .u32, .rw, .live, fun _ => .n 262144, .any, .saved, 2, 4⟩,
   ⟨0x10, .u32, .ro, .none, fun _ => .n 0, .any, .volatile, 2, 4⟩,
   ⟨0x11, .u32, .ro, .none, fun _ => .n 0, .any, .volatile, 2, 4⟩,
   ⟨0x12, .bool, .wo, .live, fun _ => .n 0, .any, .volatile, 2, 1⟩,
   ⟨0x13, .u16, .rw, .live, fun _ => .n 100, .range (10) 10000, .saved, 2, 2⟩,
   ⟨0x14, .u32, .ro, .none, fun _ => .n 0, .any, .volatile, 2, 4⟩,
   ⟨0x15, .lix64, .ro, .none, fun _ => .n 0, .any, .volatile, 2, 8⟩,
   ⟨0x16, .lix64, .ro, .none, fun _ => .n 0, .any, .volatile, 2, 8⟩,
   ⟨0x17, .f32, .ro, .none, fun _ => .n 0, .any, .volatile, 2, 4⟩]

/-- Objects at 0x2140+p (R87; 03_web_position.md). -/
def blk2140p : List ObjRow :=
[⟨0x01, .u8, .rw, .halted, fun _ => .n 255, .rangeOr (0) 3 [255], .saved, 2, 1⟩,
   ⟨0x02, .u64, .rwc, .staged, fun _ => .n 0, .range (0) 281474976710655, .saved, 2, 8⟩,
   ⟨0x03, .lix64, .ro, .none, fun _ => .n 0, .any, .volatile, 2, 8⟩,
   ⟨0x04, .u32, .ro, .none, fun _ => .n 0, .any, .volatile, 2, 4⟩,
   ⟨0x05, .u32, .ro, .none, fun _ => .n 0, .any, .volatile, 2, 4⟩]

/-- Objects at 0x2200+k (R91; 03_web_position.md). -/
def blk2200k : List ObjRow :=
[⟨0x01, .u8, .rw, .live, fun _ => .n 0, .range (0) 3, .volatile, 2, 1⟩,
   ⟨0x02, .lix64, .rw, .live, fun _ => .n 0, .any, .volatile, 2, 8⟩,
   ⟨0x03, .u16, .rw, .live, fun _ => .n 0, .any, .volatile, 2, 2⟩,
   ⟨0x04, .u8, .rw, .live, fun _ => .n 0, .range (0) 4, .volatile, 2, 1⟩,
   ⟨0x05, .u8, .rw, .live, fun _ => .n 0, .range (0) 15, .volatile, 2, 1⟩,
   ⟨0x06, .u32, .rw, .live, fun _ => .n 100, .range (1) 400000000, .volatile, 2, 4⟩,
   ⟨0x07, .u32, .rw, .live, fun _ => .n 0, .any, .volatile, 2, 4⟩,
   ⟨0x08, .bool, .rw, .live, fun _ => .n 0, .any, .volatile, 2, 1⟩,
   ⟨0x09, .u8, .ro, .none, fun _ => .n 0, .any, .volatile, 2, 1⟩,
   ⟨0x0a, .lix64, .ro, .none, fun _ => .n 0, .any, .volatile, 2, 8⟩,
   ⟨0x0b, .wtime, .ro, .none, fun _ => .n 0, .any, .volatile, 2, 10⟩,
   ⟨0x0c, .u32, .ro, .none, fun _ => .n 0, .any, .volatile, 2, 4⟩]

/-- Objects at 0x2300 (R91; 03_web_position.md). -/
def blk2300 : List ObjRow :=
[⟨0x01, .u16, .rw, .live, fun _ => .n 0, .any, .volatile, 2, 2⟩,
   ⟨0x02, .u32, .ro, .none, fun _ => .n 0, .any, .volatile, 2, 4⟩,
   ⟨0x03, .u32, .ro, .none, fun _ => .n 0, .any, .volatile, 2, 4⟩,
   ⟨0x04, .u32, .ro, .none, fun _ => .n 0, .any, .volatile, 2, 4⟩]

/-- Objects at 0x2010+i (R93; 03_web_position.md). -/
def blk2010i : List ObjRow :=
[⟨0x01, .bool, .rw, .live, fun _ => .n 0, .any, .saved, 2, 1⟩,
   ⟨0x02, .u8, .rw, .live, fun _ => .n 0, .range (0) 2, .saved, 2, 1⟩,
   ⟨0x03, .u16, .rw, .live, fun _ => .n 1000, .range (0) 10000, .saved, 2, 2⟩,
   ⟨0x04, .u8, .rw, .live, fun _ => .n 0, .range (0) 3, .saved, 2, 1⟩,
   ⟨0x05, .u16, .rw, .live, fun _ => .n 65535, .rangeOr (0) 255 [65535], .saved, 2, 2⟩,
   ⟨0x06, .u32, .rw, .live, fun _ => .n 0, .any, .saved, 2, 4⟩,
   ⟨0x07, .u32, .ro, .none, fun _ => .n 0, .any, .volatile, 2, 4⟩,
   ⟨0x08, .lix64, .ro, .none, fun _ => .n 0, .any, .volatile, 2, 8⟩,
   ⟨0x09, .u16, .ro, .none, fun _ => .n 0, .any, .volatile, 2, 2⟩,
   ⟨0x0a, .wtime, .ro, .none, fun _ => .n 0, .any, .volatile, 2, 10⟩,
   ⟨0x0b, .u32, .ro, .none, fun _ => .n 0, .any, .volatile, 2, 4⟩]

/-- Objects at 0x2400+p (R117; 04_camera_ingress.md). -/
def blk2400p : List ObjRow :=
[⟨0x01, .bool, .rw, .live, fun _ => .n 0, .any, .volatile, 2, 1⟩,
   ⟨0x02, .u8, .ro, .none, fun _ => .n 0, .any, .volatile, 2, 1⟩,
   ⟨0x03, .u8, .rw, .halted, fun _ => .n 1, .range (1) 8, .saved, 2, 1⟩,
   ⟨0x04, .u8, .rw, .halted, fun _ => .n 0, .oneOf [0, 1, 2, 3, 5, 6, 10, 12], .saved, 2, 1⟩,
   ⟨0x05, .u8, .ro, .none, fun _ => .n 0, .any, .volatile, 2, 1⟩,
   ⟨0x06, .u8, .rw, .halted, fun _ => .n 1, .oneOf [1, 2, 3, 4, 5, 6, 7, 16, 17, 18, 19, 20, 21, 22, 23, 24, 25, 26, 27, 32], .saved, 2, 1⟩,
   ⟨0x07, .u8, .rw, .halted, fun _ => .n 1, .range (1) 4, .saved, 2, 1⟩,
   ⟨0x08, .u16, .rw, .halted, fun _ => .n 16384, .steps 8 32768 8, .saved, 2, 2⟩,
   ⟨0x09, .u32, .rw, .halted, fun _ => .n 100000, .range (1) 1000000, .saved, 2, 4⟩,
   ⟨0x0a, .u32, .rwc, .staged, fun _ => .n 0, .range (0) 10000000, .saved, 2, 4⟩,
   ⟨0x0b, .u32, .rwc, .staged, fun _ => .n 5000, .range (1) 10000000, .saved, 2, 4⟩,
   ⟨0x0c, .u8, .rw, .halted, fun _ => .n 1, .range (0) 3, .saved, 2, 1⟩]
  ++ [⟨0x0d, .u32, .rw, .halted, fun _ => .n 100, .range (1) 100000000, .saved, 2, 4⟩,
   ⟨0x0e, .bool, .rw, .halted, fun _ => .n 0, .any, .saved, 2, 1⟩,
   ⟨0x0f, .u16, .rw, .live, fun _ => .n 100, .range (10) 10000, .saved, 2, 2⟩,
   ⟨0x10, .u16, .rw, .live, fun _ => .n 1000, .range (10) 60000, .saved, 2, 2⟩,
   ⟨0x11, .u8, .ro, .none, fun _ => .n 0, .any, .volatile, 2, 1⟩,
   ⟨0x12, .u64, .ro, .none, fun _ => .n 0, .any, .volatile, 2, 8⟩,
   ⟨0x13, .u64, .ro, .none, fun _ => .n 0, .any, .volatile, 2, 8⟩,
   ⟨0x14, .u64, .ro, .none, fun _ => .n 0, .any, .volatile, 2, 8⟩,
   ⟨0x15, .u16, .ro, .none, fun _ => .n 0, .any, .volatile, 2, 2⟩,
   ⟨0x16, .u32, .ro, .none, fun _ => .n 0, .any, .volatile, 2, 4⟩,
   ⟨0x17, .u32, .ro, .none, fun _ => .n 0, .any, .volatile, 2, 4⟩,
   ⟨0x18, .u32, .ro, .none, fun _ => .n 0, .any, .volatile, 2, 4⟩]
  ++ [⟨0x19, .u32, .ro, .none, fun _ => .n 0, .any, .volatile, 2, 4⟩,
   ⟨0x1a, .u32, .ro, .none, fun _ => .n 0, .any, .volatile, 2, 4⟩,
   ⟨0x1b, .u32, .ro, .none, fun _ => .n 0, .any, .volatile, 2, 4⟩,
   ⟨0x1c, .u32, .ro, .none, fun _ => .n 0, .any, .volatile, 2, 4⟩,
   ⟨0x1d, .blob, .ro, .none, fun _ => .b (List.replicate 16 0), .any, .volatile, 2, 16⟩,
   ⟨0x20, .u32, .rw, .live, fun _ => .n 0, .any, .volatile, 2, 4⟩,
   ⟨0x21, .u16, .rw, .live, fun _ => .n 4, .range (1) 1024, .volatile, 2, 2⟩,
   ⟨0x22, .blob, .rw, .live, fun _ => .b [], .maxLen 1024, .volatile, 2, 1024⟩,
   ⟨0x23, .u8, .wo, .live, fun _ => .n 0, .range (1) 2, .volatile, 2, 1⟩,
   ⟨0x24, .u8, .ro, .none, fun _ => .n 0, .any, .volatile, 2, 1⟩]

/-- Objects at 0x2500+n (R118; 04_camera_ingress.md). -/
def blk2500n : List ObjRow :=
[⟨0x01, .bool, .ro, .none, fun _ => .n 0, .any, .volatile, 2, 1⟩,
   ⟨0x02, .u8, .ro, .none, fun _ => .n 0, .any, .volatile, 2, 1⟩,
   ⟨0x03, .u8, .rw, .halted, fun _ => .n 0, .range (0) 1, .saved, 2, 1⟩,
   ⟨0x04, .u16, .rw, .halted, fun _ => .n 0, .range (0) 511, .saved, 2, 2⟩,
   ⟨0x05, .u32, .ro, .none, fun _ => .n 0, .any, .volatile, 2, 4⟩,
   ⟨0x06, .u32, .ro, .none, fun _ => .n 0, .any, .volatile, 2, 4⟩,
   ⟨0x07, .u32, .ro, .none, fun _ => .n 0, .any, .volatile, 2, 4⟩,
   ⟨0x08, .u16, .ro, .none, fun _ => .n 0, .any, .volatile, 2, 2⟩,
   ⟨0x09, .u16, .ro, .none, fun _ => .n 0, .any, .volatile, 2, 2⟩]

/-- Objects at 0x3100+q (R139; 05_strip_engines.md). -/
def blk3100q : List ObjRow :=
[⟨0x01, .u8, .rw, .halted, fun _ => .n 255, .rangeOr (0) 23 [255], .saved, 2, 1⟩,
   ⟨0x02, .u16, .rw, .halted, fun _ => .n 0, .any, .saved, 2, 2⟩,
   ⟨0x03, .u8, .rw, .halted, fun _ => .n 0, .range (0) 3, .saved, 2, 1⟩,
   ⟨0x04, .bool, .rw, .halted, fun _ => .n 0, .any, .saved, 2, 1⟩,
   ⟨0x05, .u32, .rw, .halted, fun _ => .n 256, .range (1) 4294967295, .saved, 2, 4⟩,
   ⟨0x06, .u16, .rw, .halted, fun _ => .n 256, .any, .saved, 2, 2⟩,
   ⟨0x07, .u8, .rw, .halted, fun _ => .n 0, .any, .saved, 2, 1⟩,
   ⟨0x08, .u8, .rw, .halted, fun _ => .n 0, .any, .saved, 2, 1⟩,
   ⟨0x09, .u16, .rw, .halted, fun _ => .n 1024, .any, .saved, 2, 2⟩,
   ⟨0x0a, .blob, .rw, .halted, fun _ => .b identityMatrix, .lens [32], .saved, 2, 32⟩,
   ⟨0x0b, .blob, .rw, .halted, fun _ => .b (List.replicate 8 0), .lens [8], .saved, 2, 8⟩,
   ⟨0x0c, .blob, .rw, .halted, fun _ => .b [], .lens [0, 8, 16, 24, 32, 40, 48, 56, 64], .saved, 2, 64⟩]
  ++ [⟨0x0d, .u8, .rw, .halted, fun _ => .n 0, .any, .saved, 2, 1⟩,
   ⟨0x0e, .u16, .rw, .halted, fun _ => .n 1, .range (1) 4096, .saved, 2, 2⟩,
   ⟨0x0f, .u8, .ro, .none, fun _ => .n 0, .any, .volatile, 2, 1⟩]

/-- Objects at 0x3000+e (R149; 05_strip_engines.md). -/
def blk3000e : List ObjRow :=
[⟨0x01, .u8, .ro, .none, fun _ => .n 0, .any, .volatile, 2, 1⟩,
   ⟨0x02, .u32, .ro, .none, fun _ => .n 0, .any, .volatile, 2, 4⟩,
   ⟨0x03, .u8, .ro, .none, fun _ => .n 255, .any, .volatile, 2, 1⟩,
   ⟨0x04, .u32, .ro, .none, fun _ => .n 0, .any, .volatile, 2, 4⟩,
   ⟨0x05, .u64, .ro, .none, fun _ => .n 0, .any, .volatile, 2, 8⟩,
   ⟨0x06, .u32, .ro, .none, fun _ => .n 0, .any, .volatile, 2, 4⟩,
   ⟨0x07, .u32, .ro, .none, fun _ => .n 0, .any, .volatile, 2, 4⟩,
   ⟨0x08, .u64, .ro, .none, fun _ => .n 0, .any, .volatile, 2, 8⟩,
   ⟨0x09, .u32, .ro, .none, fun _ => .n 0, .any, .volatile, 2, 4⟩,
   ⟨0x0a, .u32, .ro, .none, fun _ => .n 0, .any, .volatile, 2, 4⟩]

/-- Objects at 0x3080+p (R150; 05_strip_engines.md). -/
def blk3080p : List ObjRow :=
[⟨0x01, .u8, .rw, .halted, fun _ => .n 0, .range (0) 2, .saved, 2, 1⟩,
   ⟨0x02, .u8, .rw, .halted, fun u => .n (u / 2 : Nat), .range (0) 13, .saved, 2, 1⟩,
   ⟨0x03, .u8, .ro, .none, fun u => .n (u / 2 : Nat), .any, .volatile, 2, 1⟩,
   ⟨0x04, .u8, .rw, .live, fun _ => .n 0, .range (0) 3, .saved, 2, 1⟩,
   ⟨0x05, .u16, .rw, .halted, fun _ => .n 512, .range (256) 4096, .saved, 2, 2⟩,
   ⟨0x06, .u32, .rw, .halted, fun _ => .n 1000, .range (100) 100000, .saved, 2, 4⟩,
   ⟨0x07, .u8, .rw, .halted, fun _ => .n 4, .range (2) 16, .saved, 2, 1⟩,
   ⟨0x08, .u8, .rw, .halted, fun _ => .n 1, .range (1) 4, .saved, 2, 1⟩,
   ⟨0x09, .u8, .rw, .halted, fun _ => .n 1, .range (1) 4, .saved, 2, 1⟩,
   ⟨0x0a, .u8, .rw, .halted, fun _ => .n 0, .range (0) 3, .saved, 2, 1⟩,
   ⟨0x0b, .u64, .rw, .halted, fun _ => .n 0, .any, .saved, 2, 8⟩,
   ⟨0x0c, .u64, .rw, .halted, fun _ => .n 1, .any, .saved, 2, 8⟩]
  ++ [⟨0x0d, .u64, .rw, .halted, fun _ => .n 2, .any, .saved, 2, 8⟩,
   ⟨0x0e, .u64, .rw, .halted, fun _ => .n 3, .any, .saved, 2, 8⟩,
   ⟨0x0f, .u8, .rw, .halted, fun _ => .n 0, .range (0) 1, .saved, 2, 1⟩,
   ⟨0x10, .u8, .rw, .halted, fun _ => .n 1, .range (0) 3, .saved, 2, 1⟩,
   ⟨0x11, .i16, .rw, .halted, fun _ => .n 0, .range (-1024) 1024, .saved, 2, 2⟩,
   ⟨0x12, .i16, .rw, .halted, fun _ => .n 0, .range (-1024) 1024, .saved, 2, 2⟩,
   ⟨0x13, .i16, .rw, .halted, fun _ => .n 0, .range (-1024) 1024, .saved, 2, 2⟩,
   ⟨0x14, .i16, .rw, .halted, fun _ => .n 0, .range (-1024) 1024, .saved, 2, 2⟩,
   ⟨0x15, .u8, .rw, .halted, fun _ => .n 1, .range (1) 4, .saved, 2, 1⟩,
   ⟨0x16, .u8, .rw, .halted, fun _ => .n 0, .any, .saved, 2, 1⟩,
   ⟨0x17, .lix64, .rw, .live, fun _ => .n 0, .any, .volatile, 2, 8⟩,
   ⟨0x18, .u8, .wo, .live, fun _ => .n 0, .any, .volatile, 2, 1⟩]
  ++ [⟨0x19, .u8, .ro, .none, fun _ => .n 0, .any, .volatile, 2, 1⟩,
   ⟨0x1a, .u8, .ro, .none, fun _ => .n 255, .any, .volatile, 2, 1⟩,
   ⟨0x1b, .lix64, .ro, .none, fun _ => .n 0, .any, .volatile, 2, 8⟩,
   ⟨0x1c, .lix64, .ro, .none, fun _ => .n 0, .any, .volatile, 2, 8⟩,
   ⟨0x1d, .u8, .ro, .none, fun _ => .n 0, .any, .volatile, 2, 1⟩,
   ⟨0x1e, .u8, .ro, .none, fun _ => .n 0, .any, .volatile, 2, 1⟩,
   ⟨0x1f, .blob, .ro, .none, fun _ => .b (List.replicate 1024 0), .any, .volatile, 2, 1024⟩,
   ⟨0x20, .u32, .ro, .none, fun _ => .n 0, .any, .volatile, 2, 4⟩,
   ⟨0x21, .u8, .rw, .live, fun _ => .n 0, .range (0) 3, .volatile, 2, 1⟩,
   ⟨0x22, .blob, .rw, .live, fun _ => .b [], .maxLen 524288, .volatile, 2, 524288⟩,
   ⟨0x23, .u32, .rw, .live, fun _ => .n 0, .any, .volatile, 2, 4⟩,
   ⟨0x24, .bool, .wo, .live, fun _ => .n 0, .any, .volatile, 2, 1⟩]
  ++ [⟨0x25, .u8, .ro, .none, fun _ => .n 0, .any, .volatile, 2, 1⟩,
   ⟨0x26, .u64, .ro, .none, fun _ => .n 0, .any, .volatile, 2, 8⟩,
   ⟨0x27, .u8, .wo, .live, fun _ => .n 0, .range (1) 2, .volatile, 2, 1⟩,
   ⟨0x28, .u16, .rw, .live, fun _ => .n 1024, .range (16) 4096, .volatile, 2, 2⟩,
   ⟨0x29, .u16, .rw, .live, fun _ => .n 49152, .any, .volatile, 2, 2⟩,
   ⟨0x2a, .u8, .rw, .live, fun _ => .n 20, .range (1) 100, .volatile, 2, 1⟩,
   ⟨0x2b, .u8, .ro, .none, fun _ => .n 0, .any, .volatile, 2, 1⟩,
   ⟨0x2c, .u16, .ro, .none, fun _ => .n 0, .any, .volatile, 2, 2⟩]

/-- Objects at 0x3400+p (R172; 06_stitching.md). -/
def blk3400p : List ObjRow :=
[⟨0x01, .cdu32, .rwc, .staged, fun _ => .n 0, .any, .saved, 2, 4⟩,
   ⟨0x02, .i32, .rwc, .staged, fun _ => .n 167772160, .any, .saved, 2, 4⟩,
   ⟨0x03, .i32, .rwc, .staged, fun _ => .n 0, .any, .saved, 2, 4⟩,
   ⟨0x04, .i32, .rwc, .staged, fun _ => .n 0, .any, .saved, 2, 4⟩,
   ⟨0x05, .u16, .rwc, .staged, fun _ => .n 0, .range (0) 32767, .saved, 2, 2⟩,
   ⟨0x06, .u16, .rwc, .staged, fun _ => .n 0, .any, .saved, 2, 2⟩,
   ⟨0x07, .u16, .rwc, .staged, fun _ => .n 32767, .any, .saved, 2, 2⟩,
   ⟨0x08, .i32, .rwc, .staged, fun _ => .n 0, .range (-196608) 196608, .saved, 2, 4⟩,
   ⟨0x09, .i32, .rwc, .staged, fun _ => .n 0, .any, .saved, 2, 4⟩,
   ⟨0x0a, .u32, .rwc, .staged, fun _ => .n 0, .range (0) 1000000, .saved, 2, 4⟩,
   ⟨0x0b, .u8, .rwc, .staged, fun _ => .n 1, .range (0) 15, .saved, 2, 1⟩,
   ⟨0x0c, .i32, .ro, .none, fun _ => .n 0, .any, .volatile, 2, 4⟩]
  ++ [⟨0x0d, .i32, .ro, .none, fun _ => .n 0, .any, .volatile, 2, 4⟩,
   ⟨0x0e, .u32, .ro, .none, fun _ => .n 0, .any, .volatile, 2, 4⟩,
   ⟨0x0f, .u32, .ro, .none, fun _ => .n 0, .any, .volatile, 2, 4⟩,
   ⟨0x10, .u32, .ro, .none, fun _ => .n 0, .any, .volatile, 2, 4⟩]

/-- Objects at 0x3480+w (R173; 06_stitching.md). -/
def blk3480w : List ObjRow :=
[⟨0x01, .u8, .rwc, .staged, fun _ => .n 255, .rangeOr (0) 3 [255], .saved, 2, 1⟩,
   ⟨0x02, .u8, .rwc, .staged, fun _ => .n 0, .range (0) 23, .saved, 2, 1⟩,
   ⟨0x03, .u8, .rwc, .staged, fun _ => .n 0, .range (0) 23, .saved, 2, 1⟩,
   ⟨0x04, .u8, .rwc, .staged, fun _ => .n 0, .range (0) 2, .saved, 2, 1⟩,
   ⟨0x05, .cdu32, .rwc, .staged, fun _ => .n 0, .any, .saved, 2, 4⟩,
   ⟨0x06, .u8, .rwc, .staged, fun _ => .n 8, .range (0) 127, .saved, 2, 1⟩,
   ⟨0x07, .u32, .ro, .none, fun _ => .n 0, .any, .volatile, 2, 4⟩,
   ⟨0x08, .u32, .ro, .none, fun _ => .n 0, .any, .volatile, 2, 4⟩,
   ⟨0x09, .u32, .ro, .none, fun _ => .n 0, .any, .volatile, 2, 4⟩,
   ⟨0x0a, .u32, .ro, .none, fun _ => .n 0, .any, .volatile, 2, 4⟩,
   ⟨0x0b, .u32, .ro, .none, fun _ => .n 0, .any, .volatile, 2, 4⟩]

/-- Objects at 0x3500+v (R174; 06_stitching.md). -/
def blk3500v : List ObjRow :=
[⟨0x01, .bool, .rw, .live, fun _ => .n 0, .any, .volatile, 2, 1⟩,
   ⟨0x02, .u8, .rw, .halted, fun u => .n u, .range (0) 3, .saved, 2, 1⟩,
   ⟨0x03, .u32, .rw, .halted, fun _ => .n 0, .range (0) 16777215, .saved, 2, 4⟩,
   ⟨0x04, .u32, .rw, .halted, fun _ => .n 16384, .range (1) 262144, .saved, 2, 4⟩,
   ⟨0x05, .u32, .rw, .halted, fun _ => .n 2560, .range (256) 2097152, .saved, 2, 4⟩,
   ⟨0x06, .cdu32, .rw, .halted, fun _ => .n 0, .any, .saved, 2, 4⟩,
   ⟨0x07, .bool, .rw, .halted, fun _ => .n 0, .any, .saved, 2, 1⟩,
   ⟨0x08, .u8, .rw, .halted, fun _ => .n 1, .range (1) 2, .saved, 2, 1⟩,
   ⟨0x09, .u8, .rw, .halted, fun _ => .n 16, .oneOf [0, 1, 2, 3, 16, 17, 18, 19, 32, 33, 34, 35, 48, 49, 50, 51], .saved, 2, 1⟩,
   ⟨0x0a, .u8, .rwc, .staged, fun _ => .n 0, .range (0) 1, .saved, 2, 1⟩,
   ⟨0x0b, .u16, .rwc, .staged, fun _ => .n 0, .any, .saved, 2, 2⟩,
   ⟨0x0c, .u16, .rw, .halted, fun _ => .n 16, .range (8) 8192, .saved, 2, 2⟩]
  ++ [⟨0x0d, .u32, .rw, .halted, fun _ => .n 200, .range (10) 1000000, .saved, 2, 4⟩,
   ⟨0x0e, .u8, .rwc, .staged, fun _ => .n 0, .range (0) 2, .saved, 2, 1⟩,
   ⟨0x0f, .u8, .rwc, .staged, fun _ => .n 0, .range (0) 23, .saved, 2, 1⟩,
   ⟨0x10, .u16, .rwc, .staged, fun _ => .n 16, .range (1) 65535, .saved, 2, 2⟩,
   ⟨0x11, .u32, .rwc, .staged, fun _ => .n 32768, .range (0) 65536, .saved, 2, 4⟩,
   ⟨0x12, .u32, .rwc, .staged, fun _ => .n 131072, .range (65536) 4294967295, .saved, 2, 4⟩,
   ⟨0x13, .u16, .rwc, .staged, fun _ => .n 1024, .any, .saved, 2, 2⟩,
   ⟨0x14, .u16, .rwc, .staged, fun _ => .n 64512, .any, .saved, 2, 2⟩,
   ⟨0x15, .u32, .rwc, .staged, fun _ => .n 4096, .any, .saved, 2, 4⟩,
   ⟨0x16, .u8, .ro, .none, fun _ => .n 0, .any, .volatile, 2, 1⟩,
   ⟨0x17, .lix64, .ro, .none, fun _ => .n 0, .any, .volatile, 2, 8⟩,
   ⟨0x18, .u64, .ro, .none, fun _ => .n 0, .any, .volatile, 2, 8⟩]
  ++ [⟨0x19, .u32, .ro, .none, fun _ => .n 0, .any, .volatile, 2, 4⟩,
   ⟨0x1a, .u64, .ro, .none, fun _ => .n 0, .any, .volatile, 2, 8⟩,
   ⟨0x1b, .u32, .ro, .none, fun _ => .n 0, .any, .volatile, 2, 4⟩,
   ⟨0x1c, .blob, .ro, .none, fun _ => .b unityGains, .any, .volatile, 2, 192⟩,
   ⟨0x1d, .blob, .ro, .none, fun _ => .b unityGains, .any, .volatile, 2, 192⟩,
   ⟨0x1e, .blob, .ro, .none, fun _ => .b (List.replicate 224 0), .any, .volatile, 2, 224⟩]

end Sys2Proof.Machine
end

