-- ==== Sys2Proof/Machine/Dict2.lean ====
section
/-! DEFINITION. The object dictionary of the RB9224 (R3, R61 and the object tables of every chapter): part 2.
One row per object row of the spec's tables: subindex, type (R29), access (R30), apply class (R31), default (of
unit `u`), the range the row itself states, persistence (R32), write level (R33, R34), size or maximum length. -/

namespace Sys2Proof.Machine

/-- Objects at 0x3510 (R175; 06_stitching.md). -/
def blk3510 : List ObjRow :=
[⟨0x01, .u32, .ro, .none, fun _ => .n 0, .any, .volatile, 2, 4⟩,
   ⟨0x02, .u32, .ro, .none, fun _ => .n 0, .any, .volatile, 2, 4⟩,
   ⟨0x03, .u16, .ro, .none, fun _ => .n 0, .any, .volatile, 2, 2⟩,
   ⟨0x04, .u16, .ro, .none, fun _ => .n 0, .any, .volatile, 2, 2⟩]

/-- Objects at 0x3600+v (R202; 07_segmentation.md). -/
def blk3600v : List ObjRow :=
[⟨0x01, .bool, .rw, .live, fun _ => .n 0, .any, .volatile, 2, 1⟩,
   ⟨0x02, .u8, .rw, .halted, fun _ => .n 0, .range (0) 1, .saved, 2, 1⟩,
   ⟨0x03, .u8, .rwc, .staged, fun _ => .n 6, .range (1) 12, .saved, 2, 1⟩,
   ⟨0x04, .u8, .rwc, .staged, fun _ => .n 4, .range (0) 16, .saved, 2, 1⟩,
   ⟨0x05, .u16, .rwc, .staged, fun _ => .n 4096, .any, .saved, 2, 2⟩,
   ⟨0x06, .u16, .rwc, .staged, fun _ => .n 1024, .any, .saved, 2, 2⟩,
   ⟨0x07, .u8, .rwc, .staged, fun _ => .n 64, .range (1) 255, .saved, 2, 1⟩,
   ⟨0x08, .bool, .wo, .live, fun _ => .n 0, .any, .volatile, 2, 1⟩,
   ⟨0x09, .u8, .rwc, .staged, fun _ => .n 1, .range (1) 64, .saved, 2, 1⟩,
   ⟨0x0a, .u16, .rw, .halted, fun _ => .n 8192, .range (1) 16384, .saved, 2, 2⟩,
   ⟨0x0b, .u32, .rw, .halted, fun _ => .n 16384, .range (1) 65536, .saved, 2, 4⟩,
   ⟨0x0c, .u8, .rwc, .staged, fun _ => .n 2, .range (0) 8, .saved, 2, 1⟩]
  ++ [⟨0x0d, .u32, .rwc, .staged, fun _ => .n 1024, .range (256) 65536, .saved, 2, 4⟩,
   ⟨0x0e, .u64, .ro, .none, fun _ => .n 0, .any, .volatile, 2, 8⟩,
   ⟨0x0f, .u64, .ro, .none, fun _ => .n 0, .any, .volatile, 2, 8⟩,
   ⟨0x10, .u64, .ro, .none, fun _ => .n 0, .any, .volatile, 2, 8⟩,
   ⟨0x11, .u64, .ro, .none, fun _ => .n 0, .any, .volatile, 2, 8⟩,
   ⟨0x12, .u64, .ro, .none, fun _ => .n 0, .any, .volatile, 2, 8⟩,
   ⟨0x13, .u64, .ro, .none, fun _ => .n 0, .any, .volatile, 2, 8⟩,
   ⟨0x14, .u64, .ro, .none, fun _ => .n 0, .any, .volatile, 2, 8⟩,
   ⟨0x15, .u64, .ro, .none, fun _ => .n 0, .any, .volatile, 2, 8⟩,
   ⟨0x16, .u32, .ro, .none, fun _ => .n 0, .any, .volatile, 2, 4⟩,
   ⟨0x17, .u32, .ro, .none, fun _ => .n 0, .any, .volatile, 2, 4⟩,
   ⟨0x18, .u64, .ro, .none, fun _ => .n 0, .any, .volatile, 2, 8⟩]
  ++ [⟨0x19, .u64, .ro, .none, fun _ => .n 0, .any, .volatile, 2, 8⟩,
   ⟨0x1a, .u64, .ro, .none, fun _ => .n 0, .any, .volatile, 2, 8⟩,
   ⟨0x1b, .u64, .ro, .none, fun _ => .n 0, .any, .volatile, 2, 8⟩,
   ⟨0x1c, .blob, .ro, .none, fun _ => .b (List.replicate 96 0), .any, .volatile, 2, 96⟩,
   ⟨0x1d, .u64, .ro, .none, fun _ => .n 1, .any, .volatile, 2, 8⟩,
   ⟨0x1e, .u64, .ro, .none, fun _ => .n 0, .any, .volatile, 2, 8⟩,
   ⟨0x1f, .u32, .ro, .none, fun _ => .n 0, .any, .volatile, 2, 4⟩,
   ⟨0x20, .u64, .ro, .none, fun _ => .n 0, .any, .volatile, 2, 8⟩]

/-- Objects at 0x3700+64v+z (R203; 07_segmentation.md). -/
def blk3700z : List ObjRow :=
[⟨0x01, .u32, .rwc, .staged, fun u => .n (4096 * (u % 64) : Nat), .any, .saved, 2, 4⟩,
   ⟨0x02, .u16, .rwc, .staged, fun _ => .n 2048, .range (0) 32767, .saved, 1, 2⟩,
   ⟨0x03, .u16, .rwc, .staged, fun _ => .n 1024, .range (0) 32767, .saved, 1, 2⟩,
   ⟨0x04, .u16, .rwc, .staged, fun _ => .n 2048, .range (0) 32767, .saved, 1, 2⟩,
   ⟨0x05, .u16, .rwc, .staged, fun _ => .n 1024, .range (0) 32767, .saved, 1, 2⟩,
   ⟨0x06, .u32, .rwc, .staged, fun _ => .n 4, .any, .saved, 1, 4⟩,
   ⟨0x07, .u64, .ro, .none, fun _ => .n 0, .any, .volatile, 2, 8⟩]

/-- Objects at 0x3610+v (R204; 07_segmentation.md). -/
def blk3610v : List ObjRow :=
[⟨0x01, .u16, .rw, .halted, fun _ => .n 64, .steps 16 256 16, .saved, 2, 2⟩,
   ⟨0x02, .u16, .rw, .halted, fun _ => .n 64, .steps 16 256 16, .saved, 2, 2⟩,
   ⟨0x03, .u8, .rw, .halted, fun _ => .n 3, .range (1) 15, .saved, 2, 1⟩,
   ⟨0x04, .u8, .rw, .halted, fun _ => .n 1, .range (0) 1, .saved, 2, 1⟩,
   ⟨0x05, .u16, .rw, .halted, fun _ => .n 0, .any, .saved, 2, 2⟩,
   ⟨0x06, .u64, .ro, .none, fun _ => .n 0, .any, .volatile, 2, 8⟩,
   ⟨0x07, .u64, .ro, .none, fun _ => .n 0, .any, .volatile, 2, 8⟩,
   ⟨0x08, .u64, .ro, .none, fun _ => .n 0, .any, .volatile, 2, 8⟩,
   ⟨0x09, .u32, .ro, .none, fun _ => .n 0, .any, .volatile, 2, 4⟩,
   ⟨0x0a, .u64, .ro, .none, fun _ => .n 0, .any, .volatile, 2, 8⟩]

/-- Objects at 0x3620 (R204; 07_segmentation.md). -/
def blk3620 : List ObjRow :=
[⟨0x01, .u32, .ro, .none, fun _ => .n 0, .any, .volatile, 2, 4⟩,
   ⟨0x02, .u32, .ro, .none, fun _ => .n 65536, .any, .volatile, 2, 4⟩,
   ⟨0x03, .u16, .ro, .none, fun _ => .n 0, .any, .volatile, 2, 2⟩,
   ⟨0x04, .u32, .ro, .none, fun _ => .n 0, .any, .volatile, 2, 4⟩]

/-- Objects at 0x3800 (R233; 08_classifier.md). -/
def blk3800 : List ObjRow :=
[⟨0x01, .bool, .rw, .live, fun _ => .n 0, .any, .saved, 2, 1⟩,
   ⟨0x02, .u8, .rw, .live, fun _ => .n 0, .range (0) 1, .saved, 2, 1⟩,
   ⟨0x03, .u32, .rw, .live, fun _ => .n 2000, .range (100) 1000000, .saved, 2, 4⟩,
   ⟨0x04, .u16, .rw, .live, fun _ => .n 96, .range (8) 4096, .saved, 2, 2⟩,
   ⟨0x05, .u8, .rw, .live, fun _ => .n 3, .range (1) 3, .saved, 2, 1⟩,
   ⟨0x06, .u8, .rw, .live, fun _ => .n 3, .range (1) 255, .saved, 2, 1⟩,
   ⟨0x07, .u32, .rw, .live, fun _ => .n 1000, .range (1) 60000000, .saved, 2, 4⟩,
   ⟨0x08, .u16, .ro, .none, fun _ => .n 0, .any, .volatile, 2, 2⟩,
   ⟨0x09, .u16, .ro, .none, fun _ => .n 0, .any, .volatile, 2, 2⟩,
   ⟨0x0a, .u64, .ro, .none, fun _ => .n 0, .any, .volatile, 2, 8⟩,
   ⟨0x0b, .u64, .ro, .none, fun _ => .n 0, .any, .volatile, 2, 8⟩,
   ⟨0x0c, .u64, .ro, .none, fun _ => .n 0, .any, .volatile, 2, 8⟩]
  ++ [⟨0x0d, .u64, .ro, .none, fun _ => .n 0, .any, .volatile, 2, 8⟩,
   ⟨0x0e, .u64, .ro, .none, fun _ => .n 0, .any, .volatile, 2, 8⟩,
   ⟨0x0f, .u32, .ro, .none, fun _ => .n 0, .any, .volatile, 2, 4⟩,
   ⟨0x10, .u64, .ro, .none, fun _ => .n 0, .any, .volatile, 2, 8⟩,
   ⟨0x11, .u64, .ro, .none, fun _ => .n 0, .any, .volatile, 2, 8⟩,
   ⟨0x12, .u64, .ro, .none, fun _ => .n 0, .any, .volatile, 2, 8⟩,
   ⟨0x13, .u8, .ro, .none, fun _ => .n 64, .any, .volatile, 2, 1⟩,
   ⟨0x14, .u8, .ro, .none, fun _ => .n 8, .any, .volatile, 2, 1⟩,
   ⟨0x15, .blob, .ro, .none, fun _ => .b (List.replicate 16 0), .any, .volatile, 2, 16⟩,
   ⟨0x16, .u32, .ro, .none, fun _ => .n 0, .any, .volatile, 2, 4⟩]

/-- Objects at 0x3808+m (R234; 08_classifier.md). -/
def blk3808m : List ObjRow :=
[⟨0x01, .u64, .ro, .none, fun u => .n (343597383680 + 50331648 * u : Nat), .any, .volatile, 2, 8⟩,
   ⟨0x02, .blob, .rw, .live, fun _ => .b [], .maxLen 50331648, .volatile, 2, 50331648⟩,
   ⟨0x03, .bool, .wo, .live, fun _ => .n 0, .any, .volatile, 2, 1⟩,
   ⟨0x04, .u8, .ro, .none, fun _ => .n 0, .any, .volatile, 2, 1⟩,
   ⟨0x05, .u16, .ro, .none, fun _ => .n 0, .any, .volatile, 2, 2⟩,
   ⟨0x06, .u16, .ro, .none, fun _ => .n 0, .any, .volatile, 2, 2⟩,
   ⟨0x07, .u32, .ro, .none, fun _ => .n 0, .any, .volatile, 2, 4⟩,
   ⟨0x08, .u64, .ro, .none, fun _ => .n 0, .any, .volatile, 2, 8⟩,
   ⟨0x09, .u32, .ro, .none, fun _ => .n 0, .any, .volatile, 2, 4⟩,
   ⟨0x0a, .u32, .ro, .none, fun _ => .n 0, .any, .volatile, 2, 4⟩,
   ⟨0x0b, .u32, .ro, .none, fun _ => .n 0, .any, .volatile, 2, 4⟩,
   ⟨0x0c, .u32, .ro, .none, fun _ => .n 0, .any, .volatile, 2, 4⟩]
  ++ [⟨0x0d, .bool, .wo, .live, fun _ => .n 0, .any, .volatile, 2, 1⟩]

/-- Objects at 0x3810+v (R235; 08_classifier.md). -/
def blk3810v : List ObjRow :=
[⟨0x01, .u8, .rwc, .staged, fun _ => .n 255, .oneOf [0, 1, 255], .saved, 1, 1⟩,
   ⟨0x02, .u8, .rwc, .staged, fun _ => .n 3, .range (0) 3, .saved, 1, 1⟩,
   ⟨0x03, .u64, .ro, .none, fun _ => .n 0, .any, .volatile, 1, 8⟩,
   ⟨0x04, .u64, .ro, .none, fun _ => .n 0, .any, .volatile, 1, 8⟩]

/-- Objects at 0x3840+a (R236; 08_classifier.md). -/
def blk3840a : List ObjRow :=
[⟨0x01, .u8, .ro, .none, fun _ => .n 0, .any, .volatile, 2, 1⟩,
   ⟨0x02, .u8, .ro, .none, fun u => .n (if u < 64 then u else 255), .any, .volatile, 2, 1⟩,
   ⟨0x03, .u64, .ro, .none, fun _ => .n 0, .any, .volatile, 2, 8⟩,
   ⟨0x04, .u32, .ro, .none, fun _ => .n 0, .any, .volatile, 2, 4⟩,
   ⟨0x05, .u32, .ro, .none, fun _ => .n 0, .any, .volatile, 2, 4⟩,
   ⟨0x06, .u32, .ro, .none, fun _ => .n 0, .any, .volatile, 2, 4⟩,
   ⟨0x07, .wtime, .ro, .none, fun _ => .n 0, .any, .volatile, 2, 10⟩,
   ⟨0x08, .bool, .wo, .live, fun _ => .n 0, .any, .volatile, 2, 1⟩]

/-- Objects at 0x3A00+s (R256; 09_publishing.md). -/
def blk3A00s : List ObjRow :=
[⟨0x01, .u8, .ro, .none, fun _ => .n 0, .any, .volatile, 0, 1⟩,
   ⟨0x02, .bool, .wo, .live, fun _ => .n 0, .any, .volatile, 0, 1⟩,
   ⟨0x03, .u32, .ro, .none, fun _ => .n 0, .any, .volatile, 0, 4⟩,
   ⟨0x04, .bool, .wo, .live, fun _ => .n 0, .any, .volatile, 0, 1⟩,
   ⟨0x05, .bool, .wo, .live, fun _ => .n 0, .any, .volatile, 0, 1⟩,
   ⟨0x06, .bool, .rw, .live, fun _ => .n 0, .any, .saved, 2, 1⟩,
   ⟨0x07, .u8, .rw, .halted, fun _ => .n 1, .range (0) 6, .saved, 0, 1⟩,
   ⟨0x08, .blob, .rw, .halted, fun _ => .b [], .lens [4, 16], .saved, 0, 16⟩,
   ⟨0x09, .u16, .rw, .halted, fun _ => .n 40871, .any, .saved, 0, 2⟩,
   ⟨0x0a, .u16, .rw, .halted, fun _ => .n 1408, .range (576) 65504, .saved, 0, 2⟩,
   ⟨0x0b, .u8, .rw, .live, fun _ => .n 1, .range (0) 7, .saved, 0, 1⟩,
   ⟨0x0c, .u8, .rw, .live, fun _ => .n 15, .any, .saved, 0, 1⟩]
  ++ [⟨0x0d, .u8, .rw, .live, fun _ => .n 7, .any, .saved, 0, 1⟩,
   ⟨0x0e, .u8, .rw, .live, fun _ => .n 255, .any, .saved, 0, 1⟩,
   ⟨0x0f, .u64, .rw, .live, fun _ => .n 18446744073709551615, .any, .saved, 0, 8⟩,
   ⟨0x10, .u16, .rw, .live, fun _ => .n 0, .any, .saved, 0, 2⟩,
   ⟨0x11, .u16, .rw, .live, fun _ => .n 0, .any, .saved, 0, 2⟩,
   ⟨0x12, .u64, .rw, .live, fun _ => .n 0, .any, .saved, 0, 8⟩,
   ⟨0x13, .u8, .rw, .live, fun _ => .n 0, .range (0) 3, .saved, 0, 1⟩,
   ⟨0x14, .u8, .rw, .halted, fun _ => .n 1, .range (0) 1, .saved, 0, 1⟩,
   ⟨0x15, .u64, .rw, .live, fun _ => .n 0, .any, .volatile, 0, 8⟩,
   ⟨0x16, .u32, .rw, .live, fun _ => .n 100000, .range (1000) 25000000, .saved, 0, 4⟩,
   ⟨0x17, .u32, .rw, .halted, fun _ => .n 4194304, .range (65536) 67108864, .saved, 0, 4⟩,
   ⟨0x18, .u8, .rw, .live, fun _ => .n 0, .range (0) 1, .saved, 0, 1⟩]
  ++ [⟨0x19, .u16, .rw, .live, fun _ => .n 100, .range (10) 65535, .saved, 0, 2⟩,
   ⟨0x1a, .bool, .rw, .halted, fun _ => .n 1, .any, .saved, 2, 1⟩,
   ⟨0x1b, .u8, .rw, .halted, fun _ => .n 0, .range (0) 1, .saved, 0, 1⟩,
   ⟨0x1c, .u32, .rw, .live, fun _ => .n 10000, .range (0) 60000000, .saved, 0, 4⟩,
   ⟨0x1d, .u8, .rw, .live, fun _ => .n 0, .range (0) 1, .saved, 0, 1⟩,
   ⟨0x1e, .u64, .wo, .live, fun _ => .n 0, .mask 18446744069414584323, .volatile, 0, 8⟩,
   ⟨0x1f, .u64, .ro, .none, fun _ => .n 0, .any, .volatile, 0, 8⟩,
   ⟨0x20, .u64, .ro, .none, fun _ => .n 0, .any, .volatile, 0, 8⟩,
   ⟨0x21, .u64, .ro, .none, fun _ => .n 0, .any, .volatile, 0, 8⟩,
   ⟨0x22, .u64, .ro, .none, fun _ => .n 0, .any, .volatile, 0, 8⟩,
   ⟨0x23, .u64, .ro, .none, fun _ => .n 0, .any, .volatile, 0, 8⟩,
   ⟨0x24, .u64, .ro, .none, fun _ => .n 0, .any, .volatile, 0, 8⟩]
  ++ [⟨0x25, .u32, .ro, .none, fun _ => .n 0, .any, .volatile, 0, 4⟩,
   ⟨0x26, .u32, .ro, .none, fun _ => .n 0, .any, .volatile, 0, 4⟩,
   ⟨0x27, .u32, .ro, .none, fun _ => .n 0, .any, .volatile, 0, 4⟩,
   ⟨0x28, .u32, .ro, .none, fun _ => .n 0, .any, .volatile, 0, 4⟩,
   ⟨0x29, .blob, .wo, .live, fun _ => .b [], .lens [32], .saved, 2, 32⟩]

/-- Objects at 0x3C00+c (R257; 09_publishing.md). -/
def blk3C00c : List ObjRow :=
[⟨0x01, .bool, .rw, .live, fun _ => .n 0, .any, .saved, 1, 1⟩,
   ⟨0x02, .u8, .rw, .halted, fun _ => .n 0, .range (0) 3, .saved, 1, 1⟩,
   ⟨0x03, .u8, .rw, .halted, fun _ => .n 0, .range (0) 3, .saved, 1, 1⟩,
   ⟨0x04, .u32, .rw, .halted, fun _ => .n 0, .any, .saved, 1, 4⟩,
   ⟨0x05, .u32, .rw, .halted, fun _ => .n 16383, .any, .saved, 1, 4⟩,
   ⟨0x06, .u8, .rw, .halted, fun _ => .n 16, .range (1) 128, .saved, 1, 1⟩,
   ⟨0x07, .u8, .rw, .halted, fun _ => .n 16, .range (1) 128, .saved, 1, 1⟩,
   ⟨0x08, .u8, .rw, .halted, fun _ => .n 0, .range (0) 1, .saved, 1, 1⟩,
   ⟨0x09, .u8, .rw, .live, fun _ => .n 0, .range (0) 1, .saved, 1, 1⟩,
   ⟨0x0a, .i32, .rw, .live, fun _ => .n 0, .any, .saved, 1, 4⟩,
   ⟨0x0b, .u32, .rw, .live, fun _ => .n 256, .any, .saved, 1, 4⟩,
   ⟨0x0c, .blob, .rw, .live, fun _ => .b greyRamp, .lens [768], .saved, 1, 768⟩]
  ++ [⟨0x0d, .u8, .rw, .live, fun _ => .n 0, .any, .saved, 1, 1⟩,
   ⟨0x0e, .u8, .rw, .live, fun _ => .n 1, .range (0) 2, .saved, 1, 1⟩,
   ⟨0x0f, .u64, .rw, .live, fun _ => .n 18446744073709551615, .any, .saved, 1, 8⟩,
   ⟨0x10, .u32, .rw, .live, fun _ => .n 16711680, .any, .saved, 1, 4⟩,
   ⟨0x11, .u16, .rw, .live, fun _ => .n 64, .range (0) 4096, .saved, 1, 2⟩,
   ⟨0x12, .u16, .rw, .live, fun _ => .n 250, .range (10) 10000, .saved, 1, 2⟩,
   ⟨0x13, .bool, .rw, .live, fun _ => .n 0, .any, .saved, 1, 1⟩,
   ⟨0x14, .u8, .rw, .halted, fun _ => .n 2, .range (0) 16, .saved, 1, 1⟩,
   ⟨0x15, .lix64, .ro, .none, fun _ => .n 0, .any, .volatile, 1, 8⟩,
   ⟨0x16, .u64, .ro, .none, fun _ => .n 0, .any, .volatile, 1, 8⟩,
   ⟨0x17, .u64, .ro, .none, fun _ => .n 0, .any, .volatile, 1, 8⟩,
   ⟨0x18, .blob, .ro, .none, fun _ => .b (List.replicate 32 0), .any, .volatile, 1, 32⟩]

/-- Objects at 0x3D00 (R258; 09_publishing.md). -/
def blk3D00 : List ObjRow :=
[⟨0x01, .u64, .ro, .none, fun _ => .n 0, .any, .volatile, 2, 8⟩,
   ⟨0x02, .blob, .ro, .none, fun _ => .b (List.replicate 64 0), .any, .volatile, 2, 64⟩,
   ⟨0x03, .u64, .ro, .none, fun _ => .n 8589934592, .any, .volatile, 2, 8⟩,
   ⟨0x04, .u64, .ro, .none, fun _ => .n 0, .any, .volatile, 2, 8⟩,
   ⟨0x05, .u64, .ro, .none, fun _ => .n 0, .any, .volatile, 2, 8⟩,
   ⟨0x06, .u16, .ro, .none, fun _ => .n 0, .any, .volatile, 2, 2⟩,
   ⟨0x07, .u16, .ro, .none, fun _ => .n 0, .any, .volatile, 2, 2⟩,
   ⟨0x08, .u32, .ro, .none, fun _ => .n 0, .any, .volatile, 2, 4⟩,
   ⟨0x09, .u16, .ro, .none, fun _ => .n 0, .any, .volatile, 2, 2⟩]

/-- Objects at 0x4000 (R280; 10_calibration.md). -/
def blk4000 : List ObjRow :=
[⟨0x01, .bool, .rw, .live, fun _ => .n 1, .any, .saved, 2, 1⟩,
   ⟨0x02, .u32, .rw, .live, fun _ => .n 60, .range (1) 86400, .saved, 2, 4⟩,
   ⟨0x03, .u8, .rw, .live, fun _ => .n 5, .range (1) 40, .saved, 2, 1⟩,
   ⟨0x04, .u16, .rw, .live, fun _ => .n 64, .oneOf [16, 32, 64, 128, 256], .saved, 2, 2⟩,
   ⟨0x05, .u16, .rw, .live, fun _ => .n 2, .range (1) 64, .saved, 2, 2⟩,
   ⟨0x06, .u16, .rw, .live, fun _ => .n 8, .range (1) 256, .saved, 2, 2⟩,
   ⟨0x07, .u16, .rw, .live, fun _ => .n 8, .range (2) 64, .saved, 2, 2⟩,
   ⟨0x08, .u8, .rw, .live, fun _ => .n 1, .range (1) 16, .saved, 2, 1⟩,
   ⟨0x09, .u8, .rw, .live, fun _ => .n 2, .range (1) 64, .saved, 2, 1⟩,
   ⟨0x0a, .u16, .rw, .live, fun _ => .n 100, .range (10) 10000, .saved, 2, 2⟩,
   ⟨0x0b, .u8, .rw, .halted, fun _ => .n 0, .range (0) 1, .saved, 2, 1⟩,
   ⟨0x0c, .u8, .rw, .live, fun _ => .n 0, .range (0) 3, .saved, 2, 1⟩]
  ++ [⟨0x0d, .u8, .wo, .live, fun _ => .n 0, .rangeOr (0) 71 [255], .volatile, 2, 1⟩,
   ⟨0x0e, .u64, .ro, .none, fun _ => .n 0, .any, .volatile, 2, 8⟩,
   ⟨0x0f, .u64, .ro, .none, fun _ => .n 0, .any, .volatile, 2, 8⟩,
   ⟨0x10, .wtime, .ro, .none, fun _ => .n 0, .any, .volatile, 2, 10⟩,
   ⟨0x11, .lix64, .ro, .none, fun _ => .n 0, .any, .volatile, 2, 8⟩,
   ⟨0x12, .u8, .ro, .none, fun _ => .n 0, .any, .volatile, 2, 1⟩,
   ⟨0x13, .u8, .ro, .none, fun _ => .n 255, .any, .volatile, 2, 1⟩,
   ⟨0x14, .u32, .ro, .none, fun _ => .n 0, .any, .volatile, 2, 4⟩,
   ⟨0x15, .u32, .ro, .none, fun _ => .n 0, .any, .volatile, 2, 4⟩,
   ⟨0x16, .bool, .ro, .none, fun _ => .n 0, .any, .volatile, 2, 1⟩,
   ⟨0x17, .u64, .ro, .none, fun _ => .n 0, .any, .volatile, 2, 8⟩,
   ⟨0x18, .u64, .ro, .none, fun _ => .n 0, .any, .volatile, 2, 8⟩]
  ++ [⟨0x19, .u32, .ro, .none, fun _ => .n 0, .any, .volatile, 2, 4⟩,
   ⟨0x1a, .u8, .rw, .live, fun _ => .n 0, .range (0) 72, .volatile, 2, 1⟩,
   ⟨0x1b, .blob, .rw, .live, fun _ => .b [], .maxLen 4096, .volatile, 2, 4096⟩,
   ⟨0x1c, .bool, .wo, .live, fun _ => .n 0, .any, .volatile, 2, 1⟩]

/-- Objects at 0x4010 (R280; 10_calibration.md). -/
def blk4010 : List ObjRow :=
[⟨0x01, .u16, .ro, .none, fun _ => .n 0, .any, .volatile, 2, 2⟩,
   ⟨0x02, .i32, .ro, .none, fun _ => .n 0, .any, .volatile, 2, 4⟩,
   ⟨0x03, .u16, .rw, .live, fun _ => .n 3000, .range (500) 20000, .saved, 2, 2⟩,
   ⟨0x04, .u32, .ro, .none, fun _ => .n 0, .any, .volatile, 2, 4⟩,
   ⟨0x05, .i16, .ro, .none, fun _ => .n 0, .any, .volatile, 2, 2⟩]

/-- Objects at 0x4040+a (R281; 10_calibration.md). -/
def blk4040a : List ObjRow :=
[⟨0x01, .u8, .ro, .none, fun _ => .n 0, .any, .volatile, 2, 1⟩,
   ⟨0x02, .u32, .ro, .none, fun _ => .n 0, .any, .volatile, 2, 4⟩,
   ⟨0x03, .wtime, .ro, .none, fun _ => .n 0, .any, .volatile, 2, 10⟩,
   ⟨0x04, .lix64, .ro, .none, fun _ => .n 0, .any, .volatile, 2, 8⟩,
   ⟨0x05, .i16, .ro, .none, fun _ => .n 0, .any, .volatile, 2, 2⟩,
   ⟨0x06, .u16, .ro, .none, fun _ => .n 546, .any, .volatile, 2, 2⟩,
   ⟨0x07, .u8, .ro, .none, fun _ => .n 32, .any, .volatile, 2, 1⟩,
   ⟨0x08, .u32, .ro, .none, fun _ => .n 0, .any, .volatile, 2, 4⟩,
   ⟨0x09, .u16, .ro, .none, fun _ => .n 0, .any, .volatile, 2, 2⟩,
   ⟨0x0a, .blob, .ro, .none, fun _ => .b identityColumnMap, .any, .volatile, 2, 1024⟩,
   ⟨0x0b, .blob, .ro, .none, fun _ => .b nominalTrims, .any, .volatile, 2, 2184⟩,
   ⟨0x0c, .blob, .ro, .none, fun _ => .b nominalTrims, .any, .volatile, 2, 2184⟩]
  ++ [⟨0x0d, .blob, .ro, .none, fun _ => .b (List.replicate 8 0), .any, .volatile, 2, 8⟩,
   ⟨0x0e, .u8, .ro, .none, fun _ => .n 0, .any, .volatile, 2, 1⟩,
   ⟨0x0f, .bool, .ro, .none, fun _ => .n 0, .any, .volatile, 2, 1⟩]

/-- Objects at 0x1100 (R300; 11_dependability.md). -/
def blk1100 : List ObjRow :=
[⟨0x01, .u32, .ro, .none, fun _ => .n 0, .any, .volatile, 2, 4⟩,
   ⟨0x02, .u32, .ro, .none, fun _ => .n 0, .any, .volatile, 2, 4⟩,
   ⟨0x03, .u32, .ro, .none, fun _ => .n 0, .any, .volatile, 2, 4⟩,
   ⟨0x04, .u32, .rw, .live, fun _ => .n 1, .any, .volatile, 2, 4⟩,
   ⟨0x05, .blob, .ro, .none, fun _ => .b [], .any, .volatile, 2, 1024⟩,
   ⟨0x06, .u8, .rw, .live, fun _ => .n 0, .range (0) 2, .saved, 2, 1⟩,
   ⟨0x07, .blob, .ro, .none, fun _ => .b [], .any, .volatile, 2, 1024⟩]

/-- Objects at 0x1200 (R301; 11_dependability.md). -/
def blk1200 : List ObjRow :=
[⟨0x01, .u64, .ro, .none, fun _ => .n 0, .any, .volatile, 2, 8⟩,
   ⟨0x02, .u64, .ro, .none, fun _ => .n 0, .any, .volatile, 2, 8⟩,
   ⟨0x03, .blob, .ro, .none, fun _ => .b (List.replicate 32 0), .any, .volatile, 2, 32⟩,
   ⟨0x04, .u32, .ro, .none, fun _ => .n 0, .any, .volatile, 2, 4⟩]

/-- Objects at 0x1220+p (R301; 11_dependability.md). -/
def blk1220p : List ObjRow :=
[⟨0x01, .u64, .ro, .none, fun _ => .n 0, .any, .volatile, 2, 8⟩,
   ⟨0x02, .u32, .ro, .none, fun _ => .n 0, .any, .volatile, 2, 4⟩,
   ⟨0x03, .u64, .ro, .none, fun _ => .n 0, .any, .volatile, 2, 8⟩]

/-- Objects at 0x4200 (R302; 11_dependability.md). -/
def blk4200 : List ObjRow :=
[⟨0x01, .bool, .rw, .live, fun _ => .n 1, .any, .saved, 2, 1⟩,
   ⟨0x02, .u8, .ro, .none, fun _ => .n 255, .any, .volatile, 2, 1⟩,
   ⟨0x03, .u8, .ro, .none, fun _ => .n 255, .any, .volatile, 2, 1⟩,
   ⟨0x04, .u64, .ro, .none, fun _ => .n 0, .any, .volatile, 2, 8⟩,
   ⟨0x05, .u32, .ro, .none, fun _ => .n 0, .any, .volatile, 2, 4⟩,
   ⟨0x06, .u32, .ro, .none, fun _ => .n 0, .any, .volatile, 2, 4⟩,
   ⟨0x07, .u8, .ro, .none, fun _ => .n 0, .any, .volatile, 2, 1⟩,
   ⟨0x08, .wtime, .ro, .none, fun _ => .n 0, .any, .volatile, 2, 10⟩,
   ⟨0x09, .u32, .ro, .none, fun _ => .n 0, .any, .volatile, 2, 4⟩,
   ⟨0x0a, .u32, .ro, .none, fun _ => .n 0, .any, .volatile, 2, 4⟩,
   ⟨0x0b, .u8, .wo, .live, fun _ => .n 0, .range (0) 13, .volatile, 2, 1⟩,
   ⟨0x0c, .u32, .ro, .none, fun _ => .n 0, .any, .volatile, 2, 4⟩]
  ++ [⟨0x0d, .u32, .ro, .none, fun _ => .n 0, .any, .volatile, 2, 4⟩,
   ⟨0x0e, .u32, .ro, .none, fun _ => .n 0, .any, .volatile, 2, 4⟩,
   ⟨0x0f, .u32, .ro, .none, fun _ => .n 0, .any, .volatile, 2, 4⟩]

end Sys2Proof.Machine
end

