-- ==== Sys2Proof/Machine/Dict3.lean ====
section
/-! DEFINITION. The object dictionary of the RB9224 (R3, R61 and the object tables of every chapter): part 3.
One row per object row of the spec's tables: subindex, type (R29), access (R30), apply class (R31), default (of
unit `u`), the range the row itself states, persistence (R32), write level (R33, R34), size or maximum length. -/

namespace Sys2Proof.Machine

/-- Objects at 0x4210 (R302; 11_dependability.md). -/
def blk4210 : List ObjRow :=
[⟨0x01, .u32, .ro, .none, fun _ => .n 0, .any, .volatile, 2, 4⟩,
   ⟨0x02, .u32, .rw, .live, fun _ => .n 1, .any, .volatile, 2, 4⟩,
   ⟨0x03, .blob, .ro, .none, fun _ => .b [], .any, .volatile, 2, 512⟩]

/-- Objects at 0x4220+v (R302; 11_dependability.md). -/
def blk4220v : List ObjRow :=
[⟨0x01, .u16, .rw, .live, fun _ => .n 8, .range (1) 8192, .saved, 2, 2⟩,
   ⟨0x02, .u16, .ro, .none, fun _ => .n 16, .range (1) 8192, .volatile, 2, 2⟩,
   ⟨0x03, .u16, .rw, .live, fun _ => .n 4, .range (1) 8192, .saved, 2, 2⟩,
   ⟨0x04, .u16, .rw, .live, fun _ => .n 1024, .range (1) 8192, .saved, 2, 2⟩,
   ⟨0x05, .u32, .rw, .live, fun _ => .n 100, .range (10) 10000000, .saved, 2, 4⟩,
   ⟨0x06, .u32, .ro, .none, fun _ => .n 200, .range (10) 10000000, .volatile, 2, 4⟩,
   ⟨0x07, .u32, .rw, .live, fun _ => .n 100, .range (10) 10000000, .saved, 2, 4⟩,
   ⟨0x08, .u32, .rw, .live, fun _ => .n 5000, .range (10) 10000000, .saved, 2, 4⟩,
   ⟨0x09, .u64, .ro, .none, fun _ => .n 0, .any, .volatile, 2, 8⟩,
   ⟨0x0a, .u64, .ro, .none, fun _ => .n 0, .any, .volatile, 2, 8⟩,
   ⟨0x0b, .u64, .ro, .none, fun _ => .n 0, .any, .volatile, 2, 8⟩,
   ⟨0x0c, .u64, .ro, .none, fun _ => .n 0, .any, .volatile, 2, 8⟩]

/-- Objects at 0x4400 (R319; 12_pair_operation.md). -/
def blk4400 : List ObjRow :=
[⟨0x01, .bool, .rw, .live, fun _ => .n 0, .any, .saved, 3, 1⟩,
   ⟨0x02, .u8, .ro, .none, fun _ => .n 0, .any, .volatile, 2, 1⟩,
   ⟨0x03, .u8, .ro, .none, fun _ => .n 0, .any, .volatile, 2, 1⟩,
   ⟨0x04, .u8, .ro, .none, fun _ => .n 255, .any, .volatile, 2, 1⟩,
   ⟨0x05, .u8, .ro, .none, fun _ => .n 0, .any, .volatile, 2, 1⟩,
   ⟨0x06, .blob, .rw, .live, fun _ => .b [], .maxLen 1952, .saved, 3, 1952⟩,
   ⟨0x07, .bool, .wo, .live, fun _ => .n 0, .any, .volatile, 2, 1⟩,
   ⟨0x08, .u16, .rw, .live, fun _ => .n 3000, .range (1000) 30000, .saved, 2, 2⟩,
   ⟨0x09, .u16, .rw, .live, fun _ => .n 2000, .range (100) 60000, .saved, 2, 2⟩,
   ⟨0x0a, .u32, .rw, .live, fun _ => .n 5, .mask 255, .saved, 2, 4⟩,
   ⟨0x0b, .u16, .rw, .live, fun _ => .n 1311, .any, .saved, 2, 2⟩,
   ⟨0x0c, .u16, .rw, .live, fun _ => .n 3277, .any, .saved, 2, 2⟩]
  ++ [⟨0x0d, .u16, .rw, .live, fun _ => .n 4, .any, .saved, 2, 2⟩,
   ⟨0x0e, .u8, .rw, .live, fun _ => .n 3, .range (1) 255, .saved, 2, 1⟩,
   ⟨0x0f, .u16, .rw, .live, fun _ => .n 1024, .range (256) 65535, .saved, 2, 2⟩,
   ⟨0x10, .u16, .rw, .live, fun _ => .n 4096, .range (512) 16384, .saved, 2, 2⟩,
   ⟨0x11, .blob, .ro, .none, fun _ => .b (List.replicate 32 0), .any, .volatile, 2, 32⟩,
   ⟨0x12, .u16, .ro, .none, fun _ => .n 0, .any, .volatile, 2, 2⟩,
   ⟨0x13, .u32, .ro, .none, fun _ => .n 0, .any, .volatile, 2, 4⟩,
   ⟨0x14, .u8, .ro, .none, fun _ => .n 0, .any, .volatile, 2, 1⟩,
   ⟨0x15, .u32, .ro, .none, fun _ => .n 0, .any, .volatile, 2, 4⟩,
   ⟨0x16, .wtime, .ro, .none, fun _ => .n 0, .any, .volatile, 2, 10⟩,
   ⟨0x17, .u64, .ro, .none, fun _ => .n 0, .any, .volatile, 2, 8⟩,
   ⟨0x18, .u64, .ro, .none, fun _ => .n 0, .any, .volatile, 2, 8⟩]
  ++ [⟨0x19, .u64, .ro, .none, fun _ => .n 0, .any, .volatile, 2, 8⟩,
   ⟨0x1a, .u32, .ro, .none, fun _ => .n 0, .any, .volatile, 2, 4⟩,
   ⟨0x1b, .u64, .ro, .none, fun _ => .n 0, .any, .volatile, 2, 8⟩,
   ⟨0x1c, .u64, .ro, .none, fun _ => .n 0, .any, .volatile, 2, 8⟩,
   ⟨0x1d, .u64, .ro, .none, fun _ => .n 0, .any, .volatile, 2, 8⟩,
   ⟨0x1e, .blob, .ro, .none, fun _ => .b (List.replicate 64 0), .any, .volatile, 2, 64⟩,
   ⟨0x1f, .u32, .ro, .none, fun _ => .n 0, .any, .volatile, 2, 4⟩,
   ⟨0x20, .u32, .ro, .none, fun _ => .n 0, .any, .volatile, 2, 4⟩]

/-- Objects at 0x4800 (R339; 13_memory.md). -/
def blk4800 : List ObjRow :=
[⟨0x01, .u8, .rw, .halted, fun _ => .n 64, .oneOf [64, 56, 48, 32], .saved, 2, 1⟩,
   ⟨0x02, .u32, .ro, .none, fun _ => .n 0, .any, .volatile, 2, 4⟩,
   ⟨0x03, .u32, .ro, .none, fun _ => .n 0, .any, .volatile, 2, 4⟩,
   ⟨0x04, .u8, .rw, .live, fun _ => .n 80, .range (50) 95, .saved, 2, 1⟩,
   ⟨0x05, .u16, .rw, .live, fun _ => .n 50, .range (0) 10000, .saved, 2, 2⟩,
   ⟨0x06, .u16, .rw, .live, fun _ => .n 200, .range (0) 10000, .saved, 2, 2⟩,
   ⟨0x07, .u16, .rw, .live, fun _ => .n 150, .any, .saved, 2, 2⟩,
   ⟨0x08, .u32, .rw, .live, fun _ => .n 600, .range (10) 86400, .saved, 2, 4⟩,
   ⟨0x09, .u8, .rw, .live, fun _ => .n 10, .range (2) 40, .saved, 2, 1⟩,
   ⟨0x0a, .u16, .rw, .live, fun _ => .n 16, .range (1) 65535, .saved, 2, 2⟩,
   ⟨0x0b, .u32, .rw, .live, fun _ => .n 86400, .range (3600) 604800, .saved, 2, 4⟩,
   ⟨0x0c, .u16, .rw, .halted, fun _ => .n 40, .range (0) 384, .saved, 2, 2⟩]
  ++ [⟨0x0d, .u16, .rw, .halted, fun _ => .n 64, .range (0) 384, .saved, 2, 2⟩,
   ⟨0x0e, .u8, .ro, .none, fun _ => .n 0, .any, .volatile, 2, 1⟩,
   ⟨0x0f, .u64, .ro, .none, fun _ => .n 0, .any, .volatile, 2, 8⟩,
   ⟨0x10, .blob, .ro, .none, fun _ => .b (List.replicate 4 0), .any, .volatile, 2, 4⟩]

/-- Objects at 0x4810+r (R340; 13_memory.md). -/
def blk4810r : List ObjRow :=
[⟨0x01, .u32, .rw, .halted, fun u => .n (regionDefaultMiB u), .any, .saved, 2, 4⟩,
   ⟨0x02, .u64, .ro, .none, fun u => .n (u * 68719476736 : Nat), .any, .volatile, 2, 8⟩,
   ⟨0x03, .u8, .ro, .none, fun u => .n (if u < 4 then 0 else 1), .any, .volatile, 2, 1⟩,
   ⟨0x04, .u8, .ro, .none, fun _ => .n 1, .any, .volatile, 2, 1⟩,
   ⟨0x05, .u64, .ro, .none, fun _ => .n 0, .any, .volatile, 2, 8⟩,
   ⟨0x06, .u64, .ro, .none, fun _ => .n 0, .any, .volatile, 2, 8⟩]

/-- Objects at 0x4820+i (R341; 13_memory.md). -/
def blk4820i : List ObjRow :=
[⟨0x01, .u32, .rw, .live, fun u => .n (latTargetDefault u), .range (500) 10000000, .saved, 2, 4⟩,
   ⟨0x02, .u64, .ro, .none, fun _ => .n 0, .any, .volatile, 2, 8⟩,
   ⟨0x03, .u32, .ro, .none, fun _ => .n 0, .any, .volatile, 2, 4⟩,
   ⟨0x04, .u64, .ro, .none, fun _ => .n 0, .any, .volatile, 2, 8⟩]

/-- Objects at 0x4840+n (R342; 13_memory.md). -/
def blk4840n : List ObjRow :=
[⟨0x01, .u8, .rw, .halted, fun u => .n (pcClassDefault u), .range (0) 1, .saved, 2, 1⟩,
   ⟨0x02, .u8, .ro, .none, fun _ => .n 0, .any, .volatile, 2, 1⟩,
   ⟨0x03, .u32, .ro, .none, fun _ => .n 0, .any, .volatile, 2, 4⟩,
   ⟨0x04, .u32, .ro, .none, fun _ => .n 0, .any, .volatile, 2, 4⟩,
   ⟨0x05, .u16, .ro, .none, fun _ => .n 0, .any, .volatile, 2, 2⟩,
   ⟨0x06, .u16, .ro, .none, fun _ => .n 0, .any, .volatile, 2, 2⟩,
   ⟨0x07, .wtime, .ro, .none, fun _ => .n 0, .any, .volatile, 2, 10⟩,
   ⟨0x08, .u32, .ro, .none, fun _ => .n 0, .any, .volatile, 2, 4⟩,
   ⟨0x09, .bool, .wo, .live, fun _ => .n 0, .any, .volatile, 2, 1⟩]

/-- Objects at 0x5000 (R361; 14_network_time.md). -/
def blk5000 : List ObjRow :=
[⟨0x01, .u64, .rw, .halted, fun _ => .n 0, .range (0) 281474976710655, .saved, 2, 8⟩]

/-- Objects at 0x5010+q (R361; 14_network_time.md). -/
def blk5010q : List ObjRow :=
[⟨0x01, .bool, .rw, .live, fun _ => .n 0, .any, .saved, 2, 1⟩,
   ⟨0x02, .bool, .ro, .none, fun _ => .n 0, .any, .volatile, 2, 1⟩,
   ⟨0x03, .u8, .rw, .halted, fun _ => .n 0, .range (0) 3, .saved, 2, 1⟩,
   ⟨0x04, .u8, .rw, .halted, fun u => .n (if u < 4 then 2 else 0), .range (0) 2, .saved, 2, 1⟩,
   ⟨0x05, .u16, .rw, .halted, fun _ => .n 1522, .range (1522) 9022, .saved, 2, 2⟩,
   ⟨0x06, .blob, .rw, .halted, fun _ => .b [], .lens [4, 16], .saved, 2, 16⟩,
   ⟨0x07, .blob, .rw, .halted, fun _ => .b [], .lens [4, 16], .saved, 2, 16⟩,
   ⟨0x08, .u8, .rw, .halted, fun _ => .n 24, .range (0) 128, .saved, 2, 1⟩,
   ⟨0x09, .blob, .rw, .halted, fun _ => .b [], .lens [0, 4, 16], .saved, 2, 16⟩,
   ⟨0x0a, .blob, .rw, .halted, fun _ => .b [], .lens [0, 4, 16], .saved, 2, 16⟩,
   ⟨0x0b, .u16, .rw, .halted, fun _ => .n 0, .range (0) 4094, .saved, 2, 2⟩,
   ⟨0x0c, .u8, .rw, .live, fun _ => .n 0, .range (0) 7, .saved, 2, 1⟩]
  ++ [⟨0x0d, .i32, .rw, .live, fun _ => .n 0, .any, .saved, 2, 4⟩,
   ⟨0x0e, .i32, .rw, .live, fun _ => .n 0, .any, .saved, 2, 4⟩,
   ⟨0x0f, .i32, .rw, .live, fun _ => .n 0, .any, .saved, 2, 4⟩,
   ⟨0x10, .u64, .ro, .none, fun _ => .n 0, .any, .volatile, 2, 8⟩,
   ⟨0x11, .u64, .ro, .none, fun _ => .n 0, .any, .volatile, 2, 8⟩,
   ⟨0x12, .u64, .ro, .none, fun _ => .n 0, .any, .volatile, 2, 8⟩,
   ⟨0x13, .u32, .ro, .none, fun _ => .n 0, .any, .volatile, 2, 4⟩,
   ⟨0x14, .u32, .ro, .none, fun _ => .n 0, .any, .volatile, 2, 4⟩,
   ⟨0x15, .u16, .ro, .none, fun _ => .n 0, .any, .volatile, 2, 2⟩,
   ⟨0x16, .u32, .ro, .none, fun _ => .n 0, .any, .volatile, 2, 4⟩,
   ⟨0x17, .u32, .ro, .none, fun _ => .n 0, .any, .volatile, 2, 4⟩]

/-- Objects at 0x5100 (R362; 14_network_time.md). -/
def blk5100 : List ObjRow :=
[⟨0x01, .wtime, .ro, .none, fun _ => .n 0, .any, .volatile, 2, 10⟩,
   ⟨0x02, .blob, .ro, .none, fun _ => .b [], .any, .volatile, 2, 14⟩,
   ⟨0x03, .u32, .ro, .none, fun _ => .n 0, .any, .volatile, 2, 4⟩,
   ⟨0x04, .u8, .ro, .none, fun _ => .n 0, .any, .volatile, 2, 1⟩,
   ⟨0x05, .u8, .rw, .live, fun _ => .n 0, .range (0) 1, .saved, 2, 1⟩,
   ⟨0x06, .bool, .rw, .live, fun _ => .n 1, .any, .saved, 2, 1⟩,
   ⟨0x07, .u16, .rw, .live, fun _ => .n 2048, .any, .saved, 2, 2⟩,
   ⟨0x08, .u16, .rw, .live, fun _ => .n 256, .any, .saved, 2, 2⟩,
   ⟨0x09, .u32, .rw, .live, fun _ => .n 200000, .range (1000) 500000, .saved, 2, 4⟩,
   ⟨0x0a, .u32, .rw, .live, fun _ => .n 100000, .range (1000) 500000, .saved, 2, 4⟩,
   ⟨0x0b, .u32, .rw, .live, fun _ => .n 1000000, .range (1000) 1000000000, .saved, 2, 4⟩,
   ⟨0x0c, .u8, .rw, .live, fun _ => .n 4, .range (1) 16, .saved, 2, 1⟩]
  ++ [⟨0x0d, .bool, .rw, .live, fun _ => .n 1, .any, .saved, 2, 1⟩,
   ⟨0x0e, .i64, .wo, .live, fun _ => .n 0, .any, .volatile, 3, 8⟩,
   ⟨0x0f, .i64, .ro, .none, fun _ => .n 0, .any, .volatile, 2, 8⟩,
   ⟨0x10, .i32, .ro, .none, fun _ => .n 0, .any, .volatile, 2, 4⟩,
   ⟨0x11, .i32, .ro, .none, fun _ => .n 0, .any, .volatile, 2, 4⟩,
   ⟨0x12, .u32, .ro, .none, fun _ => .n 0, .any, .volatile, 2, 4⟩,
   ⟨0x13, .u32, .ro, .none, fun _ => .n 0, .any, .volatile, 2, 4⟩,
   ⟨0x14, .u32, .ro, .none, fun _ => .n 0, .any, .volatile, 2, 4⟩,
   ⟨0x15, .bool, .ro, .none, fun _ => .n 0, .any, .volatile, 2, 1⟩,
   ⟨0x16, .u32, .rw, .live, fun _ => .n 60, .range (1) 86400, .saved, 2, 4⟩,
   ⟨0x17, .i16, .ro, .none, fun _ => .n 0, .any, .volatile, 2, 2⟩,
   ⟨0x18, .u8, .ro, .none, fun _ => .n 0, .any, .volatile, 2, 1⟩]

/-- Objects at 0x5110+d (R363; 14_network_time.md). -/
def blk5110d : List ObjRow :=
[⟨0x01, .bool, .rw, .live, fun u => .n (if u = 0 then 1 else 0), .any, .saved, 2, 1⟩,
   ⟨0x02, .u8, .rw, .halted, fun u => .n u, .range (0) 239, .saved, 2, 1⟩,
   ⟨0x03, .u8, .rw, .halted, fun _ => .n 1, .range (0) 63, .saved, 2, 1⟩,
   ⟨0x04, .u8, .rw, .halted, fun _ => .n 0, .range (0) 2, .saved, 2, 1⟩,
   ⟨0x05, .u8, .rw, .halted, fun _ => .n 0, .range (0) 1, .saved, 2, 1⟩,
   ⟨0x06, .i8, .rw, .live, fun _ => .n 0, .range (-7) 4, .saved, 2, 1⟩,
   ⟨0x07, .u8, .rw, .live, fun _ => .n 3, .range (2) 10, .saved, 2, 1⟩,
   ⟨0x08, .u8, .ro, .none, fun _ => .n 0, .any, .volatile, 2, 1⟩,
   ⟨0x09, .u64, .ro, .none, fun _ => .n 0, .any, .volatile, 2, 8⟩,
   ⟨0x0a, .blob, .ro, .none, fun _ => .b (List.replicate 10 0), .any, .volatile, 2, 10⟩,
   ⟨0x0b, .i64, .ro, .none, fun _ => .n 0, .any, .volatile, 2, 8⟩,
   ⟨0x0c, .i64, .ro, .none, fun _ => .n 0, .any, .volatile, 2, 8⟩]
  ++ [⟨0x0d, .u16, .ro, .none, fun _ => .n 0, .any, .volatile, 2, 2⟩,
   ⟨0x0e, .u32, .ro, .none, fun _ => .n 0, .any, .volatile, 2, 4⟩,
   ⟨0x0f, .u32, .ro, .none, fun _ => .n 0, .any, .volatile, 2, 4⟩]

/-- Objects at 0x5800+c (R387; 15_data_movement.md). -/
def blk5800c : List ObjRow :=
[⟨0x01, .u64, .rw, .halted, fun _ => .n 0, .steps 0 18446744073709551552 64, .volatile, 2, 8⟩,
   ⟨0x02, .u8, .rw, .halted, fun _ => .n 0, .range (0) 1, .volatile, 2, 1⟩,
   ⟨0x03, .bool, .wo, .live, fun _ => .n 0, .any, .volatile, 2, 1⟩,
   ⟨0x04, .bool, .wo, .live, fun _ => .n 0, .any, .volatile, 2, 1⟩,
   ⟨0x05, .bool, .wo, .live, fun _ => .n 0, .any, .volatile, 2, 1⟩,
   ⟨0x06, .u8, .ro, .none, fun _ => .n 0, .any, .volatile, 2, 1⟩,
   ⟨0x07, .u8, .ro, .none, fun _ => .n 0, .any, .volatile, 2, 1⟩,
   ⟨0x08, .u8, .rw, .live, fun _ => .n 0, .range (0) 3, .volatile, 2, 1⟩,
   ⟨0x09, .u8, .rw, .halted, fun _ => .n 0, .range (0) 4, .volatile, 2, 1⟩,
   ⟨0x0a, .u16, .rw, .halted, fun _ => .n 0, .any, .volatile, 2, 2⟩,
   ⟨0x0b, .u32, .rw, .live, fun _ => .n 0, .range (0) 64000, .volatile, 2, 4⟩,
   ⟨0x0c, .u8, .ro, .none, fun _ => .n 0, .any, .volatile, 2, 1⟩]
  ++ [⟨0x0d, .u32, .ro, .none, fun _ => .n 0, .any, .volatile, 2, 4⟩,
   ⟨0x0e, .u16, .rw, .halted, fun u => .n u, .range (0) 255, .volatile, 2, 2⟩,
   ⟨0x0f, .u8, .ro, .none, fun _ => .n 0, .any, .volatile, 2, 1⟩,
   ⟨0x10, .u8, .wo, .live, fun _ => .n 0, .range (0) 15, .volatile, 2, 1⟩,
   ⟨0x11, .bool, .rw, .halted, fun _ => .n 0, .any, .volatile, 2, 1⟩,
   ⟨0x12, .u32, .rw, .halted, fun _ => .n 1, .range (1) 4294967295, .volatile, 2, 4⟩,
   ⟨0x13, .u32, .ro, .none, fun _ => .n 0, .any, .volatile, 2, 4⟩,
   ⟨0x14, .bool, .ro, .none, fun _ => .n 0, .any, .volatile, 2, 1⟩,
   ⟨0x15, .bool, .wo, .live, fun _ => .n 0, .any, .volatile, 2, 1⟩,
   ⟨0x16, .u64, .ro, .none, fun _ => .n 0, .any, .volatile, 2, 8⟩,
   ⟨0x17, .u16, .ro, .none, fun _ => .n 0, .any, .volatile, 2, 2⟩,
   ⟨0x18, .u64, .ro, .none, fun _ => .n 0, .any, .volatile, 2, 8⟩]
  ++ [⟨0x19, .u64, .ro, .none, fun _ => .n 0, .any, .volatile, 2, 8⟩]

/-- Objects at 0x5840 (R387; 15_data_movement.md). -/
def blk5840 : List ObjRow :=
[⟨0x01, .u64, .ro, .none, fun _ => .n 0, .any, .volatile, 2, 8⟩,
   ⟨0x02, .u8, .ro, .none, fun _ => .n 0, .any, .volatile, 2, 1⟩,
   ⟨0x03, .u32, .ro, .none, fun _ => .n 0, .any, .volatile, 2, 4⟩,
   ⟨0x04, .u32, .ro, .none, fun _ => .n 0, .any, .volatile, 2, 4⟩]

/-- Objects at 0x5880+e (R388; 15_data_movement.md). -/
def blk5880e : List ObjRow :=
[⟨0x01, .u32, .rw, .live, fun _ => .n 65536, .oneOf [4096, 8192, 16384, 32768, 65536], .volatile, 2, 4⟩,
   ⟨0x02, .u64, .ro, .none, fun _ => .n 0, .any, .volatile, 2, 8⟩,
   ⟨0x03, .u64, .ro, .none, fun _ => .n 0, .any, .volatile, 2, 8⟩,
   ⟨0x04, .u64, .ro, .none, fun _ => .n 0, .any, .volatile, 2, 8⟩,
   ⟨0x05, .u64, .ro, .none, fun _ => .n 0, .any, .volatile, 2, 8⟩,
   ⟨0x06, .u64, .ro, .none, fun _ => .n 0, .any, .volatile, 2, 8⟩]

/-- Objects at 0x5884+e (R388; 15_data_movement.md). -/
def blk5884e : List ObjRow :=
[⟨0x01, .u64, .ro, .none, fun _ => .n 0, .any, .volatile, 2, 8⟩,
   ⟨0x02, .u64, .ro, .none, fun _ => .n 0, .any, .volatile, 2, 8⟩,
   ⟨0x03, .u32, .ro, .none, fun _ => .n 0, .any, .volatile, 2, 4⟩,
   ⟨0x04, .u16, .ro, .none, fun _ => .n 0, .any, .volatile, 2, 2⟩,
   ⟨0x05, .u32, .ro, .none, fun _ => .n 0, .any, .volatile, 2, 4⟩]

/-- Objects at 0x5C00 (R408; 16_host_and_board_buses.md). -/
def blk5C00 : List ObjRow :=
[⟨0x01, .u8, .ro, .none, fun _ => .n 0, .any, .volatile, 2, 1⟩,
   ⟨0x02, .u8, .ro, .none, fun _ => .n 0, .any, .volatile, 2, 1⟩,
   ⟨0x03, .u8, .rw, .halted, fun _ => .n 5, .range (1) 5, .saved, 2, 1⟩,
   ⟨0x04, .u8, .rw, .live, fun _ => .n 128, .any, .saved, 2, 1⟩,
   ⟨0x05, .u8, .rw, .live, fun _ => .n 129, .any, .saved, 2, 1⟩,
   ⟨0x06, .u32, .ro, .none, fun _ => .n 0, .any, .volatile, 2, 4⟩,
   ⟨0x07, .u32, .ro, .none, fun _ => .n 0, .any, .volatile, 2, 4⟩,
   ⟨0x08, .u32, .ro, .none, fun _ => .n 0, .any, .volatile, 2, 4⟩,
   ⟨0x09, .u32, .ro, .none, fun _ => .n 0, .any, .volatile, 2, 4⟩,
   ⟨0x0a, .u32, .ro, .none, fun _ => .n 0, .any, .volatile, 2, 4⟩,
   ⟨0x0b, .u32, .ro, .none, fun _ => .n 0, .any, .volatile, 2, 4⟩,
   ⟨0x0c, .u32, .ro, .none, fun _ => .n 0, .any, .volatile, 2, 4⟩]

/-- Objects at 0x5C40+r (R408; 16_host_and_board_buses.md). -/
def blk5C40r : List ObjRow :=
[⟨0x01, .bool, .ro, .none, fun _ => .n 0, .any, .volatile, 2, 1⟩,
   ⟨0x02, .u32, .ro, .none, fun _ => .n 0, .any, .volatile, 2, 4⟩,
   ⟨0x03, .u32, .ro, .none, fun _ => .n 0, .any, .volatile, 2, 4⟩]

/-- Objects at 0x5D00+k (R409; 16_host_and_board_buses.md). -/
def blk5D00k : List ObjRow :=
[⟨0x01, .bool, .rw, .live, fun _ => .n 0, .any, .saved, 2, 1⟩,
   ⟨0x02, .u16, .rw, .halted, fun _ => .n 400, .oneOf [100, 400, 1000], .saved, 2, 2⟩,
   ⟨0x03, .u8, .rw, .halted, fun _ => .n 5, .range (1) 63, .saved, 2, 1⟩,
   ⟨0x04, .u8, .rw, .live, fun _ => .n 80, .range (8) 119, .saved, 2, 1⟩,
   ⟨0x05, .blob, .rw, .live, fun _ => .b [], .maxLen 256, .volatile, 2, 256⟩,
   ⟨0x06, .u16, .rw, .live, fun _ => .n 0, .range (0) 256, .volatile, 2, 2⟩,
   ⟨0x07, .u8, .wo, .live, fun _ => .n 0, .range (1) 3, .volatile, 2, 1⟩,
   ⟨0x08, .u8, .ro, .none, fun _ => .n 0, .any, .volatile, 2, 1⟩,
   ⟨0x09, .blob, .ro, .none, fun _ => .b [], .any, .volatile, 2, 256⟩,
   ⟨0x0a, .u16, .ro, .none, fun _ => .n 0, .any, .volatile, 2, 2⟩,
   ⟨0x0b, .u8, .ro, .none, fun _ => .n 0, .any, .volatile, 2, 1⟩,
   ⟨0x0c, .u8, .rw, .live, fun _ => .n 3, .range (0) 15, .saved, 2, 1⟩]
  ++ [⟨0x0d, .u32, .rw, .live, fun _ => .n 25000, .range (10) 1000000, .saved, 2, 4⟩,
   ⟨0x0e, .u16, .rw, .live, fun _ => .n 1000, .range (10) 65535, .saved, 2, 2⟩,
   ⟨0x0f, .u32, .ro, .none, fun _ => .n 0, .any, .volatile, 2, 4⟩,
   ⟨0x10, .u32, .ro, .none, fun _ => .n 0, .any, .volatile, 2, 4⟩]

/-- Objects at 0x5D10 (R409; 16_host_and_board_buses.md). -/
def blk5D10 : List ObjRow :=
[⟨0x01, .bool, .rw, .live, fun _ => .n 0, .any, .saved, 2, 1⟩,
   ⟨0x02, .u8, .rw, .halted, fun _ => .n 90, .range (8) 119, .saved, 2, 1⟩,
   ⟨0x03, .u8, .rw, .halted, fun _ => .n 5, .range (1) 63, .saved, 2, 1⟩,
   ⟨0x04, .u16, .rw, .live, fun _ => .n 25, .range (1) 1000, .saved, 2, 2⟩,
   ⟨0x05, .blob, .rw, .live, fun _ => .b (List.replicate 4032 0), .maxLen 4032, .volatile, 2, 4032⟩,
   ⟨0x06, .u16, .ro, .none, fun _ => .n 0, .any, .volatile, 2, 2⟩,
   ⟨0x07, .u32, .ro, .none, fun _ => .n 0, .any, .volatile, 2, 4⟩,
   ⟨0x08, .u32, .ro, .none, fun _ => .n 0, .any, .volatile, 2, 4⟩,
   ⟨0x09, .u32, .ro, .none, fun _ => .n 0, .any, .volatile, 2, 4⟩]

/-- Objects at 0x6000 (R429; 17_firmware_update.md). -/
def blk6000 : List ObjRow :=
[⟨0x01, .u32, .ro, .none, fun _ => .n 0, .any, .volatile, 2, 4⟩,
   ⟨0x02, .u32, .ro, .none, fun _ => .n 0, .any, .volatile, 2, 4⟩,
   ⟨0x03, .u32, .ro, .none, fun _ => .n 0, .any, .volatile, 2, 4⟩,
   ⟨0x04, .u8, .ro, .none, fun _ => .n 0, .any, .volatile, 2, 1⟩,
   ⟨0x05, .blob, .rw, .live, fun _ => .b [], .maxLen 16777216, .volatile, 2, 16777216⟩,
   ⟨0x06, .bool, .wo, .live, fun _ => .n 0, .any, .volatile, 2, 1⟩,
   ⟨0x07, .bool, .wo, .live, fun _ => .n 0, .any, .volatile, 2, 1⟩,
   ⟨0x08, .bool, .wo, .live, fun _ => .n 0, .any, .volatile, 2, 1⟩,
   ⟨0x09, .bool, .wo, .live, fun _ => .n 0, .any, .volatile, 2, 1⟩,
   ⟨0x0a, .u8, .ro, .none, fun _ => .n 0, .any, .volatile, 2, 1⟩,
   ⟨0x0b, .u16, .ro, .none, fun _ => .n 0, .any, .volatile, 2, 2⟩,
   ⟨0x0c, .bool, .rw, .live, fun _ => .n 0, .any, .saved, 3, 1⟩]
  ++ [⟨0x0d, .u32, .rw, .live, fun _ => .n 600, .range (60) 86400, .saved, 2, 4⟩,
   ⟨0x0e, .u32, .ro, .none, fun _ => .n 0, .any, .volatile, 2, 4⟩,
   ⟨0x0f, .u8, .ro, .none, fun _ => .n 0, .any, .volatile, 2, 1⟩,
   ⟨0x10, .u16, .ro, .none, fun _ => .n 0, .any, .volatile, 2, 2⟩,
   ⟨0x11, .bool, .ro, .none, fun _ => .n 0, .any, .volatile, 2, 1⟩,
   ⟨0x12, .bool, .ro, .none, fun _ => .n 0, .any, .volatile, 2, 1⟩,
   ⟨0x13, .u8, .ro, .none, fun _ => .n 0, .any, .volatile, 2, 1⟩]

/-- Objects at 0x6010 (R429; 17_firmware_update.md). -/
def blk6010 : List ObjRow :=
[⟨0x01, .bool, .wo, .live, fun _ => .n 0, .any, .volatile, 2, 1⟩,
   ⟨0x02, .u8, .ro, .none, fun _ => .n 0, .any, .volatile, 2, 1⟩,
   ⟨0x03, .u8, .ro, .none, fun _ => .n 0, .any, .volatile, 2, 1⟩,
   ⟨0x04, .u64, .ro, .none, fun _ => .n 0, .any, .volatile, 2, 8⟩,
   ⟨0x05, .u32, .ro, .none, fun _ => .n 0, .any, .volatile, 2, 4⟩]

/-- Objects at 0x6020+k (R429; 17_firmware_update.md). -/
def blk6020k : List ObjRow :=
[⟨0x01, .u64, .rw, .live, fun _ => .n 0, .any, .saved, 3, 8⟩,
   ⟨0x02, .blob, .rw, .live, fun _ => .b [], .maxLen 1952, .saved, 3, 1952⟩,
   ⟨0x03, .bool, .rw, .live, fun _ => .n 0, .any, .saved, 3, 1⟩]

/-- Objects at 0x1400 (R442; 18_startup_power.md). -/
def blk1400 : List ObjRow :=
[⟨0x01, .u8, .ro, .none, fun _ => .n 0, .any, .volatile, 2, 1⟩,
   ⟨0x02, .bool, .ro, .none, fun _ => .n 0, .any, .volatile, 2, 1⟩,
   ⟨0x03, .u32, .ro, .none, fun _ => .n 0, .any, .volatile, 2, 4⟩,
   ⟨0x04, .u8, .ro, .none, fun _ => .n 0, .any, .volatile, 2, 1⟩,
   ⟨0x05, .u32, .ro, .none, fun _ => .n 0, .any, .volatile, 2, 4⟩,
   ⟨0x06, .u16, .rw, .live, fun _ => .n 500, .range (50) 10000, .saved, 2, 2⟩,
   ⟨0x07, .u16, .ro, .none, fun _ => .n 0, .any, .volatile, 2, 2⟩,
   ⟨0x08, .bool, .ro, .none, fun _ => .n 0, .any, .volatile, 2, 1⟩]

/-- Objects at 0x1420+g (R442; 18_startup_power.md). -/
def blk1420g : List ObjRow :=
[⟨0x01, .lix64, .ro, .none, fun _ => .n 0, .any, .volatile, 2, 8⟩,
   ⟨0x02, .lix64, .ro, .none, fun _ => .n 0, .any, .volatile, 2, 8⟩]

/-- Objects at 0x1410+d (R443; 18_startup_power.md). -/
def blk1410d : List ObjRow :=
[⟨0x01, .bool, .rw, .live, fun _ => .n 1, .any, .saved, 2, 1⟩,
   ⟨0x02, .u8, .ro, .none, fun _ => .n 0, .any, .volatile, 2, 1⟩,
   ⟨0x03, .u8, .ro, .none, fun _ => .n 0, .any, .volatile, 2, 1⟩,
   ⟨0x04, .u32, .ro, .none, fun _ => .n 0, .any, .volatile, 2, 4⟩,
   ⟨0x05, .u32, .ro, .none, fun _ => .n 0, .any, .volatile, 2, 4⟩]

end Sys2Proof.Machine
end

