-- ==== Sys2Proof/Machine/Dict.lean ====
section
/-! DEFINITION. The index map (R61): each block of the dictionary with its base index, the number of units on the
RB9224 and on the RB9212 (R2), its commit group (R48 to R50 and the chapters) and the block that owns its HALTED
objects (R31). -/

namespace Sys2Proof.Machine

/-- The blocks of the dictionary, in ascending index. -/
def dictBlocks : List ObjBlock :=
  [⟨0x1000, 1, 1, .unclocked, .never, blk1000⟩,
   ⟨0x1100, 1, 1, .unclocked, .never, blk1100⟩,
   ⟨0x1200, 1, 1, .unclocked, .never, blk1200⟩,
   ⟨0x1220, 24, 24, .unclocked, .never, blk1220p⟩,
   ⟨0x1400, 1, 1, .unclocked, .never, blk1400⟩,
   ⟨0x1410, 11, 11, .unclocked, .never, blk1410d⟩,
   ⟨0x1420, 4, 4, .unclocked, .never, blk1420g⟩,
   ⟨0x2000, 4, 4, .unclocked, .axis, blk2000a⟩,
   ⟨0x2008, 2, 2, .unclocked, .ssi, blk2008s⟩,
   ⟨0x2010, 8, 8, .unclocked, .never, blk2010i⟩,
   ⟨0x2100, 4, 4, .lcg, .lcg, blk2100g⟩,
   ⟨0x2140, 24, 12, .port, .trig, blk2140p⟩]
  ++ [⟨0x2200, 256, 256, .unclocked, .never, blk2200k⟩,
   ⟨0x2300, 1, 1, .unclocked, .never, blk2300⟩,
   ⟨0x2400, 24, 12, .port, .port, blk2400p⟩,
   ⟨0x2500, 192, 96, .lane, .lane, blk2500n⟩,
   ⟨0x3000, 14, 14, .unclocked, .never, blk3000e⟩,
   ⟨0x3080, 24, 12, .port, .port, blk3080p⟩,
   ⟨0x3100, 256, 256, .unclocked, .pset, blk3100q⟩,
   ⟨0x3400, 24, 12, .port, .never, blk3400p⟩,
   ⟨0x3480, 96, 96, .welt, .never, blk3480w⟩,
   ⟨0x3500, 4, 4, .view, .view, blk3500v⟩,
   ⟨0x3510, 1, 1, .unclocked, .never, blk3510⟩,
   ⟨0x3600, 4, 4, .view, .seg, blk3600v⟩]
  ++ [⟨0x3610, 4, 4, .view, .seg, blk3610v⟩,
   ⟨0x3620, 1, 1, .unclocked, .never, blk3620⟩,
   ⟨0x3700, 256, 256, .zone, .never, blk3700z⟩,
   ⟨0x3800, 1, 1, .unclocked, .never, blk3800⟩,
   ⟨0x3808, 2, 2, .unclocked, .never, blk3808m⟩,
   ⟨0x3810, 4, 4, .view, .never, blk3810v⟩,
   ⟨0x3840, 72, 72, .unclocked, .never, blk3840a⟩,
   ⟨0x3A00, 512, 512, .unclocked, .stall, blk3A00s⟩,
   ⟨0x3C00, 64, 64, .unclocked, .live, blk3C00c⟩,
   ⟨0x3D00, 1, 1, .unclocked, .never, blk3D00⟩,
   ⟨0x4000, 1, 1, .unclocked, .pdCls, blk4000⟩,
   ⟨0x4010, 1, 1, .unclocked, .never, blk4010⟩]
  ++ [⟨0x4040, 72, 72, .unclocked, .never, blk4040a⟩,
   ⟨0x4200, 1, 1, .unclocked, .never, blk4200⟩,
   ⟨0x4210, 1, 1, .unclocked, .never, blk4210⟩,
   ⟨0x4220, 4, 4, .view, .never, blk4220v⟩,
   ⟨0x4400, 1, 1, .unclocked, .never, blk4400⟩,
   ⟨0x4800, 1, 1, .unclocked, .memory, blk4800⟩,
   ⟨0x4810, 7, 7, .unclocked, .memory, blk4810r⟩,
   ⟨0x4820, 12, 12, .unclocked, .never, blk4820i⟩,
   ⟨0x4840, 64, 64, .unclocked, .memory, blk4840n⟩,
   ⟨0x5000, 1, 1, .unclocked, .allNet, blk5000⟩,
   ⟨0x5010, 6, 6, .unclocked, .net, blk5010q⟩,
   ⟨0x5100, 1, 1, .unclocked, .never, blk5100⟩]
  ++ [⟨0x5110, 2, 2, .unclocked, .domain, blk5110d⟩,
   ⟨0x5400, 1, 1, .unclocked, .udp, blk5400⟩,
   ⟨0x5410, 5, 5, .unclocked, .never, blk5410g⟩,
   ⟨0x5420, 16, 16, .unclocked, .never, blk5420c⟩,
   ⟨0x5440, 32, 32, .unclocked, .never, blk5440i⟩,
   ⟨0x5800, 64, 64, .unclocked, .dma, blk5800c⟩,
   ⟨0x5840, 1, 1, .unclocked, .never, blk5840⟩,
   ⟨0x5880, 4, 4, .unclocked, .never, blk5880e⟩,
   ⟨0x5884, 4, 4, .unclocked, .never, blk5884e⟩,
   ⟨0x5C00, 1, 1, .unclocked, .pcie, blk5C00⟩,
   ⟨0x5C40, 64, 64, .unclocked, .never, blk5C40r⟩,
   ⟨0x5D00, 2, 2, .unclocked, .twc, blk5D00k⟩]
  ++ [⟨0x5D10, 1, 1, .unclocked, .twt, blk5D10⟩,
   ⟨0x6000, 1, 1, .unclocked, .never, blk6000⟩,
   ⟨0x6010, 1, 1, .unclocked, .never, blk6010⟩,
   ⟨0x6020, 4, 4, .unclocked, .never, blk6020k⟩]

end Sys2Proof.Machine
end

