-- ==== Sys2Proof/Machine/Names.lean ====
section
/-! DEFINITION. The names of the objects of the dictionary (the object tables of every chapter). An object is
named by the number 256 × index + subindex; `u` is the unit within its block (a port, an LCG, a Stall, …). -/

namespace Sys2Proof.Machine


/-! Objects at 0x1000, R3 (00_scope.md). -/
def Obj.partCode : Nat := 0x100001
def Obj.siliconRevision : Nat := 0x100002
def Obj.portCount : Nat := 0x100003
def Obj.identLaneCount : Nat := 0x100004

/-! Objects at 0x5400, R60 (02_object_dictionary.md). -/
def Obj.udpPort : Nat := 0x540001
def Obj.sessionCount : Nat := 0x540002
def Obj.sessionMax : Nat := 0x540003
def Obj.idleTimeout : Nat := 0x540004
def Obj.anonViewer : Nat := 0x540005
def Obj.vendorAccess : Nat := 0x540006
def Obj.badTagCount : Nat := 0x540007
def Obj.duplicateCount : Nat := 0x540008

/-! Objects at 0x5410+g, R60 (02_object_dictionary.md). -/
def Obj.handedCsn (u : Nat) : Nat := 256 * (0x5410 + u) + 0x01
def Obj.lastHandoverLix (u : Nat) : Nat := 256 * (0x5410 + u) + 0x02
def Obj.pending (u : Nat) : Nat := 256 * (0x5410 + u) + 0x03
def Obj.shadowEntries (u : Nat) : Nat := 256 * (0x5410 + u) + 0x04

/-! Objects at 0x5420+c, R60 (02_object_dictionary.md). -/
def Obj.credLevel (u : Nat) : Nat := 256 * (0x5420 + u) + 0x01
def Obj.credKeyId (u : Nat) : Nat := 256 * (0x5420 + u) + 0x02
def Obj.credPublicKey (u : Nat) : Nat := 256 * (0x5420 + u) + 0x03
def Obj.credEnabled (u : Nat) : Nat := 256 * (0x5420 + u) + 0x04

/-! Objects at 0x5440+i, R60 (02_object_dictionary.md). -/
def Obj.sesId (u : Nat) : Nat := 256 * (0x5440 + u) + 0x01
def Obj.sesLevel (u : Nat) : Nat := 256 * (0x5440 + u) + 0x02
def Obj.sesTransport (u : Nat) : Nat := 256 * (0x5440 + u) + 0x03
def Obj.sesNextSeq (u : Nat) : Nat := 256 * (0x5440 + u) + 0x04
def Obj.sesClose (u : Nat) : Nat := 256 * (0x5440 + u) + 0x05

/-! Objects at 0x2000+a, R70 (03_web_position.md). -/
def Obj.axisEnable (u : Nat) : Nat := 256 * (0x2000 + u) + 0x01
def Obj.filterLen (u : Nat) : Nat := 256 * (0x2000 + u) + 0x02
def Obj.countDir (u : Nat) : Nat := 256 * (0x2000 + u) + 0x03
def Obj.rawCount (u : Nat) : Nat := 256 * (0x2000 + u) + 0x04
def Obj.wrapCount (u : Nat) : Nat := 256 * (0x2000 + u) + 0x05
def Obj.extPos (u : Nat) : Nat := 256 * (0x2000 + u) + 0x06
def Obj.filtPos (u : Nat) : Nat := 256 * (0x2000 + u) + 0x07
def Obj.direction (u : Nat) : Nat := 256 * (0x2000 + u) + 0x08
def Obj.speed (u : Nat) : Nat := 256 * (0x2000 + u) + 0x09
def Obj.speedValid (u : Nat) : Nat := 256 * (0x2000 + u) + 0x0a
def Obj.standstill (u : Nat) : Nat := 256 * (0x2000 + u) + 0x0b
def Obj.speedAvg (u : Nat) : Nat := 256 * (0x2000 + u) + 0x0c
def Obj.standstillTime (u : Nat) : Nat := 256 * (0x2000 + u) + 0x0d
def Obj.illegalCount (u : Nat) : Nat := 256 * (0x2000 + u) + 0x0e
def Obj.signalState (u : Nat) : Nat := 256 * (0x2000 + u) + 0x0f
def Obj.countPitch (u : Nat) : Nat := 256 * (0x2000 + u) + 0x10
def Obj.indexLatch (u : Nat) : Nat := 256 * (0x2000 + u) + 0x11

/-! Objects at 0x2008+s, R72 (03_web_position.md). -/
def Obj.ssiEnable (u : Nat) : Nat := 256 * (0x2008 + u) + 0x01
def Obj.ssiBits (u : Nat) : Nat := 256 * (0x2008 + u) + 0x02
def Obj.ssiCode (u : Nat) : Nat := 256 * (0x2008 + u) + 0x03
def Obj.ssiParity (u : Nat) : Nat := 256 * (0x2008 + u) + 0x04
def Obj.ssiClock (u : Nat) : Nat := 256 * (0x2008 + u) + 0x05
def Obj.ssiPeriod (u : Nat) : Nat := 256 * (0x2008 + u) + 0x06
def Obj.ssiValue (u : Nat) : Nat := 256 * (0x2008 + u) + 0x07
def Obj.ssiErrorCount (u : Nat) : Nat := 256 * (0x2008 + u) + 0x08
def Obj.ssiFault (u : Nat) : Nat := 256 * (0x2008 + u) + 0x09

/-! Objects at 0x2100+g, R83 (03_web_position.md). -/
def Obj.lcgRun (u : Nat) : Nat := 256 * (0x2100 + u) + 0x01
def Obj.primaryAxis (u : Nat) : Nat := 256 * (0x2100 + u) + 0x02
def Obj.partnerSource (u : Nat) : Nat := 256 * (0x2100 + u) + 0x03
def Obj.partnerRatio (u : Nat) : Nat := 256 * (0x2100 + u) + 0x04
def Obj.lineStep (u : Nat) : Nat := 256 * (0x2100 + u) + 0x05
def Obj.nextLix (u : Nat) : Nat := 256 * (0x2100 + u) + 0x06
def Obj.currentLix (u : Nat) : Nat := 256 * (0x2100 + u) + 0x07
def Obj.nextCompare (u : Nat) : Nat := 256 * (0x2100 + u) + 0x08
def Obj.backlog (u : Nat) : Nat := 256 * (0x2100 + u) + 0x09
def Obj.maxBacklog (u : Nat) : Nat := 256 * (0x2100 + u) + 0x0a
def Obj.activeAxis (u : Nat) : Nat := 256 * (0x2100 + u) + 0x0b
def Obj.failoverEnable (u : Nat) : Nat := 256 * (0x2100 + u) + 0x0c
def Obj.failDetect (u : Nat) : Nat := 256 * (0x2100 + u) + 0x0d
def Obj.slipWindow (u : Nat) : Nat := 256 * (0x2100 + u) + 0x0e
def Obj.slipLimit (u : Nat) : Nat := 256 * (0x2100 + u) + 0x0f
def Obj.slipCount (u : Nat) : Nat := 256 * (0x2100 + u) + 0x10
def Obj.failoverCount (u : Nat) : Nat := 256 * (0x2100 + u) + 0x11
def Obj.failback (u : Nat) : Nat := 256 * (0x2100 + u) + 0x12
def Obj.lateHitLimit (u : Nat) : Nat := 256 * (0x2100 + u) + 0x13
def Obj.lateHitCount (u : Nat) : Nat := 256 * (0x2100 + u) + 0x14
def Obj.suspectFirst (u : Nat) : Nat := 256 * (0x2100 + u) + 0x15
def Obj.suspectLast (u : Nat) : Nat := 256 * (0x2100 + u) + 0x16
def Obj.lineRate (u : Nat) : Nat := 256 * (0x2100 + u) + 0x17

/-! Objects at 0x2140+p, R87 (03_web_position.md). -/
def Obj.trigLcg (u : Nat) : Nat := 256 * (0x2140 + u) + 0x01
def Obj.trigOffset (u : Nat) : Nat := 256 * (0x2140 + u) + 0x02
def Obj.portNextLix (u : Nat) : Nat := 256 * (0x2140 + u) + 0x03
def Obj.pendingLines (u : Nat) : Nat := 256 * (0x2140 + u) + 0x04
def Obj.portLateCount (u : Nat) : Nat := 256 * (0x2140 + u) + 0x05

/-! Objects at 0x2200+k, R91 (03_web_position.md). -/
def Obj.eyLcg (u : Nat) : Nat := 256 * (0x2200 + u) + 0x01
def Obj.eyTarget (u : Nat) : Nat := 256 * (0x2200 + u) + 0x02
def Obj.eyFrac (u : Nat) : Nat := 256 * (0x2200 + u) + 0x03
def Obj.eyAction (u : Nat) : Nat := 256 * (0x2200 + u) + 0x04
def Obj.eyOutput (u : Nat) : Nat := 256 * (0x2200 + u) + 0x05
def Obj.eyPulse (u : Nat) : Nat := 256 * (0x2200 + u) + 0x06
def Obj.eyRepeat (u : Nat) : Nat := 256 * (0x2200 + u) + 0x07
def Obj.eyArm (u : Nat) : Nat := 256 * (0x2200 + u) + 0x08
def Obj.eyState (u : Nat) : Nat := 256 * (0x2200 + u) + 0x09
def Obj.eyFireLix (u : Nat) : Nat := 256 * (0x2200 + u) + 0x0a
def Obj.eyFireTime (u : Nat) : Nat := 256 * (0x2200 + u) + 0x0b
def Obj.eyLateLines (u : Nat) : Nat := 256 * (0x2200 + u) + 0x0c

/-! Objects at 0x2300, R91 (03_web_position.md). -/
def Obj.lateWindow : Nat := 0x230001
def Obj.eyFired : Nat := 0x230002
def Obj.eyFiredLate : Nat := 0x230003
def Obj.eyRefusedLate : Nat := 0x230004

/-! Objects at 0x2010+i, R93 (03_web_position.md). -/
def Obj.evEnable (u : Nat) : Nat := 256 * (0x2010 + u) + 0x01
def Obj.evEdge (u : Nat) : Nat := 256 * (0x2010 + u) + 0x02
def Obj.evFilter (u : Nat) : Nat := 256 * (0x2010 + u) + 0x03
def Obj.evLcg (u : Nat) : Nat := 256 * (0x2010 + u) + 0x04
def Obj.evArmEyelet (u : Nat) : Nat := 256 * (0x2010 + u) + 0x05
def Obj.evArmDelay (u : Nat) : Nat := 256 * (0x2010 + u) + 0x06
def Obj.evCount (u : Nat) : Nat := 256 * (0x2010 + u) + 0x07
def Obj.evLastLix (u : Nat) : Nat := 256 * (0x2010 + u) + 0x08
def Obj.evLastFrac (u : Nat) : Nat := 256 * (0x2010 + u) + 0x09
def Obj.evLastTime (u : Nat) : Nat := 256 * (0x2010 + u) + 0x0a
def Obj.evArmMissed (u : Nat) : Nat := 256 * (0x2010 + u) + 0x0b

/-! Objects at 0x2400+p, R117 (04_camera_ingress.md). -/
def Obj.portEnable (u : Nat) : Nat := 256 * (0x2400 + u) + 0x01
def Obj.portState (u : Nat) : Nat := 256 * (0x2400 + u) + 0x02
def Obj.laneCount (u : Nat) : Nat := 256 * (0x2400 + u) + 0x03
def Obj.linkSpeed (u : Nat) : Nat := 256 * (0x2400 + u) + 0x04
def Obj.speedInUse (u : Nat) : Nat := 256 * (0x2400 + u) + 0x05
def Obj.pixelFormat (u : Nat) : Nat := 256 * (0x2400 + u) + 0x06
def Obj.streamPlanes (u : Nat) : Nat := 256 * (0x2400 + u) + 0x07
def Obj.lineWidth (u : Nat) : Nat := 256 * (0x2400 + u) + 0x08
def Obj.maxLineRate (u : Nat) : Nat := 256 * (0x2400 + u) + 0x09
def Obj.winMin (u : Nat) : Nat := 256 * (0x2400 + u) + 0x0a
def Obj.winMax (u : Nat) : Nat := 256 * (0x2400 + u) + 0x0b
def Obj.trigMode (u : Nat) : Nat := 256 * (0x2400 + u) + 0x0c
def Obj.trigPulse (u : Nat) : Nat := 256 * (0x2400 + u) + 0x0d
def Obj.trigPolarity (u : Nat) : Nat := 256 * (0x2400 + u) + 0x0e
def Obj.ackTimeout (u : Nat) : Nat := 256 * (0x2400 + u) + 0x0f
def Obj.heartbeatTimeout (u : Nat) : Nat := 256 * (0x2400 + u) + 0x10
def Obj.lanesLocked (u : Nat) : Nat := 256 * (0x2400 + u) + 0x11
def Obj.firedCount (u : Nat) : Nat := 256 * (0x2400 + u) + 0x12
def Obj.deliveredCount (u : Nat) : Nat := 256 * (0x2400 + u) + 0x13
def Obj.missingCount (u : Nat) : Nat := 256 * (0x2400 + u) + 0x14
def Obj.ledgerOutstanding (u : Nat) : Nat := 256 * (0x2400 + u) + 0x15
def Obj.unsolicitedCount (u : Nat) : Nat := 256 * (0x2400 + u) + 0x16
def Obj.shortCount (u : Nat) : Nat := 256 * (0x2400 + u) + 0x17
def Obj.longCount (u : Nat) : Nat := 256 * (0x2400 + u) + 0x18
def Obj.corruptCount (u : Nat) : Nat := 256 * (0x2400 + u) + 0x19
def Obj.overRateCount (u : Nat) : Nat := 256 * (0x2400 + u) + 0x1a
def Obj.overrunCount (u : Nat) : Nat := 256 * (0x2400 + u) + 0x1b
def Obj.unackedCount (u : Nat) : Nat := 256 * (0x2400 + u) + 0x1c
def Obj.lastLineTag (u : Nat) : Nat := 256 * (0x2400 + u) + 0x1d
def Obj.ctlAddress (u : Nat) : Nat := 256 * (0x2400 + u) + 0x20
def Obj.ctlLength (u : Nat) : Nat := 256 * (0x2400 + u) + 0x21
def Obj.ctlData (u : Nat) : Nat := 256 * (0x2400 + u) + 0x22
def Obj.ctlOp (u : Nat) : Nat := 256 * (0x2400 + u) + 0x23
def Obj.ctlStatus (u : Nat) : Nat := 256 * (0x2400 + u) + 0x24

/-! Objects at 0x2500+n, R118 (04_camera_ingress.md). -/
def Obj.laneLocked (u : Nat) : Nat := 256 * (0x2500 + u) + 0x01
def Obj.laneSpeed (u : Nat) : Nat := 256 * (0x2500 + u) + 0x02
def Obj.eqMode (u : Nat) : Nat := 256 * (0x2500 + u) + 0x03
def Obj.eqSetting (u : Nat) : Nat := 256 * (0x2500 + u) + 0x04
def Obj.codeErrors (u : Nat) : Nat := 256 * (0x2500 + u) + 0x05
def Obj.crcErrors (u : Nat) : Nat := 256 * (0x2500 + u) + 0x06
def Obj.lockLosses (u : Nat) : Nat := 256 * (0x2500 + u) + 0x07
def Obj.eyeMarginH (u : Nat) : Nat := 256 * (0x2500 + u) + 0x08
def Obj.eyeMarginV (u : Nat) : Nat := 256 * (0x2500 + u) + 0x09

/-! Objects at 0x3100+q, R139 (05_strip_engines.md). -/
def Obj.psetPort (u : Nat) : Nat := 256 * (0x3100 + u) + 0x01
def Obj.rawBlack (u : Nat) : Nat := 256 * (0x3100 + u) + 0x02
def Obj.tableBank (u : Nat) : Nat := 256 * (0x3100 + u) + 0x03
def Obj.nrEnable (u : Nat) : Nat := 256 * (0x3100 + u) + 0x04
def Obj.noiseRead2 (u : Nat) : Nat := 256 * (0x3100 + u) + 0x05
def Obj.noiseGain (u : Nat) : Nat := 256 * (0x3100 + u) + 0x06
def Obj.nrTemporal (u : Nat) : Nat := 256 * (0x3100 + u) + 0x07
def Obj.nrSpatial (u : Nat) : Nat := 256 * (0x3100 + u) + 0x08
def Obj.nrEdge (u : Nat) : Nat := 256 * (0x3100 + u) + 0x09
def Obj.psetMatrix (u : Nat) : Nat := 256 * (0x3100 + u) + 0x0a
def Obj.matrixOffset (u : Nat) : Nat := 256 * (0x3100 + u) + 0x0b
def Obj.camWrites (u : Nat) : Nat := 256 * (0x3100 + u) + 0x0c
def Obj.sensorDelay (u : Nat) : Nat := 256 * (0x3100 + u) + 0x0d
def Obj.commandLead (u : Nat) : Nat := 256 * (0x3100 + u) + 0x0e
def Obj.psetState (u : Nat) : Nat := 256 * (0x3100 + u) + 0x0f

/-! Objects at 0x3000+e, R149 (05_strip_engines.md). -/
def Obj.engineState (u : Nat) : Nat := 256 * (0x3000 + u) + 0x01
def Obj.engineLoad (u : Nat) : Nat := 256 * (0x3000 + u) + 0x02
def Obj.inlinePort (u : Nat) : Nat := 256 * (0x3000 + u) + 0x03
def Obj.mpPortMask (u : Nat) : Nat := 256 * (0x3000 + u) + 0x04
def Obj.engLinesOut (u : Nat) : Nat := 256 * (0x3000 + u) + 0x05
def Obj.jobsDone (u : Nat) : Nat := 256 * (0x3000 + u) + 0x06
def Obj.jobsLate (u : Nat) : Nat := 256 * (0x3000 + u) + 0x07
def Obj.linesDropped (u : Nat) : Nat := 256 * (0x3000 + u) + 0x08
def Obj.maxJobLag (u : Nat) : Nat := 256 * (0x3000 + u) + 0x09
def Obj.sramErrors (u : Nat) : Nat := 256 * (0x3000 + u) + 0x0a

/-! Objects at 0x3080+p, R150 (05_strip_engines.md). -/
def Obj.bindMode (u : Nat) : Nat := 256 * (0x3080 + u) + 0x01
def Obj.bindEngine (u : Nat) : Nat := 256 * (0x3080 + u) + 0x02
def Obj.engineInUse (u : Nat) : Nat := 256 * (0x3080 + u) + 0x03
def Obj.bindPriority (u : Nat) : Nat := 256 * (0x3080 + u) + 0x04
def Obj.mpDeadline (u : Nat) : Nat := 256 * (0x3080 + u) + 0x05
def Obj.mpFloor (u : Nat) : Nat := 256 * (0x3080 + u) + 0x06
def Obj.mpSlots (u : Nat) : Nat := 256 * (0x3080 + u) + 0x07
def Obj.mosaicRows (u : Nat) : Nat := 256 * (0x3080 + u) + 0x08
def Obj.mosaicCols (u : Nat) : Nat := 256 * (0x3080 + u) + 0x09
def Obj.mosaicPhase (u : Nat) : Nat := 256 * (0x3080 + u) + 0x0a
def Obj.mosaicPattern (u : Nat) (j : Nat) : Nat := 256 * (0x3080 + u) + 0x0b + j
def Obj.reconMode (u : Nat) : Nat := 256 * (0x3080 + u) + 0x0f
def Obj.guideChannel (u : Nat) : Nat := 256 * (0x3080 + u) + 0x10
def Obj.rowOffset (u : Nat) (j : Nat) : Nat := 256 * (0x3080 + u) + 0x11 + j
def Obj.outPlanes (u : Nat) : Nat := 256 * (0x3080 + u) + 0x15
def Obj.psetInitial (u : Nat) : Nat := 256 * (0x3080 + u) + 0x16
def Obj.psetTarget (u : Nat) : Nat := 256 * (0x3080 + u) + 0x17
def Obj.psetArm (u : Nat) : Nat := 256 * (0x3080 + u) + 0x18
def Obj.psetInForce (u : Nat) : Nat := 256 * (0x3080 + u) + 0x19
def Obj.psetArmed (u : Nat) : Nat := 256 * (0x3080 + u) + 0x1a
def Obj.psetIssueLix (u : Nat) : Nat := 256 * (0x3080 + u) + 0x1b
def Obj.psetSwitchLix (u : Nat) : Nat := 256 * (0x3080 + u) + 0x1c
def Obj.psetResult (u : Nat) : Nat := 256 * (0x3080 + u) + 0x1d
def Obj.lookahead (u : Nat) : Nat := 256 * (0x3080 + u) + 0x1e
def Obj.statsRing (u : Nat) : Nat := 256 * (0x3080 + u) + 0x1f
def Obj.statsCount (u : Nat) : Nat := 256 * (0x3080 + u) + 0x20
def Obj.tableBankSel (u : Nat) : Nat := 256 * (0x3080 + u) + 0x21
def Obj.tableData (u : Nat) : Nat := 256 * (0x3080 + u) + 0x22
def Obj.tableCrc (u : Nat) : Nat := 256 * (0x3080 + u) + 0x23
def Obj.tableSeal (u : Nat) : Nat := 256 * (0x3080 + u) + 0x24
def Obj.tableValid (u : Nat) : Nat := 256 * (0x3080 + u) + 0x25
def Obj.tableAddress (u : Nat) : Nat := 256 * (0x3080 + u) + 0x26
def Obj.ffMode (u : Nat) : Nat := 256 * (0x3080 + u) + 0x27
def Obj.ffLines (u : Nat) : Nat := 256 * (0x3080 + u) + 0x28
def Obj.ffTarget (u : Nat) : Nat := 256 * (0x3080 + u) + 0x29
def Obj.ffDefectLimit (u : Nat) : Nat := 256 * (0x3080 + u) + 0x2a
def Obj.ffState (u : Nat) : Nat := 256 * (0x3080 + u) + 0x2b
def Obj.ffLinesUsed (u : Nat) : Nat := 256 * (0x3080 + u) + 0x2c

/-! Objects at 0x3400+p, R172 (06_stitching.md). -/
def Obj.lastC0 (u : Nat) : Nat := 256 * (0x3400 + u) + 0x01
def Obj.lastC1 (u : Nat) : Nat := 256 * (0x3400 + u) + 0x02
def Obj.lastC2 (u : Nat) : Nat := 256 * (0x3400 + u) + 0x03
def Obj.lastC3 (u : Nat) : Nat := 256 * (0x3400 + u) + 0x04
def Obj.xCentre (u : Nat) : Nat := 256 * (0x3400 + u) + 0x05
def Obj.activeFirst (u : Nat) : Nat := 256 * (0x3400 + u) + 0x06
def Obj.activeLast (u : Nat) : Nat := 256 * (0x3400 + u) + 0x07
def Obj.mdOffset (u : Nat) : Nat := 256 * (0x3400 + u) + 0x08
def Obj.mdSkew (u : Nat) : Nat := 256 * (0x3400 + u) + 0x09
def Obj.expDelay (u : Nat) : Nat := 256 * (0x3400 + u) + 0x0a
def Obj.storePlanes (u : Nat) : Nat := 256 * (0x3400 + u) + 0x0b
def Obj.mdMin (u : Nat) : Nat := 256 * (0x3400 + u) + 0x0c
def Obj.mdMax (u : Nat) : Nat := 256 * (0x3400 + u) + 0x0d
def Obj.skewRangeCount (u : Nat) : Nat := 256 * (0x3400 + u) + 0x0e
def Obj.skewOverrunCount (u : Nat) : Nat := 256 * (0x3400 + u) + 0x0f
def Obj.portLateLines (u : Nat) : Nat := 256 * (0x3400 + u) + 0x10

/-! Objects at 0x3480+w, R173 (06_stitching.md). -/
def Obj.weltView (u : Nat) : Nat := 256 * (0x3480 + u) + 0x01
def Obj.weltLeft (u : Nat) : Nat := 256 * (0x3480 + u) + 0x02
def Obj.weltRight (u : Nat) : Nat := 256 * (0x3480 + u) + 0x03
def Obj.weltMode (u : Nat) : Nat := 256 * (0x3480 + u) + 0x04
def Obj.seamCd (u : Nat) : Nat := 256 * (0x3480 + u) + 0x05
def Obj.seamGuard (u : Nat) : Nat := 256 * (0x3480 + u) + 0x06
def Obj.zoneFirst (u : Nat) : Nat := 256 * (0x3480 + u) + 0x07
def Obj.zoneLast (u : Nat) : Nat := 256 * (0x3480 + u) + 0x08
def Obj.seamPos (u : Nat) : Nat := 256 * (0x3480 + u) + 0x09
def Obj.matchCount (u : Nat) : Nat := 256 * (0x3480 + u) + 0x0a
def Obj.fallbackCount (u : Nat) : Nat := 256 * (0x3480 + u) + 0x0b

/-! Objects at 0x3500+v, R174 (06_stitching.md). -/
def Obj.viewEnable (u : Nat) : Nat := 256 * (0x3500 + u) + 0x01
def Obj.viewLcg (u : Nat) : Nat := 256 * (0x3500 + u) + 0x02
def Obj.portMask (u : Nat) : Nat := 256 * (0x3500 + u) + 0x03
def Obj.viewWidth (u : Nat) : Nat := 256 * (0x3500 + u) + 0x04
def Obj.webPitch (u : Nat) : Nat := 256 * (0x3500 + u) + 0x05
def Obj.cdOrigin (u : Nat) : Nat := 256 * (0x3500 + u) + 0x06
def Obj.cdSign (u : Nat) : Nat := 256 * (0x3500 + u) + 0x07
def Obj.viewOutPlanes (u : Nat) : Nat := 256 * (0x3500 + u) + 0x08
def Obj.planeSrc (u : Nat) : Nat := 256 * (0x3500 + u) + 0x09
def Obj.resample (u : Nat) : Nat := 256 * (0x3500 + u) + 0x0a
def Obj.fillValue (u : Nat) : Nat := 256 * (0x3500 + u) + 0x0b
def Obj.viewDeadline (u : Nat) : Nat := 256 * (0x3500 + u) + 0x0c
def Obj.viewFloor (u : Nat) : Nat := 256 * (0x3500 + u) + 0x0d
def Obj.matchMode (u : Nat) : Nat := 256 * (0x3500 + u) + 0x0e
def Obj.matchRef (u : Nat) : Nat := 256 * (0x3500 + u) + 0x0f
def Obj.matchRate (u : Nat) : Nat := 256 * (0x3500 + u) + 0x10
def Obj.matchMin (u : Nat) : Nat := 256 * (0x3500 + u) + 0x11
def Obj.matchMax (u : Nat) : Nat := 256 * (0x3500 + u) + 0x12
def Obj.matchFloor (u : Nat) : Nat := 256 * (0x3500 + u) + 0x13
def Obj.matchCeil (u : Nat) : Nat := 256 * (0x3500 + u) + 0x14
def Obj.matchMinCount (u : Nat) : Nat := 256 * (0x3500 + u) + 0x15
def Obj.viewKind (u : Nat) : Nat := 256 * (0x3500 + u) + 0x16
def Obj.viewFirstLix (u : Nat) : Nat := 256 * (0x3500 + u) + 0x17
def Obj.viewLinesOut (u : Nat) : Nat := 256 * (0x3500 + u) + 0x18
def Obj.linesPending (u : Nat) : Nat := 256 * (0x3500 + u) + 0x19
def Obj.linesInvalid (u : Nat) : Nat := 256 * (0x3500 + u) + 0x1a
def Obj.viewLateLines (u : Nat) : Nat := 256 * (0x3500 + u) + 0x1b
def Obj.matchGain (u : Nat) : Nat := 256 * (0x3500 + u) + 0x1c
def Obj.matchTarget (u : Nat) : Nat := 256 * (0x3500 + u) + 0x1d
def Obj.lastStitchTag (u : Nat) : Nat := 256 * (0x3500 + u) + 0x1e

/-! Objects at 0x3510, R175 (06_stitching.md). -/
def Obj.skewSramErrors (j : Nat) : Nat := 0x351001 + j
def Obj.skewSpareRows (j : Nat) : Nat := 0x351003 + j

/-! Objects at 0x3600+v, R202 (07_segmentation.md). -/
def Obj.segEnable (u : Nat) : Nat := 256 * (0x3600 + u) + 0x01
def Obj.segPlane (u : Nat) : Nat := 256 * (0x3600 + u) + 0x02
def Obj.bgShift (u : Nat) : Nat := 256 * (0x3600 + u) + 0x03
def Obj.bgRadius (u : Nat) : Nat := 256 * (0x3600 + u) + 0x04
def Obj.bgGate (u : Nat) : Nat := 256 * (0x3600 + u) + 0x05
def Obj.bgReseed (u : Nat) : Nat := 256 * (0x3600 + u) + 0x06
def Obj.bgWarmup (u : Nat) : Nat := 256 * (0x3600 + u) + 0x07
def Obj.bgReset (u : Nat) : Nat := 256 * (0x3600 + u) + 0x08
def Obj.zoneCount (u : Nat) : Nat := 256 * (0x3600 + u) + 0x09
def Obj.runLimit (u : Nat) : Nat := 256 * (0x3600 + u) + 0x0a
def Obj.blobQuota (u : Nat) : Nat := 256 * (0x3600 + u) + 0x0b
def Obj.bridgeMax (u : Nat) : Nat := 256 * (0x3600 + u) + 0x0c
def Obj.streakLines (u : Nat) : Nat := 256 * (0x3600 + u) + 0x0d
def Obj.runsFound (u : Nat) : Nat := 256 * (0x3600 + u) + 0x0e
def Obj.runsDiscarded (u : Nat) : Nat := 256 * (0x3600 + u) + 0x0f
def Obj.runsLabelled (u : Nat) : Nat := 256 * (0x3600 + u) + 0x10
def Obj.runsFolded (u : Nat) : Nat := 256 * (0x3600 + u) + 0x11
def Obj.blobsOpened (u : Nat) : Nat := 256 * (0x3600 + u) + 0x12
def Obj.blobsMerged (u : Nat) : Nat := 256 * (0x3600 + u) + 0x13
def Obj.blobsClosed (u : Nat) : Nat := 256 * (0x3600 + u) + 0x14
def Obj.blobsFiltered (u : Nat) : Nat := 256 * (0x3600 + u) + 0x15
def Obj.openBlobs (u : Nat) : Nat := 256 * (0x3600 + u) + 0x16
def Obj.maxOpenBlobs (u : Nat) : Nat := 256 * (0x3600 + u) + 0x17
def Obj.segmentsOut (u : Nat) : Nat := 256 * (0x3600 + u) + 0x18
def Obj.satRecordsOut (u : Nat) : Nat := 256 * (0x3600 + u) + 0x19
def Obj.candidatesOut (u : Nat) : Nat := 256 * (0x3600 + u) + 0x1a
def Obj.linesSegmented (u : Nat) : Nat := 256 * (0x3600 + u) + 0x1b
def Obj.lastCandidate (u : Nat) : Nat := 256 * (0x3600 + u) + 0x1c
def Obj.nextSerial (u : Nat) : Nat := 256 * (0x3600 + u) + 0x1d
def Obj.reseedCount (u : Nat) : Nat := 256 * (0x3600 + u) + 0x1e
def Obj.settledPixels (u : Nat) : Nat := 256 * (0x3600 + u) + 0x1f
def Obj.blobsEmitted (u : Nat) : Nat := 256 * (0x3600 + u) + 0x20

/-! Objects at 0x3700+64v+z, R203 (07_segmentation.md). -/
def Obj.zoneStart (u : Nat) : Nat := 256 * (0x3700 + u) + 0x01
def Obj.hiBright (u : Nat) : Nat := 256 * (0x3700 + u) + 0x02
def Obj.loBright (u : Nat) : Nat := 256 * (0x3700 + u) + 0x03
def Obj.hiDark (u : Nat) : Nat := 256 * (0x3700 + u) + 0x04
def Obj.loDark (u : Nat) : Nat := 256 * (0x3700 + u) + 0x05
def Obj.minArea (u : Nat) : Nat := 256 * (0x3700 + u) + 0x06
def Obj.zoneRuns (u : Nat) : Nat := 256 * (0x3700 + u) + 0x07

/-! Objects at 0x3610+v, R204 (07_segmentation.md). -/
def Obj.patchW (u : Nat) : Nat := 256 * (0x3610 + u) + 0x01
def Obj.patchH (u : Nat) : Nat := 256 * (0x3610 + u) + 0x02
def Obj.patchChannels (u : Nat) : Nat := 256 * (0x3610 + u) + 0x03
def Obj.patchFit (u : Nat) : Nat := 256 * (0x3610 + u) + 0x04
def Obj.patchFill (u : Nat) : Nat := 256 * (0x3610 + u) + 0x05
def Obj.patchesRequested (u : Nat) : Nat := 256 * (0x3610 + u) + 0x06
def Obj.patchesCut (u : Nat) : Nat := 256 * (0x3610 + u) + 0x07
def Obj.patchesExpired (u : Nat) : Nat := 256 * (0x3610 + u) + 0x08
def Obj.patchesQueued (u : Nat) : Nat := 256 * (0x3610 + u) + 0x09
def Obj.patchesPartial (u : Nat) : Nat := 256 * (0x3610 + u) + 0x0a

/-! Objects at 0x3620, R204 (07_segmentation.md). -/
def Obj.blobTableUsed : Nat := 0x362001
def Obj.blobTableMax : Nat := 0x362002
def Obj.cropQueueMax : Nat := 0x362003
def Obj.segSramErrors : Nat := 0x362004

/-! Objects at 0x3800, R233 (08_classifier.md). -/
def Obj.clsEnable : Nat := 0x380001
def Obj.overloadMode : Nat := 0x380002
def Obj.clsMaxWait : Nat := 0x380003
def Obj.csTol : Nat := 0x380004
def Obj.maxAttempts : Nat := 0x380005
def Obj.retireCount : Nat := 0x380006
def Obj.retireWindow : Nat := 0x380007
def Obj.queueDepth : Nat := 0x380008
def Obj.queueMax : Nat := 0x380009
def Obj.clsRequests : Nat := 0x38000a
def Obj.classified : Nat := 0x38000b
def Obj.unverified : Nat := 0x38000c
def Obj.clsShed : Nat := 0x38000d
def Obj.notClassified : Nat := 0x38000e
def Obj.inFlight : Nat := 0x38000f
def Obj.reruns : Nat := 0x380010
def Obj.doubleFails : Nat := 0x380011
def Obj.satMvps : Nat := 0x380012
def Obj.activeArrays : Nat := 0x380013
def Obj.spareArrays : Nat := 0x380014
def Obj.lastResult : Nat := 0x380015
def Obj.clsSramErrors : Nat := 0x380016

/-! Objects at 0x3808+m, R234 (08_classifier.md). -/
def Obj.modelAddress (u : Nat) : Nat := 256 * (0x3808 + u) + 0x01
def Obj.modelData (u : Nat) : Nat := 256 * (0x3808 + u) + 0x02
def Obj.modelLoad (u : Nat) : Nat := 256 * (0x3808 + u) + 0x03
def Obj.modelSlotState (u : Nat) : Nat := 256 * (0x3808 + u) + 0x04
def Obj.modelLoadResult (u : Nat) : Nat := 256 * (0x3808 + u) + 0x05
def Obj.modelIdLoaded (u : Nat) : Nat := 256 * (0x3808 + u) + 0x06
def Obj.modelVersionLoaded (u : Nat) : Nat := 256 * (0x3808 + u) + 0x07
def Obj.modelMac (u : Nat) : Nat := 256 * (0x3808 + u) + 0x08
def Obj.modelMaxLoad (u : Nat) : Nat := 256 * (0x3808 + u) + 0x09
def Obj.modelRate (u : Nat) : Nat := 256 * (0x3808 + u) + 0x0a
def Obj.modelLatency (u : Nat) : Nat := 256 * (0x3808 + u) + 0x0b
def Obj.modelUsers (u : Nat) : Nat := 256 * (0x3808 + u) + 0x0c
def Obj.modelUnload (u : Nat) : Nat := 256 * (0x3808 + u) + 0x0d

/-! Objects at 0x3810+v, R235 (08_classifier.md). -/
def Obj.modelSel (u : Nat) : Nat := 256 * (0x3810 + u) + 0x01
def Obj.classifyKinds (u : Nat) : Nat := 256 * (0x3810 + u) + 0x02
def Obj.viewClassified (u : Nat) : Nat := 256 * (0x3810 + u) + 0x03
def Obj.viewShed (u : Nat) : Nat := 256 * (0x3810 + u) + 0x04

/-! Objects at 0x3840+a, R236 (08_classifier.md). -/
def Obj.arrayState (u : Nat) : Nat := 256 * (0x3840 + u) + 0x01
def Obj.logicalArray (u : Nat) : Nat := 256 * (0x3840 + u) + 0x02
def Obj.mvpCount (u : Nat) : Nat := 256 * (0x3840 + u) + 0x03
def Obj.csFails (u : Nat) : Nat := 256 * (0x3840 + u) + 0x04
def Obj.blames (u : Nat) : Nat := 256 * (0x3840 + u) + 0x05
def Obj.arrayLoad (u : Nat) : Nat := 256 * (0x3840 + u) + 0x06
def Obj.retireTime (u : Nat) : Nat := 256 * (0x3840 + u) + 0x07
def Obj.arrayRetire (u : Nat) : Nat := 256 * (0x3840 + u) + 0x08

/-! Objects at 0x3A00+s, R256 (09_publishing.md). -/
def Obj.stallState (u : Nat) : Nat := 256 * (0x3a00 + u) + 0x01
def Obj.stallClaim (u : Nat) : Nat := 256 * (0x3a00 + u) + 0x02
def Obj.stallOwner (u : Nat) : Nat := 256 * (0x3a00 + u) + 0x03
def Obj.stallOpen (u : Nat) : Nat := 256 * (0x3a00 + u) + 0x04
def Obj.stallClose (u : Nat) : Nat := 256 * (0x3a00 + u) + 0x05
def Obj.stallPersistent (u : Nat) : Nat := 256 * (0x3a00 + u) + 0x06
def Obj.stallTransport (u : Nat) : Nat := 256 * (0x3a00 + u) + 0x07
def Obj.destAddr (u : Nat) : Nat := 256 * (0x3a00 + u) + 0x08
def Obj.destPort (u : Nat) : Nat := 256 * (0x3a00 + u) + 0x09
def Obj.pubMtu (u : Nat) : Nat := 256 * (0x3a00 + u) + 0x0a
def Obj.stallContent (u : Nat) : Nat := 256 * (0x3a00 + u) + 0x0b
def Obj.viewMask (u : Nat) : Nat := 256 * (0x3a00 + u) + 0x0c
def Obj.kindMask (u : Nat) : Nat := 256 * (0x3a00 + u) + 0x0d
def Obj.reasonMask (u : Nat) : Nat := 256 * (0x3a00 + u) + 0x0e
def Obj.classMask (u : Nat) : Nat := 256 * (0x3a00 + u) + 0x0f
def Obj.minConfidence (u : Nat) : Nat := 256 * (0x3a00 + u) + 0x10
def Obj.minPeak (u : Nat) : Nat := 256 * (0x3a00 + u) + 0x11
def Obj.lvMask (u : Nat) : Nat := 256 * (0x3a00 + u) + 0x12
def Obj.stallPriority (u : Nat) : Nat := 256 * (0x3a00 + u) + 0x13
def Obj.creditMode (u : Nat) : Nat := 256 * (0x3a00 + u) + 0x14
def Obj.creditLimit (u : Nat) : Nat := 256 * (0x3a00 + u) + 0x15
def Obj.stallRateLimit (u : Nat) : Nat := 256 * (0x3a00 + u) + 0x16
def Obj.queueBytes (u : Nat) : Nat := 256 * (0x3a00 + u) + 0x17
def Obj.dropPolicy (u : Nat) : Nat := 256 * (0x3a00 + u) + 0x18
def Obj.stallFlush (u : Nat) : Nat := 256 * (0x3a00 + u) + 0x19
def Obj.stallTagged (u : Nat) : Nat := 256 * (0x3a00 + u) + 0x1a
def Obj.launchMode (u : Nat) : Nat := 256 * (0x3a00 + u) + 0x1b
def Obj.launchOffset (u : Nat) : Nat := 256 * (0x3a00 + u) + 0x1c
def Obj.lateLaunch (u : Nat) : Nat := 256 * (0x3a00 + u) + 0x1d
def Obj.patchFetch (u : Nat) : Nat := 256 * (0x3a00 + u) + 0x1e
def Obj.datagramSeq (u : Nat) : Nat := 256 * (0x3a00 + u) + 0x1f
def Obj.itemsOffered (u : Nat) : Nat := 256 * (0x3a00 + u) + 0x20
def Obj.filteredOut (u : Nat) : Nat := 256 * (0x3a00 + u) + 0x21
def Obj.itemsQueued (u : Nat) : Nat := 256 * (0x3a00 + u) + 0x22
def Obj.itemsSent (u : Nat) : Nat := 256 * (0x3a00 + u) + 0x23
def Obj.itemsDropped (u : Nat) : Nat := 256 * (0x3a00 + u) + 0x24
def Obj.itemsInQueue (u : Nat) : Nat := 256 * (0x3a00 + u) + 0x25
def Obj.queuedBytes (u : Nat) : Nat := 256 * (0x3a00 + u) + 0x26
def Obj.queueMaxBytes (u : Nat) : Nat := 256 * (0x3a00 + u) + 0x27
def Obj.lateCount (u : Nat) : Nat := 256 * (0x3a00 + u) + 0x28
def Obj.stallKey (u : Nat) : Nat := 256 * (0x3a00 + u) + 0x29

/-! Objects at 0x3C00+c, R257 (09_publishing.md). -/
def Obj.lvEnable (u : Nat) : Nat := 256 * (0x3c00 + u) + 0x01
def Obj.lvView (u : Nat) : Nat := 256 * (0x3c00 + u) + 0x02
def Obj.lvSource (u : Nat) : Nat := 256 * (0x3c00 + u) + 0x03
def Obj.lvCdFirst (u : Nat) : Nat := 256 * (0x3c00 + u) + 0x04
def Obj.lvCdLast (u : Nat) : Nat := 256 * (0x3c00 + u) + 0x05
def Obj.cdScale (u : Nat) : Nat := 256 * (0x3c00 + u) + 0x06
def Obj.mdScale (u : Nat) : Nat := 256 * (0x3c00 + u) + 0x07
def Obj.lvDecimate (u : Nat) : Nat := 256 * (0x3c00 + u) + 0x08
def Obj.lvFormat (u : Nat) : Nat := 256 * (0x3c00 + u) + 0x09
def Obj.lvBlack (u : Nat) : Nat := 256 * (0x3c00 + u) + 0x0a
def Obj.lvGain (u : Nat) : Nat := 256 * (0x3c00 + u) + 0x0b
def Obj.lvPalette (u : Nat) : Nat := 256 * (0x3c00 + u) + 0x0c
def Obj.lvNoData (u : Nat) : Nat := 256 * (0x3c00 + u) + 0x0d
def Obj.overlayMode (u : Nat) : Nat := 256 * (0x3c00 + u) + 0x0e
def Obj.overlayClassMask (u : Nat) : Nat := 256 * (0x3c00 + u) + 0x0f
def Obj.overlayValue (u : Nat) : Nat := 256 * (0x3c00 + u) + 0x10
def Obj.overlayHold (u : Nat) : Nat := 256 * (0x3c00 + u) + 0x11
def Obj.lvFlush (u : Nat) : Nat := 256 * (0x3c00 + u) + 0x12
def Obj.lvCompress (u : Nat) : Nat := 256 * (0x3c00 + u) + 0x13
def Obj.lvHistory (u : Nat) : Nat := 256 * (0x3c00 + u) + 0x14
def Obj.lvFirstLix (u : Nat) : Nat := 256 * (0x3c00 + u) + 0x15
def Obj.tilesOut (u : Nat) : Nat := 256 * (0x3c00 + u) + 0x16
def Obj.overlayMissed (u : Nat) : Nat := 256 * (0x3c00 + u) + 0x17
def Obj.lastTileHeader (u : Nat) : Nat := 256 * (0x3c00 + u) + 0x18

/-! Objects at 0x3D00, R258 (09_publishing.md). -/
def Obj.recordsMade : Nat := 0x3d0001
def Obj.lastRecord : Nat := 0x3d0002
def Obj.patchStoreBytes : Nat := 0x3d0003
def Obj.patchesStored : Nat := 0x3d0004
def Obj.patchesEvicted : Nat := 0x3d0005
def Obj.openStalls : Nat := 0x3d0006
def Obj.freeStallHint : Nat := 0x3d0007
def Obj.lvLoad : Nat := 0x3d0008
def Obj.launchQueueMax : Nat := 0x3d0009

/-! Objects at 0x4000, R280 (10_calibration.md). -/
def Obj.calEnable : Nat := 0x400001
def Obj.calInterval : Nat := 0x400002
def Obj.calTempDelta : Nat := 0x400003
def Obj.calSamples : Nat := 0x400004
def Obj.offAgree : Nat := 0x400005
def Obj.gainAgree : Nat := 0x400006
def Obj.inlLimit : Nat := 0x400007
def Obj.rampOffStep : Nat := 0x400008
def Obj.rampGainStep : Nat := 0x400009
def Obj.rampPeriod : Nat := 0x40000a
def Obj.calStoreMode : Nat := 0x40000b
def Obj.calLixLcg : Nat := 0x40000c
def Obj.calStart : Nat := 0x40000d
def Obj.calRuns : Nat := 0x40000e
def Obj.calCycles : Nat := 0x40000f
def Obj.lastCalTime : Nat := 0x400010
def Obj.lastCalLix : Nat := 0x400011
def Obj.calQueue : Nat := 0x400012
def Obj.calBorrowed : Nat := 0x400013
def Obj.calDeferred : Nat := 0x400014
def Obj.disagreements : Nat := 0x400015
def Obj.calHold : Nat := 0x400016
def Obj.recordSeq : Nat := 0x400017
def Obj.recordWrites : Nat := 0x400018
def Obj.recordsCorrupt : Nat := 0x400019
def Obj.calRecordSel : Nat := 0x40001a
def Obj.calRecord : Nat := 0x40001b
def Obj.calRecordLoad : Nat := 0x40001c

/-! Objects at 0x4010, R280 (10_calibration.md). -/
def Obj.refTrim : Nat := 0x401001
def Obj.bgDiff : Nat := 0x401002
def Obj.bgLimit : Nat := 0x401003
def Obj.refFaults : Nat := 0x401004
def Obj.clsTemp : Nat := 0x401005

/-! Objects at 0x4040+a, R281 (10_calibration.md). -/
def Obj.arrCalState (u : Nat) : Nat := 256 * (0x4040 + u) + 0x01
def Obj.arrCalCount (u : Nat) : Nat := 256 * (0x4040 + u) + 0x02
def Obj.arrCalTime (u : Nat) : Nat := 256 * (0x4040 + u) + 0x03
def Obj.arrCalLix (u : Nat) : Nat := 256 * (0x4040 + u) + 0x04
def Obj.arrCalTemp (u : Nat) : Nat := 256 * (0x4040 + u) + 0x05
def Obj.fitColumns (u : Nat) : Nat := 256 * (0x4040 + u) + 0x06
def Obj.sparesLeft (u : Nat) : Nat := 256 * (0x4040 + u) + 0x07
def Obj.columnMoves (u : Nat) : Nat := 256 * (0x4040 + u) + 0x08
def Obj.unstableColumns (u : Nat) : Nat := 256 * (0x4040 + u) + 0x09
def Obj.columnMap (u : Nat) : Nat := 256 * (0x4040 + u) + 0x0a
def Obj.columnTrims (u : Nat) : Nat := 256 * (0x4040 + u) + 0x0b
def Obj.columnTargets (u : Nat) : Nat := 256 * (0x4040 + u) + 0x0c
def Obj.ladderTrim (u : Nat) : Nat := 256 * (0x4040 + u) + 0x0d
def Obj.recordSource (u : Nat) : Nat := 256 * (0x4040 + u) + 0x0e
def Obj.recordDirty (u : Nat) : Nat := 256 * (0x4040 + u) + 0x0f

/-! Objects at 0x1100, R300 (11_dependability.md). -/
def Obj.deviceHealth : Nat := 0x110001
def Obj.logSeq : Nat := 0x110002
def Obj.logOldest : Nat := 0x110003
def Obj.logReadSeq : Nat := 0x110004
def Obj.logBlock : Nat := 0x110005
def Obj.logMinSeverity : Nat := 0x110006
def Obj.faultHistory : Nat := 0x110007

/-! Objects at 0x1200, R301 (11_dependability.md). -/
def Obj.tallyChecks : Nat := 0x120001
def Obj.tallyFailures : Nat := 0x120002
def Obj.lastTally : Nat := 0x120003
def Obj.clsWaiting : Nat := 0x120004

/-! Objects at 0x1220+p, R301 (11_dependability.md). -/
def Obj.portCorrected (u : Nat) : Nat := 256 * (0x1220 + u) + 0x01
def Obj.engineInFlight (u : Nat) : Nat := 256 * (0x1220 + u) + 0x02
def Obj.portTallyStrip (u : Nat) : Nat := 256 * (0x1220 + u) + 0x03

/-! Objects at 0x4200, R302 (11_dependability.md). -/
def Obj.auditEnable : Nat := 0x420001
def Obj.auditEngine : Nat := 0x420002
def Obj.auditTarget : Nat := 0x420003
def Obj.auditStrips : Nat := 0x420004
def Obj.auditMismatches : Nat := 0x420005
def Obj.repairsDone : Nat := 0x420006
def Obj.repairsActive : Nat := 0x420007
def Obj.lastRepairTime : Nat := 0x420008
def Obj.repairInterruption : Nat := 0x420009
def Obj.maxInterruption : Nat := 0x42000a
def Obj.engineRetire : Nat := 0x42000b
def Obj.webPipeErrors : Nat := 0x42000c
def Obj.uncorrectableErrors : Nat := 0x42000d
def Obj.rowsReplaced : Nat := 0x42000e
def Obj.spareRowsLeft : Nat := 0x42000f

/-! Objects at 0x4210, R302 (11_dependability.md). -/
def Obj.rangeCount : Nat := 0x421001
def Obj.rangeReadSeq : Nat := 0x421002
def Obj.rangeBlock : Nat := 0x421003

/-! Objects at 0x4220+v, R302 (11_dependability.md). -/
def Obj.dlLines (u : Nat) (j : Nat) : Nat := 256 * (0x4220 + u) + 0x01 + j
def Obj.dlFloor (u : Nat) (j : Nat) : Nat := 256 * (0x4220 + u) + 0x05 + j
def Obj.dlFaults (u : Nat) (j : Nat) : Nat := 256 * (0x4220 + u) + 0x09 + j

/-! Objects at 0x4400, R319 (12_pair_operation.md). -/
def Obj.pairEnable : Nat := 0x440001
def Obj.pairPosition : Nat := 0x440002
def Obj.pairRole : Nat := 0x440003
def Obj.partnerRole : Nat := 0x440004
def Obj.linkState : Nat := 0x440005
def Obj.pairPartnerKey : Nat := 0x440006
def Obj.pairSwitch : Nat := 0x440007
def Obj.hbTimeout : Nat := 0x440008
def Obj.joinWait : Nat := 0x440009
def Obj.failoverMask : Nat := 0x44000a
def Obj.confTol : Nat := 0x44000b
def Obj.tieTol : Nat := 0x44000c
def Obj.classDisagreeLimit : Nat := 0x44000d
def Obj.unexplainedLimit : Nat := 0x44000e
def Obj.syncLead : Nat := 0x44000f
def Obj.syncBufferLines : Nat := 0x440010
def Obj.syncLix : Nat := 0x440011
def Obj.joinResult : Nat := 0x440012
def Obj.failovers : Nat := 0x440013
def Obj.lastFailoverKind : Nat := 0x440014
def Obj.pairInterruption : Nat := 0x440015
def Obj.lastFailoverTime : Nat := 0x440016
def Obj.digestsCompared : Nat := 0x440017
def Obj.digestMismatches : Nat := 0x440018
def Obj.inputDivergences : Nat := 0x440019
def Obj.unexplainedStrips : Nat := 0x44001a
def Obj.classCompared : Nat := 0x44001b
def Obj.classDisagreed : Nat := 0x44001c
def Obj.classNotCompared : Nat := 0x44001d
def Obj.lastDigest : Nat := 0x44001e
def Obj.mirrorLagMax : Nat := 0x44001f
def Obj.linkErrors : Nat := 0x440020

/-! Objects at 0x4800, R339 (13_memory.md). -/
def Obj.memSpeed : Nat := 0x480001
def Obj.memSustained : Nat := 0x480002
def Obj.rtAdmitted : Nat := 0x480003
def Obj.rtBudget : Nat := 0x480004
def Obj.pageIdleRt : Nat := 0x480005
def Obj.pageIdleBulk : Nat := 0x480006
def Obj.minMargin : Nat := 0x480007
def Obj.retrainInterval : Nat := 0x480008
def Obj.retrainTempDelta : Nat := 0x480009
def Obj.ceRetrain : Nat := 0x48000a
def Obj.scrubPeriod : Nat := 0x48000b
def Obj.reserveMiBRt : Nat := 0x48000c
def Obj.reserveMiBBulk : Nat := 0x48000d
def Obj.fencedCount : Nat := 0x48000e
def Obj.forcedRefreshes : Nat := 0x48000f
def Obj.stackTemp : Nat := 0x480010

/-! Objects at 0x4810+r, R340 (13_memory.md). -/
def Obj.regionSize (u : Nat) : Nat := 256 * (0x4810 + u) + 0x01
def Obj.regionBase (u : Nat) : Nat := 256 * (0x4810 + u) + 0x02
def Obj.regionClass (u : Nat) : Nat := 256 * (0x4810 + u) + 0x03
def Obj.regionState (u : Nat) : Nat := 256 * (0x4810 + u) + 0x04
def Obj.regionBytesLost (u : Nat) : Nat := 256 * (0x4810 + u) + 0x05
def Obj.regionUsed (u : Nat) : Nat := 256 * (0x4810 + u) + 0x06

/-! Objects at 0x4820+i, R341 (13_memory.md). -/
def Obj.latTarget (u : Nat) : Nat := 256 * (0x4820 + u) + 0x01
def Obj.latMisses (u : Nat) : Nat := 256 * (0x4820 + u) + 0x02
def Obj.latMax (u : Nat) : Nat := 256 * (0x4820 + u) + 0x03
def Obj.portBytes (u : Nat) : Nat := 256 * (0x4820 + u) + 0x04

/-! Objects at 0x4840+n, R342 (13_memory.md). -/
def Obj.pcClass (u : Nat) : Nat := 256 * (0x4840 + u) + 0x01
def Obj.pcState (u : Nat) : Nat := 256 * (0x4840 + u) + 0x02
def Obj.ceCount (u : Nat) : Nat := 256 * (0x4840 + u) + 0x03
def Obj.ueCount (u : Nat) : Nat := 256 * (0x4840 + u) + 0x04
def Obj.marginH (u : Nat) : Nat := 256 * (0x4840 + u) + 0x05
def Obj.marginV (u : Nat) : Nat := 256 * (0x4840 + u) + 0x06
def Obj.lastTrainTime (u : Nat) : Nat := 256 * (0x4840 + u) + 0x07
def Obj.rsvUsed (u : Nat) : Nat := 256 * (0x4840 + u) + 0x08
def Obj.pcFence (u : Nat) : Nat := 256 * (0x4840 + u) + 0x09

/-! Objects at 0x5000, R361 (14_network_time.md). -/
def Obj.serviceMac : Nat := 0x500001

/-! Objects at 0x5010+q, R361 (14_network_time.md). -/
def Obj.netEnable (u : Nat) : Nat := 256 * (0x5010 + u) + 0x01
def Obj.linkUp (u : Nat) : Nat := 256 * (0x5010 + u) + 0x02
def Obj.netMode (u : Nat) : Nat := 256 * (0x5010 + u) + 0x03
def Obj.fecMode (u : Nat) : Nat := 256 * (0x5010 + u) + 0x04
def Obj.maxFrame (u : Nat) : Nat := 256 * (0x5010 + u) + 0x05
def Obj.localIpA (u : Nat) : Nat := 256 * (0x5010 + u) + 0x06
def Obj.localIpB (u : Nat) : Nat := 256 * (0x5010 + u) + 0x07
def Obj.prefixLen (u : Nat) : Nat := 256 * (0x5010 + u) + 0x08
def Obj.gateway (u : Nat) : Nat := 256 * (0x5010 + u) + 0x09
def Obj.serviceIp (u : Nat) : Nat := 256 * (0x5010 + u) + 0x0a
def Obj.vlanId (u : Nat) : Nat := 256 * (0x5010 + u) + 0x0b
def Obj.pcp (u : Nat) : Nat := 256 * (0x5010 + u) + 0x0c
def Obj.ingressLatency (u : Nat) : Nat := 256 * (0x5010 + u) + 0x0d
def Obj.egressLatency (u : Nat) : Nat := 256 * (0x5010 + u) + 0x0e
def Obj.delayAsymmetry (u : Nat) : Nat := 256 * (0x5010 + u) + 0x0f
def Obj.portMac (u : Nat) : Nat := 256 * (0x5010 + u) + 0x10
def Obj.framesIn (u : Nat) : Nat := 256 * (0x5010 + u) + 0x11
def Obj.framesOut (u : Nat) : Nat := 256 * (0x5010 + u) + 0x12
def Obj.fcsErrors (u : Nat) : Nat := 256 * (0x5010 + u) + 0x13
def Obj.rxDropped (u : Nat) : Nat := 256 * (0x5010 + u) + 0x14
def Obj.launchQueueDepth (u : Nat) : Nat := 256 * (0x5010 + u) + 0x15
def Obj.launchSlips (u : Nat) : Nat := 256 * (0x5010 + u) + 0x16
def Obj.ptpIgnored (u : Nat) : Nat := 256 * (0x5010 + u) + 0x17

/-! Objects at 0x5100, R362 (14_network_time.md). -/
def Obj.webTimeNow : Nat := 0x510001
def Obj.webTimeFull : Nat := 0x510002
def Obj.epochCount : Nat := 0x510003
def Obj.servoState : Nat := 0x510004
def Obj.selectedDomain : Nat := 0x510005
def Obj.autoSwitch : Nat := 0x510006
def Obj.kp : Nat := 0x510007
def Obj.ki : Nat := 0x510008
def Obj.freqLimit : Nat := 0x510009
def Obj.slewMax : Nat := 0x51000a
def Obj.stepThreshold : Nat := 0x51000b
def Obj.stepConfirm : Nat := 0x51000c
def Obj.stepForward : Nat := 0x51000d
def Obj.timeStep : Nat := 0x51000e
def Obj.servoOffset : Nat := 0x51000f
def Obj.freqInt : Nat := 0x510010
def Obj.freqApplied : Nat := 0x510011
def Obj.outlierCount : Nat := 0x510012
def Obj.stepCount : Nat := 0x510013
def Obj.switchCount : Nat := 0x510014
def Obj.timeValid : Nat := 0x510015
def Obj.holdoverLimit : Nat := 0x510016
def Obj.utcOffset : Nat := 0x510017
def Obj.timescale : Nat := 0x510018

/-! Objects at 0x5110+d, R363 (14_network_time.md). -/
def Obj.domainEnable (u : Nat) : Nat := 256 * (0x5110 + u) + 0x01
def Obj.domainNumber (u : Nat) : Nat := 256 * (0x5110 + u) + 0x02
def Obj.domainPorts (u : Nat) : Nat := 256 * (0x5110 + u) + 0x03
def Obj.ptpTransport (u : Nat) : Nat := 256 * (0x5110 + u) + 0x04
def Obj.delayMech (u : Nat) : Nat := 256 * (0x5110 + u) + 0x05
def Obj.logDelayReqInterval (u : Nat) : Nat := 256 * (0x5110 + u) + 0x06
def Obj.announceTimeout (u : Nat) : Nat := 256 * (0x5110 + u) + 0x07
def Obj.domainState (u : Nat) : Nat := 256 * (0x5110 + u) + 0x08
def Obj.grandmasterId (u : Nat) : Nat := 256 * (0x5110 + u) + 0x09
def Obj.masterPort (u : Nat) : Nat := 256 * (0x5110 + u) + 0x0a
def Obj.domainOffset (u : Nat) : Nat := 256 * (0x5110 + u) + 0x0b
def Obj.meanPathDelay (u : Nat) : Nat := 256 * (0x5110 + u) + 0x0c
def Obj.stepsRemoved (u : Nat) : Nat := 256 * (0x5110 + u) + 0x0d
def Obj.syncCount (u : Nat) : Nat := 256 * (0x5110 + u) + 0x0e
def Obj.lossCount (u : Nat) : Nat := 256 * (0x5110 + u) + 0x0f

/-! Objects at 0x5800+c, R387 (15_data_movement.md). -/
def Obj.chanDescAddr (u : Nat) : Nat := 256 * (0x5800 + u) + 0x01
def Obj.chanDescSpace (u : Nat) : Nat := 256 * (0x5800 + u) + 0x02
def Obj.chanStart (u : Nat) : Nat := 256 * (0x5800 + u) + 0x03
def Obj.chanKick (u : Nat) : Nat := 256 * (0x5800 + u) + 0x04
def Obj.chanAbort (u : Nat) : Nat := 256 * (0x5800 + u) + 0x05
def Obj.chanState (u : Nat) : Nat := 256 * (0x5800 + u) + 0x06
def Obj.chanWaitCause (u : Nat) : Nat := 256 * (0x5800 + u) + 0x07
def Obj.chanPriority (u : Nat) : Nat := 256 * (0x5800 + u) + 0x08
def Obj.paceEvent (u : Nat) : Nat := 256 * (0x5800 + u) + 0x09
def Obj.paceArg (u : Nat) : Nat := 256 * (0x5800 + u) + 0x0a
def Obj.chanRateLimit (u : Nat) : Nat := 256 * (0x5800 + u) + 0x0b
def Obj.eventCredit (u : Nat) : Nat := 256 * (0x5800 + u) + 0x0c
def Obj.eventsLost (u : Nat) : Nat := 256 * (0x5800 + u) + 0x0d
def Obj.chanVector (u : Nat) : Nat := 256 * (0x5800 + u) + 0x0e
def Obj.chanIrqCause (u : Nat) : Nat := 256 * (0x5800 + u) + 0x0f
def Obj.chanIrqAck (u : Nat) : Nat := 256 * (0x5800 + u) + 0x10
def Obj.eocMode (u : Nat) : Nat := 256 * (0x5800 + u) + 0x11
def Obj.eocCount (u : Nat) : Nat := 256 * (0x5800 + u) + 0x12
def Obj.eocRemaining (u : Nat) : Nat := 256 * (0x5800 + u) + 0x13
def Obj.eocFlag (u : Nat) : Nat := 256 * (0x5800 + u) + 0x14
def Obj.eocAck (u : Nat) : Nat := 256 * (0x5800 + u) + 0x15
def Obj.chanCurDesc (u : Nat) : Nat := 256 * (0x5800 + u) + 0x16
def Obj.chanLastStatus (u : Nat) : Nat := 256 * (0x5800 + u) + 0x17
def Obj.chanDescDone (u : Nat) : Nat := 256 * (0x5800 + u) + 0x18
def Obj.chanBytes (u : Nat) : Nat := 256 * (0x5800 + u) + 0x19

/-! Objects at 0x5840, R387 (15_data_movement.md). -/
def Obj.dmaBytesTotal : Nat := 0x584001
def Obj.dmaRunning : Nat := 0x584002
def Obj.dmaHostErrors : Nat := 0x584003
def Obj.powerDrainMax : Nat := 0x584004

/-! Objects at 0x5880+e, R388 (15_data_movement.md). -/
def Obj.cmpBlockSize (u : Nat) : Nat := 256 * (0x5880 + u) + 0x01
def Obj.cmpBytesIn (u : Nat) : Nat := 256 * (0x5880 + u) + 0x02
def Obj.cmpBytesOut (u : Nat) : Nat := 256 * (0x5880 + u) + 0x03
def Obj.cmpBlocksStored (u : Nat) : Nat := 256 * (0x5880 + u) + 0x04
def Obj.cmpBlocksRun (u : Nat) : Nat := 256 * (0x5880 + u) + 0x05
def Obj.cmpTiles (u : Nat) : Nat := 256 * (0x5880 + u) + 0x06

/-! Objects at 0x5884+e, R388 (15_data_movement.md). -/
def Obj.dcmBytesIn (u : Nat) : Nat := 256 * (0x5884 + u) + 0x01
def Obj.dcmBytesOut (u : Nat) : Nat := 256 * (0x5884 + u) + 0x02
def Obj.dcmErrors (u : Nat) : Nat := 256 * (0x5884 + u) + 0x03
def Obj.dcmLastError (u : Nat) : Nat := 256 * (0x5884 + u) + 0x04
def Obj.dcmLimitStops (u : Nat) : Nat := 256 * (0x5884 + u) + 0x05

/-! Objects at 0x5C00, R408 (16_host_and_board_buses.md). -/
def Obj.pcieSpeed : Nat := 0x5c0001
def Obj.pcieWidth : Nat := 0x5c0002
def Obj.pcieMaxSpeed : Nat := 0x5c0003
def Obj.mbxVector : Nat := 0x5c0004
def Obj.eventVector : Nat := 0x5c0005
def Obj.pcieBadAccess : Nat := 0x5c0006
def Obj.mbxOverruns : Nat := 0x5c0007
def Obj.mbxDropped : Nat := 0x5c0008
def Obj.pcieWinMisses : Nat := 0x5c0009
def Obj.aerCorrectable : Nat := 0x5c000a
def Obj.aerUncorrectable : Nat := 0x5c000b
def Obj.flrCount : Nat := 0x5c000c

/-! Objects at 0x5C40+r, R408 (16_host_and_board_buses.md). -/
def Obj.ringEnabled (u : Nat) : Nat := 256 * (0x5c40 + u) + 0x01
def Obj.ringTailNow (u : Nat) : Nat := 256 * (0x5c40 + u) + 0x02
def Obj.ringFullWaits (u : Nat) : Nat := 256 * (0x5c40 + u) + 0x03

/-! Objects at 0x5D00+k, R409 (16_host_and_board_buses.md). -/
def Obj.twcEnable (u : Nat) : Nat := 256 * (0x5d00 + u) + 0x01
def Obj.twcRate (u : Nat) : Nat := 256 * (0x5d00 + u) + 0x02
def Obj.twcFilter (u : Nat) : Nat := 256 * (0x5d00 + u) + 0x03
def Obj.twcAddr (u : Nat) : Nat := 256 * (0x5d00 + u) + 0x04
def Obj.twcTxData (u : Nat) : Nat := 256 * (0x5d00 + u) + 0x05
def Obj.twcRxLen (u : Nat) : Nat := 256 * (0x5d00 + u) + 0x06
def Obj.twcOp (u : Nat) : Nat := 256 * (0x5d00 + u) + 0x07
def Obj.twcStatus (u : Nat) : Nat := 256 * (0x5d00 + u) + 0x08
def Obj.twcRxData (u : Nat) : Nat := 256 * (0x5d00 + u) + 0x09
def Obj.twcBytesDone (u : Nat) : Nat := 256 * (0x5d00 + u) + 0x0a
def Obj.twcLossDetail (u : Nat) : Nat := 256 * (0x5d00 + u) + 0x0b
def Obj.twcRetries (u : Nat) : Nat := 256 * (0x5d00 + u) + 0x0c
def Obj.twcStretchMax (u : Nat) : Nat := 256 * (0x5d00 + u) + 0x0d
def Obj.twcStuckTime (u : Nat) : Nat := 256 * (0x5d00 + u) + 0x0e
def Obj.twcArbLost (u : Nat) : Nat := 256 * (0x5d00 + u) + 0x0f
def Obj.twcBusClears (u : Nat) : Nat := 256 * (0x5d00 + u) + 0x10

/-! Objects at 0x5D10, R409 (16_host_and_board_buses.md). -/
def Obj.twtEnable : Nat := 0x5d1001
def Obj.twtAddr : Nat := 0x5d1002
def Obj.twtFilter : Nat := 0x5d1003
def Obj.twtTimeout : Nat := 0x5d1004
def Obj.twtScratch : Nat := 0x5d1005
def Obj.twtPointer : Nat := 0x5d1006
def Obj.twtCommits : Nat := 0x5d1007
def Obj.twtDiscarded : Nat := 0x5d1008
def Obj.twtTimeouts : Nat := 0x5d1009

/-! Objects at 0x1000, R428 (17_firmware_update.md). -/
def Obj.deviceSerial : Nat := 0x100005
def Obj.identityKey : Nat := 0x100006
def Obj.identityCert : Nat := 0x100007
def Obj.attestNonce : Nat := 0x100008
def Obj.attestReport : Nat := 0x100009

/-! Objects at 0x6000, R429 (17_firmware_update.md). -/
def Obj.fwVersionRun : Nat := 0x600001
def Obj.fwVersionKeep : Nat := 0x600002
def Obj.fwVersionDownload : Nat := 0x600003
def Obj.fwState : Nat := 0x600004
def Obj.fwData : Nat := 0x600005
def Obj.fwVerify : Nat := 0x600006
def Obj.fwActivate : Nat := 0x600007
def Obj.fwConfirm : Nat := 0x600008
def Obj.fwRevert : Nat := 0x600009
def Obj.fwRefuseCause : Nat := 0x60000a
def Obj.fwLastResult : Nat := 0x60000b
def Obj.fwLock : Nat := 0x60000c
def Obj.fwConfirmWindow : Nat := 0x60000d
def Obj.fwTrialLeft : Nat := 0x60000e
def Obj.trialCount : Nat := 0x60000f
def Obj.minSecurity : Nat := 0x600010
def Obj.keepValid : Nat := 0x600011
def Obj.holdupOk : Nat := 0x600012
def Obj.fwDownloadKind : Nat := 0x600013

/-! Objects at 0x6010, R429 (17_firmware_update.md). -/
def Obj.settingsSave : Nat := 0x601001
def Obj.settingsSource : Nat := 0x601002
def Obj.settingsLoaded : Nat := 0x601003
def Obj.settingsSeq : Nat := 0x601004
def Obj.settingsSaves : Nat := 0x601005

/-! Objects at 0x6020+k, R429 (17_firmware_update.md). -/
def Obj.modelKeyId (u : Nat) : Nat := 256 * (0x6020 + u) + 0x01
def Obj.modelKeyPublic (u : Nat) : Nat := 256 * (0x6020 + u) + 0x02
def Obj.modelKeyEnabled (u : Nat) : Nat := 256 * (0x6020 + u) + 0x03

/-! Objects at 0x1400, R442 (18_startup_power.md). -/
def Obj.bootPhase : Nat := 0x140001
def Obj.inspectionReady : Nat := 0x140002
def Obj.bootTime : Nat := 0x140003
def Obj.resetCause : Nat := 0x140004
def Obj.hubRestarts : Nat := 0x140005
def Obj.watchdogTime : Nat := 0x140006
def Obj.domainsOn : Nat := 0x140007
def Obj.pcieSris : Nat := 0x140008

/-! Objects at 0x1420+g, R442 (18_startup_power.md). -/
def Obj.hubDownFirstLix (u : Nat) : Nat := 256 * (0x1420 + u) + 0x01
def Obj.hubDownLastLix (u : Nat) : Nat := 256 * (0x1420 + u) + 0x02

/-! Objects at 0x1410+d, R443 (18_startup_power.md). -/
def Obj.domPower (u : Nat) : Nat := 256 * (0x1410 + u) + 0x01
def Obj.domState (u : Nat) : Nat := 256 * (0x1410 + u) + 0x02
def Obj.domDeferCause (u : Nat) : Nat := 256 * (0x1410 + u) + 0x03
def Obj.domCycles (u : Nat) : Nat := 256 * (0x1410 + u) + 0x04
def Obj.domLastDrain (u : Nat) : Nat := 256 * (0x1410 + u) + 0x05

end Sys2Proof.Machine
end

