-- ==== Sys2Proof/Machine/Codec.lean ====
section
/-! DEFINITION. Byte order (R14), the encodings of R29, CRC-32C (R274), bit fields, rounding and clamping. -/

namespace Sys2Proof.Machine

/-- The little-endian number of a byte string (R14). -/
def leNat : Bytes → Nat
  | [] => 0
  | x :: xs => x.toNat + 256 * leNat xs

/-- The `k` little-endian bytes of a number (R14). -/
def natLE : Nat → Nat → Bytes
  | 0, _ => []
  | k + 1, v => BitVec.ofNat 8 v :: natLE k (v / 256)

/-- Two's complement of `bits` bits, read as a signed number. -/
def toSigned (bits v : Nat) : Int :=
  if v % 2 ^ bits < 2 ^ (bits - 1) then (v % 2 ^ bits : Nat) else (v % 2 ^ bits : Nat) - (2 ^ bits : Nat)

/-- The difference of two numbers modulo `m`, from 0 to m − 1. -/
def subMod (m a b : Nat) : Nat := if b % m ≤ a % m then a % m - b % m else a % m + (m - b % m)

/-- The two's complement bits of a number. -/
def ofSigned (bits : Nat) (v : Int) : Nat := (v % (2 ^ bits : Nat)).toNat

/-- Bits [lo + w − 1 : lo] of a number. -/
def field (v lo w : Nat) : Nat := v / 2 ^ lo % 2 ^ w

/-- Bit `i` of a number. -/
def bit (v i : Nat) : Bool := v / 2 ^ i % 2 == 1

/-- A flag as a number. -/
def b2n (b : Bool) : Nat := if b then 1 else 0

/-- Clamp to a range; a result beyond either bound takes the bound (R13). -/
def clamp (x lo hi : Int) : Int := if x < lo then lo else if hi < x then hi else x

/-- Saturate a count at a maximum. -/
def sat (m n : Nat) : Nat := min m n

/-- Arithmetic shift right: division by a power of two, floored. -/
def asr (x : Int) (k : Nat) : Int := x / (2 ^ k : Nat)

/-- Division rounded up. -/
def ceilDiv (a b : Nat) : Nat := (a + b - 1) / b

/-- Set or clear one bit of a number. -/
def setBit (v i : Nat) (b : Bool) : Nat := if bit v i = b then v else if b then v + 2 ^ i else v - 2 ^ i

/-- The number of set bits below position `n`. -/
def popcount (v n : Nat) : Nat := ((List.range n).filter (bit v)).length

/-- Pack fields (value, width), the most significant first, into one number; each value is cut to its width. -/
def packFields : List (Nat × Nat) → Nat
  | fs => fs.foldl (fun acc f => acc * 2 ^ f.2 + f.1 % 2 ^ f.2) 0

/-- A packed structure of `bytes` bytes whose fields, most significant first, fill it (R14). -/
def packLE (bytes : Nat) (fs : List (Nat × Nat)) : Bytes := natLE bytes (packFields fs)

/-- One bit step of reflected CRC-32C (polynomial 0x1EDC_6F41, reflected 0x82F6_3B78; R274). -/
def crcBit (c : Nat) : Nat := if c % 2 = 1 then (c / 2) ^^^ 0x82F63B78 else c / 2

/-- CRC-32C of a byte string: initial value and final XOR 0xFFFF_FFFF (R274). -/
def crc32c (bs : Bytes) : Nat :=
  (bs.foldl (fun c x => Nat.repeat crcBit 8 (c ^^^ x.toNat)) 0xFFFFFFFF) ^^^ 0xFFFFFFFF

/-- The size in bytes of a fixed-size type (R29); none for STR and BLOB. -/
def Ty.size : Ty → Option Nat
  | .bool | .u8 | .i8 => some 1
  | .u16 | .i16 => some 2
  | .u32 | .i32 | .f32 | .cdu32 => some 4
  | .u64 | .i64 | .lix64 => some 8
  | .wtime => some 10
  | .str | .blob => none

/-- The type code of R29. -/
def Ty.code : Ty → Nat
  | .bool => 1 | .u8 => 2 | .u16 => 3 | .u32 => 4 | .u64 => 5 | .i8 => 6 | .i16 => 7 | .i32 => 8 | .i64 => 9
  | .f32 => 10 | .lix64 => 11 | .wtime => 12 | .cdu32 => 13 | .str => 14 | .blob => 15

/-- Whether a type's number is two's complement. -/
def Ty.signed : Ty → Bool
  | .i8 | .i16 | .i32 | .i64 | .cdu32 => true
  | _ => false

/-- The bytes of a value in its object's type (R29). -/
def encodeVal (t : Ty) (v : Val) : Bytes :=
  match v with
  | .b bs => bs
  | .n x => let k := (Ty.size t).getD 8; natLE k (ofSigned (8 * k) x)

/-- The number that a fixed-size type's bytes encode, or none where the encoding is refused with RANGE: a BOOL
other than 0 and 1, a NaN or infinity, a nanosecond field of 10^9 or more (R12, R29). -/
def decodeNum (t : Ty) (bs : Bytes) : Option Int :=
  let v := leNat bs
  match t with
  | .bool => if v ≤ 1 then some v else none
  | .f32 => if field v 23 8 = 255 then none else some v
  | .wtime => if v % 2 ^ 32 < 1000000000 then some v else none
  | t => if Ty.signed t then some (toSigned (8 * bs.length) v) else some v

/-- One continuation-aware UTF-8 scan: `some 0` when the string ends between characters, `some k` when `k` bytes
of a valid character are still to come, none for an invalid sequence (R41). `lo` and `hi` bound the next byte. -/
def utf8Scan : Bytes → (need lo hi : Nat) → Option Nat
  | [], need, _, _ => some need
  | x :: xs, 0, _, _ =>
    let v := x.toNat
    if v < 0x80 then utf8Scan xs 0 0 0
    else if 0xC2 ≤ v ∧ v ≤ 0xDF then utf8Scan xs 1 0x80 0xBF
    else if v = 0xE0 then utf8Scan xs 2 0xA0 0xBF
    else if v = 0xED then utf8Scan xs 2 0x80 0x9F
    else if 0xE1 ≤ v ∧ v ≤ 0xEF then utf8Scan xs 2 0x80 0xBF
    else if v = 0xF0 then utf8Scan xs 3 0x90 0xBF
    else if 0xF1 ≤ v ∧ v ≤ 0xF3 then utf8Scan xs 3 0x80 0xBF
    else if v = 0xF4 then utf8Scan xs 3 0x80 0x8F
    else none
  | x :: xs, need + 1, lo, hi =>
    if lo ≤ x.toNat ∧ x.toNat ≤ hi then utf8Scan xs need 0x80 0xBF else none

/-- The UTF-8 check of a STR value as it stands (R41): valid, or ending inside a character. -/
def utf8Ok (bs : Bytes) : Bool := (utf8Scan bs 0 0 0).isSome

/-- The range check of a table row on a number (R456, item 6). -/
def Chk.okNum (c : Chk) (v : Int) : Bool :=
  match c with
  | .any | .lens _ | .maxLen _ => true
  | .range lo hi => decide (lo ≤ v ∧ v ≤ hi)
  | .oneOf l => l.contains v
  | .rangeOr lo hi l => decide (lo ≤ v ∧ v ≤ hi) || l.contains v
  | .steps lo hi k => decide (lo ≤ v ∧ v ≤ hi ∧ (v - lo) % k = 0)
  | .nonZero => decide (v ≠ 0)
  | .mask m => decide (0 ≤ v) && (v.toNat &&& m) == v.toNat

/-- The length check of a table row on a byte string (R29). -/
def Chk.okLen (c : Chk) (maxLen len : Nat) : Bool :=
  match c with
  | .lens l => l.contains len
  | .maxLen n => decide (len ≤ n)
  | _ => decide (len ≤ maxLen)

/-- Floor of the base-2 logarithm (0 for 0). -/
def log2 (n : Nat) : Nat := n.log2

/-- The binary32 nearest to the non-negative rational a / b, ties to even, as its bits; values beyond the largest
finite number give that number, values below the smallest normal number are rounded in its unit. -/
def ratToF32Abs (a b : Nat) : Nat :=
  if a = 0 ∨ b = 0 then 0 else
    -- e with 2^e ≤ a / b < 2^(e+1), found from the bit lengths and mended by one
    let e0 : Int := (log2 a : Int) - log2 b
    let ge : Bool := if 0 ≤ e0 then decide (b * 2 ^ e0.toNat ≤ a) else decide (b ≤ a * 2 ^ (-e0).toNat)
    let e : Int := max (if ge then e0 else e0 - 1) (-126)
    -- significand m = a / b / 2^(e - 23), rounded to nearest, ties to even
    let s : Int := e - 23
    let num := if 0 ≤ s then a else a * 2 ^ (-s).toNat
    let den := if 0 ≤ s then b * 2 ^ s.toNat else b
    let q := num / den
    let r := num % den
    let m := if 2 * r > den ∨ (2 * r = den ∧ q % 2 = 1) then q + 1 else q
    if m < 2 ^ 23 then m                                      -- subnormal, exponent field 0
    else min (((e + 127).toNat - 1) * 2 ^ 23 + m) 0x7F7FFFFF    -- a carry out of m moves the exponent up by one

/-- The binary32 nearest to a / b with its sign (R29; the rounding is the model's, IEEE 754's default). -/
def ratToF32 (a : Int) (b : Nat) : Nat :=
  if a < 0 then 0x80000000 + ratToF32Abs a.natAbs b else ratToF32Abs a.natAbs b

/-- Replace element `i` of a list. -/
def setAt {α : Type} (l : List α) (i : Nat) (x : α) : List α := l.set i x

/-- The `len` bytes from byte `off`. -/
def slice (bs : Bytes) (off len : Nat) : Bytes := (bs.drop off).take len

/-- The number in `len` bytes from byte `off`. -/
def leAt (bs : Bytes) (off len : Nat) : Nat := leNat (slice bs off len)

/-- `bs` with the bytes `new` put at byte `off`; zero bytes fill a gap. -/
def splice (bs : Bytes) (off : Nat) (new : Bytes) : Bytes :=
  (bs ++ List.replicate (off - bs.length) 0).take off ++ new ++ bs.drop (off + new.length)

/-- Pad with zero bytes to a multiple of `k`. -/
def padTo (k : Nat) (bs : Bytes) : Bytes := bs ++ List.replicate ((k - bs.length % k) % k) 0

/-- Sum of a list of integers. -/
def sumI (l : List Int) : Int := l.foldl (· + ·) 0

/-- Sum of a list of naturals. -/
def sumN (l : List Nat) : Nat := l.foldl (· + ·) 0

/-- The largest element, 0 for an empty list. -/
def maxN (l : List Nat) : Nat := l.foldl max 0

end Sys2Proof.Machine
end

