-- ==== Sys2Proof/Machine/Tbl.lean ====
section
/-! DEFINITION. Sparse tables: lists of (key, value) with the keys strictly rising, so that equal tables are equal
data. -/

namespace Sys2Proof.Machine

/-- A sparse table keyed by numbers, in ascending key. -/
abbrev Tbl (α : Type) := List (Nat × α)

/-- The entry at a key. -/
def Tbl.get? {α : Type} : Tbl α → Nat → Option α
  | [], _ => none
  | (k, v) :: t, i => if k = i then some v else Tbl.get? t i

/-- The entry at a key, or a default. -/
def Tbl.get {α : Type} (t : Tbl α) (i : Nat) (dflt : α) : α := (Tbl.get? t i).getD dflt

/-- Put an entry at a key, keeping the keys rising. -/
def Tbl.put {α : Type} : Tbl α → Nat → α → Tbl α
  | [], i, x => [(i, x)]
  | (k, v) :: t, i, x =>
    if i < k then (i, x) :: (k, v) :: t else if i = k then (i, x) :: t else (k, v) :: Tbl.put t i x

/-- Remove every entry at a key. -/
def Tbl.del {α : Type} : Tbl α → Nat → Tbl α
  | [], _ => []
  | (k, v) :: t, i => if k = i then Tbl.del t i else (k, v) :: Tbl.del t i

/-- Change the entry at a key, starting from a default where there is none. -/
def Tbl.upd {α : Type} (t : Tbl α) (i : Nat) (dflt : α) (f : α → α) : Tbl α := Tbl.put t i (f (Tbl.get t i dflt))

/-- The canonical form: keys strictly rising. -/
def Tbl.wf {α : Type} (t : Tbl α) : Bool := (t.map Prod.fst).Pairwise (· < ·)

/-- Sparse bytes of a store: an unlisted address reads as `fill`, and no entry holds `fill`. -/
def Tbl.putByte (fill : Byte) (t : Tbl Byte) (i : Nat) (x : Byte) : Tbl Byte :=
  if x = fill then Tbl.del t i else Tbl.put t i x

/-- The entries of a byte string that stands from an address on. -/
def byteEntries (fill : Byte) (a : Nat) : Bytes → Tbl Byte
  | [] => []
  | x :: xs => if x = fill then byteEntries fill (a + 1) xs else (a, x) :: byteEntries fill (a + 1) xs

/-- Store a byte string from an address on. -/
def Tbl.putBytes (fill : Byte) (t : Tbl Byte) (a : Nat) (bs : Bytes) : Tbl Byte :=
  t.filter (fun e => e.1 < a) ++ byteEntries fill a bs ++ t.filter (fun e => a + bs.length ≤ e.1)

/-- Read `n` bytes from address `a` on, from the entries at or after it. -/
def readBytes (fill : Byte) : (t : Tbl Byte) → (a n : Nat) → Bytes
  | _, _, 0 => []
  | [], a, n + 1 => fill :: readBytes fill [] (a + 1) n
  | (k, v) :: t, a, n + 1 =>
    if k = a then v :: readBytes fill t (a + 1) n else fill :: readBytes fill ((k, v) :: t) (a + 1) n

/-- Read `n` bytes from an address on. -/
def Tbl.getBytes (fill : Byte) (t : Tbl Byte) (a n : Nat) : Bytes :=
  readBytes fill (t.filter (fun e => a ≤ e.1)) a n

/-- The canonical form of a sparse store. -/
def Tbl.byteWf (fill : Byte) (t : Tbl Byte) : Bool := Tbl.wf t && t.all (fun e => e.2 != fill)

end Sys2Proof.Machine
end

