-- ==== Sys2Proof/Machine/StateBase.lean ====
section
/-! DEFINITION. State of the Tirro Object Link, the commit groups, the event and range logs, and the position unit
(chapters 02, 03 and 11): plain data only. -/

namespace Sys2Proof.Machine

/-- One entry of the event log (R298). -/
structure LogEntry where
  code     : Nat
  seq      : Nat
  time     : Nat
  lix      : Nat
  lcg      : Nat
  lixValid : Bool
  words    : List Nat
  repeats  : Nat
  deriving DecidableEq, Repr

/-- One record of the range log (R293). `mask` tells the LIX of its strip that were entered, a bit for each (R314). -/
structure RangeRec where
  first : Nat
  last  : Nat
  seq   : Nat
  lcg   : Nat
  lost  : Bool
  scope : Nat
  unit  : Nat
  cause : Nat
  count : Nat
  mask  : Nat
  deriving DecidableEq, Repr

/-- A range under collection within one strip (R293): `mask` has a bit for each LIX of the strip entered. -/
structure OpenRange where
  strip : Nat
  lcg   : Nat
  lost  : Bool
  scope : Nat
  unit  : Nat
  cause : Nat
  mask  : Nat
  deriving DecidableEq, Repr

/-- One logged item: a whole word, or a field of at most 16 bits that shares a word with its neighbours (R298). -/
inductive Item where
  | w (v : Nat)
  | f (v : Nat)
  deriving DecidableEq, Repr

/-- When an event was last logged (R298, R303), the events held back since, and what the first of those had to say. -/
structure LogMark where
  time  : Nat
  held  : Nat
  first : List Item
  deriving DecidableEq, Repr

/-- The logs and the health flags (R283 to R303). -/
structure Logs where
  entries : List LogEntry       -- oldest first, at most 8,192
  faults  : List LogEntry       -- newest first, at most 16, in PD_AON
  marks   : Tbl LogMark         -- by code and unit
  ranges  : List RangeRec       -- oldest first, at most 4,096
  openR   : List OpenRange
  tally   : Tbl Int             -- last difference of a failing equation, by equation and unit (R296)
  dlTime  : Option Nat          -- time of the last deadline fault
  ueTime  : Option Nat          -- time of the last uncorrectable error
  deriving DecidableEq, Repr

/-- A pending commit (R52 to R56). `target` is none for AtOnce. -/
structure Commit where
  csn     : Nat
  target  : Option Nat
  issued  : Nat
  entries : List (Nat × Val)
  deriving DecidableEq, Repr

/-- A LIVE write that waits for a hit (R31), and the LIX of the hit at which it takes effect (R58). -/
structure LiveWrite where
  key : Nat
  lix : Nat
  val : Val
  deriving DecidableEq, Repr

/-- A commit group (R50 to R57): the shadow, the pending commits in execution order, and the LIVE writes that wait
for the next hit. -/
structure Group where
  shadow  : Tbl Val
  pend    : List Commit
  live    : List LiveWrite
  deriving DecidableEq, Repr

/-- A value that came into force from line `lix` of LCG `lcg` on (R55); `lcg` 4 for one that a clock did not bring in. -/
structure CfgEntry where
  lcg : Nat
  lix : Nat
  val : Val
  deriving DecidableEq, Repr

/-- A session (R43 to R49). `held`: requests ahead of a missing one, as (sequence, arrival time, frame). `kept`: the
last 16 responses, newest first; `service` tells a session on the service address (R346). -/
structure Session where
  id        : Nat
  level     : Nat
  transport : Nat
  nextSeq   : Nat
  enrol     : Bool
  service   : Bool
  h2d       : Bytes
  d2h       : Bytes
  lastFrame : Nat
  held      : List (Nat × Nat × Bytes)
  kept      : List (Nat × Bytes)
  deriving DecidableEq, Repr

/-- A handshake in progress (R46): fragments of FINISH received so far, by FragIndex. -/
structure Handshake where
  id        : Nat
  transport : Nat
  start     : Nat
  level     : Nat
  keyId     : Nat
  enrol     : Bool
  anon      : Bool
  service   : Bool
  transcript : Bytes
  secret    : Bytes
  frags     : Tbl Bytes
  deriving DecidableEq, Repr

/-- The Tirro Object Link (chapter 02). -/
structure TolState where
  sessions   : Tbl Session      -- by slot 0 to 31
  handshakes : List Handshake
  helloFrags : Tbl (Tbl Bytes)  -- by transport
  nextCsn    : Nat
  groups     : List Group       -- 0 to 4
  draws      : Nat
  selfClose  : Option Nat       -- a session that closes itself once its response is sent (R60)
  deriving DecidableEq, Repr

/-- One quadrature axis (R62 to R70). `c` is the extended count; `hist` holds the times of the last Pf steps, newest
first; speed is `spdDir × spdK` counts per `spdT` ns. `edgeA` and `edgeB` are the times of the last accepted changes (R62). -/
structure Axis where
  a        : Bool
  b        : Bool
  qa       : Bool               -- the decoder's state (R63)
  qb       : Bool
  edgeA    : Option Nat
  edgeB    : Option Nat
  z        : Bool
  lossA    : Bool
  lossB    : Bool
  lossZ    : Bool
  c        : Int
  pf       : Int
  rev      : Bool
  hist     : List Nat
  lastCount : Option Nat        -- time of the last count (R75)
  restart  : Bool
  spdDir   : Int
  spdK     : Nat
  spdT     : Nat
  valid    : Bool
  still    : Bool
  deriving DecidableEq, Repr

/-- One SSI input (R71). -/
structure Ssi where
  discards : Nat
  good     : Bool
  deriving DecidableEq, Repr

/-- A step of the position that an LCG follows (R75): time, position in 1/65,536 count, forward, interval to the
step before, SpeedValid at the step, the size of one count, and whether it is the jump of a failover (R81). -/
structure Step where
  t    : Nat
  pos  : Int
  fwd  : Bool
  p    : Nat
  sv   : Bool
  u    : Nat
  jump : Bool
  deriving DecidableEq, Repr

/-- A LIX hit (R74): its LIX, position, time of issue, WebTime, whether late, LineStep in
force at it, and the time epoch. -/
structure Hit where
  lix  : Nat
  pos  : Int
  time : Nat
  web  : Nat
  late : Bool
  step : Nat
  epoch : Nat
  deriving DecidableEq, Repr

/-- A start of an LCG that waits behind hits reached before a stop (R78): the position and time of the start, none while
it still waits for forward motion; and the time of the stop that followed it, none while no stop has. -/
structure NextStart where
  at?  : Option (Int × Nat)
  stop : Option Nat
  deriving DecidableEq, Repr

/-- One Line Clock Generator (R73 to R83). `compare` is NextCompare, watched from time `since`; `reached` marks a
start hit that waits only for the spacing of R76. `aged` holds the LIX and times of hits older than those of `hits` and less
than 10 s old, the longest floor of a budget (R26, R289). -/
structure Lcg where
  partner   : Option Nat         -- the partner axis in charge since a failover; none: the primary axis
  posOff    : Int
  partBase  : Int                -- partner Pf at failover
  posBase   : Int                -- position at failover
  compare   : Int
  since     : Nat
  reached   : Option Nat
  waitStart : Bool
  stopAt    : Option Nat
  restart   : List NextStart     -- oldest first
  lastHit   : Option Nat
  lastLix   : Option Nat
  lateRun   : Bool
  trail     : List Step          -- newest first
  hits      : List Hit           -- newest first, at most 65,536 (R239)
  aged      : List (Nat × Nat)
  slipAbs   : Nat
  slipPrim  : Int
  slipPart  : Int
  slipSsi   : Nat
  slipOk    : Bool
  primMoved : Nat                -- counts since the last failover
  partSince : Int                -- partner counts since the primary's last step
  partBack  : Int                -- those of them that a failback has already taken into the position
  deriving DecidableEq, Repr

/-- A LIX that a port has still to fire (R84): its position, from when it is watched, not before which time. -/
structure PendFire where
  lix    : Nat
  lcg    : Nat
  target : Int
  since  : Nat
  notBefore : Nat
  hitLate   : Bool
  deriving DecidableEq, Repr

/-- The trigger of one port (R84 to R87), with its LVDS output, which belongs to PD_POS (R20). `lvds` is the length of a pulse
in ns and its active level while the port triggers by LVDS; `lvdsEnd` the end of the pulse under way and its active level; `idle` the
level of the output between pulses.
`lastFire` is the time of the last fire handed to the port, `lastLix` the LIX the port last fired (R137). -/
structure Trig where
  lvds     : Option (Nat × Bool)
  lvdsEnd  : Option (Nat × Bool)
  idle     : Bool
  pend     : List PendFire
  lastFire : Option Nat
  lastLix  : Option Nat
  lateFirst : Nat
  lateLast : Nat
  lateRun  : Bool
  deriving DecidableEq, Repr

/-- The running state of an Eyelet (R88 to R91): the target position once its LIX is hit, and from when it is
watched. -/
structure Eyelet where
  target : Option Int
  since  : Nat
  deriving DecidableEq, Repr

/-- The position unit, PD_POS (chapter 03). -/
structure PosState where
  axes     : List Axis
  ssi      : List Ssi
  lcgs     : List Lcg
  trigs    : List Trig
  eyelets  : Tbl Eyelet          -- armed Eyelets
  actLevel : Nat                 -- levels of ACT0 to ACT15
  actPulse : Tbl Nat             -- end times of active pulses
  evLevel  : Nat                 -- accepted levels of EVI0 to EVI7
  evAt     : Tbl Nat             -- time of the last accepted change, by input
  down     : Tbl (Option (Nat × Nat))   -- LIX hit by an LCG during a Hub restart, while it is recorded (R437)
  deriving DecidableEq, Repr

def Axis.reset : Axis :=
  { a := false, b := false, qa := false, qb := false, edgeA := none, edgeB := none, z := false, lossA := false, lossB := false, lossZ := false, c := 0, pf := 0,
    rev := false, hist := [], lastCount := none, restart := true, spdDir := 1, spdK := 0, spdT := 1, valid := false, still := true }

def Lcg.reset : Lcg :=
  { partner := none, posOff := 0, partBase := 0, posBase := 0, compare := 0, since := 0, reached := none,
    waitStart := false, stopAt := none, restart := [], lastHit := none, lastLix := none, lateRun := false, trail := [],
    hits := [], aged := [],
    slipAbs := 0, slipPrim := 0, slipPart := 0, slipSsi := 0, slipOk := false, primMoved := 0, partSince := 0,
    partBack := 0 }

def Trig.reset : Trig := { lvds := none, lvdsEnd := none, idle := false, pend := [], lastFire := none, lastLix := none, lateFirst := 0, lateLast := 0, lateRun := false }

def PosState.reset : PosState :=
  { axes := List.replicate 4 Axis.reset, ssi := List.replicate 2 { discards := 0, good := false },
    lcgs := List.replicate 4 Lcg.reset, trigs := List.replicate 24 Trig.reset, eyelets := [], actLevel := 0,
    actPulse := [], evLevel := 0, evAt := [], down := [] }

def Group.reset : Group := { shadow := [], pend := [], live := [] }

def TolState.reset : TolState :=
  { sessions := [], handshakes := [], helloFrags := [], nextCsn := 1, groups := List.replicate 5 Group.reset,
    draws := 0, selfClose := none }

def Logs.reset : Logs :=
  { entries := [], faults := [], marks := [], ranges := [], openR := [], tally := [], dlTime := none, ueTime := none }

end Sys2Proof.Machine
end

