-- ==== Sys2Proof/Machine/StateIngress.lean ====
section
/-! DEFINITION. State of camera ingress (chapter 04). -/

namespace Sys2Proof.Machine

/-- One plane of a line in reception (R102, R107). `pixels` counts all that came, those beyond LineWidth too; `samples` are those kept. -/
structure PlaneRx where
  matched  : Bool
  complete : Bool
  pixels   : Nat
  long     : Bool
  samples  : List Nat
  deriving DecidableEq, Repr

/-- A ledger entry (R102 to R107). `link` marks one created while the port had left Streaming through a fault (R104); `cause` is
the cause with which the line is missing whatever arrives; `cutoff` the first pixel of the first packet that failed its CRC. -/
structure LedgerEntry where
  lix      : Nat
  fire     : Nat
  suspect  : Bool
  link     : Bool
  format   : Bool
  overrun  : Bool
  corrupt  : Bool
  cutoff   : Option Nat
  closed   : Bool
  cause    : Nat
  planes   : List PlaneRx
  bytes    : Nat
  deriving DecidableEq, Repr

/-- A trigger packet no acknowledge has yet answered, or one answered late (R114). -/
structure TrigPacket where
  lix     : Nat
  rising  : Bool
  sent    : Nat
  answered : Option Nat
  counted : Bool
  deriving DecidableEq, Repr

/-- A command on the control channel of a port (R116, R136): the bridge's own, a camera write of an armed PSET, or one of
PsetInitial during Configuring (R138). -/
inductive CtlCmd where
  | bridgeRead (address length : Nat)
  | bridgeWrite (address : Nat) (data : Bytes)
  | psetWrite (pset step : Nat)
  | initialWrite (pset step : Nat)
  deriving DecidableEq, Repr

/-- A line start that a standby holds while the mirrored entry that it may match is on its way (R313): its stream, its time, whether
the stream and the format are right, and the stream packets that followed it: lane, CRC, end of line, samples. -/
structure HeldStart where
  stream  : Nat
  time    : Nat
  ok      : Bool
  packets : List (Nat × Bool × Bool × List Nat)
  deriving DecidableEq, Repr

/-- One camera port (R99 to R116). `cur` tells for each stream which entry and plane its line in progress belongs
to; none stands for an unsolicited line that is being discarded. `invalid` holds for each lane, by its number in the port, the
invalid code groups of the last 10 µs, with their times (R100); `measured` when each lane's adaptation last ran (R101). -/
structure Port where
  since    : Nat                        -- time of entry into PortState
  faulted  : Bool                       -- Streaming was left through a fault and not yet reached again (R104)
  heard    : Nat                        -- time of the last reception from the camera
  offered  : Option (List Nat × Nat)    -- speeds and connections the camera reported
  ledger   : List LedgerEntry           -- oldest first
  cur      : Tbl (Option Nat)
  held     : List HeldStart             -- oldest first
  lastKept : Option Nat
  packets  : List TrigPacket            -- oldest first
  falling  : List (Nat × Nat)           -- falling edges due: time and LIX
  invalid  : Tbl (List (Nat × Nat))
  measured : Tbl Nat
  ctl      : Option (CtlCmd × Nat)      -- the command on the link and when it was sent
  ctlWait  : List CtlCmd
  eventPackets : Nat
  deriving DecidableEq, Repr

def Port.reset : Port :=
  { since := 0, faulted := false, heard := 0, offered := none, ledger := [], cur := [], held := [], lastKept := none, packets := [], falling := [],
    invalid := [], measured := [], ctl := none, ctlWait := [], eventPackets := 0 }

/-- A corrected or raw line on its way through the device: the 128-bit tag's fields (R106) and the samples of each
plane received, right-aligned. -/
structure RawLine where
  lix      : Nat
  port     : Nat
  width    : Nat
  planeMask : Nat
  cause    : Nat
  missing  : Bool
  short    : Bool
  long     : Bool
  suspect  : Bool
  unacked  : Bool
  memPath  : Bool
  corrupt  : Bool
  planes   : List (List Nat)
  deriving DecidableEq, Repr

end Sys2Proof.Machine
end

