-- ==== Sys2Proof/Machine/StateEngine.lean ====
section
/-! DEFINITION. State of the Strip Engines (chapter 05) and of their audit and repair (chapter 11). -/

namespace Sys2Proof.Machine

/-- A line after stage 5 (R120): for each stream the sites, none where a site is not valid. `row` is the mosaic row
(R125). `mdLack` marks a code-2 result that found no hold value (R126). `before` is the noise and hold state from before the
line was taken in, which a late job goes back to (R147); `table` the table bank in force, `cut` marks the line at which a join made
that state invalid (R317). -/
structure SiteLine where
  lix      : Nat
  raw      : RawLine
  row      : Nat
  streams  : List (List (Option Int))
  replaced : Nat
  mdLack   : Bool
  pset     : Nat
  table    : Option Bytes
  edge     : Bool
  cut      : Bool
  before   : Option (Tbl Nat × Tbl Int)
  deriving DecidableEq, Repr

/-- A corrected line: the fields of its tag (R132) and its planes. -/
structure CorrLine where
  lix       : Nat
  port      : Nat
  width     : Nat
  planeMask : Nat
  cause     : Nat
  pset      : Nat
  engine    : Nat
  missing   : Bool
  short     : Bool
  long      : Bool
  suspect   : Bool
  unacked   : Bool
  memPath   : Bool
  corrupt   : Bool
  degraded  : Bool
  edge      : Bool
  uncertain : Bool
  means     : List Nat
  replaced  : Nat
  saturated : Nat
  planes    : List (List Nat)
  deriving DecidableEq, Repr

/-- A strip slot of a memory-path port (R112, R145), with its lines that the job has not yet taken in. `real` is clear for a strip
that found no slot (MemoryFull). `closeAt` is when the slot held its last tag. -/
structure Slot where
  strip   : Nat
  real    : Bool
  lines   : List RawLine
  closeAt : Option Nat
  deriving DecidableEq, Repr

/-- The running sums of a statistics window (R140, R141). Each plane: sum of line means, minimum, maximum,
saturated. -/
structure StatAcc where
  first     : Nat
  lines     : Nat
  missing   : Nat
  pset      : Nat
  suspect   : Bool
  degraded  : Bool
  uncertain : Bool
  late      : Bool
  planes    : List (Nat × Nat × Nat × Nat)
  replaced  : Nat
  deriving DecidableEq, Repr

/-- A flat-field or dark acquisition (R134). `last` is the last line it has seen: a job that starts again sums no line twice. -/
structure Acq where
  mode     : Nat
  bank     : Nat
  lines    : Nat
  used     : Nat
  lastUse  : Nat
  last     : Option Nat
  sums     : Tbl (Int × Nat)
  deriving DecidableEq, Repr

/-- What an engine works on for a port (R120 to R141). `uncertain` holds the lines from which PsetUncertain is carried, each with
the switch line that ends it, once that is found (R138). -/
structure EngPort where
  queue     : List RawLine         -- delivered by ingress, not yet taken in
  slots     : List Slot
  window    : List SiteLine        -- lines after stage 5, newest first
  nextEmit  : Option Nat
  nr        : Tbl Nat              -- noise state by table site
  hold      : Tbl Int              -- hold values by table site
  pset      : Nat
  table     : Option Bytes         -- the table bank in force; none: neutral
  switches  : List Switch
  since     : Option Nat           -- first line that the port's present engine emitted (R291)
  bad       : List Nat             -- lines lost to an uncorrectable error (R285)
  uncertain : List (Nat × Option Nat)
  armed     : Option Armed
  initStep  : Nat                  -- next camera write of PsetInitial (R138)
  stat      : Option StatAcc
  ring      : List Bytes           -- statistics records, newest first
  acq       : Option Acq
  stopping  : Bool
  creditsHeld : Bool               -- input held for a repair (R291)
  invalidAt : Option Nat           -- line at which a join makes noise and hold state invalid (R317)
  bankLen   : List Nat             -- bytes written to TableData of each bank (R41)
  deriving DecidableEq, Repr

/-- The job an engine runs (R145): the port, the strip, the line from which it emits; and what a restart on a replacement
needs (R291): the strip's lines, and the PSET, table and switches as the job began. -/
structure Job where
  port     : Nat
  strip    : Nat
  next     : Nat
  lines    : List RawLine
  pset     : Nat
  table    : Option Bytes
  switches : List Switch
  deriving DecidableEq, Repr

/-- A Strip Engine (R143, R149). -/
structure Engine where
  state : Nat
  job   : Option Job
  deriving DecidableEq, Repr

/-- A repair of an engine (R291, R292): the failed engine, the time of detection, the replacement once chosen, the in-line port,
the latest time at which the replacement accepts input, and the job under way. -/
structure Repair where
  engine      : Nat
  start       : Nat
  replacement : Option Nat
  inline      : Option Nat
  acceptAt    : Nat
  job         : Option Job
  deriving DecidableEq, Repr

/-- The audit (R287, R288). `phase` is 0 rotation, 1 with a referee, 2 the second strip without one, 3 the next
engine; `strip` the strip under comparison on port `port`; `jobs` the memory-path jobs (port, strip) that started during it and
still run, `past` that the strip itself is over; `blame` the engine in question. -/
structure Audit where
  phase   : Nat
  port    : Nat
  strip   : Option Nat
  jobs    : List (Nat × Nat)
  past    : Bool
  blame   : Nat
  referee : Option Nat
  eMis    : Bool
  audMis  : Bool
  refMis  : Bool
  ended   : Bool
  deriving DecidableEq, Repr

structure EngState where
  ports    : List EngPort
  engines  : List Engine
  replaced : Tbl Nat              -- retired engine: the engine that replaced it (R143)
  repairs  : List Repair
  audit    : Audit
  deriving DecidableEq, Repr

def EngPort.reset : EngPort :=
  { queue := [], slots := [], window := [], nextEmit := none, nr := [], hold := [], pset := 0, table := none,
    switches := [], since := none, bad := [], uncertain := [], armed := none, initStep := 0, stat := none, ring := [], acq := none,
    stopping := false, creditsHeld := false, invalidAt := none, bankLen := [0, 0, 0, 0] }

def Audit.reset : Audit :=
  { phase := 0, port := 0, strip := none, jobs := [], past := false, blame := 0, referee := none, eMis := false, audMis := false, refMis := false, ended := false }

/-- R6: SE12 and SE13 are the spares as shipped. -/
def EngState.reset : EngState :=
  { ports := List.replicate 24 EngPort.reset,
    engines := (List.range 14).map (fun e => { state := if e < 12 then 1 else 2, job := none }),
    replaced := [], repairs := [], audit := Audit.reset }

/-- Fault bookkeeping (chapter 11): times of the errors of a row, rows marked, spare rows used by buffer, times of
Web Pipeline errors, register reloads under way (block, unit, until), the oldest line whose item each deadline monitor of each
View still waits for, and the later lines already found late (View, monitor, line). -/
structure FaultState where
  rows    : Tbl (List Nat)
  marked  : List Nat
  used    : Tbl Nat
  webPipe : List Nat
  parity  : List (Nat × Nat × Nat)
  dlNext  : List (List Nat)
  dlLate  : List (Nat × Nat × Nat)
  deriving DecidableEq, Repr

def FaultState.reset : FaultState :=
  { rows := [], marked := [], used := [], webPipe := [], parity := [], dlNext := List.replicate 4 [0, 0, 0, 0], dlLate := [] }

end Sys2Proof.Machine
end

