-- ==== Sys2Proof/Machine/StateStitch.lean ====
section
/-! DEFINITION. State of the stitcher and the Skew Buffer (chapter 06). -/

namespace Sys2Proof.Machine

/-- What a port holds towards the stitcher. -/
structure SkewPort where
  arriving : List CorrLine        -- emitted by the engine, on their way to the Skew Buffer
  lines    : List CorrLine        -- the positions in use, oldest first, at most 7 (R156)
  hold     : List CorrLine        -- lines in hold slots for deferred Views (R160)
  overrun  : List Nat             -- LIX discarded with cause SkewOverrun (R157)
  firstIn  : Option Nat           -- first LIX delivered in this run of the port (R154, R170)
  lastIn   : Option Nat           -- highest LIX delivered
  fires    : List (Nat × Nat)     -- fires of the run, newest first: LIX and time (R154)
  deriving DecidableEq, Repr

/-- The entry of a port in a stitched line tag (R169). -/
structure PortEntry where
  first     : Nat
  last      : Nat
  pset      : Nat
  cause     : Nat
  inView    : Bool
  missing   : Bool
  suspect   : Bool
  degraded  : Bool
  uncertain : Bool
  short     : Bool
  corrupt   : Bool
  deriving DecidableEq, Repr

/-- A stitched line: the tag of R169, the samples of its planes, and for each output pixel whether it is valid. `last` marks the line
with which its View stops (R170), `runFirst` is ViewFirstLix of the run that formed it. -/
structure StitchLine where
  lix       : Nat
  runFirst  : Nat
  width     : Nat
  invalid   : Nat
  view      : Nat
  lcg       : Nat
  twoPlanes : Bool
  suspect   : Bool
  degraded  : Bool
  uncertain : Bool
  missing   : Bool
  notReady  : Bool
  fallback  : Bool
  psetEdge  : Bool
  geomCsn   : Nat
  entries   : List PortEntry
  valid     : List Bool
  planes    : List (List Nat)
  last      : Bool
  deriving DecidableEq, Repr

/-- A Web View (R159 to R170). `due` holds the ports found not ready at the deadline of the next line; `ready` the
stitched lines on their way to the segmenter; `nrLines` the lines formed with NotReady that monitor 1 has not yet
counted (R289). -/
structure ViewState where
  running  : Bool
  stopAt   : Option Nat
  next     : Nat
  due      : Option (List Nat)
  gains    : List Nat             -- G[p][k] at 2p + k
  targets  : List Nat
  newTargets : List (Nat × Nat × Nat)   -- from line, index 2p + k, target
  unityFrom : List Nat            -- lines from which MatchMode 0 came into force (R167)
  ready    : List StitchLine
  nrLines  : List Nat
  deriving DecidableEq, Repr

structure StitchState where
  ports : List SkewPort
  views : List ViewState
  seams : Tbl Seam                -- by Welt
  sums  : Tbl MatchSum            -- by 256 × View + 2 × Welt + plane
  deriving DecidableEq, Repr

def SkewPort.reset : SkewPort :=
  { arriving := [], lines := [], hold := [], overrun := [], firstIn := none, lastIn := none, fires := [] }

def ViewState.reset : ViewState :=
  { running := false, stopAt := none, next := 0, due := none, gains := List.replicate 48 65536,
    targets := List.replicate 48 65536, newTargets := [], unityFrom := [], ready := [],
    nrLines := [] }

def StitchState.reset : StitchState :=
  { ports := List.replicate 24 SkewPort.reset, views := List.replicate 4 ViewState.reset, seams := [], sums := [] }

end Sys2Proof.Machine
end

