-- ==== Sys2Proof/Machine/StateSegment.lean ====
section
/-! DEFINITION. State of the segmenter and the patch cropper (chapter 07). -/

namespace Sys2Proof.Machine

/-- A candidate record (R188). `mxy` is signed. `model` is the ModelSel it travels with (R231), `line` the line with
which it was emitted, `firstLine` the ViewFirstLix then, `run` the run of the segmenter that numbered it (R186). -/
structure Cand where
  firstLix   : Nat
  lines      : Nat
  serial     : Nat
  segIndex   : Nat
  candSeq    : Nat
  area       : Nat
  cdFirst    : Nat
  cdLast     : Nat
  peakCd     : Nat
  peak       : Nat
  peakLine   : Nat
  peakZone   : Nat
  view       : Nat
  kind       : Nat
  dark       : Bool
  continues  : Bool
  flags      : Nat
  bridged    : Bool
  truncated  : Bool
  edge       : Bool
  merges     : Nat
  sumDev     : Nat
  sumVal     : Nat
  centroidCd : Nat
  centroidMd : Nat
  mxx        : Nat
  myy        : Nat
  mxy        : Int
  segCsn     : Nat
  mergedInto : Nat
  model      : Nat
  line       : Nat
  firstLine  : Nat
  run        : Nat
  deriving DecidableEq, Repr

/-- A line of the Patch Ring (R196): for each plane the sample and deviation of every pixel. -/
structure RingLine where
  lix    : Nat
  valid  : List Bool
  planes : List (List (Nat × Int))
  deriving DecidableEq, Repr

/-- A patch cut from the ring (R199 to R241): header fields and pixel bytes. -/
structure Patch where
  topLix  : Int
  left    : Int
  w       : Nat
  h       : Nat
  binning : Nat
  channels : Nat
  partialCut : Bool
  bytes   : Bytes
  deriving DecidableEq, Repr

/-- A record on its way to the classifier (R227): `ready` once it has its patch or goes on without one. -/
structure WaitRec where
  cand  : Cand
  ready : Bool
  patch : Option Patch
  deriving DecidableEq, Repr

/-- A request of the cropper (R197, R198), with the settings it was placed under. `last` is the View's last line, once it has been
segmented. -/
structure CropReq where
  view : Nat
  cand : Cand
  left : Int
  top  : Int
  f    : Nat
  w    : Nat
  h    : Nat
  channels : Nat
  fill : Nat
  partialWin : Bool
  last : Option Nat
  deriving DecidableEq, Repr

/-- The segmenter of one View. -/
structure SegView where
  running    : Bool
  bg         : List (List BgPix)
  bgReset    : Bool
  geometry   : List Int
  refs       : List RefEntry
  blobs      : List Blob          -- ascending serial
  satBright  : Option (Piece × Nat)   -- features and runs folded
  satDark    : Option (Piece × Nat)
  nextCand   : Nat
  run        : Nat                -- starts of the segmenter so far
  ring       : List RingLine      -- newest first, at most 512
  lastLine   : Option Nat         -- the line segmented last
  viewFirst  : Nat                -- ViewFirstLix of the run of the View that formed it
  settled    : Nat
  noted      : Tbl (Nat × Nat)    -- first LIX and runs folded since the last entry, by event detail
  waiting    : List WaitRec       -- in CandSeq order
  deriving DecidableEq, Repr

structure SegState where
  views : List SegView
  crop  : List CropReq            -- in order of arrival, at most 4,096
  turn  : Nat                     -- the View that the cropper serves next (R198)
  deriving DecidableEq, Repr

def SegView.reset : SegView :=
  { running := false, bg := [], bgReset := false, geometry := [], refs := [], blobs := [], satBright := none,
    satDark := none, nextCand := 1, run := 0, ring := [], lastLine := none, viewFirst := 0, settled := 0, noted := [],
    waiting := [] }

def SegState.reset : SegState := { views := List.replicate 4 SegView.reset, crop := [], turn := 0 }

end Sys2Proof.Machine
end

