-- ==== Sys2Proof/Machine/StateClassify.lean ====
section
/-! DEFINITION. State of the classifier (chapter 08) and of the Calibration Unit (chapter 10). -/

namespace Sys2Proof.Machine

/-- The targets of one physical column (R275). -/
structure Column where
  g        : Nat
  off      : Int
  fit      : Bool
  unstable : Bool
  deriving DecidableEq, Repr

/-- A weight bank of an array (R209, R214, R215): the tile that it was programmed with, its weights row by row, and the weights of the
two checksum columns. Rows and columns that the tile does not use hold zero. -/
structure WBank where
  tile    : Nat
  rows    : Nat
  cols    : Nat
  weights : Bytes
  even    : List Int
  odd     : List Int
  deriving DecidableEq, Repr

/-- One classifier array (R206, R223, R236) with its calibration (R260 to R281). The tables list what differs from the
array as shipped: `map` by logical column, `trims` (in force) and `cols` (targets) by physical column, `ladder` by
level. `banks` are its programmed weight banks: banks 2m and 2m + 1 serve model slot m (R215). `left` lists the physical columns that a
column move has left (R268). `calAt` is when it was last calibrated, or installed from a record; `fromRecord` marks an installed
record that the first in-service calibration compares with (R278). -/
structure ArrayUnit where
  state    : Nat
  logical  : Nat
  blames   : List Nat
  banks    : Tbl WBank
  map      : Tbl Nat
  trims    : Tbl (Nat × Int)
  cols     : Tbl Column
  ladder   : Tbl Int
  left     : List Nat
  calAt    : Option Nat
  calTemp  : Int
  fromRecord : Bool
  unfit    : Bool
  rampAt   : Nat
  deriving DecidableEq, Repr

/-- A request for an inference (R229). -/
structure ClsReq where
  cand    : Cand
  patch   : Patch
  slot    : Nat
  arrival : Nat
  deriving DecidableEq, Repr

/-- An inference under way (R217 to R221). `outs` are the tensors of the layers done; `done` the results of the MVPs of
the layer under way and `tries` the arrays on which an MVP failed so far, by position × 128 + tile. -/
structure Inference where
  req      : ClsReq
  layer    : Nat
  input    : List Int
  outs     : List (List Int)
  done     : Tbl (List Int)
  tries    : Tbl (List Nat)
  verified : Bool
  attempts : Nat
  reruns   : Nat
  again    : Bool            -- run again from its patch after a shell SRAM error (R285)
  deriving DecidableEq, Repr

/-- A result (R228). -/
structure ClsRes where
  candSeq  : Nat
  conf     : Nat
  conf2    : Nat
  modelId  : Nat
  cls      : Nat
  cls2     : Nat
  view     : Nat
  slot     : Nat
  verified : Bool
  reason   : Nat
  attempts : Nat
  reruns   : Nat
  deriving DecidableEq, Repr

/-- A record in the classifier (R230): its result once there is one. -/
structure Flight where
  cand       : Cand
  hasPatch   : Bool
  partialCut : Bool
  result     : Option ClsRes
  deriving DecidableEq, Repr

/-- A model slot (R216): the bytes written to ModelData so far, the image as programmed, whether it is unusable, and its tiles that
are lost (R224). -/
structure ModelSlot where
  dataLen  : Nat
  image    : Bytes
  unusable : Bool
  lost     : List Nat
  deriving DecidableEq, Repr

structure ClsState where
  arrays   : List ArrayUnit
  queue    : List ClsReq
  running  : List Inference
  flights  : List (List Flight)          -- by View, in CandSeq order
  slots    : List ModelSlot
  toRelease : List (Flight × ClsRes)     -- results that left, whose records are still to be released (R238)
  released : List Nat                    -- by View, the next CandSeq to be released, counted on past 2^32 (R186, R242)
  deriving DecidableEq, Repr

/-- An array calibration under way: the array, when it began, CalSamples at its start (R280), and whether it belongs to the
calibration at power-up (R262, R270). -/
structure CalRun where
  array : Nat
  start : Nat
  samples : Nat
  boot  : Bool
  deriving DecidableEq, Repr

/-- The Calibration Unit and its store (R260 to R281). `mram` lists the bytes of the store that are not zero; `seq` is
the largest Sequence found at boot or written since (R276); `recs` the records kept in volatile mode or supplied by the host, by
unit; `host` the units whose record came from the host (R279); `buf` the bytes written to CalRecord. `cycle` holds
the arrays that have still to complete in this cycle; `boot` the arrays to calibrate before the classifier serves. -/
structure CalState where
  mram     : Tbl Byte
  seq      : Nat
  recs     : Tbl Bytes
  host     : List Nat
  buf      : Bytes
  queue    : List (Nat × Nat)            -- array and class
  current  : List CalRun
  good     : Nat                          -- consecutive reference checks within BgLimit while CalHold is set
  lastCheck : Option Nat
  pendStep : Int                          -- a step of RefTrim that waits for the end of a calibration
  cycle    : List Nat
  boot     : List Nat
  deriving DecidableEq, Repr

def ArrayUnit.reset (a : Nat) : ArrayUnit :=
  { state := if a < 64 then 1 else 2, logical := if a < 64 then a else 0xFF, blames := [], banks := [], map := [], trims := [],
    cols := [], ladder := [], left := [], calAt := none, calTemp := 0, fromRecord := false, unfit := false, rampAt := 0 }

def ModelSlot.reset : ModelSlot := { dataLen := 0, image := [], unusable := false, lost := [] }

def ClsState.reset : ClsState :=
  { arrays := (List.range 72).map ArrayUnit.reset, queue := [], running := [], flights := List.replicate 4 [],
    slots := List.replicate 2 ModelSlot.reset, toRelease := [], released := List.replicate 4 1 }

def CalState.reset : CalState :=
  { mram := [], seq := 0, recs := [], host := [], buf := [], queue := [], current := [], good := 0, lastCheck := none, pendStep := 0,
    cycle := [], boot := [] }

end Sys2Proof.Machine
end

