-- ==== Sys2Proof/Machine/StatePublish.lean ====
section
/-! DEFINITION. State of publishing (chapter 09): the patch store, the Stalls and the live views. -/

namespace Sys2Proof.Machine

/-- A patch in the patch store (R240): where its object stands in the ring, the run of the segmenter that numbered its record, and
the stamp of that record with its epoch (R238, R254). -/
structure StoredPatch where
  view : Nat
  cand : Nat
  run   : Nat
  stamp : Nat
  epoch : Nat
  off  : Nat
  len  : Nat
  deriving DecidableEq, Repr

/-- An item in a Stall's queue (R250, R253). `kind` is 1 record, 2 patch, 3 tile, 4 notice; `sent` the bytes of the
object already placed in datagrams; `stamp` the stamp it is launched after, in 2^-16 ns of WebTime (none: at once); `run` is, of a patch,
the run of the segmenter that numbered its record (CandSeq starts afresh with each). -/
structure StallItem where
  kind       : Nat
  view       : Nat
  channel    : Nat
  key        : Nat
  compressed : Bool
  object     : Bytes
  stamp      : Option Nat
  epoch      : Nat
  sent       : Nat
  run        : Nat
  deriving DecidableEq, Repr

/-- A datagram under way (R251): its items as bytes, how many of them end their object and the length of those objects,
when the first was placed, its launch time in ns of WebTime with the epoch of its stamp, the patches it carries parts of
(View, CandSeq, run), whether it has met a full ring, and the last item that ends in it (as `StallItem.ident` numbers items). -/
structure Datagram where
  items  : List Bytes
  ends   : Nat
  endLen : Nat
  since  : Nat
  launch : Option Nat
  epoch  : Nat
  closed : Bool
  patches : List (Nat × Nat × Nat)
  waited : Bool
  last   : Nat
  deriving DecidableEq, Repr

/-- A Stall that is open (R248 to R255). `tokens` of the bucket (R251) are in millionths of a bit, taken at `tokenAt`;
`key` is the key fixed at the open, for a Stall that is not persistent (R253), `last` the last item handed to the port or ring (R313). -/
structure StallSt where
  queue    : List StallItem
  dg       : Option Datagram
  tokens   : Nat
  tokenAt  : Nat
  key      : Bytes
  last     : Nat
  deriving DecidableEq, Repr

/-- A datagram in a port's launch queue (R254, R358): what its header needs, and its items. -/
structure LaunchItem where
  stall   : Nat
  launch  : Nat
  epoch   : Nat
  seq     : Nat
  dropped : Nat
  count   : Nat
  payload : Bytes
  ends    : Nat
  endLen  : Nat
  patches : List (Nat × Nat × Nat)
  late    : Bool
  last    : Nat
  deriving DecidableEq, Repr

/-- One cell of a live-view row under formation (R244): the sum and count of its values, and the extreme with ties to
the earlier. -/
structure LvCell where
  sum  : Int
  m    : Nat
  ext  : Int
  deriving DecidableEq, Repr

/-- A band of a live-view channel (R245 to R247): its number, its first LIX, its rows (indices while it is collected,
pixel bytes once released) and what its tile headers say, with the settings it was released under (`width` is W). `hold` counts the
lines that must still be segmented before its release. -/
structure LvBand where
  number     : Nat
  firstLix   : Nat
  rows       : List (List Byte)
  started    : Nat
  partialBand : Bool
  missing    : Bool
  complete   : Bool
  hold       : Nat
  stamp      : Nat
  epoch      : Nat
  format     : Nat
  view       : Nat
  cdFirst    : Nat
  cdScale    : Nat
  mdScale    : Nat
  pitch      : Nat
  width      : Nat
  deriving DecidableEq, Repr

/-- The outline of a released record (R246): first and last output pixel, first and last LIX, and the Reason and Class that
OverlayMode selects by. -/
structure Outline where
  cdFirst : Nat
  cdLast  : Nat
  first   : Nat
  last    : Nat
  reason  : Nat
  cls     : Nat
  deriving DecidableEq, Repr

/-- A live-view channel (R243 to R247). `outlines` are those of released records that may still overlap a band to come; `shown` are
the ranges of LIX that released bands cover, oldest first, adjoining ones as one. -/
structure LvChan where
  cells    : List LvCell
  rowLines : Nat
  rowLix   : Nat
  rowMiss  : Bool
  bands    : List LvBand          -- oldest first; the last may still collect rows
  history  : List LvBand          -- released, oldest first
  nextBand : Nat
  outlines : List Outline
  shown    : List (Nat × Nat)
  deriving DecidableEq, Repr

structure PubState where
  store    : List StoredPatch     -- oldest first
  storePos : Nat
  stalls   : Tbl StallSt
  keys     : Tbl Bytes            -- StallKey as written, by Stall
  turn     : Tbl Nat              -- the Stall served last, by 4 × transport + priority
  launch   : List (List LaunchItem)
  lv       : Tbl LvChan
  restore  : List Nat             -- persistent Stalls still to be opened after a reset (R248)
  deriving DecidableEq, Repr

def LvChan.reset : LvChan :=
  { cells := [], rowLines := 0, rowLix := 0, rowMiss := false, bands := [], history := [], nextBand := 0, outlines := [],
    shown := [] }

def StallSt.reset : StallSt := { queue := [], dg := none, tokens := 0, tokenAt := 0, key := [], last := 0 }

def PubState.reset : PubState :=
  { store := [], storePos := 0, stalls := [], keys := [], turn := [], launch := List.replicate 6 [], lv := [], restore := [] }

/-- The kinds of frame that a port sends of itself (R344, R346, R347). -/
inductive FrameKind where
  | neighbourRequest | neighbourReply | echoReply | igmpReport | mldReport | announceAddress | delayReq | pdelayReq | pdelayResp | pdelayFollowUp
  deriving DecidableEq, Repr

/-- Where a frame comes from: source MAC and IP address, and its 802.1Q tag as VID and priority code point (R344, R346, R361). -/
structure FrameHead where
  mac : Nat
  ip  : Bytes
  tag : Option (Nat × Nat)
  deriving DecidableEq, Repr

/-- What a command makes the device send out: frames, packets, pulses and pin changes. The model's own record of the
last command's outputs; nothing in the device reads it. -/
inductive Out where
  | tol (transport : Nat) (head : Option FrameHead) (frame : Bytes)
  | trigger (port lix : Nat) (rising : Bool) (delay : Nat)
  | lvds (port : Nat) (level : Bool) (time : Nat)
  | act (levels : Nat)
  | camera (port : Nat) (cmd : CtlCmd)
  | mirror (item : MirrorItem)
  | msix (vector address data : Nat)
  | hostWrite (address : Nat) (data : Bytes)
  | datagram (port : Nat) (head : FrameHead) (data : Bytes)
  | frame (port : Nat) (kind : FrameKind) (head : FrameHead) (data : Bytes)
  | mvp (array slot layer tile : Nat) (input : List Int)
  | twoWire (controller op address : Nat) (data : Bytes) (rxLen : Nat)
  | twtData (data : Bytes)
  | bar (data : Bytes)
  | pairPins (act health : Bool)
  deriving DecidableEq, Repr

/-- The address that a frame leaves from. -/
def Out.source : Out → Option Bytes
  | .frame _ _ h _ => some h.ip
  | .datagram _ h _ => some h.ip
  | .tol _ h _ => h.map (fun h => h.ip)
  | _ => none

/-- A frame that waits at a port (R359): its place in the order of precedence, its bytes on the wire, the frame, and of a PTP event
message the domain that takes its timestamp. -/
structure TxFrame where
  prio   : Nat
  len    : Nat
  out    : Out
  domain : Option Nat
  deriving DecidableEq, Repr

/-- A master that a PTP domain hears (R347): its last Announce and when it came, and whether two of its Announce messages came within
four announce intervals, as the default best master clock algorithm asks of a foreign master. -/
structure Master where
  msg  : AnnounceMsg
  seen : Nat
  qualified : Bool
  deriving DecidableEq, Repr

/-- A PTP domain (R349, R355, R356). `chosenAt` is when its master was chosen, `lastTheta` when it last gave an offset; `mpds` are the
delays of the last 8 exchanges in 2^-16 ns, newest first, `links` those of the last 8 Pdelay exchanges of each port; `fwd` is
t2 − t1 − cS of the last Sync; `nextReq` tells by port when the next delay measurement is due, `sent` the transmit timestamp of the one
not yet answered. -/
structure PtpDomain where
  masters  : List Master
  chosen   : Option Bytes
  chosenAt : Nat
  lastSync : Option Nat
  lastTheta : Option Nat
  logSync  : Int
  mpds     : List Int
  links    : Tbl (List Int)
  fwd      : Option Int
  nextReq  : Tbl Nat
  sent     : Tbl Int
  deriving DecidableEq, Repr

/-- Network ports and the servo (chapter 14). `fedFrom` is since when the selected domain is to feed the servo, `lastUpdate`
when the servo last ran; `arp` the announcements still to be sent: port, how many, and when the next is due; `tx` the frames that wait
at each port, in the order they are sent (R359); `neigh` the neighbours asked for, by port and address, with the MAC address once it
has been answered (R344). -/
structure NetState where
  domains    : List PtpDomain
  outliers   : Nat
  fedFrom    : Nat
  lastUpdate : Option Nat
  holdSince  : Option Nat
  arp        : List (Nat × Nat × Nat)
  busyUntil  : List Nat
  tx         : List (List TxFrame)
  neigh      : List (Nat × Bytes × Option Nat)
  deriving DecidableEq, Repr

def PtpDomain.reset : PtpDomain :=
  { masters := [], chosen := none, chosenAt := 0, lastSync := none, lastTheta := none, logSync := 0, mpds := [], links := [], fwd := none,
    nextReq := [], sent := [] }

def NetState.reset : NetState :=
  { domains := List.replicate 2 PtpDomain.reset, outliers := 0, fedFrom := 0, lastUpdate := none,
    holdSince := none, arp := [], busyUntil := List.replicate 6 0, tx := List.replicate 6 [], neigh := [] }

end Sys2Proof.Machine
end

