-- ==== Sys2Proof/Machine/StateHost.lean ====
section
/-! DEFINITION. State of the DMA channels (chapter 15), of the PCI Express endpoint and the two-wire buses
(chapter 16), and of the HBM controller (chapter 13). -/

namespace Sys2Proof.Machine

/-- A descriptor as fetched (R367), with its own address and space. `head` holds the 64 bytes. -/
structure Desc where
  addr      : Nat
  hbm       : Bool
  next      : Nat
  src       : Nat
  dst       : Nat
  rowBytes  : Nat
  rows      : Nat
  srcStride : Int
  dstStride : Int
  outLimit  : Nat
  pattern   : Nat
  op        : Nat
  srcHbm    : Bool
  dstHbm    : Bool
  nextHbm   : Bool
  idxDst    : Bool
  engine    : Nat
  endStream : Bool
  irqFull   : Bool
  irqHalf   : Bool
  last      : Bool
  raw       : Bytes
  deriving DecidableEq, Repr

/-- One DMA channel (R372). `cur` is the descriptor being carried out, `next` where the next fetch goes (address, HBM
space); `row` and `off` say how far the pattern has come, `entry` the index-table entry in hand; `stop` is the status with
which the descriptor ends. `blockSize` is CmpBlockSize as taken at the fetch; `tokens` (bytes × 1,000) is the bucket of
R375; `queued` orders the channels that wait for an engine; `drain` gives the domains that drain it, each with the start of its drain. -/
structure DmaChan where
  cur       : Option Desc
  next      : Nat × Bool
  fetching  : Bool
  started   : Bool
  row       : Nat
  off       : Nat
  table     : Option (List (Nat × Nat × Nat))
  total     : Nat
  lin       : Nat
  inDone    : Nat
  outDone   : Nat
  stop      : Option Nat
  lastBlock : Bool
  blockSize : Nat
  half      : Bool
  halfDue   : Bool             -- the half-way cause waits for the end of the descriptor (R376)
  kick      : Bool
  abort     : Bool
  startAt   : Nat
  ticks     : Nat
  tokens    : Nat
  tokenAt   : Nat
  queued    : Nat
  drain     : List (Nat × Nat)
  deriving DecidableEq, Repr

/-- The registers of a host ring (R395). -/
structure Ring where
  base     : Nat
  tailAddr : Nat
  ctl      : Nat
  head     : Nat
  tail     : Nat
  deriving DecidableEq, Repr

/-- The mailbox (R393, R394): the bytes of its two buffers (beyond their ends zero), H2dBusy, the frame that fills the
device-to-host buffer and those that wait for it. -/
structure Mailbox where
  h2dBuf  : Bytes
  h2dBusy : Bool
  d2hBuf  : Bytes
  d2h     : Option Bytes
  waiting : List Bytes
  deriving DecidableEq, Repr

/-- A two-wire transaction under way (R401, R402): TwcOp, the address, the data to write, the length to read, the
retries left. -/
structure TwcTx where
  op      : Nat
  addr    : Nat
  tx      : Bytes
  rxLen   : Nat
  retries : Nat
  deriving DecidableEq, Repr

/-- Chapters 15 and 16. `engines` names the channel that each engine serves, compressors first; `twtWrite` tells that the
two-wire target has been addressed for a write not yet ended. -/
structure HostState where
  chans   : List DmaChan
  order   : Nat
  turn    : Tbl Nat              -- the channel served last, by ChanPriority
  engines : List (Option Nat)
  rings   : List Ring
  mbx     : Mailbox
  twc     : List (Option TwcTx)
  twtWrite : Bool
  deriving DecidableEq, Repr

def DmaChan.reset : DmaChan :=
  { cur := none, next := (0, false), fetching := false, started := false, row := 0, off := 0, table := none, total := 0, lin := 0,
    inDone := 0, outDone := 0, stop := none, lastBlock := false, blockSize := 65536, half := false, halfDue := false, kick := false,
    abort := false, startAt := 0, ticks := 0, tokens := 65536000, tokenAt := 0, queued := 0, drain := [] }

def Mailbox.reset : Mailbox := { h2dBuf := [], h2dBusy := false, d2hBuf := [], d2h := none, waiting := [] }

def Ring.reset (r : Nat) : Ring := { base := 0, tailAddr := 0, ctl := (64 + r) * 65536, head := 0, tail := 0 }

def HostState.reset : HostState :=
  { chans := List.replicate 64 DmaChan.reset, order := 0, turn := [], engines := List.replicate 8 none,
    rings := (List.range 64).map Ring.reset, mbx := Mailbox.reset, twc := [none, none], twtWrite := false }

/-- A fence (R336, R337): the pseudo-channel, its class's pseudo-channels still in service then, Base of each, AllocTop, and the
bytes by which RsvUsed of each grew. -/
structure Fence where
  pc       : Nat
  s        : List Nat
  base     : List Nat
  allocTop : Nat
  grow     : Nat
  deriving DecidableEq, Repr

/-- A bank of a pseudo-channel (R324, R326): its refresh debt, its open row, when it was last accessed, when the refresh under
way ends, and when it last gained debt. -/
structure Bank where
  debt   : Int
  row    : Option Nat
  last   : Nat
  busy   : Nat
  tick   : Nat := 0
  deriving DecidableEq, Repr

/-- A request that waits at a pseudo-channel (R327, R328). -/
structure MemReq where
  port    : Nat
  offset  : Nat
  arrival : Nat
  write   : Bool
  deriving DecidableEq, Repr

/-- A pseudo-channel (chapter 13). `debt` is that of a bulk pseudo-channel; `trainAt` and `trainTemp` when it was last
trained; `ces` the times of corrected errors within the last second; `steps` the retraining steps done; `want` that a
retraining is due; `busy` when the all-bank refresh under way ends; `ueAfter` counts the uncorrectable errors since the last
retraining, `ueBefore` those between it and the one before; `tick` when a bulk pseudo-channel last gained debt. -/
structure Pc where
  banks     : Tbl Bank
  debt      : Int
  busy      : Nat
  queue     : List MemReq
  trainAt   : Nat
  trainTemp : Int
  ces       : List Nat
  retrained : Option Nat
  ueAfter   : Nat
  ueBefore  : Nat
  steps     : Nat
  stepAt    : Nat
  want      : Bool
  tick      : Nat := 0
  deriving DecidableEq, Repr

/-- The HBM controller. `written` gives, for a 256-byte block written since the first fence, how many fences were then in
force; `bad` the 256-byte blocks in which an uncorrectable error was found, until they are written again; `scrub`
the blocks scrubbed of each pseudo-channel; `doubled` whether a stack's refresh rate is doubled. -/
structure MemState where
  pcs     : List Pc
  fences  : List Fence
  written : Tbl Nat
  bad     : List Nat
  scrub   : List Nat
  temps   : List Int
  doubled : List Bool
  deriving DecidableEq, Repr

def Pc.reset : Pc :=
  { banks := [], debt := 0, busy := 0, queue := [], trainAt := 0, trainTemp := 0, ces := [], retrained := none, ueAfter := 0, ueBefore := 0,
    steps := 0, stepAt := 0, want := false }

def MemState.reset : MemState :=
  { pcs := List.replicate 64 Pc.reset, fences := [], written := [], bad := [], scrub := List.replicate 64 0,
    temps := [0, 0], doubled := [false, false] }

end Sys2Proof.Machine
end

