-- ==== Sys2Proof/Machine/StatePair.lean ====
section
/-! DEFINITION. State of pair operation (chapter 12). -/

namespace Sys2Proof.Machine

/-- What a View's digest of the strip under way is made of (R314): the bytes hashed, the records, the lines flagged, and
how many arrays had been retired or unfit before the strip. -/
structure DigestAcc where
  lines   : Bytes
  cands   : Bytes
  count   : Nat
  first   : Nat
  flagged : Nat
  base    : Nat
  deriving DecidableEq, Repr

/-- The two digests of a strip, as far as they are in hand (R315). -/
structure DigestPair where
  view    : Nat
  strip   : Nat
  own     : Option Bytes
  partner : Option Bytes
  deriving DecidableEq, Repr

/-- The pair logic. Pins: `act` PAIR_ACT, `take` PAIR_TAKE, `peer` PAIR_PEER as last seen. Times: `linkAt` of the last
valid link frame, `linkDown` since when the link is down, `seekAt` of entry into Seeking, `actAt` and `takeAt` of raising
the pins, `peerAt` since when PAIR_PEER is as it is, `yieldAt` of the last yield frame with its cause, `retryAt` of the next try to join. `gap` is the gap window under way: its start
and whether the fall was signalled. `phase` of a join: 0 none, 1 configuration, 2 waiting for C, 3 catching up; `sync` the
sync line of each LCG; `installed` the Views whose captured state is installed, `since` the first strip of each LCG whose digests are
compared, `caps` the stitcher's part of a captured state until the segmenter's follows. `mirrored` are the active's
sessions; `fires` a standby's own fires of the last 100 µs: port, LIX, time, Suspect; `hold` that a taker has not yet
resumed publishing. `results` holds results not yet compared, own and partner's, by View × 2^32 + CandSeq; `disagree`
counts disagreements by View × 2^56 + strip; `unexplained` the unexplained strips by View. `health` is DeviceHealth as last
judged by R308; `news` are the changes of Stalls since the last heartbeat: Stall, owner, state (R313); `badArrays` counts arrays retired or made unfit; `loads` are
the model slots that a standby or joiner has still to load as its partner did; `resume` is the last valid link frame before a
takeover, until the first datagram after it. -/
structure PairState where
  act       : Bool
  take      : Bool
  peer      : Bool
  peerAt    : Nat
  linkAt    : Nat
  linkDown  : Nat
  seekAt    : Nat
  actAt     : Option Nat
  takeAt    : Option Nat
  yieldAt   : Option (Nat × Nat)
  retryAt   : Option Nat
  gap       : Option (Nat × Bool)
  phase     : Nat
  sync      : List (Option Nat)
  installed : List Bool
  partner   : Option PartnerHello
  resume    : Option Nat
  hold      : Bool
  fires     : List (Nat × Nat × Nat × Bool)
  caps      : Tbl Captured
  since     : List Nat
  mirrored  : Tbl SessionCopy
  accs      : List DigestAcc
  tags      : List (List (Nat × Bytes))
  digests   : List DigestPair
  results   : Tbl (Option (Nat × Nat × Bool) × Option Nat)
  disagree  : Tbl Nat
  unexplained : List (Nat × Nat)
  health    : Nat
  news      : List (Nat × Nat × Nat)
  badArrays : Nat
  loads     : List Nat
  deriving DecidableEq, Repr

def DigestAcc.reset : DigestAcc := { lines := [], cands := [], count := 0, first := 0, flagged := 0, base := 0 }

def PairState.reset : PairState :=
  { act := false, take := false, peer := false, peerAt := 0, linkAt := 0, linkDown := 0, seekAt := 0, actAt := none, takeAt := none,
    yieldAt := none, retryAt := none, gap := none, phase := 0, sync := [none, none, none, none],
    installed := [false, false, false, false], partner := none, resume := none,
    hold := false, fires := [], caps := [], since := [0, 0, 0, 0], mirrored := [],
    accs := List.replicate 4 DigestAcc.reset, tags := List.replicate 24 [], digests := [], results := [], disagree := [],
    unexplained := [], health := 0, news := [], badArrays := 0, loads := [] }

end Sys2Proof.Machine
end

