-- ==== Sys2Proof/Machine/StateBoot.lean ====
section
/-! DEFINITION. State of the flash, of firmware updates and settings (chapter 17), and of start-up, clocks, power and
temperature (chapters 18 and 19). -/

namespace Sys2Proof.Machine

/-- A valid boot record (R412). -/
structure BootRec where
  seq         : Nat
  stage       : Nat
  trial       : Nat
  keepValid   : Bool
  confirmed   : Bool
  runDigest   : Bytes
  runVersion  : Nat
  keepVersion : Nat
  deriving DecidableEq, Repr

/-- A valid settings bank as it reads (R425): the values of the Saved objects, as bytes. -/
structure SettingsBank where
  seq     : Nat
  schema  : Nat
  entries : Tbl Bytes
  deriving DecidableEq, Repr

/-- What the firmware writes to the flash over a while: Run into the Keep (R419, step 2), a copy of the loader (R419) of which it is the
second one or the second try, or Run itself in recovery (R424). -/
inductive FlashJob where
  | keep
  | loader (copy : Nat) (second again : Bool)
  | run
  deriving DecidableEq, Repr

/-- A settings bank that is being written (R425): its place, Sequence and bytes, and when the save ends. -/
structure Saving where
  place : Nat
  seq   : Nat
  bytes : Bytes
  due   : Nat
  deriving DecidableEq, Repr

/-- The flash areas (R411), the security root's counter (R414), and the course of a boot, a trial and power changes. `slots` are the
two boot records, `keep` the Keep, `download` the Download area and `banks` the two settings banks, all as bytes and [] where
erased; an image `none` of Run and of the two loader copies is the one the device was shipped with. `work` is what is being written and
until when, `saving` the bank being saved, `recorded` the slot of the newest record write and when that ends. `held` are saved values kept for a domain that is off (R436),
`saved` the settings loaded and not yet applied (R435, steps 7 to 9). `heldIn` says why the device is held in reset: 0 not
held, 1 RST_POR_N, 2 a rail, 3 CLK_REF; `railsDown` are the rails out of regulation, and `refLost` says that CLK_REF is. `offs` are the
domains that went off with the Hub and whose events wait for the log. `drains` and `powering` give for a domain when its drain or
its power-up began, `hot` when a sensor's warning was last logged. `verified` is DownloadVerified (R416); `restartFrom` the
moment a boot or Hub restart began. `loader` is the loader in use and `copy` the copy it was started from; `holdup` the level of
HOLDUP_OK and `holdupAt` when it last rose; `trialBank` the bank that the trial image wrote; `waitCopy` that the loader
has an image to copy or decompress into Run before the boot goes on; `notes` the events it leaves for the log: detail, a word,
and a field. -/
structure BootState where
  slots       : List Bytes
  run         : Option Bytes
  keep        : Bytes
  download    : Bytes
  verified    : Bool
  loaders     : List (Option Bytes)
  loader      : Option Bytes
  copy        : Nat
  holdup      : Bool
  holdupAt    : Nat
  work        : Option (FlashJob × Nat)
  saving      : Option Saving
  recorded    : Option (Nat × Nat)
  banks       : List Bytes
  trialBank   : Option Nat
  minSecurity : Nat
  revertCause : Nat
  straps      : BootStraps
  cold        : Bool
  heldIn      : Nat
  refLost     : Bool
  recovery    : Bool
  restarting  : Bool
  waitCopy    : Bool
  restartFrom : Nat
  trialEnd    : Option Nat
  saved       : Tbl Bytes
  held        : Tbl Bytes
  drains      : Tbl Nat
  powering    : Tbl Nat
  railsDown   : List Nat
  offs        : List Nat
  tripped     : Bool
  hot         : Tbl Nat
  notes       : List (Nat × Nat × Option Nat)
  deriving DecidableEq, Repr

def BootState.reset : BootState :=
  { slots := [[], []], run := none, keep := [], download := [], verified := false, loaders := [none, none], loader := none,
    copy := 0, holdup := false, holdupAt := 0, work := none, saving := none, recorded := none,
    banks := [[], []], trialBank := none, minSecurity := 0, revertCause := 2,
    straps := { pairPosB := false, pcieSris := false, recovery := false, loaderGood := true },
    cold := true, heldIn := 1, refLost := false, recovery := false, restarting := false, waitCopy := false, restartFrom := 0, trialEnd := none,
    saved := [], held := [], drains := [], powering := [], railsDown := [], offs := [], tripped := false, hot := [], notes := [] }

end Sys2Proof.Machine
end

