-- ==== Sys2Proof/Machine/State.lean ====
section
/-! DEFINITION. The state of the block: the queue of waiting commands and the device. The structures of each chapter
stand in the State… files; here they are put together, with the reasons a command can be refused. -/

namespace Sys2Proof.Machine

/-- The WebTime counter (R350): `base` 2^-16 ns at local time `anchor`, rate 1 + F × 10^-9 with F in 1/16 ppb. -/
structure Clock where
  base   : Nat
  anchor : Nat
  freq   : Int
  deriving DecidableEq, Repr

/-- The MSI-X masks and pending bits (R398), bit v for vector v. -/
structure Msix where
  enabled : Bool
  fmask   : Bool
  masked  : Nat
  pending : Nat
  table   : Tbl (Nat × Nat)
  deriving DecidableEq, Repr

/-- The device: everything but the queue. `objs` holds each object of the dictionary whose value differs from its
default; `cfgLog` the values that objects of clocked groups had at earlier LIX, newest first. -/
structure Dev where
  now    : Nat
  rb9212 : Bool
  objs   : Tbl Val
  cfgLog : Tbl (List CfgEntry)
  logs   : Logs
  tol    : TolState
  pos    : PosState
  ports  : List Port
  eng    : EngState
  flt    : FaultState
  stitch : StitchState
  seg    : SegState
  cls    : ClsState
  cal    : CalState
  pub    : PubState
  net    : NetState
  host   : HostState
  mem    : MemState
  pair   : PairState
  boot   : BootState
  hbm    : Tbl Byte        -- the bytes of HBM that are not zero, by HBM address (R332)
  clock  : Clock
  msix   : Msix
  out    : List Out
  opCode : RCode
  opData : Bytes
  deriving DecidableEq, Repr

/-- The state of the block. -/
structure State where
  pending : List Instr
  dev     : Dev
  deriving DecidableEq, Repr

/-- No command of this block faults: the spec gives the machine no stuck state, so the type has no constructor. -/
inductive Fault where
  deriving DecidableEq, Repr

/-- Why a command is refused. -/
inductive Refusal where
  /-- A command whose meaning is not written yet; raised by its arm of `exec`. Safe: the machine stops. -/
  | notModelled (mnemonic : String)
  /-- A command that names a unit the device does not have; raised by the command's meaning. Safe: no such command
  exists on the hardware. -/
  | noSuchUnit
  deriving DecidableEq, Repr

/-- The MSI-X table as PCI Express resets it: every vector masked, nothing pending (R398). -/
def Msix.reset : Msix := { enabled := true, fmask := false, masked := 2 ^ 256 - 1, pending := 0, table := [] }

def Dev.reset : Dev :=
  { now := 0, rb9212 := false, objs := [], cfgLog := [], logs := Logs.reset, tol := TolState.reset,
    pos := PosState.reset, ports := List.replicate 24 Port.reset, eng := EngState.reset, flt := FaultState.reset, stitch := StitchState.reset,
    seg := SegState.reset, cls := ClsState.reset, cal := CalState.reset,
    pub := PubState.reset, net := NetState.reset, host := HostState.reset, mem := MemState.reset,
    pair := PairState.reset, boot := BootState.reset,
    hbm := [],
    clock := { base := 0, anchor := 0, freq := 0 },
    msix := Msix.reset,
    out := [], opCode := .ok, opData := [] }

def State.reset : State := { pending := [], dev := Dev.reset }

end Sys2Proof.Machine
end

