-- ==== Sys2Proof/Machine/Ops.lean ====
section
/-! DEFINITION. Named operations on the device: object values, counters, WebTime, the event log (R297, R298), the
range log (R293), message-signalled interrupts (R398), the mirror (R313), and the hand-over of commits (R55). -/

namespace Sys2Proof.Machine

/-- PartCode (R3): 0x9224, or 0x9212 with the identity fuse of R2. -/
def Dev.partCode (d : Dev) : Nat := if d.rb9212 then 0x9212 else 0x9224

/-! ## The dictionary (R28, R61) -/

/-- Whether a block covers an index on this variant. -/
def ObjBlock.covers (b : ObjBlock) (rb9212 : Bool) (index : Nat) : Bool :=
  b.base ≤ index && index < b.base + (if rb9212 then b.units12 else b.units)

/-- The block of an index, if the variant carries it. -/
def blockOf (rb9212 : Bool) (index : Nat) : Option ObjBlock := dictBlocks.find? (fun b => b.covers rb9212 index)

/-- A row of a block by subindex. -/
def ObjBlock.row? (b : ObjBlock) (sub : Nat) : Option ObjRow := b.rows.find? (fun r => r.sub == sub)

/-- The row of an object, with its unit number. -/
def rowOf (key : Nat) : Option (ObjRow × Nat) :=
  match blockOf false (key / 256) with
  | none => none
  | some b => (b.row? (key % 256)).map (fun r => (r, key / 256 - b.base))

/-- The default value of an object (R42). -/
def defaultOf (key : Nat) : Val :=
  match rowOf key with
  | some (r, u) => r.dflt u
  | none => .n 0

/-- The number in a value. -/
def Val.int : Val → Int
  | .n x => x
  | .b _ => 0

/-- The bytes in a value. -/
def Val.bytes : Val → Bytes
  | .n _ => []
  | .b x => x

/-- The value of an object as held. -/
def Dev.val (d : Dev) (key : Nat) : Val :=
  match Tbl.get? d.objs key with
  | some v => v
  | none => defaultOf key

def Dev.int (d : Dev) (key : Nat) : Int := (d.val key).int
def Dev.nat (d : Dev) (key : Nat) : Nat := (d.val key).int.toNat
def Dev.flag (d : Dev) (key : Nat) : Bool := (d.val key).int != 0
def Dev.bytes (d : Dev) (key : Nat) : Bytes := (d.val key).bytes

/-- Put an object's value; the default is not listed. -/
def Dev.put (d : Dev) (key : Nat) (v : Val) : Dev :=
  { d with objs := if v = defaultOf key then Tbl.del d.objs key else Tbl.put d.objs key v }

def Dev.putI (d : Dev) (key : Nat) (x : Int) : Dev := d.put key (.n x)
def Dev.putN (d : Dev) (key : Nat) (x : Nat) : Dev := d.put key (.n x)
def Dev.putF (d : Dev) (key : Nat) (x : Bool) : Dev := d.put key (.n (b2n x))
def Dev.putB (d : Dev) (key : Nat) (x : Bytes) : Dev := d.put key (.b x)

/-- Return an object to its default. -/
def Dev.clear (d : Dev) (key : Nat) : Dev := { d with objs := Tbl.del d.objs key }

/-- Return every object of a range of indices to its default. -/
def Dev.clearRange (d : Dev) (lo hi : Nat) : Dev :=
  { d with objs := d.objs.filter (fun e => e.1 / 256 < lo || hi < e.1 / 256) }

/-- Add to a counter of `bits` bits that saturates at its maximum. -/
def Dev.bumpBy (d : Dev) (key n : Nat) (bits : Nat := 32) : Dev :=
  d.putN key (min (2 ^ bits - 1) (d.nat key + n))

/-- Count one in a counter of `bits` bits that saturates. -/
def Dev.bump (d : Dev) (key : Nat) (bits : Nat := 32) : Dev := d.bumpBy key 1 bits

/-- Keep the largest value seen. -/
def Dev.putMax (d : Dev) (key n : Nat) : Dev := if d.nat key < n then d.putN key n else d

/-! One update for each part of the device. -/

def Dev.updTol (d : Dev) (f : TolState → TolState) : Dev := { d with tol := f d.tol }
def Dev.updPos (d : Dev) (f : PosState → PosState) : Dev := { d with pos := f d.pos }
def Dev.updEng (d : Dev) (f : EngState → EngState) : Dev := { d with eng := f d.eng }
def Dev.updStitch (d : Dev) (f : StitchState → StitchState) : Dev := { d with stitch := f d.stitch }
def Dev.updSeg (d : Dev) (f : SegState → SegState) : Dev := { d with seg := f d.seg }
def Dev.updCls (d : Dev) (f : ClsState → ClsState) : Dev := { d with cls := f d.cls }
def Dev.updCal (d : Dev) (f : CalState → CalState) : Dev := { d with cal := f d.cal }
def Dev.updFlt (d : Dev) (f : FaultState → FaultState) : Dev := { d with flt := f d.flt }
def Dev.updPub (d : Dev) (f : PubState → PubState) : Dev := { d with pub := f d.pub }
def Dev.updNet (d : Dev) (f : NetState → NetState) : Dev := { d with net := f d.net }
def Dev.updHost (d : Dev) (f : HostState → HostState) : Dev := { d with host := f d.host }
def Dev.updMem (d : Dev) (f : MemState → MemState) : Dev := { d with mem := f d.mem }
def Dev.updPair (d : Dev) (f : PairState → PairState) : Dev := { d with pair := f d.pair }
def Dev.updBoot (d : Dev) (f : BootState → BootState) : Dev := { d with boot := f d.boot }
def Dev.updClock (d : Dev) (f : Clock → Clock) : Dev := { d with clock := f d.clock }
def Dev.updMsix (d : Dev) (f : Msix → Msix) : Dev := { d with msix := f d.msix }
def Dev.updHbm (d : Dev) (f : Tbl Byte → Tbl Byte) : Dev := { d with hbm := f d.hbm }
def Dev.updCfgLog (d : Dev) (f : Tbl (List CfgEntry) → Tbl (List CfgEntry)) : Dev := { d with cfgLog := f d.cfgLog }
def Dev.updLogs (d : Dev) (f : Logs → Logs) : Dev := { d with logs := f d.logs }

/-- Add to the record of what the command sends out. -/
def Dev.emit (d : Dev) (o : Out) : Dev := { d with out := d.out ++ [o] }

/-- The next of the values the spec leaves open (the model's own counter of draws). -/
def Dev.draw (d : Dev) : Dev × Nat :=
  (d.updTol (fun x => { x with draws := x.draws + 1 }), Config.freeNat d.tol.draws)

/-! ## Power (R443) -/

/-- A power domain is on (DomState 2) or draining (3): its blocks work. -/
def Dev.domOn (d : Dev) (dom : Nat) : Bool := d.nat (Obj.domState dom) == 2 || d.nat (Obj.domState dom) == 3

def pdPos : Nat := 1
def pdHub : Nat := 2
def pdCls : Nat := 5
def pdCal : Nat := 6
def pdNet : Nat := 9
def pdPcie : Nat := 10

/-! ## LIX (R7, R457) -/

/-- The current LIX of an LCG: NextLix − 1 modulo 2^64 (R457). -/
def Dev.curLix (d : Dev) (g : Nat) : Nat := subMod (2 ^ 64) (d.nat (Obj.nextLix g)) 1

/-- The difference of two LIX modulo 2^64 (R457). -/
def lixSub (a b : Nat) : Nat := subMod (2 ^ 64) a b

/-- Lines from one LIX to a later one as a signed number. -/
def lixDiff (a b : Nat) : Int := toSigned 64 (lixSub a b)

/-- The strip of a LIX (R9). -/
def stripOf (lix : Nat) : Nat := lix / 256

/-! ## WebTime (R12, R350) -/

/-- WebTime in 2^-16 ns at local time `t` (R350). -/
def Clock.at (c : Clock) (t : Nat) : Nat :=
  (c.base + (((t : Int) - c.anchor) * 65536 * (16000000000 + c.freq) / 16000000000)).toNat

/-- A WebTime in 2^-16 ns as a WTIME number: seconds [79:32], nanoseconds [31:0], the fraction discarded (R12). -/
def wtimeOf (w : Nat) : Nat := (w / 65536 / 1000000000) % 2 ^ 48 * 2 ^ 32 + w / 65536 % 1000000000

/-- WebTime at local time `t`; zero while PD_NET is off (R350). -/
def Dev.webAt (d : Dev) (t : Nat) : Nat := if d.domOn pdNet then d.clock.at t else 0

/-- The WTIME stamp of a local time. -/
def Dev.stampAt (d : Dev) (t : Nat) : Nat := wtimeOf (d.webAt t)

/-- The WTIME stamp of this moment. -/
def Dev.stamp (d : Dev) : Nat := d.stampAt d.now

/-! ## Interrupts (R398) -/

/-- Send the message of a vector, as its entry of the MSI-X table gives it (R398). -/
def Dev.sendMsix (d : Dev) (v : Nat) : Dev :=
  let e := Tbl.get d.msix.table v (0, 0)
  d.emit (.msix v e.1 e.2)

/-- Send the message of a vector, or set its pending bit while it is masked (R398). -/
def Dev.interrupt (d : Dev) (v : Nat) : Dev :=
  if ¬ d.domOn pdPcie ∨ ¬ d.msix.enabled ∨ 256 ≤ v then d
  else if d.msix.fmask || bit d.msix.masked v then
    d.updMsix (fun x => { x with pending := setBit x.pending v true })
  else d.sendMsix v

/-! ## The event log (R297, R298) -/

/-- A signed quantity as a log word. -/
def Item.i (v : Int) : Item := .w (ofSigned 64 v)

/-- Pack items into words: consecutive 16-bit fields from bit 0 upward, at most four to a word (R298). `acc` and
`n` are the word under way and the fields in it. -/
def packItems : List Item → (acc n : Nat) → List Nat
  | [], acc, n => if n = 0 then [] else [acc]
  | .w v :: t, acc, n => (if n = 0 then [] else [acc]) ++ (v % 2 ^ 64) :: packItems t 0 0
  | .f v :: t, acc, n =>
    if n = 4 then acc :: packItems t (v % 65536) 1 else packItems t (acc + v % 65536 * 2 ^ (16 * n)) (n + 1)

/-- The severities of R297. -/
def sevInfo : Nat := 0
def sevWarn : Nat := 1
def sevFault : Nat := 2

/-- The event code of R297: source, severity, flags [19:16] (8 lost, 4 suspect, 2 repair), detail. -/
def eventCode (src sev flags detail : Nat) : Nat := src * 2 ^ 24 + sev * 2 ^ 20 + flags * 2 ^ 16 + detail

/-- An event below LogMinSeverity is not logged (R298). -/
def Dev.unlogged (d : Dev) (code : Nat) : Bool := d.domOn pdHub && decide (field code 20 4 < d.nat Obj.logMinSeverity)

/-- Write one entry (R298). Fault entries are copied to the ring in PD_AON and raise EventVector (R398). The log
itself stands in PD_HUB: while that is off, only the ring takes the entry. -/
def Dev.logEntry (d : Dev) (code : Nat) (lcg : Option Nat) (items : List Item) (repeats : Nat := 0) : Dev :=
  let hub := d.domOn pdHub
  let sev := field code 20 4
  if d.unlogged code then d
  else
    let seq := if hub then d.nat Obj.logSeq + 1 else 0
    let g := lcg.getD 0
    let e : LogEntry :=
      { code := code, seq := seq, time := d.stamp, lix := if lcg.isSome then d.curLix g else 0, lcg := g,
        lixValid := lcg.isSome, words := (packItems items 0 0).take 4, repeats := min (2 ^ 18 - 1) repeats }
    let d := if hub then (d.updLogs (fun l => { l with entries := l.entries ++ [e] })).putN Obj.logSeq seq else d
    if sev = sevFault then
      (d.updLogs (fun l => { l with faults := e :: l.faults })).interrupt (d.nat Obj.eventVector)
    else d

/-- Log an event. -/
def Dev.log (d : Dev) (src sev detail : Nat) (items : List Item) (lcg : Option Nat := none) (flags : Nat := 0) : Dev :=
  d.logEntry (eventCode src sev flags detail) lcg items

/-- The mark of a repeating event of a unit. -/
def Dev.putMark (d : Dev) (key : Nat) (m : LogMark) : Dev := d.updLogs (fun l => { l with marks := Tbl.put l.marks key m })

/-- Log a repeating event at most once per millisecond per unit. One held back is merged into the next entry, whose Repeats
counts them (R298, R303). `items` makes the entry's items from the count since the last entry and from what the first event
since then had to say, `mine` being this event's. -/
def Dev.logFirst (d : Dev) (src sev detail unit : Nat) (mine : List Item) (items : Nat → List Item → List Item)
    (lcg : Option Nat := none) (flags : Nat := 0) : Dev :=
  let code := eventCode src sev flags detail
  let key := code * 2 ^ 16 + unit
  let m := (Tbl.get? d.logs.marks key).getD { time := 0, held := 0, first := [] }
  let first := if m.held = 0 then mine else m.first
  if d.unlogged code then d
  else if (Tbl.get? d.logs.marks key).isSome && decide (d.now < m.time + 1000000) then
    d.putMark key { m with held := m.held + 1, first := first }
  else (d.logEntry code lcg (items (m.held + 1) first) m.held).putMark key { time := d.now, held := 0, first := [] }

/-- A repeating event whose items are those of the event logged, with the count since the last entry where a chapter lists it. -/
def Dev.logRep (d : Dev) (src sev detail unit : Nat) (items : Nat → List Item) (lcg : Option Nat := none)
    (flags : Nat := 0) : Dev :=
  d.logFirst src sev detail unit [] (fun n _ => items n) lcg flags

/-! ## The range log (R293) -/

/-- The scopes of R293. -/
def scPort : Nat := 0
def scEngine : Nat := 1
def scView : Nat := 2
def scLcg : Nat := 3
def scPc : Nat := 4

/-- Whether an open range is of this kind, scope, unit, cause and strip. -/
def OpenRange.isFor (o : OpenRange) (lcg : Nat) (lost : Bool) (scope unit cause strip : Nat) : Bool :=
  o.lcg == lcg && o.lost == lost && o.scope == scope && o.unit == unit && o.cause == cause && o.strip == strip

/-- Enter one LIX in a lost or suspect range; entries of one strip merge (R293). -/
def Dev.addRange (d : Dev) (lcg : Nat) (lost : Bool) (scope unit cause lix : Nat) : Dev :=
  let k := stripOf lix
  let rs := d.logs.openR
  let rs' :=
    if rs.any (fun o => o.isFor lcg lost scope unit cause k) then
      rs.map (fun o => if o.isFor lcg lost scope unit cause k then { o with mask := setBit o.mask (lix % 256) true } else o)
    else rs ++ [{ strip := k, lcg := lcg, lost := lost, scope := scope, unit := unit, cause := cause,
                  mask := 2 ^ (lix % 256) }]
  d.updLogs (fun l => { l with openR := rs' })

/-- Enter consecutive LIX from `lix` on. -/
def Dev.addRanges (d : Dev) (lcg : Nat) (lost : Bool) (scope unit cause lix : Nat) : (n : Nat) → Dev
  | 0 => d
  | n + 1 => (d.addRange lcg lost scope unit cause lix).addRanges lcg lost scope unit cause (lix + 1) n

/-- Write one range record; RangeCount names it (R293). -/
def Dev.writeRange (d : Dev) (first last lcg : Nat) (lost : Bool) (scope unit cause count mask : Nat) : Dev :=
  let seq := d.nat Obj.rangeCount + 1
  let r : RangeRec := { first := first, last := last, seq := seq, lcg := lcg, lost := lost, scope := scope,
                        unit := unit, cause := cause, count := count, mask := mask }
  (d.updLogs (fun l => { l with ranges := l.ranges ++ [r] })).putN Obj.rangeCount (min (2 ^ 32 - 1) seq)

/-- The lowest bit set of a mask of 256 bits. -/
def lowBit (m : Nat) : Nat := ((List.range 256).find? (bit m)).getD 0

/-- The highest bit set of a mask. -/
def highBit (m : Nat) : Nat := m.log2

/-- Write out one collected range. -/
def Dev.closeRange (d : Dev) (o : OpenRange) : Dev :=
  d.writeRange (256 * o.strip + lowBit o.mask) (256 * o.strip + highBit o.mask) o.lcg o.lost o.scope o.unit o.cause
    (popcount o.mask 256) o.mask

/-- Write out the collected ranges of a kind. -/
def Dev.flushWhere (d : Dev) (due : OpenRange → Bool) : Dev :=
  (d.logs.openR.filter due).foldl Dev.closeRange (d.updLogs (fun l => { l with openR := l.openR.filter (fun o => ! due o) }))

/-- Write out the ranges that a Tally point of strip `k` closes: those of the scope and unit, of this strip or an
earlier one (R293). -/
def Dev.flushRanges (d : Dev) (lcg scope unit k : Nat) : Dev :=
  d.flushWhere (fun o => o.lcg == lcg && o.scope == scope && o.unit == unit && decide (o.strip ≤ k))

/-- Write out the ranges that the last LIX of strip `k` of an LCG closes: those of scope LCG, and those of the engines and the
pseudo-channels, which have no Tally point (R293; DESIGN CHOICE, log entry 66). -/
def Dev.flushLcg (d : Dev) (g k : Nat) : Dev :=
  d.flushWhere (fun o => o.lcg == g && decide (o.strip ≤ k) && (o.scope == scLcg || o.scope == scEngine || o.scope == scPc))

/-! ## Health (R300) -/

/-- The health bits that hold until they are cleared; bits 4 and 5 follow the last second (R300). -/
def Obj.deviceHealthHeld : Nat := 0x110001

/-- DeviceHealth as read (R300); a second that is just over still counts (R17). -/
def Dev.health (d : Dev) : Nat :=
  let recent (t : Option Nat) : Bool := match t with | some t => decide (d.now ≤ t + 1000000000) | none => false
  setBit (setBit (d.nat Obj.deviceHealthHeld) 4 (recent d.logs.dlTime)) 5 (recent d.logs.ueTime)

/-- Set or clear a held health bit. -/
def Dev.setHealth (d : Dev) (b : Nat) (v : Bool) : Dev :=
  d.putN Obj.deviceHealthHeld (setBit (d.nat Obj.deviceHealthHeld) b v)

/-! ## Pair roles (R306) -/

def Dev.role (d : Dev) : Nat := d.nat Obj.pairRole

/-- Writes and commits are refused with LOCKED in roles 1, 2 and 3 (R58, R306). -/
def Dev.standby (d : Dev) : Bool := d.role == 1 || d.role == 2 || d.role == 3

/-- A device drives its steered outputs and publishes as Single, Active or Active alone (R306). -/
def Dev.drives (d : Dev) : Bool := ! d.standby

/-- Mirror an item to the partner: the active device does, over a link that is up (R313). -/
def Dev.mirror (d : Dev) (m : MirrorItem) : Dev :=
  if (d.role == 4 || d.role == 5) && d.nat Obj.linkState == 2 then d.emit (.mirror m) else d

/-- A change of a Stall on the active, batched into its next heartbeat (R313): 1 claimed, 2 open, 0 free. -/
def Dev.noteStall (d : Dev) (s owner state : Nat) : Dev :=
  if (d.role == 4 || d.role == 5) && d.nat Obj.linkState == 2 then
    d.updPair (fun x => { x with news := x.news ++ [(s, owner, state)] })
  else d

/-! ## Commit groups (R48 to R58) -/

/-- The number of the commit group that an LCG number names: 0 to 3, else the unclocked group. -/
def groupOfLcg (g : Nat) : Nat := if g < 4 then g else 4

/-- The LCG of a port, 0xFF for none. -/
def Dev.portLcg (d : Dev) (p : Nat) : Nat := d.nat (Obj.trigLcg p)

/-- The LCG of a View, 0xFF for none. -/
def Dev.viewLcg (d : Dev) (v : Nat) : Nat := d.nat (Obj.viewLcg v)

/-- The commit group of a unit of a block. -/
def Dev.blockGroup (d : Dev) (k : GroupKind) (u : Nat) : Nat :=
  match k with
  | .unclocked => 4
  | .lcg => groupOfLcg u
  | .port => groupOfLcg (d.portLcg u)
  | .lane => groupOfLcg (d.portLcg (u / 8))
  | .view => groupOfLcg (d.viewLcg u)
  | .zone => groupOfLcg (d.viewLcg (u / 64))
  | .welt =>
    let v := d.nat (Obj.weltView u)
    if v < 4 then groupOfLcg (d.viewLcg v) else 4

/-- The commit group of an object. -/
def Dev.groupOf (d : Dev) (key : Nat) : Nat :=
  match blockOf false (key / 256) with
  | some b => d.blockGroup b.group (key / 256 - b.base)
  | none => 4

/-- Update one commit group. -/
def Dev.updGroup (d : Dev) (g : Nat) (f : Group → Group) : Dev :=
  d.updTol (fun x => { x with groups := x.groups.modify g f })

def Dev.group (d : Dev) (g : Nat) : Group := d.tol.groups.getD g Group.reset

/-- The value an object has for line `lix` of LCG `g`: the newest value in force from a LIX of that LCG not after it, or that
another clock, or none, brought in (R55, R56). -/
def Dev.valOn (d : Dev) (g key lix : Nat) : Val :=
  match (Tbl.get d.cfgLog key []).find? (fun e => e.lcg != g || decide (e.lix ≤ lix)) with
  | some e => e.val
  | none => d.val key

def Dev.intOn (d : Dev) (g key lix : Nat) : Int := (d.valOn g key lix).int
def Dev.natOn (d : Dev) (g key lix : Nat) : Nat := (d.valOn g key lix).int.toNat

/-- The value an object has for line `lix` of the LCG of its own group. -/
def Dev.valAt (d : Dev) (key lix : Nat) : Val := d.valOn (d.groupOf key) key lix

def Dev.intAt (d : Dev) (key lix : Nat) : Int := (d.valAt key lix).int
def Dev.natAt (d : Dev) (key lix : Nat) : Nat := (d.valAt key lix).int.toNat
def Dev.flagAt (d : Dev) (key lix : Nat) : Bool := (d.valAt key lix).int != 0

/-- Bring a value into force from line `lix` of LCG `g` on, keeping the values that earlier lines use (R155); those that no line
reads any more go. -/
def Dev.putFrom (d : Dev) (key : Nat) (v : Val) (g lix : Nat) : Dev :=
  let old : CfgEntry := { lcg := g, lix := 0, val := d.val key }
  let h := Tbl.get d.cfgLog key []
  let h := (if h.isEmpty then [old] else h).filter (fun e => g < 4 && (e.lcg != g || decide (e.lix < lix)))
  (d.updCfgLog (fun x => Tbl.put x key (({ lcg := g, lix := lix, val := v } : CfgEntry) :: h))).put key v

/-- Bring a value into force at once, for every line still to come into work: the unclocked group (R31, R56). -/
def Dev.putUnclocked (d : Dev) (key : Nat) (v : Val) : Dev :=
  if (Tbl.get? d.cfgLog key).isSome then d.putFrom key v 4 0 else d.put key v

/-- Every gain and target of a View is 1 (R165). -/
def unity : List Nat := List.replicate 48 65536
def ViewState.unit (x : ViewState) : ViewState := { x with gains := unity, targets := unity, newTargets := [], unityFrom := [] }

/-- A View that stops before a line from which MatchMode 0 is in force has no line left to see the change: its gains and targets are 1
from the stop on (R165, R167). -/
def ViewState.settleGains (x : ViewState) : ViewState := if x.unityFrom.isEmpty then x else x.unit

/-- What a new value does to the stitcher's own state where no stitched line sees the change happen: a Welt that gets another
configuration starts its seam afresh (R164), and MatchMode 0 sets every gain and target to 1 (R165, R167). Where a line is still to
come from the LIX of the hand-over on, that line does it. -/
def Dev.stitchFollows (d : Dev) (lix : Option Nat) (key : Nat) (v : Val) : Dev :=
  let unit := key / 256
  let seen (u : Nat) : Bool := lix.isSome && (d.stitch.views.getD u ViewState.reset).running
  if 0x3480 ≤ unit ∧ unit < 0x34E0 ∧ d.val key ≠ v then
    d.updStitch (fun x => { x with seams := x.seams.filter (fun e => e.1 != unit - 0x3480 || seen (e.2.cfg.headD 0).toNat) })
  else if 0x3500 ≤ unit ∧ unit < 0x3504 ∧ key = Obj.matchMode (unit - 0x3500) ∧ v.int = 0 then
    d.updStitch (fun x => { x with
      views := x.views.modify (unit - 0x3500) (fun w =>
        match lix with
        | some n => if w.running then { w with unityFrom := w.unityFrom ++ [n] } else w.unit
        | none => w.unit) })
  else d

/-- Put entries into force at LIX `n` of LCG `g`, or at once (R55, R56). -/
def Dev.applyEntries (d : Dev) (g : Nat) (lix : Option Nat) (es : List (Nat × Val)) : Dev :=
  es.foldl (fun d e =>
    let d := d.stitchFollows lix e.1 e.2
    match lix with | some n => d.putFrom e.1 e.2 g n | none => d.putUnclocked e.1 e.2) d

/-- Hand over one commit (R55). -/
def Dev.handCommit (d : Dev) (g : Nat) (lix : Option Nat) (c : Commit) : Dev :=
  let d := d.applyEntries g lix c.entries
  match lix with
  | some n => (d.putFrom (Obj.handedCsn g) (.n c.csn) g n).putN (Obj.lastHandoverLix g) n
  | none => d.putUnclocked (Obj.handedCsn g) (.n c.csn)

/-- The place of a commit in the order of hand-over at LIX `n` (R55, R56). -/
def Commit.targetAt (c : Commit) (n : Nat) : Nat := c.target.getD n

/-- Insert by target, after commits of an equal target: ascending target, then execution order (R55). -/
def insertCommit (n : Nat) (c : Commit) : List Commit → List Commit
  | [] => [c]
  | x :: xs => if c.targetAt n < x.targetAt n then c :: x :: xs else x :: insertCommit n c xs

/-- The commits due at the hit of LIX `n`, in the order of hand-over. -/
def dueCommits (n : Nat) (cs : List Commit) : List Commit :=
  (cs.filter (fun c => c.targetAt n ≤ n)).foldl (fun acc c => insertCommit n c acc) []

/-- The hand-overs at the hit of LIX `n` of LCG `g`, then the LIVE writes that wait for it (R55). The model's choice where R31 is
silent: a LIVE write that still waits when the LCG stops goes on waiting and is applied at the first hit of the next start (log
entry 63). -/
def Dev.handover (d : Dev) (g n : Nat) : Dev :=
  let G := d.group g
  let due := dueCommits n G.pend
  let d := d.updGroup g (fun G => { G with pend := G.pend.filter (fun c => ! decide (c.targetAt n ≤ n)), live := G.live.filter (fun w => decide (n < w.lix)) })
  let d := due.foldl (fun d c => d.handCommit g (some n) c) d
  let now := (G.live.filter (fun w => decide (w.lix ≤ n))).map (fun w => (w.key, w.val))
  (d.applyEntries g (some n) now).putN (Obj.pending g) (d.group g).pend.length

/-! ## Bounds of what is kept -/

/-- Keep the newest `n` of a list that grows at its end. -/
def keepLast {α : Type} (n : Nat) (l : List α) : List α := (l.reverse.take n).reverse

/-- Bound the logs to the capacities the spec gives (R293, R298). -/
def Logs.trim (l : Logs) : Logs :=
  { l with entries := keepLast 8192 l.entries, faults := l.faults.take 16, ranges := keepLast 4096 l.ranges }

/-- The steps after `since` and the last one not after it; newest first. -/
def stepsSince (since : Nat) : List Step → List Step
  | [] => []
  | s :: rest => if since < s.t then s :: stepsSince since rest else [s]

/-- The steps that an LCG keeps: the newest 4,096, and all since the hit that it still owes was last known not to be reached
(the model's own bound, log entry 20). -/
def Lcg.steps (l : Lcg) : List Step := l.trail.take 4096 ++ stepsSince l.since (l.trail.drop 4096)

/-- Bound the history that an LCG keeps (R239: the WebTime of the last 65,536 hits; the steps are the model's own). -/
def Lcg.trim (l : Lcg) : Lcg := { l with hits := l.hits.take 65536, trail := l.steps }

/-- Bound the kept responses and the requests held ahead (R43, R44). -/
def Session.trim (s : Session) : Session := { s with held := s.held.take 8, kept := s.kept.take 16 }

/-- A list of `n` units. -/
def fixLen {α : Type} (n : Nat) (x : α) (l : List α) : List α :=
  if l.length = n then l else (l ++ List.replicate n x).take n

/-- Bound every history to the capacity that the spec gives it, and keep the number of units (R4). -/
def Dev.trim (d : Dev) : Dev :=
  { d with
    logs := d.logs.trim,
    pos := { d.pos with
      axes := fixLen 4 Axis.reset d.pos.axes, ssi := fixLen 2 { discards := 0, good := false } d.pos.ssi,
      lcgs := (fixLen 4 Lcg.reset d.pos.lcgs).map Lcg.trim, trigs := fixLen 24 Trig.reset d.pos.trigs },
    ports := fixLen 24 Port.reset d.ports,
    eng := { d.eng with
      ports := fixLen 24 EngPort.reset d.eng.ports, engines := fixLen 14 { state := 0, job := none } d.eng.engines },
    stitch := { d.stitch with
      ports := (fixLen 24 SkewPort.reset d.stitch.ports).map (fun s => { s with fires := s.fires.take 16384 }),
      views := fixLen 4 ViewState.reset d.stitch.views },
    seg := { d.seg with views := fixLen 4 SegView.reset d.seg.views },
    cls := { d.cls with
      arrays := fixLen 72 (ArrayUnit.reset 0) d.cls.arrays, flights := fixLen 4 [] d.cls.flights,
      slots := fixLen 2 ModelSlot.reset d.cls.slots },
    pub := { d.pub with launch := fixLen 6 [] d.pub.launch },
    net := { d.net with
      domains := fixLen 2 PtpDomain.reset d.net.domains, busyUntil := fixLen 6 0 d.net.busyUntil, tx := fixLen 6 [] d.net.tx },
    host := { d.host with chans := fixLen 64 DmaChan.reset d.host.chans, rings := fixLen 64 (Ring.reset 0) d.host.rings },
    mem := { d.mem with pcs := fixLen 64 Pc.reset d.mem.pcs, scrub := fixLen 64 0 d.mem.scrub },
    tol := { d.tol with
      sessions := d.tol.sessions.map (fun e => (e.1, e.2.trim)), groups := fixLen 5 Group.reset d.tol.groups } }

end Sys2Proof.Machine
end

