-- ==== Sys2Proof/Machine/Hbm.lean ====
section
/-! DEFINITION. HBM addresses (chapter 13): regions, classes, translation, fences, blocks lost, and the accesses of the
memory ports. -/

namespace Sys2Proof.Machine

def Dev.pc (d : Dev) (n : Nat) : Pc := d.mem.pcs.getD n Pc.reset
def Dev.updPc (d : Dev) (n : Nat) (f : Pc → Pc) : Dev := d.updMem (fun m => { m with pcs := m.pcs.modify n f })
def Dev.pcState (d : Dev) (n : Nat) : Nat := d.nat (Obj.pcState n)

/-! ## Regions (R331, R332) -/

/-- The stack of a pseudo-channel, and its power domain. -/
def stackOf (n : Nat) : Nat := n / 32
def stackDomain (k : Nat) : Nat := 7 + k

/-- The bytes of a pseudo-channel (R321). -/
def pcBytes : Nat := 805306368

/-- The class of a region: 0 real-time, 1 bulk (R331). -/
def regionClass (r : Nat) : Nat := if r < 4 then 0 else 1

/-- The class list of R323. -/
def Dev.classList (d : Dev) (c : Nat) : List Nat := (List.range 64).filter (fun n => d.nat (Obj.pcClass n) == c)

/-- RegionSize in bytes. -/
def Dev.regionBytes (d : Dev) (r : Nat) : Nat := d.nat (Obj.regionSize r) * 2 ^ 20

/-- The reserve of a class in MiB, and ReserveBase in bytes (R331). -/
def Dev.reserveMiB (d : Dev) (c : Nat) : Nat := if c = 0 then d.nat Obj.reserveMiBRt else d.nat Obj.reserveMiBBulk
def Dev.reserveBase (d : Dev) (c : Nat) : Nat := pcBytes - d.reserveMiB c * 2 ^ 20

/-- The bytes a region takes on each pseudo-channel of its class (R332). -/
def Dev.regionShare (d : Dev) (r : Nat) : Nat :=
  let n := (d.classList (regionClass r)).length
  if n = 0 then 0 else ceilDiv (d.regionBytes r) (256 * n) * 256

/-- The regions of a class, and Start of a region (R332). -/
def classRegions (c : Nat) : List Nat := (List.range 7).filter (fun r => regionClass r == c)
def Dev.regionStart (d : Dev) (r : Nat) : Nat :=
  sumN (((classRegions (regionClass r)).filter (fun q => decide (q < r))).map d.regionShare)
def Dev.allocTop (d : Dev) (c : Nat) : Nat := sumN ((classRegions c).map d.regionShare)

/-- The sizes of a class's regions fit its usable space (R331). -/
def Dev.regionsFit (d : Dev) : Bool :=
  (List.range 2).all (fun c =>
    decide (sumN ((classRegions c).map (fun r => d.nat (Obj.regionSize r))) ≤ (d.classList c).length * (768 - d.reserveMiB c)))

/-! ## Fences and translation (R332, R337, R338) -/

/-- The remapped place of a block of the fenced pseudo-channel (R337). -/
def Fence.remap (f : Fence) (reserveBase off : Nat) : Nat × Nat :=
  let k := if off < f.allocTop then off / 256 else (f.allocTop + off - reserveBase) / 256
  let m := f.s.length
  if m = 0 then (f.pc, pcBytes)
  else (f.s.getD (k % m) 0, f.base.getD (k % m) 0 + k / m * 256 + off % 256)

/-- Follow the fences, oldest first; the places passed on fenced pseudo-channels count. -/
def followFences (reserveBase : Nat) : List Fence → (pc off moved : Nat) → Nat × Nat × Nat
  | [], pc, off, moved => (pc, off, moved)
  | f :: fs, pc, off, moved =>
    if f.pc = pc ∧ off < pcBytes then
      let p := f.remap reserveBase off
      followFences reserveBase fs p.1 p.2 (fs.length + 1)
    else followFences reserveBase fs pc off moved

/-- The pseudo-channel of an HBM address before any fence (R332). -/
def Dev.homePc (d : Dev) (addr : Nat) : Nat :=
  let l := d.classList (regionClass (addr / 2 ^ 36))
  l.getD (addr % 2 ^ 36 / 256 % l.length) 0

/-- The pseudo-channel and offset of an HBM address (R332). The last number is 0 where no fence moved the block, else how
many fences stand from the last that moved it to the newest. -/
def Dev.translate (d : Dev) (addr : Nat) : Nat × Nat × Nat :=
  let r := addr / 2 ^ 36
  let a := addr % 2 ^ 36
  let l := d.classList (regionClass r)
  if l = [] then (0, pcBytes, 0)
  else
    followFences (d.reserveBase (regionClass r)) d.mem.fences (d.homePc addr)
      (d.regionStart r + a / 256 / l.length * 256 + a % 256) 0

/-- The table banks and the model slots are kept in two copies (R333). -/
def hasCopy (addr : Nat) : Bool :=
  (addr / 2 ^ 36 == 1 && decide (addr % 2 ^ 36 < 50331648)) || (addr / 2 ^ 36 == 5 && decide (addr % 2 ^ 36 < 100663296))

/-- A place of one of the two copies: the second ones stand above the first (R133, R331). -/
def hasCopies (addr : Nat) : Bool :=
  (addr / 2 ^ 36 == 1 && decide (addr % 2 ^ 36 < 100663296)) || (addr / 2 ^ 36 == 5 && decide (addr % 2 ^ 36 < 201326592))

/-- The bytes of the first copies in a region; the second ones take as many offsets above them (R133, R216). -/
def copySpan (r : Nat) : Nat := if r = 1 then 50331648 else 100663296

/-- The HBM address of the second copy of a block: at the offsets of R133 and R216, on a pseudo-channel of the other stack (R333);
which block it is the spec leaves to the controller. None where the class has no pseudo-channel in the other stack. -/
def Dev.copyAddr (d : Dev) (addr : Nat) : Option Nat :=
  let r := addr / 2 ^ 36
  let l := d.classList (regionClass r)
  let others := (List.range l.length).filter (fun i => stackOf (l.getD i 0) != stackOf (d.homePc addr))
  if others = [] then none
  else
    let first := ceilDiv (copySpan r / 256) l.length
    let rounds := 2 * copySpan r / 256 / l.length - first
    let block := (first + Config.copyBlock (addr / 256) % rounds) * l.length + others.getD (Config.copyPc (addr / 256) % others.length) 0
    some (r * 2 ^ 36 + 256 * block + addr % 256)

/-- The place of the second copy of a block. -/
def Dev.copyPlace (d : Dev) (addr : Nat) : Nat × Nat × Nat :=
  match d.copyAddr addr with
  | some a => d.translate a
  | none => (0, pcBytes, 0)

/-- The other copy of a block of a table bank or model slot: of a first copy the second, of a second the first (R333). -/
def Dev.otherCopy (d : Dev) (addr : Nat) : Nat × Nat × Nat :=
  if hasCopy addr then d.copyPlace addr
  else d.translate (addr / 2 ^ 36 * 2 ^ 36 + Config.copyOf (addr / 256) % (copySpan (addr / 2 ^ 36) / 256) * 256 + addr % 256)

/-- The block is lost: it has no place below 768 MiB (R338), nor has a second copy of it (R333). -/
def Dev.blockLost (d : Dev) (addr : Nat) : Bool :=
  decide (pcBytes ≤ (d.translate addr).2.1) && (! hasCopy addr || decide (pcBytes ≤ (d.copyPlace addr).2.1))

/-- A read of the block acts as an uncorrectable error (R335, R336, R338): one was found in it, it is lost, or a fence moved it since
it was last written. A copy that a fence takes is written again from the other at once (R333; log entry 70). -/
def Dev.blockBad (d : Dev) (addr : Nat) : Bool :=
  if d.mem.bad.contains (addr / 256) then true
  else if d.mem.fences = [] then false
  else if hasCopy addr then d.blockLost addr
  else
    let (_, off, back) := d.translate addr
    let n := d.mem.fences.length
    decide (pcBytes ≤ off) || (decide (0 < back) && decide (Tbl.get d.mem.written (addr / 256) 0 < n + 1 - back))

/-- The 256-byte blocks that a byte range of HBM touches. -/
def blocksOf (addr len : Nat) : List Nat :=
  if len = 0 then [] else (List.range ((addr + len - 1) / 256 - addr / 256 + 1)).map (fun i => addr / 256 + i)

/-- Some block of a range reads as an uncorrectable error. -/
def Dev.hbmBad (d : Dev) (addr len : Nat) : Bool :=
  (d.mem.fences ≠ [] || d.mem.bad ≠ []) && (blocksOf addr len).any (fun b => d.blockBad (256 * b))

/-- Some block of a range is lost. -/
def Dev.hbmLost (d : Dev) (addr len : Nat) : Bool :=
  d.mem.fences ≠ [] && (blocksOf addr len).any (fun b => d.blockLost (256 * b))

/-- The blocks that a write covers hold no uncorrectable error any longer (R335). -/
def Dev.clearBad (d : Dev) (addr len : Nat) : Dev :=
  if d.mem.bad = [] then d else d.updMem (fun m => { m with bad := m.bad.filter (fun b => ! (blocksOf addr len).contains b) })

/-- The bytes of a write, put into the pseudo-channels that are not lost (R333). -/
def Dev.hbmStore (d : Dev) (addr : Nat) (bs : Bytes) : Dev :=
  if d.mem.fences = [] then d.updHbm (fun _ => Tbl.putBytes 0 d.hbm addr bs)
  else (blocksOf addr bs.length).foldl (fun d b =>
    if d.blockLost (256 * b) then d
    else
      let lo := max addr (256 * b)
      let hi := min (addr + bs.length) (256 * b + 256)
      let d := d.updHbm (fun _ => Tbl.putBytes 0 d.hbm lo (slice bs (lo - addr) (hi - lo)))
      d.updMem (fun m => { m with written := Tbl.put m.written b m.fences.length })) d

/-- Write bytes to HBM; writes to lost blocks are discarded (R338). -/
def Dev.hbmWrite (d : Dev) (addr : Nat) (bs : Bytes) : Dev := (d.clearBad addr bs.length).hbmStore addr bs

/-- The canonical form of the bytes of HBM: addresses strictly rising, and no byte listed that an unlisted address reads as. -/
def Memory.wf (m : List Host.Cell) : Bool := Tbl.byteWf 0 m

/-- Clear a byte range of HBM. -/
def Dev.hbmClear (d : Dev) (addr len : Nat) : Dev :=
  if d.mem.fences = [] ∧ d.mem.bad = [] then d.updHbm (fun m => m.filter (fun e => e.1 < addr || addr + len ≤ e.1))
  else d.hbmWrite addr (List.replicate len 0)

/-- Read bytes of HBM; a byte that nothing has written reads as 0. -/
def Dev.hbmRead (d : Dev) (addr len : Nat) : Bytes := Tbl.getBytes 0 d.hbm addr len

/-! ## Memory ports (R327) -/

/-- Count bytes of a memory port (R341). -/
def Dev.portCount (d : Dev) (port n : Nat) : Dev := if n = 0 then d else d.bumpBy (Obj.portBytes port) n 64

/-- Where an access to a block goes (R333): a write to every copy, a read to the first that has a place. -/
def Dev.places (d : Dev) (addr : Nat) (write : Bool) : List (Nat × Nat) :=
  let all := ((d.translate addr) :: (if hasCopy addr then [d.copyPlace addr] else [])).map (fun p => (p.1, p.2.1))
  let held := all.filter (fun p => decide (p.2 < pcBytes))
  if write then held else held.take 1

/-- Queue one request at a pseudo-channel. -/
def Dev.queueReq (d : Dev) (pc : Nat) (q : MemReq) : Dev := d.updPc pc (fun x => { x with queue := x.queue ++ [q] })

/-- Queue requests, each at its pseudo-channel. -/
def Dev.queueReqs (d : Dev) (reqs : List (Nat × MemReq)) : Dev :=
  d.updMem (fun m => { m with
    pcs := reqs.foldl (fun l e => l.modify e.1 (fun x => { x with queue := x.queue ++ [e.2] })) m.pcs })

/-- The requests of an access, one for each 64-byte block, with their pseudo-channels (R327). -/
def Dev.requestsOf (d : Dev) (port addr len : Nat) (write : Bool) : List (Nat × MemReq) :=
  if len = 0 then []
  else (List.range ((addr + len - 1) / 64 - addr / 64 + 1)).flatMap (fun i =>
    (d.places (64 * (addr / 64 + i)) write).map (fun p =>
      (p.1, { port := port, offset := p.2, arrival := d.now, write := write })))

/-- Queue the requests of an access at their pseudo-channels (R327). -/
def Dev.memRequest (d : Dev) (port addr len : Nat) (write : Bool) : Dev := d.queueReqs (d.requestsOf port addr len write)

/-- The offset in a region from which the device places objects: in region 1 the table banks and their copies stand below (R133). -/
def placedFrom (r : Nat) : Nat := if r = 1 then 100663296 else 0

/-- The requests for an object whose place in region `r` the spec leaves open: its kind, unit and number, and its bytes (R327). -/
def Dev.hbmTraffic (d : Dev) (port r kind unit number len : Nat) (write : Bool) : Dev :=
  let room := (d.regionBytes r - placedFrom r - len) / 64 + 1
  d.memRequest port (r * 2 ^ 36 + placedFrom r + 64 * (Config.hbmPlace r kind unit number % room)) len write

/-- What is written now to a region that is Short (R338) falls on a lost block: unit, line or band, pixel. -/
def Dev.landsLost (d : Dev) (r unit line px : Nat) : Bool :=
  d.nat (Obj.regionState r) == 2 && Config.hbmHolds (2 ^ 41 + r) unit line px != 0

end Sys2Proof.Machine
end

