-- ==== Sys2Proof/Machine/Pacing.lean ====
section
/-! DEFINITION. The DMA channels' access to their state, the start of a fetched descriptor, and the events that pace it (R374, R386). -/

namespace Sys2Proof.Machine

def Dev.chan (d : Dev) (c : Nat) : DmaChan := d.host.chans.getD c DmaChan.reset
def Dev.updChan (d : Dev) (c : Nat) (f : DmaChan → DmaChan) : Dev :=
  d.updHost (fun h => { h with chans := h.chans.modify c f })
def Dev.chanState (d : Dev) (c : Nat) : Nat := d.nat (Obj.chanState c)

/-- The engine of a descriptor: compressors first. -/
def Desc.engineNo (x : Desc) : Nat := if x.op = 1 then x.engine else 4 + x.engine

/-- Why a started descriptor would have to wait: 1 event, 3 engine, 0 none (R374, R386). -/
def Dev.startCause (d : Dev) (c : Nat) (x : Desc) : Nat :=
  if d.nat (Obj.paceEvent c) ≠ 0 ∧ d.nat (Obj.eventCredit c) = 0 then 1
  else if x.op = 0 then 0
  else match d.host.engines.getD x.engineNo none with
    | some k => if k = c then 0 else 3
    | none =>
      -- the waiting descriptor that came first takes a free engine
      let mine := (d.chan c).queued
      if (List.range 64).any (fun k => k != c && (match (d.chan k).cur with
          | some y => y.op != 0 && y.engineNo == x.engineNo && ! (d.chan k).started && (d.chan k).stop.isNone &&
              decide ((d.chan k).queued < mine) && (d.nat (Obj.paceEvent k) == 0 || d.nat (Obj.eventCredit k) != 0)
          | none => false)) then 3 else 0

/-- Start a fetched descriptor once its event and its engine are there (R374, R386). -/
def Dev.tryStart (d : Dev) (c : Nat) : Dev :=
  let x := d.chan c
  match x.cur with
  | some q =>
    if x.started || x.stop.isSome || x.drain != [] || d.startCause c q != 0 then d
    else
      let d := if d.nat (Obj.paceEvent c) ≠ 0 then d.putN (Obj.eventCredit c) (d.nat (Obj.eventCredit c) - 1) else d
      let d := if q.op ≠ 0 then d.updHost (fun h => { h with engines := h.engines.set q.engineNo (some c) }) else d
      d.updChan c (fun x => { x with started := true })
  | none => d

/-- PACE_EVENT: one event for the channel; above 255 it is lost. A descriptor that waits for it starts (R374). -/
def Dev.paceEvent (d : Dev) (c : Nat) : Dev :=
  if d.nat (Obj.paceEvent c) = 0 then d
  else
    let d :=
      if 255 ≤ d.nat (Obj.eventCredit c) then
        let d := d.bump (Obj.eventsLost c)
        d.logRep 0x0D sevWarn 0x0002 c (fun _ => [.f c, .w (d.nat (Obj.eventsLost c))])
      else d.bump (Obj.eventCredit c) 8
    d.tryStart c

/-- An event for the DMA channels that PaceEvent `kind` with PaceArg `arg` paces (R374). -/
def Dev.pace (d : Dev) (kind arg : Nat) : Dev :=
  (List.range 64).foldl (fun d c =>
    if kind ≠ 0 ∧ d.nat (Obj.paceEvent c) = kind ∧ d.nat (Obj.paceArg c) = arg then d.paceEvent c else d) d

end Sys2Proof.Machine
end

