-- ==== Sys2Proof/Machine/Position.lean ====
section
/-! DEFINITION. The position unit (chapter 03): axes, SSI inputs, Line Clock Generators, port triggers, Eyelets and
event inputs. -/

namespace Sys2Proof.Machine

/-! ## Access -/

def Dev.axis (d : Dev) (a : Nat) : Axis := d.pos.axes.getD a Axis.reset
def Dev.updAxis (d : Dev) (a : Nat) (f : Axis → Axis) : Dev :=
  d.updPos (fun x => { x with axes := x.axes.modify a f })
def Dev.lcg (d : Dev) (g : Nat) : Lcg := d.pos.lcgs.getD g Lcg.reset
def Dev.updLcg (d : Dev) (g : Nat) (f : Lcg → Lcg) : Dev :=
  d.updPos (fun x => { x with lcgs := x.lcgs.modify g f })
def Dev.trig (d : Dev) (p : Nat) : Trig := d.pos.trigs.getD p Trig.reset
def Dev.updTrig (d : Dev) (p : Nat) (f : Trig → Trig) : Dev :=
  d.updPos (fun x => { x with trigs := x.trigs.modify p f })

def Axis.loss (x : Axis) : Bool := x.lossA || x.lossB || x.lossZ

/-- The raw 32-bit count and the wraps of an extended count (R65). -/
def rawOf (c : Int) : Int := toSigned 32 (ofSigned 64 c)
def wrapsOf (c : Int) : Int := (c - rawOf c) / 2 ^ 32

/-- SignalState (R70). -/
def Axis.signal (x : Axis) : Nat :=
  b2n x.a + 2 * b2n x.b + 4 * b2n x.z + 8 * b2n x.lossA + 16 * b2n x.lossB + 32 * b2n x.lossZ

/-- The 5 ns grid (R62, R68). -/
def grid5 (t : Nat) : Nat := t - t % 5

/-! ## Speed (R68, R69) -/

/-- The every-5-ns rule of R68 has entered standstill by the sample at `t`. -/
def Axis.stillBy (x : Axis) (t limit : Nat) : Bool :=
  match x.hist with
  | [] => true
  | last :: _ => decide (last + limit ≤ t)

/-- Enter standstill (R68). -/
def Axis.enterStill (x : Axis) : Axis := { x with spdK := 0, valid := false, still := true, restart := true }

/-- A step of Pf at time `t` in direction `dir` (R68). Two accepted samples are at least one 5 ns sample apart. -/
def Axis.speedStep (x : Axis) (t : Nat) (dir : Int) (flip : Bool) (avg : Nat) : Axis :=
  if flip || x.restart then
    { x with hist := [t], restart := false, spdDir := dir, spdK := 0, valid := false, still := false }
  else
    let h := (t :: x.hist).take (avg + 1)
    { x with hist := h, spdDir := dir, spdK := h.length - 1, spdT := max 5 (t - h.getLastD t), valid := true,
             still := false }

/-- Speed as a signed rational, counts per second (numerator, denominator), at time `t` (R68): between steps the
magnitude never exceeds the reciprocal of the time since the last step. -/
def Axis.speedAt (x : Axis) (t limit : Nat) : Int × Nat :=
  if ! x.valid || x.stillBy (grid5 t) limit then (0, 1)
  else
    let e := grid5 t - x.hist.headD 0
    if x.spdT < e * x.spdK then (x.spdDir * 1000000000, e) else (x.spdDir * (x.spdK * 1000000000 : Nat), x.spdT)

def Dev.stillLimit (d : Dev) (a : Nat) : Nat := d.nat (Obj.standstillTime a) * 1000000

/-- Standstill as read (R68, R70). -/
def Dev.standsStill (d : Dev) (a : Nat) : Bool := (d.axis a).still || (d.axis a).stillBy (grid5 d.now) (d.stillLimit a)

/-! ## The position an LCG follows (R73, R75, R81) -/

/-- Whether the LCG runs on its primary axis. -/
def Dev.onPrimary (d : Dev) (g : Nat) : Bool := (d.lcg g).partner.isNone

/-- ActiveAxis: the axis that drives the LCG (R81, R83). R81 does not speak of a PartnerSource written while the LCG is failed over:
the model's choice is that the partner it failed over to goes on driving it (log entry 64). -/
def Dev.activeAxis (d : Dev) (g : Nat) : Nat := (d.lcg g).partner.getD (d.nat (Obj.primaryAxis g))

/-- One count of the driving axis, in 1/65,536 primary counts. -/
def Dev.lcgUnit (d : Dev) (g : Nat) : Int := if d.onPrimary g then 65536 else d.int (Obj.partnerRatio g)

/-- The position of an LCG, 48.16 counts on the scale of its primary axis. -/
def Dev.lcgPos (d : Dev) (g : Nat) : Int :=
  let l := d.lcg g
  let pf := (d.axis (d.activeAxis g)).pf
  if d.onPrimary g then pf * 65536 + l.posOff else l.posBase + (pf - l.partBase) * d.int (Obj.partnerRatio g)

/-- The web moves forward for the LCG. -/
def Dev.lcgFwd (d : Dev) (g : Nat) : Bool := (d.axis (d.activeAxis g)).rev == decide (d.lcgUnit g < 0)

/-- When a target is reached (R75), over steps from the oldest on; with it, whether by the jump of a failover. -/
def reachIn (target : Int) (now since : Nat) : List Step → Option (Nat × Bool)
  | [] => none
  | s :: rest =>
    if ! s.fwd || decide (s.pos + s.u ≤ target) then reachIn target now since rest
    else if target ≤ s.pos then some (max since s.t, s.jump)
    else
      let ti := s.t + (target - s.pos).toNat * s.p / s.u
      let limit := match rest with | [] => now | n :: _ => n.t
      if s.sv && decide (ti ≤ limit) then some (max since ti, false) else reachIn target now since rest

/-- When the position of LCG `g` reached a target watched from `since` on, if it has by now. -/
def Dev.reach (d : Dev) (g : Nat) (target : Int) (since : Nat) : Option (Nat × Bool) :=
  match reachIn target d.now since (stepsSince since (d.lcg g).trail).reverse with
  | some (t, j) => if t ≤ d.now then some (t, j) else none
  | none => none

/-- The start of an LCG still waits for forward motion (R78). -/
def Lcg.awaitsForward (l : Lcg) : Bool := l.waitStart || l.restart.any (fun r => r.at?.isNone)

/-- Backlog: how far the position lies behind the last hit (R77); zero while the start hit waits for forward motion (R78). -/
def Dev.lcgBacklog (d : Dev) (g : Nat) : Nat :=
  let l := d.lcg g
  match l.hits with
  | h :: _ => if l.awaitsForward then 0 else (h.pos - d.lcgPos g).toNat
  | [] => 0

/-- MaxBacklog holds the largest Backlog since the last start (R77). -/
def Dev.noteBacklog (d : Dev) (g : Nat) : Dev := d.putMax (Obj.maxBacklog g) (d.lcgBacklog g)

/-! ## Hits (R74 to R79) -/

/-- Record the LIX that a Hub restart loses (R437). -/
def Dev.noteDown (d : Dev) (g lix : Nat) : Dev :=
  match Tbl.get? d.pos.down g with
  | none => d
  | some r =>
    let first : Nat := match r with | none => lix | some (a, _) => a
    let d := d.updPos (fun x => { x with down := Tbl.put x.down g (some (first, lix)) })
    (d.putN (Obj.hubDownFirstLix g) first).putN (Obj.hubDownLastLix g) lix

/-- The first port of LCG `g` is Streaming again: the record of the restart ends (R437). -/
def Dev.endDown (d : Dev) (g : Nat) : Dev := d.updPos (fun x => { x with down := Tbl.del x.down g })

/-- Log a change of model selection handed over in group `g` at LIX `n` (R237); a View of no LCG has none (log entry 69). -/
def Dev.noteModelSel (d before : Dev) (g n : Nat) : Dev :=
  (List.range 4).foldl (fun d v =>
    if groupOfLcg (d.viewLcg v) = g ∧ d.nat (Obj.modelSel v) ≠ before.nat (Obj.modelSel v) then
      d.log 0x06 sevInfo 0x0003 [.f v, .f (d.nat (Obj.modelSel v)), .w n] (if g < 4 then some g else none)
    else d) d

/-- Queue LIX `n`, hit at `pos`, for the fires of every port that the LCG triggers (R84). -/
def Dev.queueFires (d : Dev) (g n : Nat) (pos : Int) (reached issued : Nat) (late : Bool) : Dev :=
  (List.range 24).foldl (fun d p =>
    if d.portLcg p = g then
      d.updTrig p (fun t => { t with pend := t.pend ++
        [{ lix := n, lcg := g, target := pos + d.int (Obj.trigOffset p), since := reached, notBefore := issued,
           hitLate := late }] })
    else d) d

/-- The target position of an Eyelet once its LIX is hit (R88). -/
def Dev.eyTargetPos (d : Dev) (k : Nat) (h : Hit) : Int := h.pos + (d.nat (Obj.eyFrac k) * h.step / 65536 : Nat)

/-- Give the armed Eyelets whose target LIX is hit their position (R88). -/
def Dev.aimEyelets (d : Dev) (g : Nat) (h : Hit) (since : Nat) : Dev :=
  d.updPos (fun x => { x with eyelets := x.eyelets.map (fun e =>
      if d.nat (Obj.eyLcg e.1) = g ∧ d.nat (Obj.eyTarget e.1) = h.lix then
        (e.1, { target := some (d.eyTargetPos e.1 h), since := since })
      else e) })

/-- Log the late range of an LCG; the entry carries a suspect range (R95, R297). -/
def Dev.logLateHits (d : Dev) (g : Nat) : Dev :=
  (d.log 0x01 sevWarn 0x0007 [.f g, .w (d.nat (Obj.suspectFirst g)), .w (d.nat (Obj.suspectLast g))] (some g) 4).updLcg g
    (fun l => { l with lateRun := false })

/-- Note whether a hit is late (R76): count it, enter its LIX, and log the range once hits are no longer late. -/
def Dev.noteLateHit (d : Dev) (g n : Nat) (late jumped : Bool) : Dev :=
  let l := d.lcg g
  if late then
    let d := d.bump (Obj.lateHitCount g)
    let d := if l.lateRun then d else d.putN (Obj.suspectFirst g) n
    ((d.putN (Obj.suspectLast g) n).addRange g false scLcg g (if jumped then 9 else 8) n).updLcg g
      (fun l => { l with lateRun := true })
  else if l.lateRun then
    d.logLateHits g
  else d

/-- An action follows its reach time by `delay` ns (R94), and the last of its kind, at `last`, by at least 1,000 ns (R76, R84). -/
def spaced (last : Option Nat) (r delay : Nat) : Nat :=
  match last with
  | some t => max (r + delay) (t + 1000)
  | none => r + delay

/-- The delay from the reach time to a hit (R94); a start hit that only waits for the spacing has none (R78). -/
def Lcg.delay (l : Lcg) : Nat := if l.reached.isSome then 0 else 10

/-- The time at which a hit reached at `r` is issued (R75, R76). -/
def Lcg.issueTime (l : Lcg) (r : Nat) : Nat := spaced l.lastHit r l.delay

/-- A hit is late by its time of issue (R76): issued at `t`, held back from the `delay` ns after its reach time `r`. -/
def lateBy (r delay t limit : Nat) : Bool := decide (r + delay < t) && decide (r + limit < t)

/-- The times of hits that leave the kept history at time `t`, while they are less than 10 s old. -/
def Lcg.ageHits (l : Lcg) (t : Nat) : List (Nat × Nat) :=
  ((l.hits.drop 65535).map (fun h => (h.lix, h.time)) ++ l.aged).takeWhile (fun e => decide (t < e.2 + 10000000000))

/-- The hit of the next LIX of LCG `g` at position `pos`, reached at `r`, which `delay` ns follow (R55, R74, R76, R79). -/
def Dev.issueHit (d : Dev) (g : Nat) (pos : Int) (r delay : Nat) (jumped : Bool) : Dev :=
  let l := d.lcg g
  let n := d.nat (Obj.nextLix g)
  let t := spaced l.lastHit r delay
  let late := jumped || lateBy r delay t (d.nat (Obj.lateHitLimit g))
  let d := if n % 256 = 0 then d.flushLcg g (stripOf n - 1) else d
  let before := d
  let d := (d.putN (Obj.nextLix g) ((n + 1) % 2 ^ 64)).handover g n
  let d := d.noteModelSel before g n
  let d := d.noteLateHit g n late jumped
  let h : Hit := { lix := n, pos := pos, time := t, web := d.webAt t, late := late,
                   step := d.nat (Obj.lineStep g), epoch := d.nat Obj.epochCount }
  let d := d.updLcg g (fun l =>
    { l with compare := pos + h.step, since := r, reached := none, waitStart := false, lastHit := some t,
             lastLix := some n, hits := h :: l.hits.take 65535, aged := l.ageHits t })
  let d := d.noteBacklog g
  let d := (d.queueFires g n pos (r + delay - 10) t late).aimEyelets g h r
  let d := if n % 256 = 0 then d.pace 4 g else d
  (d.noteDown g n).mirror (.hit g n pos)

/-- When the next hit's position was reached, if it has been and the LCG may still issue it (R74, R78). -/
def Dev.hitReached (d : Dev) (g : Nat) : Option (Nat × Bool) :=
  let l := d.lcg g
  let r := match l.reached with | some t => some (t, false) | none => d.reach g l.compare l.since
  if l.waitStart then none
  else if d.flag (Obj.lcgRun g) && l.restart.isEmpty then r
  else match r, l.stopAt with
    | some (t, j), some s => if t ≤ s then some (t, j) else none
    | _, _ => none

/-- Log the late range of a port's fires; the entry carries a suspect range (R95, R297). -/
def Dev.logLateFires (d : Dev) (p : Nat) : Dev :=
  let t := d.trig p
  (d.log 0x01 sevWarn 0x0007 [.f p, .w t.lateFirst, .w t.lateLast] (some (d.portLcg p)) 4).updTrig p
    (fun t => { t with lateRun := false })

/-- The LCG has stopped and issued every hit reached before its stop (R78). -/
def Dev.stopped (d : Dev) (g : Nat) : Bool := ! d.flag (Obj.lcgRun g) && (d.hitReached g).isNone

/-- Once the LCG has stopped, its late range is logged, and those of the ports that have fired every LIX (R76, R84). -/
def Dev.stopDone (d : Dev) (g : Nat) : Dev :=
  if d.stopped g then
    let d := if (d.lcg g).lateRun then d.logLateHits g else d
    (List.range 24).foldl (fun d p =>
      if d.portLcg p = g ∧ (d.trig p).lateRun ∧ (d.trig p).pend = [] then d.logLateFires p else d) d
  else d

/-! ## Slip check and failover (R80, R81) -/

/-- The slip check (R80), made once the primary has moved SlipWindow counts. R80 does not speak of a stopped LCG, nor of an SSI
partner before its first good frame: the model checks while LcgRun is 1, and holds the check back until that frame, which is
then the base of the partner's movement. Nor does it speak of an SSI value that wraps at 2^SsiBits: the movement is the plain
difference of the two values (log entry 64). -/
def Dev.slipCheck (d : Dev) (g : Nat) : Dev :=
  let l := d.lcg g
  let src := d.nat (Obj.partnerSource g)
  let ssiReady := decide (src < 4) || (d.pos.ssi.getD (src - 4) { discards := 0, good := false }).good
  if 6 ≤ src ∨ ¬ d.flag (Obj.lcgRun g) ∨ l.slipAbs < d.nat (Obj.slipWindow g) ∨ ¬ ssiReady then d
  else
    let ssi := d.nat (Obj.ssiValue (src - 4))
    let moved : Int := if src < 4 then l.slipPart else (ssi : Int) - l.slipSsi
    let diff := l.slipPrim * 65536 - moved * d.int (Obj.partnerRatio g)
    let ok := decide (diff.natAbs ≤ d.nat (Obj.slipLimit g))
    let d := d.updLcg g (fun l =>
      { l with slipAbs := 0, slipPrim := 0, slipPart := 0, slipSsi := ssi, slipOk := ok })
    if ok then d else (d.bump (Obj.slipCount g)).log 0x01 sevWarn 0x0005 [.f g, .i diff] (some g)

/-- The hits that a failover to position `pos` passes. -/
def Dev.passedHits (d : Dev) (g : Nat) (pos : Int) : Nat :=
  let l := d.lcg g
  if l.waitStart ∨ pos < l.compare then 0 else ((pos - l.compare) / max 1 (d.int (Obj.lineStep g))).toNat + 1

/-! ## Eyelets (R88 to R90) -/

/-- The levels of the action outputs: the level OR any active pulse (R90). -/
def Dev.actPins (d : Dev) : Nat :=
  (List.range 16).foldl (fun m o => if bit d.pos.actLevel o || (Tbl.get? d.pos.actPulse o).isSome then m + 2 ^ o else m) 0

/-- The levels that the device gives its action outputs: they idle while it does not drive them (R305, R306). -/
def Dev.actShown (d : Dev) : Nat := if d.drives then d.actPins else 0

/-- Report the action outputs if they changed. -/
def Dev.emitAct (d before : Dev) : Dev := if d.actShown = before.actShown then d else d.emit (.act d.actShown)

/-- The action of Eyelet `k` at time `t` (R90, R91). R95 lists no event for the action 4 "log only" of an Eyelet that fires on
time: the model does nothing beyond EyFireLix and EyFireTime (log entry 64). -/
def Dev.eyAction (d : Dev) (k t : Nat) : Dev :=
  let o := d.nat (Obj.eyOutput k)
  let d' := match d.nat (Obj.eyAction k) with
    | 1 =>
      let stop := max (Tbl.get d.pos.actPulse o 0) (t + 10 * d.nat (Obj.eyPulse k))
      d.updPos (fun x => { x with actPulse := Tbl.put x.actPulse o stop })
    | 2 => d.updPos (fun x => { x with actLevel := setBit x.actLevel o true })
    | 3 => d.updPos (fun x => { x with actLevel := setBit x.actLevel o false })
    | _ => d
  d'.emitAct d

/-- Eyelet `k` fires at time `t`; `late` gives the lateness of a late firing (R88, R89). -/
def Dev.eyFires (d : Dev) (k t : Nat) (late : Option Nat) : Dev :=
  let g := d.nat (Obj.eyLcg k)
  let d := (d.eyAction k t).pace 3 k
  let d := ((d.putN (Obj.eyFireLix k) (d.curLix g)).putN (Obj.eyFireTime k) (d.stampAt t)).bump Obj.eyFired
  let d := d.updPos (fun x => { x with eyelets := Tbl.del x.eyelets k })
  match late with
  | none => (d.putF (Obj.eyArm k) false).putN (Obj.eyState k) 2
  | some n =>
    let d := (((d.putF (Obj.eyArm k) false).putN (Obj.eyState k) 3).putN (Obj.eyLateLines k) n).bump Obj.eyFiredLate
    d.log 0x01 sevWarn 0x0009 [.f k, .w n] (some g)

/-- The target has passed (R89): the lateness in lines. -/
def Dev.eyPassed (d : Dev) (k : Nat) : Option Nat :=
  let g := d.nat (Obj.eyLcg k)
  let late := lixDiff (d.curLix g) (d.nat (Obj.eyTarget k))
  if 0 < late then some late.toNat
  else if late < 0 then none
  else match (d.lcg g).hits with
    | h :: _ => if h.lix = d.nat (Obj.eyTarget k) ∧ (d.reach g (d.eyTargetPos k h) h.time).isSome then some 0 else none
    | [] => none

/-- The next target of an Eyelet that repeats: EyTarget + EyRepeat with the same fraction (R88). -/
def Dev.eyAdvance (d : Dev) (k : Nat) : Dev :=
  d.putN (Obj.eyTarget k) ((d.nat (Obj.eyTarget k) + d.nat (Obj.eyRepeat k)) % 2 ^ 64)

/-- Eyelet `k` is armed and watches for its target, which has not passed (R89). -/
def Dev.eyWatch (d : Dev) (k : Nat) : Dev :=
  let aim : Eyelet := match (d.lcg (d.nat (Obj.eyLcg k))).hits with
    | h :: _ => if h.lix = d.nat (Obj.eyTarget k) then { target := some (d.eyTargetPos k h), since := d.now }
                else { target := none, since := d.now }
    | [] => { target := none, since := d.now }
  ((d.updPos (fun x => { x with eyelets := Tbl.put x.eyelets k aim })).putF (Obj.eyArm k) true).putN (Obj.eyState k) 1

/-- Eyelet `k` fires at once, `late` lines late (R89); whether it repeats. -/
def Dev.eyFireLate (d : Dev) (k late : Nat) : Dev × RCode × Bool :=
  let e := d.eyFires k d.now (some late)
  if e.nat (Obj.eyRepeat k) = 0 then (e, .ok, false) else (e.eyAdvance k, .ok, true)

/-- One arm of Eyelet `k` (R89): with it the result, and whether the Eyelet has fired at once and repeats. -/
def Dev.eyArmOnce (d : Dev) (k : Nat) : Dev × RCode × Bool :=
  match d.eyPassed k with
  | none => (d.eyWatch k, .ok, false)
  | some late =>
    if d.nat Obj.lateWindow < late then (d.bump Obj.eyRefusedLate, .late, false) else d.eyFireLate k late

/-- An Eyelet that has fired at once and repeats arms itself again, at most `fuel` times. -/
def Dev.eyArmAgain : (fuel : Nat) → Dev → Nat → Dev
  | 0, d, _ => d
  | n + 1, d, k =>
    let r := d.eyArmOnce k
    if r.2.2 then Dev.eyArmAgain n r.1 k else r.1

/-- LateWindow bounds how often a late Eyelet can fire at once and arm itself again. -/
def eyFuel : Nat := 65537

/-- Arm Eyelet `k` (R89). -/
def Dev.eyArmNow (d : Dev) (k : Nat) : Dev × RCode :=
  let r := d.eyArmOnce k
  (if r.2.2 then r.1.eyArmAgain eyFuel k else r.1, r.2.1)

/-- A write of EyArm (R89). A write of 1 to an Eyelet already armed changes nothing: R89 does not speak of it (log entry 64). -/
def Dev.writeEyArm (d : Dev) (k : Nat) (arm : Bool) : Dev × RCode :=
  if arm then
    if d.flag (Obj.eyArm k) then (d, .ok) else d.eyArmNow k
  else if d.flag (Obj.eyArm k) then
    (((d.updPos (fun x => { x with eyelets := Tbl.del x.eyelets k })).putF (Obj.eyArm k) false).putN
      (Obj.eyState k) 0, .ok)
  else (d, .ok)

/-- Arm the Eyelet again at EyTarget + EyRepeat, if it repeats (R88). R88 does not speak of a next target that has passed beyond
LateWindow: the model leaves the Eyelet disarmed with the EyState of its firing and counts EyRefusedLate, as R89 does for a
write (log entry 64). -/
def Dev.eyRearm (d : Dev) (k : Nat) : Dev :=
  if d.nat (Obj.eyRepeat k) = 0 then d
  else ((d.eyAdvance k).eyArmNow k).1

/-- When armed Eyelet `k` has to act, if its target has been reached: 15 ns after the reach time (R75, R94); with it, whether
the target was passed by the jump of a failover. -/
def Dev.eyeDue (d : Dev) (k : Nat) : Option (Nat × Bool) :=
  match Tbl.get? d.pos.eyelets k with
  | some { target := some pos, since := since } =>
    match d.reach (d.nat (Obj.eyLcg k)) pos since with
    | some (r, jumped) => if r + 15 ≤ d.now then some (r + 15, jumped) else none
    | none => none
  | _ => none

/-- Eyelet `k` fires if it is due (R88); a target that a failover passed is reported late (R81). -/
def Dev.eyeletAct (d : Dev) (k : Nat) : Dev :=
  match d.eyeDue k with
  | some (t, jumped) =>
    let g := d.nat (Obj.eyLcg k)
    let late := if jumped then some (lixDiff (d.curLix g) (d.nat (Obj.eyTarget k))).toNat else none
    (d.eyFires k t late).eyRearm k
  | none => d

/-- Insert an Eyelet by the time at which it acts, and by its number among those of one time (R90). -/
def insertDue (e : Nat × Nat) : List (Nat × Nat) → List (Nat × Nat)
  | [] => [e]
  | x :: xs => if e.1 < x.1 || (e.1 == x.1 && decide (e.2 < x.2)) then e :: x :: xs else x :: insertDue e xs

/-- The Eyelets that act before or with Eyelet `k`, which acts at time `t`, in the order of R90. -/
def Dev.eyeletsUpTo (d : Dev) (k t : Nat) : List Nat :=
  let due := d.pos.eyelets.filterMap (fun e => (d.eyeDue e.1).map (fun r => (r.1, e.1)))
  let due := due.filter (fun e => decide (e.1 < t) || (e.1 == t && decide (e.2 ≤ k)))
  (due.foldl (fun acc e => insertDue e acc) []).map Prod.snd

/-- EYELET_FIRE: the position has reached the target of an armed Eyelet (R88). Eyelets of an earlier slot, and those of its own
slot with a lower number, act before it (R90). -/
def Dev.eyeletFire (d : Dev) (k : Nat) : Dev :=
  match d.eyeDue k with
  | some (t, _) => (d.eyeletsUpTo k t).foldl Dev.eyeletAct d
  | none => d

/-- ACTION_PULSE_END: a pulse on an action output ends (R90). -/
def Dev.actionPulseEnd (d : Dev) (o : Nat) : Dev :=
  match Tbl.get? d.pos.actPulse o with
  | some t => if t ≤ d.now then (d.updPos (fun x => { x with actPulse := Tbl.del x.actPulse o })).emitAct d else d
  | none => d

/-! ## Failover (R81) -/

/-- The armed Eyelets of LCG `g` whose targets lie at or before `pos`, in ascending number. -/
def Dev.eyeletsPassed (d : Dev) (g : Nat) (pos : Int) : List Nat :=
  (d.pos.eyelets.filter (fun e => d.nat (Obj.eyLcg e.1) == g &&
    (match e.2.target with | some t => decide (t ≤ pos) | none => false))).map Prod.fst

/-- The failover of LCG `g` to its quadrature partner (R81). The hits and fires that it passes are issued by their
own events, as late. Where no hit was passed, R81 gives the event no range: the model logs SuspectFirst and SuspectLast as they
stand, without the suspect flag (log entry 64). -/
def Dev.failover (d : Dev) (g : Nat) : Dev :=
  let l := d.lcg g
  let part := d.nat (Obj.partnerSource g)
  let moved := (l.partSince - l.partBack) * d.int (Obj.partnerRatio g)
  let pos := d.lcgPos g + moved
  let n := d.passedHits g pos
  let first := d.nat (Obj.nextLix g)
  let d := if n = 0 then d
    else (if l.lateRun then d else d.putN (Obj.suspectFirst g) first).putN (Obj.suspectLast g) (first + n - 1)
  let d := d.updLcg g (fun l =>
    { l with partner := some part, partBase := (d.axis part).pf, posBase := pos, primMoved := 0, partSince := 0, partBack := 0,
             lateRun := l.lateRun || decide (0 < n),
             trail := { t := grid5 d.now, pos := pos, fwd := decide (0 < moved), p := 0, sv := false,
                        u := (d.int (Obj.partnerRatio g)).natAbs, jump := true } :: l.trail })
  let d := d.noteBacklog g
  let d := (d.eyeletsPassed g pos).foldl (fun d k =>
    (d.eyFires k d.now (some (lixDiff (d.curLix g) (d.nat (Obj.eyTarget k))).toNat)).eyRearm k) d
  (d.bump (Obj.failoverCount g)).log 0x01 sevFault 0x0006
    [.f g, .f part, .w (d.nat (Obj.suspectFirst g)), .w (d.nat (Obj.suspectLast g))] (some g) (if n = 0 then 0 else 4)

/-- A condition of R81 holds: LCG `g` has to fail over. -/
def Dev.failoverDue (d : Dev) (g : Nat) : Bool :=
  let moved := ((d.lcg g).partSince * d.int (Obj.partnerRatio g)).natAbs
  d.flag (Obj.lcgRun g) && d.flag (Obj.failoverEnable g) && decide (d.nat (Obj.partnerSource g) < 4) && d.onPrimary g &&
    ((d.axis (d.nat (Obj.primaryAxis g))).loss || decide (d.nat (Obj.failDetect g) < moved))

/-- Fail over if a condition of R81 holds. R80 and R81 do not speak of a stopped LCG: the model checks while LcgRun is 1 (log
entry 64). -/
def Dev.failoverCheck (d : Dev) (g : Nat) : Dev := if d.failoverDue g then d.failover g else d

/-! ## Hits as they fall due (R74, R78, R81) -/

/-- A start that waited behind hits of the run before follows once they are issued (R78). The run before has stopped with its
last hit: its late range, if one is open, is logged (R76). -/
def Dev.resumeStart (d : Dev) (g : Nat) : Dev :=
  match (d.lcg g).restart, d.hitReached g with
  | r :: rest, none =>
    let d := if (d.lcg g).lateRun then d.logLateHits g else d
    match r.at? with
    | some (pos, t) =>
      d.updLcg g (fun l => { l with compare := pos, since := t, reached := some t, stopAt := r.stop, restart := rest })
    | none => d.updLcg g (fun l => { l with waitStart := true, stopAt := none, restart := rest })
  | _, _ => d

/-- LCG_HIT: the position has reached NextCompare, or a hit held back by the spacing falls due (R74, R76). A failover that the
hit's hand-overs make due follows it (R81). -/
def Dev.lcgHit (d : Dev) (g : Nat) : Dev :=
  match d.hitReached g with
  | some (r, j) =>
    let l := d.lcg g
    if l.issueTime r ≤ d.now then
      let d := d.issueHit g l.compare r l.delay j
      ((d.resumeStart g).failoverCheck g).stopDone g
    else d
  | none => d

/-! ## Start, stop, failback (R78, R82) -/

/-- The step that a change of the position's source leaves in the trail: no target is reached by it (R75). -/
def Dev.rebase (d : Dev) (g : Nat) : Dev :=
  d.updLcg g (fun l => { l with trail :=
    { t := d.now, pos := d.lcgPos g, fwd := false, p := 0, sv := false, u := (d.lcgUnit g).natAbs, jump := false } :: l.trail })

/-- The movement of a partner since the primary's last step begins afresh with another partner or primary (R81). -/
def Lcg.newSource (l : Lcg) : Lcg := { l with partSince := 0, partBack := 0 }

/-- PrimaryAxis has been written while the LCG is stopped: its position is that of the new axis (R73), which has still to move and
to pass a slip check before a failback (R82). -/
def Dev.primaryChosen (d : Dev) (g : Nat) : Dev :=
  let d := d.updLcg g Lcg.newSource
  if d.onPrimary g then ((d.updLcg g (fun l => { l with posOff := 0 })).rebase g).noteBacklog g
  else d.updLcg g (fun l => { l with primMoved := 0, slipOk := false })

/-- PartnerRatio has been written while the LCG is stopped, at position `pos`: the position does not jump where the partner is
in charge (R81, R82). -/
def Dev.ratioChosen (d : Dev) (g : Nat) (pos : Int) : Dev :=
  if d.onPrimary g then d else d.updLcg g (fun l => { l with posBase := pos, partBase := (d.axis (d.activeAxis g)).pf })

/-- The start hit at the current position (R78), held back only by the spacing of R76. -/
def Dev.startHit (d : Dev) (g : Nat) : Dev :=
  let pos := d.lcgPos g
  if spaced (d.lcg g).lastHit d.now 0 ≤ d.now then d.issueHit g pos d.now 0 false
  else d.updLcg g (fun l => { l with compare := pos, since := d.now, reached := some d.now, waitStart := false })

/-- The primary axis moves forward (R78): the start hit depends on its Dir, also while the partner is in charge. -/
def Dev.primaryFwd (d : Dev) (g : Nat) : Bool := ! (d.axis (d.nat (Obj.primaryAxis g))).rev

/-- The start of an LCG: with a hit at once, once the web moves forward, or behind the hits that the run before still owes
(R78). R80 does not speak of the movements counted since the last slip check: the model begins them afresh at a start (log
entry 64). -/
def Dev.startLcg (d : Dev) (g : Nat) : Dev :=
  let owes := (d.lcg g).stopAt.isSome && (d.hitReached g).isSome
  let fwd := d.primaryFwd g
  let pos := d.lcgPos g
  let d := ((d.putF (Obj.lcgRun g) true).putN (Obj.maxBacklog g) 0).updLcg g (fun l =>
    { l with slipAbs := 0, slipPrim := 0, slipPart := 0,
             slipSsi := d.nat (Obj.ssiValue (d.nat (Obj.partnerSource g) - 4)),
             trail := if l.trail.isEmpty then
               [{ t := d.now, pos := pos, fwd := d.lcgFwd g, p := 0, sv := false, u := (d.lcgUnit g).natAbs, jump := false }] else l.trail })
  if owes then
    d.updLcg g (fun l => { l with restart := l.restart ++ [{ at? := if fwd then some (pos, d.now) else none, stop := none }] })
  else
    let d := d.updLcg g (fun l => { l with stopAt := none, reached := none })
    if fwd then d.startHit g else d.updLcg g (fun l => { l with waitStart := true })

/-- A stop of an LCG at time `t` (R78). A start hit that still waits for forward motion is given up; one whose position was
reached, and that waits only for the spacing or behind earlier hits, is still issued. -/
def Lcg.stop (l : Lcg) (t : Nat) : Lcg :=
  let kept := l.restart.filter (fun r => r.at?.isSome)
  { l with
    stopAt := if l.waitStart then none else if l.restart.isEmpty then some t else l.stopAt,
    restart := kept.map (fun r => { r with stop := some (r.stop.getD t) }),
    waitStart := false }

/-- A write of LcgRun (R78, R83). A failover that is due already follows the start (R81). A stop ends the wait of a start hit for
forward motion, so Backlog shows again (R77). -/
def Dev.writeLcgRun (d : Dev) (g : Nat) (run : Bool) : Dev × RCode :=
  if run == d.flag (Obj.lcgRun g) then (d, .ok)
  else if run then
    if ! d.flag (Obj.axisEnable (d.nat (Obj.primaryAxis g))) then (d, .state)
    else
      let d := (d.startLcg g).failoverCheck g
      (d.log 0x01 sevInfo 0x000B [.f g, .w (d.curLix g)] (some g), .ok)
  else
    let d := ((d.putF (Obj.lcgRun g) false).updLcg g (fun l => l.stop d.now)).noteBacklog g
    let d := d.stopDone g
    (d.log 0x01 sevInfo 0x000B [.f g, .w (d.curLix g)] (some g), .ok)

/-- A write of 1 to Failback (R82); an LCG on its primary stays there as it is. The partner's movement since the primary's last step stays counted for FailDetect (R81); it
is in the position already (DEDUCED, log entry 64). -/
def Dev.writeFailback (d : Dev) (g : Nat) : Dev × RCode :=
  let l := d.lcg g
  let prim := d.nat (Obj.primaryAxis g)
  if (d.axis prim).loss || decide (l.primMoved < d.nat (Obj.slipWindow g)) || ! l.slipOk then (d, .state)
  else
    let pos := d.lcgPos g
    if d.onPrimary g then (d, .ok)
    else (d.updLcg g (fun l => { l with partner := none, posOff := pos - (d.axis prim).pf * 65536, partBack := l.partSince }), .ok)

/-! ## Counts (R63 to R65) -/

/-- Place of the levels in the forward order A leading B: 00, 10, 11, 01. -/
def quadIndex (a b : Bool) : Nat :=
  match a, b with
  | false, false => 0
  | true, false => 1
  | true, true => 2
  | false, true => 3

/-- Pf and Dir after a count to `c` (R64), and whether Dir flipped. -/
def hysteresis (pf c : Int) (rev : Bool) : Int × Bool :=
  if ! rev then
    if pf < c then (c, false) else if c ≤ pf - 2 then (c + 1, true) else (pf, false)
  else
    if c < pf - 1 then (c + 1, true) else if pf + 1 ≤ c then (c, false) else (pf, true)

/-- What a step of axis `a` by `dir` at time `t` does to LCG `g` (R75, R77, R78, R80, R81). -/
def Dev.lcgStep (d : Dev) (a g : Nat) (dir : Int) (t p : Nat) (sv : Bool) : Dev :=
  let prim := d.nat (Obj.primaryAxis g)
  let part := d.nat (Obj.partnerSource g)
  let d := if d.activeAxis g = a then
      let fwd := decide (0 < dir) == decide (0 < d.lcgUnit g)
      -- a hit that is not reached by now is watched from this step on
      let owed := (d.hitReached g).isSome
      let d := d.updLcg g (fun l => { l with
        since := if owed then l.since else t,
        trail := { t := t, pos := d.lcgPos g, fwd := fwd, p := p, sv := sv, u := (d.lcgUnit g).natAbs, jump := false } :: l.trail })
      let d := d.noteBacklog g
      if (d.lcg g).waitStart && fwd then
        d.updLcg g (fun l => { l with compare := d.lcgPos g, since := t, reached := none, waitStart := false })
      else if fwd then
        d.updLcg g (fun l => { l with restart := l.restart.map (fun r =>
          if r.at?.isNone then { r with at? := some (d.lcgPos g, t) } else r) })
      else d
    else d
  let d := if prim = a then
      (d.updLcg g (fun l => { l with slipAbs := l.slipAbs + 1, slipPrim := l.slipPrim + dir,
                                     primMoved := l.primMoved + 1, partSince := 0, partBack := 0 })).slipCheck g
    else d
  if part = a then
    (d.updLcg g (fun l => { l with slipPart := l.slipPart + dir, partSince := l.partSince + dir })).failoverCheck g
  else d

/-- One count of axis `a` by `dc` (R63 to R65, R68). -/
def Dev.count (d : Dev) (a : Nat) (dc : Int) : Dev :=
  let x := d.axis a
  let t := grid5 d.now
  let c := x.c + dc
  let (pf, rev) := hysteresis x.pf c x.rev
  let p := match x.lastCount with | some s => t - s | none => 0
  let x1 := if x.stillBy (t - 5) (d.stillLimit a) then x.enterStill else x
  let x2 : Axis := { x1 with c := c, pf := pf, rev := rev, lastCount := some t }
  let stepped := pf != x.pf
  let x3 := if stepped then x2.speedStep t (pf - x.pf) (rev != x.rev) (d.nat (Obj.speedAvg a)) else x2
  let d := d.updAxis a (fun _ => x3)
  let d := if wrapsOf c = wrapsOf x.c then d
    else d.log 0x01 sevInfo (if 0 < dc then 0x0001 else 0x0002) [.f a, .i (wrapsOf c)]
  if stepped then (List.range 4).foldl (fun d g => d.lcgStep a g (pf - x.pf) t p x3.valid) d else d

/-- A level that changes again before FilterLen samples have passed has not been held long enough to be accepted (R62). -/
def tooShort (last : Option Nat) (now hold : Nat) : Bool := match last with | some t => decide (now < t + hold) | none => false

/-- Two edges of A and B no more than FilterLen × 5 ns apart (R62). -/
def tooClose (last : Option Nat) (now hold : Nat) : Bool := match last with | some t => decide (now ≤ t + hold) | none => false

/-- FilterLen as a time (R62). -/
def Dev.filterTime (d : Dev) (a : Nat) : Nat := 5 * d.nat (Obj.filterLen a)

/-- The levels of axis `a` that the filter of R62 lets through: one that was not held long enough is ignored, whatever the other
input does. -/
def Dev.heldLevels (d : Dev) (a : Nat) (la lb : Bool) : Bool × Bool :=
  let x := d.axis a
  let short (last : Option Nat) : Bool := tooShort last (grid5 d.now) (d.filterTime a)
  (if short x.edgeA then x.a else la, if short x.edgeB then x.b else lb)

/-- The filter of R62 lets a change of axis `a` to these levels through. -/
def Dev.edgeHeld (d : Dev) (a : Nat) (la lb : Bool) : Bool := d.heldLevels a la lb == (la, lb)

/-- The decoder counts at most 50 million counts per second (R62). What a faster edge does is not said: the model takes it for an
illegal transition (DESIGN CHOICE, log entry 69). -/
def Axis.tooFast (x : Axis) (t : Nat) : Bool := match x.lastCount with | some s => decide (t < s + 20) | none => false

/-- The phases from the decoder's state to new levels, in the order of `quadIndex`: 1 and 3 a count, 2 both levels differ from
the state, 0 none does (R63). -/
def Axis.turn (x : Axis) (la lb : Bool) : Nat := (quadIndex la lb + 4 - quadIndex x.qa x.qb) % 4

/-- The change is an illegal transition: both levels change in one accepted sample, or the other level changed no more than
FilterLen × 5 ns before (R62, R63); or both levels differ from the state that the decoder kept at such a transition. -/
def Dev.illegalEdge (d : Dev) (a : Nat) (la lb : Bool) : Bool :=
  let x := d.axis a
  (la != x.a && lb != x.b) || (la != x.a && tooClose x.edgeB (grid5 d.now) (d.filterTime a)) ||
    (lb != x.b && tooClose x.edgeA (grid5 d.now) (d.filterTime a)) || x.turn la lb == 2 ||
    (x.turn la lb != 0 && x.tooFast (grid5 d.now))

/-- The accepted levels of an axis, with the times of their changes. -/
def Axis.levels (x : Axis) (la lb : Bool) (t : Nat) : Axis :=
  { x with a := la, b := lb, edgeA := if la = x.a then x.edgeA else some t, edgeB := if lb = x.b then x.edgeB else some t }

/-- New accepted levels of A and B on axis `a` (R62, R63). -/
def Dev.acceptLevels (d : Dev) (a : Nat) (la lb : Bool) : Dev :=
  let x := d.axis a
  let d' := d.updAxis a (fun x => { x.levels la lb (grid5 d.now) with qa := la, qb := lb })
  if la == x.a && lb == x.b then d
  else if ! d.domOn pdPos || ! d.flag (Obj.axisEnable a) || x.loss then d'
  else if d.illegalEdge a la lb then
    -- R63: nothing is counted and the decoder keeps its previous state
    let d := (d.updAxis a (fun x => x.levels la lb (grid5 d.now))).bump (Obj.illegalCount a)
    d.logRep 0x01 sevWarn 0x0003 a (fun _ => [.f a, .w (d.nat (Obj.illegalCount a))])
  else if x.turn la lb = 0 then d'
  else d'.count a (if (x.turn la lb == 1) != d.flag (Obj.countDir a) then 1 else -1)

/-- ENCODER_COUNT: levels of A and B on axis `a`, of which the filter lets through what has been held (R62). -/
def Dev.encoderCount (d : Dev) (a : Nat) (la lb : Bool) : Dev :=
  let l := d.heldLevels a la lb
  d.acceptLevels a l.1 l.2

/-- STANDSTILL: no step of Pf for StandstillTime (R68). -/
def Dev.standstill (d : Dev) (a : Nat) : Dev :=
  if (d.axis a).stillBy (grid5 d.now) (d.stillLimit a) then d.updAxis a Axis.enterStill else d

/-- SIGNAL_LOSS: a receiver of axis `a` reports the loss or the recovery of pair 0 A, 1 B or 2 Z (R67). When the last
flag clears, the accepted levels become the decoder's state without counting. -/
def Dev.signalLoss (d : Dev) (a pair : Nat) (lost la lb lz : Bool) : Dev :=
  let x := d.axis a
  let x' : Axis :=
    { x with
      a := la, b := lb, qa := la, qb := lb, z := lz,
      lossA := if pair = 0 then lost else x.lossA, lossB := if pair = 1 then lost else x.lossB,
      lossZ := if pair = 2 then lost else x.lossZ }
  let changed := x'.lossA != x.lossA || x'.lossB != x.lossB || x'.lossZ != x.lossZ
  let d := d.updAxis a (fun _ => x')
  let d := if changed then d.log 0x01 sevFault 0x0004 [.f a, .f x'.signal] else d
  (List.range 4).foldl (fun d g => if d.nat (Obj.primaryAxis g) = a then d.failoverCheck g else d) d

/-- INDEX_LATCH: an accepted rising edge on Z (R67). -/
def Dev.indexLatch (d : Dev) (a : Nat) : Dev :=
  let x := d.axis a
  let d := d.updAxis a (fun x => { x with z := true })
  if d.flag (Obj.axisEnable a) && ! x.loss then d.putI (Obj.indexLatch a) x.c else d

/-! ## SSI inputs (R71) -/

/-- Gray to binary, most significant bit first: each bit is the XOR of the Gray bits down to it. -/
def grayDecode (bits : List Bool) : List Bool :=
  (bits.foldl (fun (acc : List Bool × Bool) g => let x := acc.2 != g; (acc.1 ++ [x], x)) ([], false)).1

/-- The number of bits read MSB first. -/
def bitsNat (bits : List Bool) : Nat := bits.foldl (fun n b => 2 * n + b2n b) 0

/-- SSI_FRAME: one frame on input `s` (R71). Bits that the operand does not list read as low. -/
def Dev.ssiFrame (d : Dev) (s : Nat) (highBefore lowAfter : Bool) (bits : List Bool) : Dev :=
  if ! d.domOn pdPos || ! d.flag (Obj.ssiEnable s) then d
  else
    let n := d.nat (Obj.ssiBits s)
    let par := d.nat (Obj.ssiParity s)
    let frame := (bits ++ List.replicate (n + 1) false).take (if par = 0 then n else n + 1)
    let ones := (frame.filter id).length
    let parityOk := par == 0 || (if par = 1 then ones % 2 == 0 else ones % 2 == 1)
    let x := d.pos.ssi.getD s { discards := 0, good := false }
    let setSsi (d : Dev) (y : Ssi) : Dev := d.updPos (fun x => { x with ssi := x.ssi.modify s (fun _ => y) })
    if ! highBefore || ! lowAfter || ! parityOk then
      let d := (setSsi d { x with discards := x.discards + 1 }).bump (Obj.ssiErrorCount s)
      if x.discards + 1 = 3 then
        (d.putF (Obj.ssiFault s) true).log 0x01 sevWarn 0x0008 [.f s, .w (d.nat (Obj.ssiErrorCount s))]
      else d
    else
      let data := frame.take n
      let v := bitsNat (if d.nat (Obj.ssiCode s) = 1 then grayDecode data else data)
      let first := ! x.good
      let d := ((setSsi d { discards := 0, good := true }).putN (Obj.ssiValue s) v).putF (Obj.ssiFault s) false
      (List.range 4).foldl (fun d g =>
        if d.nat (Obj.partnerSource g) = 4 + s then
          (if first then d.updLcg g (fun l => { l with slipSsi := v }) else d).slipCheck g
        else d) d

/-! ## Event inputs (R92) -/

/-- The fraction of an event stamp (R92): 0 during a backlog. -/
def Dev.stampFrac (d : Dev) (g : Nat) : Nat :=
  match (d.lcg g).hits with
  | h :: _ => (clamp ((d.lcgPos g - h.pos) * 65536 / max 1 (d.int (Obj.lineStep g))) 0 65535).toNat
  | [] => 0

/-- A change of input `i` is accepted only after the level has been stable for EvFilter µs: no two accepted changes are closer
(R92). -/
def Dev.evHeld (d : Dev) (i : Nat) : Bool := ! tooShort (Tbl.get? d.pos.evAt i) d.now (1000 * d.nat (Obj.evFilter i))

/-- EVENT_INPUT: an accepted change of level on input `i` (R92). -/
def Dev.eventInput (d : Dev) (i : Nat) (level : Bool) : Dev :=
  let was := bit d.pos.evLevel i
  if was == level || ! d.evHeld i then d
  else
  let d := d.updPos (fun x => { x with evLevel := setBit x.evLevel i level, evAt := Tbl.put x.evAt i d.now })
  let edge := d.nat (Obj.evEdge i)
  let selected := was != level && (edge == 2 || (edge == 0 && level) || (edge == 1 && ! level))
  if ! d.domOn pdPos || ! d.flag (Obj.evEnable i) || ! selected then d
  else
    let g := d.nat (Obj.evLcg i)
    let lix := d.curLix g
    let frac := d.stampFrac g
    let d := (((d.putN (Obj.evLastLix i) lix).putN (Obj.evLastFrac i) frac).putN (Obj.evLastTime i) d.stamp).bump
      (Obj.evCount i)
    let d := d.log 0x01 sevInfo 0x000A [.f i, .w lix, .f frac] (some g)
    let k := d.nat (Obj.evArmEyelet i)
    if 255 < k then d
    else if d.flag (Obj.eyArm k) then d.bump (Obj.evArmMissed i)
    else
      let aimed := (d.putN (Obj.eyTarget k) ((lix + d.nat (Obj.evArmDelay i)) % 2 ^ 64)).putN (Obj.eyFrac k) frac
      match aimed.eyArmNow k with
      | (d', .ok) => d'
      | _ => (d.bump Obj.eyRefusedLate).bump (Obj.evArmMissed i)

/-! ## Port triggers (R84, R85) -/

/-- The fire of a port that falls due: its entry, the time of issue, and whether it is late (R84). -/
def Dev.fireDue (d : Dev) (p : Nat) : Option (PendFire × Nat × Bool) :=
  let t := d.trig p
  match t.pend with
  | [] => none
  | e :: _ =>
    match d.reach e.lcg e.target e.since with
    | none => none
    | some (r, jumped) =>
      let atT := max (spaced t.lastFire r 10) e.notBefore
      if atT ≤ d.now then some (e, atT, jumped || lateBy r 10 atT (d.nat (Obj.lateHitLimit e.lcg))) else none

/-- The position unit's side of a port fire: what is left is handed to ingress (R84). -/
def Dev.takeFire (d : Dev) (p : Nat) (e : PendFire) (atT : Nat) (late : Bool) : Dev :=
  let fired := d.flag (Obj.portEnable p)
  let d := d.updTrig p (fun t => { t with
    pend := t.pend.drop 1, lastFire := some atT, lastLix := if fired then some e.lix else t.lastLix })
  let t := d.trig p
  let d :=
    if late then
      ((d.bump (Obj.portLateCount p)).addRange e.lcg false scPort p 8 e.lix).updTrig p (fun t =>
        { t with lateRun := true, lateFirst := if t.lateRun then t.lateFirst else e.lix, lateLast := e.lix })
    else if t.lateRun then d.logLateFires p
    else d
  if (d.trig p).lateRun && (d.trig p).pend.isEmpty && d.stopped e.lcg then d.logLateFires p else d

/-- The next LIX that a port fires (R87). -/
def Dev.portNextLix (d : Dev) (p : Nat) : Nat :=
  match (d.trig p).pend with
  | e :: _ => e.lix
  | [] => d.nat (Obj.nextLix (d.portLcg p))

/-! ## Writes of the position unit's objects -/

/-- The effect of AxisEnable going from 0 to 1 (R64): Dir forward and Pf = C. R64 and R68 do not speak of Speed: the model clears
Speed and SpeedValid and sets `restart`, so that no interval reaches over the time the axis was off (log entry 69). -/
def Dev.enableAxis (d : Dev) (a : Nat) : Dev :=
  let d := d.updAxis a (fun x => { x with qa := x.a, qb := x.b, edgeA := none, edgeB := none, pf := x.c, rev := false, restart := true, spdK := 0, valid := false })
  (List.range 4).foldl (fun d g =>
    if d.activeAxis g = a then
      d.updLcg g (fun l => { l with trail := { t := d.now, pos := d.lcgPos g, fwd := decide (0 < d.lcgUnit g), p := 0,
                                               sv := false, u := (d.lcgUnit g).natAbs, jump := false } :: l.trail })
        |>.noteBacklog g
    else d) d

/-- The SSI frame and 20 µs of monoflop time fit SsiPeriod (R72); times in ns. -/
def Dev.ssiPeriodOk (d : Dev) (s period : Nat) : Bool :=
  decide (ceilDiv ((d.nat (Obj.ssiBits s) + (if d.nat (Obj.ssiParity s) = 0 then 0 else 1)) * 1000000000)
    (d.nat (Obj.ssiClock s)) + 20000 ≤ period * 1000)

end Sys2Proof.Machine
end

