-- ==== Sys2Proof/Machine/Ingress.lean ====
section
/-! DEFINITION. Camera ingress (chapter 04): port states, lanes, the line ledger, trigger packets, the control channel
bridge. -/

namespace Sys2Proof.Machine

/-- The LCG of a port for its log entries, if it is triggered. -/
def Dev.portLcg? (d : Dev) (p : Nat) : Option Nat := if d.portLcg p < 4 then some (d.portLcg p) else none

def Dev.port (d : Dev) (p : Nat) : Port := d.ports.getD p Port.reset
def Dev.updPort (d : Dev) (p : Nat) (f : Port → Port) : Dev := { d with ports := d.ports.modify p f }

/-! ## Formats (R97, R98, R113) -/

def fmtRgb8 : Nat := 0x20

/-- Bits that one sample takes on the link, and its bit depth (R97). -/
def formatBits (code : Nat) : Nat × Nat :=
  match code with
  | 0x01 => (8, 8)
  | 0x02 => (16, 10)
  | 0x03 => (10, 10)
  | 0x04 => (16, 12)
  | 0x05 => (12, 12)
  | 0x06 => (16, 14)
  | 0x07 => (16, 16)
  | 0x20 => (8, 8)
  | c => if c < 0x14 then (8, 8) else if c < 0x18 then (10, 10) else (12, 12)

/-- The four Bayer orders (R97). -/
def isBayer (code : Nat) : Bool := decide (0x10 ≤ code ∧ code ≤ 0x1B)

def formatCodes : List Int :=
  [1, 2, 3, 4, 5, 6, 7, 0x10, 0x11, 0x12, 0x13, 0x14, 0x15, 0x16, 0x17, 0x18, 0x19, 0x1A, 0x1B, 0x20]

def Dev.portPlanes (d : Dev) (p : Nat) : Nat := d.nat (Obj.streamPlanes p)
def Dev.portFormat (d : Dev) (p : Nat) : Nat := d.nat (Obj.pixelFormat p)
def Dev.portWidth (d : Dev) (p : Nat) : Nat := d.nat (Obj.lineWidth p)

/-- The streams of a port (R98). -/
def Dev.portStreams (d : Dev) (p : Nat) : Nat :=
  if d.portFormat p = fmtRgb8 then (if d.portPlanes p = 4 then 2 else 1) else d.portPlanes p

/-- The planes that a stream carries (R98). -/
def Dev.streamPlanesOf (d : Dev) (p stream : Nat) : List Nat :=
  if d.portFormat p = fmtRgb8 then (if stream = 0 then [0, 1, 2] else [3]) else [stream]

/-- The format expected in the headers of a stream (R97). -/
def Dev.streamFormat (d : Dev) (p stream : Nat) : Nat :=
  if d.portFormat p = fmtRgb8 ∧ stream = 1 then 1 else d.portFormat p

/-- The bytes of one plane of a line (R113). -/
def planeBytes (code width : Nat) : Nat := ceilDiv (width * (formatBits code).1) 8

/-- The line payload of a port (R113). -/
def Dev.linePayload (d : Dev) (p : Nat) : Nat := d.portPlanes p * planeBytes (d.portFormat p) (d.portWidth p)

/-- The payload rate of a lane in bit/s: 0.8 of the line rate of the speed (R113). -/
def lanePayload (speed : Nat) : Nat :=
  match speed with
  | 1 => 1000000000
  | 2 => 2000000000
  | 3 => 2500000000
  | 5 => 4000000000
  | 6 => 5000000000
  | 10 => 8000000000
  | 12 => 10000000000
  | _ => 0

/-- The first admission rule of R113 at a speed: payload × rate × 1.04 within the lanes. -/
def Dev.payloadFits (d : Dev) (p speed : Nat) : Bool :=
  decide (d.linePayload p * 8 * d.nat (Obj.maxLineRate p) * 104 ≤ d.nat (Obj.laneCount p) * lanePayload speed * 100)

/-- The port's own admission rules of R113; LinkSpeed 0 uses CXP-12. -/
def Dev.payloadAdmitted (d : Dev) (p : Nat) : Bool :=
  d.payloadFits p (if d.nat (Obj.linkSpeed p) = 0 then 12 else d.nat (Obj.linkSpeed p))

/-- The trigger pulse ends before the next line (R113). -/
def Dev.pulseFits (d : Dev) (p : Nat) : Bool := decide (d.nat (Obj.trigPulse p) * 10 * d.nat (Obj.maxLineRate p) < 1000000000)

/-- The window rules of R103. -/
def Dev.windowOk (d : Dev) (p : Nat) : Bool :=
  let lo := d.nat (Obj.winMin p)
  let hi := d.nat (Obj.winMax p)
  let rate := d.nat (Obj.maxLineRate p)
  decide (lo ≤ hi ∧ (hi - lo) * rate < 1000000000 ∧ hi * rate ≤ 255 * 1000000000)

/-- What a write of MaxLineRate must leave (R103, R113): the windows of consecutive fires never overlap, and the trigger pulse
ends before the next line. -/
def Dev.rateFits (d : Dev) (p : Nat) : Bool := d.pulseFits p && d.windowOk p

/-- RGB8 goes with 3 or 4 planes (R98). -/
def Dev.planesOk (d : Dev) (p : Nat) : Bool :=
  d.portFormat p != fmtRgb8 || d.portPlanes p == 3 || d.portPlanes p == 4

/-! ## Port states (R99) -/

def Dev.portState (d : Dev) (p : Nat) : Nat := d.nat (Obj.portState p)

/-- No speed is negotiated any more; the master connection runs at `master`, CXP-1 during discovery (R96, R99). -/
def Dev.dropSpeed (d : Dev) (p master : Nat) : Dev :=
  (List.range 8).foldl (fun d i => d.putN (Obj.laneSpeed (8 * p + i)) (if i = 0 then master else 0))
    (d.putN (Obj.speedInUse p) 0)

/-- Enter a port state and log the change (R119). -/
def Dev.setPortState (d : Dev) (p new : Nat) : Dev :=
  let old := d.portState p
  if old = new then d
  else
    let d := (d.putN (Obj.portState p) new).updPort p (fun x => { x with since := d.now })
    let d := if new = 4 then d.endDown (d.portLcg p) else d
    let d := if new = 0 ∨ new = 1 ∨ new = 5 then d.dropSpeed p (b2n (new == 1)) else d
    d.log 0x02 sevInfo 0x0001 [.f p, .f old, .f new] (d.portLcg? p)

/-- The link is lost: a line not fully received is missing with cause Link, unless an earlier cause applied (R100). An entry
whose planes all have a line in progress closes at once. -/
def LedgerEntry.loseLink (e : LedgerEntry) : LedgerEntry :=
  if e.closed then e
  else { e with cause := if e.cause = 0 then (if e.format then 4 else 3) else e.cause, closed := e.planes.all (fun q => q.matched) }

/-- Data of the line has come in, and not all of it (R100). -/
def LedgerEntry.cutOff (e : LedgerEntry) : Bool := ! e.closed && e.planes.any (fun q => q.matched && ! q.complete)

/-- A port falls into Fault. The lines outstanding when it leaves Streaming, or has left it and not come back, are Link, and so is
a line in progress in any state; in every other state an unmatched line takes Timeout (R99, R100, R104). Line starts that a standby
holds are forgotten with the data that followed them. -/
def Dev.portFault (d : Dev) (p : Nat) : Dev :=
  let d := d.updPort p (fun x =>
    let lost := x.faulted || d.portState p == 4
    { x with faulted := lost, cur := [], held := [],
             ledger := x.ledger.map (fun e => if lost || e.cutOff then e.loseLink else e) })
  d.setPortState p 5

/-- DISCOVERY_TIMEOUT (R99). -/
def Dev.discoveryTimeout (d : Dev) (p : Nat) : Dev :=
  if d.portState p = 1 ∧ (d.port p).since + 500000000 ≤ d.now then d.setPortState p 5 else d

/-- FAULT_RETRY: Discovery again 100 ms after entry into Fault (R99). -/
def Dev.faultRetry (d : Dev) (p : Nat) : Dev :=
  if d.portState p = 5 ∧ (d.port p).since + 100000000 ≤ d.now then d.setPortState p 1 else d

/-- The lane-count event (R99, R119). -/
def Dev.laneCountEvent (d : Dev) (p : Nat) : Dev :=
  d.log 0x02 sevFault 0x0003 [.f p, .f (d.nat (Obj.laneCount p)), .f (d.nat (Obj.speedInUse p))] (d.portLcg? p)

/-- The speeds of R96. -/
def cxpSpeeds : List Nat := [1, 2, 3, 5, 6, 10, 12]

/-- MASTER_CONNECTION_ANSWERS: the camera answers discovery with its speeds and connections (R99). -/
def Dev.masterAnswers (d : Dev) (p : Nat) (speeds : List Nat) (connections : Nat) : Dev :=
  if d.portState p ≠ 1 then d
  else
    let want := d.nat (Obj.linkSpeed p)
    let offered := speeds.filter (fun s => cxpSpeeds.contains s)
    let speed := if want = 0 then maxN offered else want
    let d := (d.updPort p (fun x => { x with offered := some (speeds, connections), heard := d.now })).setPortState p 2
    let d := d.putN (Obj.speedInUse p) speed
    if connections < d.nat (Obj.laneCount p) ∨ ¬ offered.contains speed ∨ ¬ d.payloadFits p speed then
      (d.laneCountEvent p).setPortState p 5
    else (List.range (d.nat (Obj.laneCount p))).foldl (fun d i => d.putN (Obj.laneSpeed (8 * p + i)) speed) d

/-! ## Lanes (R100) -/

/-- LANE_LOCK: a lane achieves lock; its adaptation runs (R100, R101). -/
def Dev.laneLock (d : Dev) (n : Nat) : Dev :=
  let p := n / 8
  let d := d.updPort p (fun x => { x with invalid := Tbl.del x.invalid (n % 8), measured := Tbl.put x.measured (n % 8) d.now })
  (d.putF (Obj.laneLocked n) true).putN (Obj.lanesLocked p) (setBit (d.nat (Obj.lanesLocked p)) (n % 8) true)

/-- When lane `n` was last measured: now while it is locked, else when it lost lock (R101). -/
def Dev.laneMeasured (d : Dev) (n : Nat) : Option Nat :=
  if d.flag (Obj.laneLocked n) then some d.now else Tbl.get? (d.port (n / 8)).measured (n % 8)

/-- The invalid code groups of a lane within the last 10 µs, the `k` consecutive ones of this moment among them (R100). -/
def Dev.invalidGroups (d : Dev) (n k : Nat) : List (Nat × Nat) :=
  (d.now, k) :: (Tbl.get (d.port (n / 8)).invalid (n % 8) []).filter (fun e => decide (d.now ≤ e.1 + 10000))

/-- Lane `n` loses lock; on a used lane that takes the port to Fault (R100). -/
def Dev.loseLane (d : Dev) (n : Nat) : Dev :=
  let p := n / 8
  let d := d.updPort p (fun x => { x with invalid := Tbl.del x.invalid (n % 8), measured := Tbl.put x.measured (n % 8) d.now })
  let d := (d.putF (Obj.laneLocked n) false).putN (Obj.lanesLocked p) (setBit (d.nat (Obj.lanesLocked p)) (n % 8) false)
  let d := d.bump (Obj.lockLosses n)
  let d := d.log 0x02 sevFault 0x0002 [.f n, .w (d.nat (Obj.lockLosses n))] (d.portLcg? p)
  if n % 8 < d.nat (Obj.laneCount p) ∧ 1 ≤ d.portState p ∧ d.portState p ≤ 4 then d.portFault p else d

/-- LANE_LOCK_LOST: `invalid` consecutive invalid code groups arrive on a lane (DEDUCED, log entry 65). A locked lane loses lock
with 4 of them, or with 64 invalid groups within 10 µs (R100). -/
def Dev.laneLockLost (d : Dev) (n invalid : Nat) : Dev :=
  let d := d.bumpBy (Obj.codeErrors n) invalid
  let recent := d.invalidGroups n invalid
  if ! d.flag (Obj.laneLocked n) then d
  else if 4 ≤ invalid ∨ 64 ≤ sumN (recent.map (fun e => e.2)) then d.loseLane n
  else d.updPort (n / 8) (fun x => { x with invalid := Tbl.put x.invalid (n % 8) recent })

/-- All used lanes are locked. -/
def Dev.lanesReady (d : Dev) (p : Nat) : Bool :=
  (List.range (d.nat (Obj.laneCount p))).all (fun i => d.flag (Obj.laneLocked (8 * p + i)))

/-- The camera has been silent for HeartbeatTimeout (R99). -/
def Dev.heartbeatTimeout (d : Dev) (p : Nat) : Dev :=
  let t := d.nat (Obj.heartbeatTimeout p)
  if (d.portState p = 3 ∨ d.portState p = 4) ∧ (d.port p).heard + t * 1000000 ≤ d.now then
    (d.log 0x02 sevFault 0x000A [.f p, .w t] (d.portLcg? p)).portFault p
  else d

/-! ## The ledger (R102 to R107) -/

def PlaneRx.empty : PlaneRx := { matched := false, complete := false, pixels := 0, long := false, samples := [] }

/-- The LVDS output of a port goes active 25 ns after the fire at time `f`, for `len` ns (R115). -/
def Dev.lvdsPulse (d : Dev) (p f len : Nat) (active : Bool) : Dev :=
  (d.updTrig p (fun t => { t with lvdsEnd := some (f + 25 + len, active) })).emit (.lvds p active (f + 25))

/-- The active level of a port's LVDS output, and the length of its pulse in ns (R115). -/
def Dev.lvdsPlan (d : Dev) (p : Nat) : Nat × Bool := (10 * d.nat (Obj.trigPulse p), ! d.flag (Obj.trigPolarity p))

/-- A pulse under way ends at once: the output returns to the inactive level (R109, R115, R458). -/
def Dev.idleLvds (d : Dev) (p : Nat) : Dev :=
  match (d.trig p).lvdsEnd with
  | some (_, active) => (d.updTrig p (fun t => { t with lvdsEnd := none })).emit (.lvds p (! active) d.now)
  | none => d

/-- The idle LVDS output of a port takes the inactive level of TrigPolarity (R115). -/
def Dev.idleLevel (d : Dev) (p : Nat) : Dev :=
  let level := d.flag (Obj.trigPolarity p)
  (d.updTrig p (fun t => { t with idle := level })).emit (.lvds p level d.now)

/-- Where the idle LVDS output of a port does not stand at the inactive level of its TrigPolarity, it takes that level (R115). -/
def Dev.repolarise (d : Dev) (p : Nat) : Dev :=
  if (d.trig p).idle ≠ d.flag (Obj.trigPolarity p) ∧ d.domOn pdPos then d.idleLevel p else d

/-- PD_POS alone drives a fire of a port that triggered by LVDS when the Hub restarted (R437; DEDUCED, log entry 65). -/
def Dev.lvdsAlone (d : Dev) (p f : Nat) : Dev :=
  match (d.trig p).lvds with
  | some (len, active) => if d.drives then d.lvdsPulse p f len active else d
  | none => d

/-- Enter a trigger packet by the time at which it is sent, after those sent at the same time (R114). -/
def insertPacket (k : TrigPacket) : List TrigPacket → List TrigPacket
  | [] => [k]
  | x :: xs => if k.sent < x.sent then k :: x :: xs else x :: insertPacket k xs

/-- The rising-edge packet of a fire at time `f`, which waits for its acknowledge, and its falling edge, due at `fall`. A standby that
has entered them for its own fire does not enter them again when the fire is mirrored (R311). -/
def Port.expect (x : Port) (lix f fall : Nat) : Port :=
  if x.packets.any (fun k => k.rising && k.lix == lix) then x
  else { x with
    packets := insertPacket { lix := lix, rising := true, sent := f + 40, answered := none, counted := false } x.packets,
    falling := x.falling ++ [(fall, lix)] }

/-- When the falling edge of a fire at time `f` is due: TrigPulse after the rising one (R114). -/
def Dev.fallTime (d : Dev) (p f : Nat) : Nat := f + 25 + 10 * d.nat (Obj.trigPulse p)

/-- Trigger packets and pulses that take a fire at time `f` to the camera (R114, R115). The packet starts 40 ns after
the fire and its delay field places the edge at the instant of the LVDS edge, 25 ns after the fire. A standby sends
nothing, but keeps the packets of the active, whose acknowledges it hears (R311). -/
def Dev.sendTrigger (d : Dev) (p lix f : Nat) : Dev :=
  let mode := d.nat (Obj.trigMode p)
  let d := if mode = 1 ∨ mode = 3 then
      let d := d.updPort p (fun x => x.expect lix f (d.fallTime p f))
      if d.drives then d.emit (.trigger p lix true 15) else d
    else d
  if (mode = 2 ∨ mode = 3) ∧ d.drives then d.lvdsPulse p f (d.lvdsPlan p).1 (d.lvdsPlan p).2 else d

/-- Create the ledger entry of a fire of LIX `lix` at time `f` (R102, R104). -/
def Dev.openEntry (d : Dev) (p lix f : Nat) (suspect : Bool) (send : Bool) : Dev :=
  let x := d.port p
  let tooSoon := match x.lastKept with
    | some k => decide ((f - k) * d.nat (Obj.maxLineRate p) < 1000000000)
    | none => false
  let e : LedgerEntry :=
    { lix := lix, fire := f, suspect := suspect, link := x.faulted && d.portState p != 4, format := false,
      overrun := false, corrupt := false, cutoff := none, closed := tooSoon, cause := if tooSoon then 2 else 0,
      planes := List.replicate (d.portPlanes p) PlaneRx.empty, bytes := 0 }
  let d := (d.bump (Obj.firedCount p) 64).updPort p (fun x =>
    { x with ledger := x.ledger ++ [e], lastKept := if tooSoon then x.lastKept else some f })
  if tooSoon then d.bump (Obj.overRateCount p) else if send then d.sendTrigger p lix f else d

/-- The fire of LIX `lix` was dropped: its entry closed at once with cause OverRate, and nothing goes to the camera (R104). -/
def Dev.droppedFire (d : Dev) (p lix : Nat) : Bool := (d.port p).ledger.any (fun e => e.lix == lix && e.closed && e.cause == 2)

/-- A fire of a port reaches ingress (R102, R458). A stopped port consumes it without effect; a standby takes its
entries from the active (R109). -/
def Dev.ingressFire (d : Dev) (p lix f : Nat) (suspect : Bool) : Dev :=
  if ! d.flag (Obj.portEnable p) then d
  else if d.standby then d
  else
    let d := d.updStitch (fun x => { x with ports := x.ports.modify p (fun s =>
      { s with fires := ((lix, f) :: s.fires).take 16384 }) })
    (d.openEntry p lix f suspect true).mirror (.fire p lix f)

/-- Close the entry of LIX `lix`. -/
def Dev.updEntry (d : Dev) (p lix : Nat) (f : LedgerEntry → LedgerEntry) : Dev :=
  d.updPort p (fun x => { x with ledger := x.ledger.map (fun e => if e.lix = lix then f e else e) })

/-- Every enabled plane of an entry is matched and complete. -/
def LedgerEntry.full (e : LedgerEntry) : Bool := e.planes.all (fun q => q.matched && q.complete)

/-- Close an entry that is full (R102). -/
def LedgerEntry.closeIfFull (e : LedgerEntry) : LedgerEntry := if e.full then { e with closed := true } else e

/-- WINDOW_EXPIRY: close the entries whose window has passed with a plane unmatched (R102). -/
def Dev.windowExpiry (d : Dev) (p : Nat) : Dev :=
  d.updPort p (fun x => { x with ledger := x.ledger.map (fun e =>
    if ! e.closed && decide (e.fire + d.natAt (Obj.winMax p) e.lix < d.now) && e.planes.any (fun q => ! q.matched) then
      { e with closed := true }
    else e) })

/-- The entry in whose window a line start at time `t` falls. -/
def Dev.entryAt (d : Dev) (p t : Nat) : Option LedgerEntry :=
  (d.port p).ledger.find? (fun e =>
    ! e.closed && decide (e.fire + d.natAt (Obj.winMin p) e.lix ≤ t ∧ t ≤ e.fire + d.natAt (Obj.winMax p) e.lix))

/-- End the line in progress on a stream: its planes are complete. -/
def Dev.endStream (d : Dev) (p stream : Nat) : Dev :=
  match Tbl.get? (d.port p).cur stream with
  | some (some lix) =>
    let ps := d.streamPlanesOf p stream
    (d.updEntry p lix (fun e => if e.closed then e else
      ({ e with planes := (List.range e.planes.length).map (fun i =>
          let q := e.planes.getD i PlaneRx.empty
          if ps.contains i then { q with complete := true } else q) } : LedgerEntry).closeIfFull)).updPort p
      (fun x => { x with cur := Tbl.del x.cur stream })
  | _ => d.updPort p (fun x => { x with cur := Tbl.del x.cur stream })

/-- The entry that a line start of a stream at time `t` matches: one in whose window it falls, no plane of the stream being matched
yet (R102). A line start on a stream that the port does not have matches none: R97 and R102 do not speak of it, and the model's choice is
that it is unsolicited, logs no format event and does not take the port to Streaming (log entry 65). -/
def Dev.startMatch (d : Dev) (p stream t : Nat) : Option LedgerEntry :=
  (d.entryAt p t).filter (fun e => decide (stream < d.portStreams p) &&
    ! (d.streamPlanesOf p stream).any (fun i => (e.planes.getD i PlaneRx.empty).matched))

/-- A line start is matched to an entry, or its line is unsolicited (R102); `ok`: its stream and format are right. -/
def Dev.startLine (d : Dev) (p stream : Nat) (ok : Bool) (hit : Option LedgerEntry) : Dev :=
  let ps := d.streamPlanesOf p stream
  match hit with
  | some e =>
    (d.updEntry p e.lix (fun e => { e with
      format := e.format || ! ok,
      planes := (List.range e.planes.length).map (fun i =>
        let q := e.planes.getD i PlaneRx.empty
        if ps.contains i then { q with matched := true } else q) })).updPort p
      (fun x => { x with cur := Tbl.put x.cur stream (some e.lix) })
  | none =>
    let d := (d.bump (Obj.unsolicitedCount p)).updPort p (fun x => { x with cur := Tbl.put x.cur stream none })
    d.logRep 0x02 sevWarn 0x0006 p (fun _ => [.f p, .w (d.nat (Obj.unsolicitedCount p))]) (d.portLcg? p)

/-- A LINE_START received (R97, R99, R102). On a standby one that matches no entry yet is held for up to 2 µs (R313). -/
def Dev.takeStart (d : Dev) (p stream format : Nat) : Dev :=
  if d.portState p ≠ 3 ∧ d.portState p ≠ 4 then d
  else
    let d := (d.endStream p stream).updPort p (fun x => { x with heard := d.now })
    let ok := decide (stream < d.portStreams p) && format == d.streamFormat p stream
    let d := if d.portState p = 3 ∧ ok then (d.setPortState p 4).updPort p (fun x => { x with faulted := false }) else d
    let d := if decide (stream < d.portStreams p) && ! ok then
      d.logRep 0x02 sevFault 0x0004 p (fun _ => [.f p, .f format]) (d.portLcg? p) else d
    let hit := d.startMatch p stream d.now
    if hit.isNone ∧ (d.role = 2 ∨ d.role = 3) then
      d.updPort p (fun x => { x with held := x.held ++ [{ stream := stream, time := d.now, ok := ok, packets := [] }] })
    else d.startLine p stream ok hit

/-- The bytes held in a port's 512 KiB ingress buffer: the lines in reception, and what a repair holds back. -/
def Dev.ingressBytes (d : Dev) (p : Nat) : Nat :=
  let e := d.eng.ports.getD p EngPort.reset
  sumN ((d.port p).ledger.map (fun e => e.bytes)) +
    (if e.creditsHeld then sumN (e.queue.map (fun l => if l.missing then 0 else d.linePayload p)) else 0)

/-- The samples of plane `i` of `n` interleaved ones in a packet whose first sample is number `first` of its line and stream: a pixel
may begin in one packet and end in the next. -/
def planeSamples (n i first : Nat) (l : List Nat) : List Nat :=
  (l.zipIdx first).filterMap (fun e => if e.2 % n = i then some e.1 else none)

/-- Take a packet's samples into a plane; pixels from `width` on are discarded (R107). -/
def PlaneRx.take (q : PlaneRx) (width : Nat) (s : List Nat) : PlaneRx :=
  { q with samples := (q.samples ++ s).take width, pixels := q.pixels + s.length,
           long := q.long || decide (width < q.pixels + s.length) }

/-- A stream packet of the line in progress (R100, R102, R107, R111). -/
def Dev.takePacket (d : Dev) (p lane stream : Nat) (crcOk endOfLine : Bool) (samples : List Nat) : Dev :=
  if d.portState p ≠ 3 ∧ d.portState p ≠ 4 then d
  else
    let d := d.updPort p (fun x => { x with heard := d.now })
    let d := if crcOk then d else d.bump (Obj.crcErrors lane)
    let ps := d.streamPlanesOf p stream
    let d := match Tbl.get? (d.port p).cur stream with
      | some (some lix) =>
        match (d.port p).ledger.find? (fun e => e.lix == lix && ! e.closed) with
        | none => d
        | some e =>
          let bytes := ceilDiv (samples.length * (formatBits (d.streamFormat p stream)).1) 8
          let full := decide (512 * 1024 < d.ingressBytes p + bytes)
          if e.overrun then d
          else if full then
            (d.updEntry p lix (fun e => { e with overrun := true, cause := if e.cause = 0 ∧ ! e.format then 5 else e.cause })).bump
              (Obj.overrunCount p)
          else
            let first := sumN (ps.map (fun i => (e.planes.getD i PlaneRx.empty).pixels))
            let at0 := first / ps.length
            let d := d.updEntry p lix (fun e => { e with
              bytes := e.bytes + bytes,
              corrupt := e.corrupt || ! crcOk,
              cutoff := if crcOk then e.cutoff else some (match e.cutoff with | some c => min c at0 | none => at0),
              planes := (List.range e.planes.length).map (fun i =>
                let q := e.planes.getD i PlaneRx.empty
                match ps.findIdx? (· == i) with
                | some j => q.take (d.portWidth p) (planeSamples ps.length j first samples)
                | none => q) })
            if crcOk || e.corrupt then d
            else d.logFirst 0x02 sevWarn 0x0008 p [.f p, .f lane, .w lix] (fun _ first => first) (d.portLcg? p)
      | _ => d
    if endOfLine then d.endStream p stream else d

/-- The line starts that a standby holds: each is matched by its own time once the entry is there, and is unsolicited after 2 µs;
the packets held with it follow (R102, R313). -/
def Dev.releaseHeld (d : Dev) (p : Nat) : Dev :=
  let held := (d.port p).held
  held.foldl (fun d h =>
    let hit := d.startMatch p h.stream h.time
    if hit.isNone ∧ d.now ≤ h.time + 2000 then d.updPort p (fun x => { x with held := x.held ++ [h] })
    else h.packets.foldl (fun d k => d.takePacket p k.1 h.stream k.2.1 k.2.2.1 k.2.2.2)
      ((d.endStream p h.stream).startLine p h.stream h.ok hit)) (d.updPort p (fun x => { x with held := [] }))

/-- LINE_START of a stream of a port, with the format code of its header (R97, R99, R102). -/
def Dev.lineStart (d : Dev) (p stream format : Nat) : Dev := (d.releaseHeld p).takeStart p stream format

/-- Keep a packet with the newest line start held of its stream. -/
def holdPacket (stream : Nat) (k : Nat × Bool × Bool × List Nat) (hs : List HeldStart) : List HeldStart :=
  match (hs.reverse.findIdx? (fun h => h.stream == stream)) with
  | some i => hs.modify (hs.length - 1 - i) (fun h => { h with packets := h.packets ++ [k] })
  | none => hs

/-- STREAM_PACKET: one stream packet of the line in progress, or of a line whose start a standby holds (R100, R102, R107, R111,
R313). -/
def Dev.streamPacket (d : Dev) (p lane stream : Nat) (crcOk endOfLine : Bool) (samples : List Nat) : Dev :=
  let d := d.releaseHeld p
  if (d.port p).held.any (fun h => h.stream == stream) then
    d.updPort p (fun x => { x with heard := d.now, held := holdPacket stream (lane, crcOk, endOfLine, samples) x.held })
  else d.takePacket p lane stream crcOk endOfLine samples

/-! ## Trigger acknowledges (R114) -/

/-- TRIGGER_ACKNOWLEDGE: it answers the oldest packet not yet answered. -/
def answerOldest (now : Nat) : List TrigPacket → List TrigPacket
  | [] => []
  | k :: t => if k.answered.isNone then { k with answered := some now } :: t else k :: answerOldest now t

def Dev.triggerAck (d : Dev) (p : Nat) : Dev :=
  d.updPort p (fun x => { x with heard := d.now, packets := answerOldest d.now x.packets })

def Dev.ackLimit (d : Dev) (p : Nat) : Nat := d.nat (Obj.ackTimeout p) * 1000

/-- No acknowledge answered the rising edge of a fire within AckTimeout, and that time has passed (R114). -/
def TrigPacket.expired (k : TrigPacket) (now limit : Nat) : Bool :=
  k.rising && decide (k.sent + limit < now) &&
    (match k.answered with | none => true | some t => decide (k.sent + limit < t))

/-- ACK_TIMEOUT: count and log the fires that have just become unacknowledged (R114). -/
def Dev.ackTimeout (d : Dev) (p : Nat) : Dev :=
  let due := (d.port p).packets.filter (fun k => ! k.counted && k.expired d.now (d.ackLimit p))
  let d := due.foldl (fun d k =>
    (d.bump (Obj.unackedCount p)).logRep 0x02 sevWarn 0x0009 p (fun _ => [.f p, .w k.lix]) (d.portLcg? p)) d
  d.updPort p (fun x => { x with packets := x.packets.map (fun k =>
    if k.expired d.now (d.ackLimit p) then { k with counted := true } else k) })

/-- FALLING_EDGE_TRIGGER: the falling-edge packet of a fire falls due (R114). -/
def Dev.fallingEdge (d : Dev) (p : Nat) : Dev :=
  match (d.port p).falling with
  | (t, lix) :: rest =>
    if t ≤ d.now then
      let k : TrigPacket := { lix := lix, rising := false, sent := t + 15, answered := none, counted := false }
      let d := d.updPort p (fun x => { x with falling := rest, packets := insertPacket k x.packets })
      if d.drives then d.emit (.trigger p lix false 15) else d
    else d
  | [] => d

/-- TRIGGER_PULSE_END: the LVDS pulse ends (R115). -/
def Dev.pulseEnd (d : Dev) (p : Nat) : Dev :=
  match (d.trig p).lvdsEnd with
  | some (t, active) =>
    if t ≤ d.now then (d.updTrig p (fun x => { x with lvdsEnd := none })).emit (.lvds p (! active) t) else d
  | none => d

/-- EVENT_PACKET: received and counted, the content discarded (R96). -/
def Dev.eventPacket (d : Dev) (p : Nat) : Dev :=
  if d.portState p = 3 ∨ d.portState p = 4 then
    d.updPort p (fun x => { x with heard := d.now, eventPackets := x.eventPackets + 1 })
  else d

/-! ## The control channel (R116) -/

/-- Put the next waiting command on the link; one command is outstanding per port (R96). The upconnection of a device that does
not drive is switched off its camera: nothing is sent there (R304, R305). -/
def Dev.ctlNext (d : Dev) (p : Nat) : Dev :=
  let x := d.port p
  match x.ctl, x.ctlWait with
  | none, c :: rest =>
    let d := d.updPort p (fun x => { x with ctl := some (c, d.now), ctlWait := rest })
    if d.drives then d.emit (.camera p c) else d
  | _, _ => d

/-- Queue a camera write of a PSET ahead of a waiting bridge operation, or a bridge operation at the end (R116). -/
def Dev.ctlSend (d : Dev) (p : Nat) (c : CtlCmd) : Dev :=
  let first := match c with | .psetWrite _ _ => true | .initialWrite _ _ => true | _ => false
  (d.updPort p (fun x => { x with ctlWait := if first then c :: x.ctlWait else x.ctlWait ++ [c] })).ctlNext p

/-- A write of CtlOp (R116). The spec does not say what a bridge write sends where CtlData holds fewer bytes than CtlLength: the
model sends the bytes held (log entry 65). -/
def Dev.writeCtlOp (d : Dev) (p op : Nat) : Dev × RCode :=
  if d.nat (Obj.ctlStatus p) = 1 then (d, .busy)
  else if d.portState p ≠ 3 ∧ d.portState p ≠ 4 then (d.putN (Obj.ctlStatus p) 4, .ok)
  else
    let a := d.nat (Obj.ctlAddress p)
    let n := d.nat (Obj.ctlLength p)
    let c := if op = 1 then CtlCmd.bridgeRead a n else CtlCmd.bridgeWrite a ((d.bytes (Obj.ctlData p)).take n)
    ((d.putN (Obj.ctlStatus p) 1).ctlSend p c, .ok)

/-- A bridge operation ends with a status (R116). -/
def Dev.ctlEnd (d : Dev) (p status : Nat) (data : Option Bytes) : Dev :=
  let d := d.updPort p (fun x => { x with ctl := none })
  let d := match data with | some b => d.putB (Obj.ctlData p) b | none => d
  (d.putN (Obj.ctlStatus p) status).ctlNext p

/-! ## Delivery (R106, R107) -/

/-- The tag of R106. -/
def RawLine.tag (l : RawLine) : Bytes :=
  packLE 16 [(l.lix, 64), (l.width, 16), (l.planeMask, 4), (l.cause, 4), (0, 24), (l.port, 8), (b2n l.missing, 1),
    (b2n l.short, 1), (b2n l.long, 1), (b2n l.suspect, 1), (b2n l.unacked, 1), (b2n l.memPath, 1), (b2n l.corrupt, 1),
    (0, 1)]

/-- The cause with which an entry is missing, 0 if it is not (R100, R104, R107, R111): with no plane received it is Link for an
entry created with that cause, else Timeout. -/
def LedgerEntry.missCause (e : LedgerEntry) : Nat :=
  if e.cause ≠ 0 then e.cause
  else if e.format then 4
  else if e.planes.all (fun q => ! q.matched) then (if e.link then 3 else 1)
  else 0

/-- The line that an entry delivers (R106, R107). R107 does not say what a line that is missing for Format, Link or Overrun shows of the
packets that did come: the model's choice is that its tag carries no Short, Long or Corrupt, which are then not counted (log entry 65). -/
def LedgerEntry.line (e : LedgerEntry) (p width : Nat) (unacked memPath : Bool) : RawLine :=
  let cause := e.missCause
  let missing := cause != 0
  let got := e.planes.filter (fun q => q.matched)
  let w0 := got.foldl (fun w q => min w q.pixels) width
  let w := match e.cutoff with | some c => min w0 c | none => w0
  { lix := e.lix, port := p, width := if missing then 0 else w,
    planeMask := if missing then 0 else
      (List.range e.planes.length).foldl (fun m i => if (e.planes.getD i PlaneRx.empty).matched then m + 2 ^ i else m) 0,
    cause := cause, missing := missing, short := ! missing && got.any (fun q => decide (q.pixels < width)),
    long := ! missing && got.any (fun q => q.long), suspect := e.suspect, unacked := unacked, memPath := memPath,
    corrupt := ! missing && e.corrupt,
    planes := if missing then [] else e.planes.map (fun q =>
      if q.matched then (q.samples.take w) ++ List.replicate (width - min w q.samples.length) 0
      else List.replicate width 0) }

/-- The lines-missing event (R119): port and cause, first and last LIX, count since the last entry. Lines of several causes within one
millisecond share an entry, which shows the cause of the last: R119 does not speak of them (the model's choice, log entry 65). -/
def Dev.noteMissing (d : Dev) (p cause lix : Nat) : Dev :=
  d.logFirst 0x02 sevWarn 0x0005 p [.w lix] (fun n first => [.f p, .f cause] ++ first ++ [.w lix, .w n]) (d.portLcg? p)

/-- Deliver the oldest entry if it has closed (R106): the line, and the ledger without it. -/
def Dev.deliver (d : Dev) (p : Nat) : Option (Dev × RawLine) :=
  let x := d.port p
  match x.ledger with
  | [] => none
  | e :: rest =>
    if ! e.closed then none
    else
      let unacked := x.packets.any (fun k => k.lix == e.lix && k.expired d.now (d.ackLimit p))
      let l := e.line p (d.portWidth p) unacked (d.nat (Obj.bindMode p) == 2)
      let d := d.updPort p (fun x => { x with
        ledger := rest, packets := x.packets.filter (fun k => k.answered.isNone || decide (e.lix < k.lix)) })
      some (d, l)

/-- Count a delivered line and report it (R107, R108, R119); in a pair its tag is kept for the digest (R314). -/
def Dev.countLine (d : Dev) (l : RawLine) : Dev :=
  let p := l.port
  let d := if l.missing then (d.bump (Obj.missingCount p) 64).noteMissing p l.cause l.lix
           else d.bump (Obj.deliveredCount p) 64
  let d := if l.short then d.bump (Obj.shortCount p) else d
  let d := if l.long then d.bump (Obj.longCount p) else d
  let d := if l.corrupt then d.bump (Obj.corruptCount p) else d
  let d := if l.short || l.long then
    d.logFirst 0x02 sevWarn 0x0007 p [.f p, .w l.lix, .w l.width] (fun _ first => first) (d.portLcg? p) else d
  let tag : Bytes := ({ l with unacked := false } : RawLine).tag
  let d := if d.role = 0 then d
    else d.updPair (fun x => { x with tags := x.tags.modify p (fun t => ((l.lix, tag) :: t).take 16384) })
  d.putB (Obj.lastLineTag p) l.tag

end Sys2Proof.Machine
end

