-- ==== Sys2Proof/Machine/Tally.lean ====
section
/-! DEFINITION. The Tally (R294 to R296): the check of a set of equations at a Tally point. -/

namespace Sys2Proof.Machine

/-- One captured equation: its number and its two sides (R294). -/
structure TallyEq where
  eq  : Nat
  lhs : Int
  rhs : Int
  deriving DecidableEq, Repr

def TallyEq.diff (e : TallyEq) : Int := e.lhs - e.rhs

/-- The Tally record of R296: 32 bytes. -/
def tallyRecord (strip pass fail : Nat) (diff : Int) (scope unit : Nat) : Bytes :=
  packLE 32 [(strip, 64), (pass, 32), (fail, 32), (ofSigned 64 diff, 64), (scope, 8), (unit, 16), (0, 40)]

/-- The mask of the equations that pass a test. -/
def eqMask (eqs : List TallyEq) (p : TallyEq → Bool) : Nat :=
  eqs.foldl (fun m e => if p e then setBit m e.eq true else m) 0

/-- Report one failing equation: the event, when it first fails for the unit or its difference changes (R296). -/
def Dev.tallyEvent (d : Dev) (unit strip : Nat) (lcg : Option Nat) (e : TallyEq) : Dev :=
  let key := e.eq * 65536 + unit
  if Tbl.get? d.logs.tally key = some e.diff then d
  else
    let d := d.updLogs (fun l => { l with tally := Tbl.put l.tally key e.diff })
    d.logRep 0x09 sevFault 0x000A (e.eq * 1024 + unit) (fun _ => [.f e.eq, .f unit, .w strip, .i e.diff]) lcg 4

/-- Check equations at a Tally point of strip `strip` (R294, R296). `scope` is 0 port, 2 View, 5 device, 6 Stall;
`range` is the scope and unit of the suspect range of a failure. A joiner is not judged before the first strip of its Standby
(R317). -/
def Dev.tallyCheck (d : Dev) (scope unit strip : Nat) (lcg : Option Nat) (range : Nat × Nat)
    (eqs : List TallyEq) : Dev :=
  let early := match lcg with | some g => decide (strip < d.pair.since.getD g 0) | none => false
  if d.role = 2 ∨ (d.role = 3 ∧ early = true) then d
  else
  let d := d.bumpBy Obj.tallyChecks eqs.length 64
  let ok := eqs.filter (fun e => e.diff == 0)
  let d := d.updLogs (fun l => { l with tally := ok.foldl (fun t e => Tbl.del t (e.eq * 65536 + unit)) l.tally })
  let bad := eqs.filter (fun e => e.diff != 0)
  match bad with
  | [] => d
  | e :: _ =>
    let d := d.bumpBy Obj.tallyFailures bad.length 64
    let d := d.putB Obj.lastTally
      (tallyRecord strip (eqMask eqs (fun e => e.diff == 0)) (eqMask eqs (fun e => e.diff != 0)) e.diff scope unit)
    let d := d.addRanges (lcg.getD 0) false range.1 range.2 7 (256 * strip) 256
    bad.foldl (fun d e => d.tallyEvent unit strip lcg e) (d.setHealth 3 true)

/-- The Tally of a port at the fire of the last LIX of a strip (R294, equation 0). -/
def Dev.portTally (d : Dev) (p lix : Nat) : Dev :=
  if lix % 256 ≠ 255 then d
  else
    let kept : Int := (d.port p).ledger.length
    d.tallyCheck 0 p (stripOf lix) (d.portLcg? p) (scPort, p)
      [{ eq := 0, lhs := d.nat (Obj.firedCount p),
         rhs := (d.nat (Obj.deliveredCount p) : Int) + d.nat (Obj.missingCount p) + kept }]

end Sys2Proof.Machine
end

