-- ==== Sys2Proof/Machine/EngineMath.lean ====
section
/-! DEFINITION. The arithmetic of the Strip Engines (chapter 05): noise reduction, black level, flat field, defect
replacement, row alignment, mosaic reconstruction and the spectral matrix. -/

namespace Sys2Proof.Machine

/-- The parameters of a PSET that the stages read (R139). -/
structure PsetParams where
  black    : Int
  nrOn     : Bool
  read2    : Int
  gain     : Int
  temporal : Int
  spatial  : Int
  edge     : Int
  matrix   : Bytes
  offset   : Bytes
  deriving DecidableEq, Repr

def Dev.psetParams (d : Dev) (q : Nat) : PsetParams :=
  { black := d.int (Obj.rawBlack q), nrOn := d.flag (Obj.nrEnable q), read2 := d.int (Obj.noiseRead2 q),
    gain := d.int (Obj.noiseGain q), temporal := d.int (Obj.nrTemporal q), spatial := d.int (Obj.nrSpatial q),
    edge := d.int (Obj.nrEdge q), matrix := d.bytes (Obj.psetMatrix q), offset := d.bytes (Obj.matrixOffset q) }

/-- The mosaic descriptor of a port (R127) and what belongs to it. -/
structure Mosaic where
  rows    : Nat
  cols    : Nat
  phase   : Nat
  pattern : List Nat
  offsets : List Int
  guided  : Bool
  guide   : Nat
  width   : Nat
  deriving DecidableEq, Repr

def Dev.mosaic (d : Dev) (p : Nat) : Mosaic :=
  { rows := d.nat (Obj.mosaicRows p), cols := d.nat (Obj.mosaicCols p), phase := d.nat (Obj.mosaicPhase p),
    pattern := (List.range 4).map (fun s => d.nat (Obj.mosaicPattern p s)),
    offsets := (List.range 4).map (fun s => d.int (Obj.rowOffset p s)),
    guided := d.flag (Obj.reconMode p), guide := d.nat (Obj.guideChannel p), width := d.portWidth p }

/-- The cell code of row `r`, column `c` of stream `s` (R127). -/
def Mosaic.cell (m : Mosaic) (s r c : Nat) : Nat := field (m.pattern.getD s 0) (16 * r + 4 * c) 4

/-- The mosaic row of a line (R125). -/
def Mosaic.row (m : Mosaic) (lix : Nat) : Nat := (lix + m.phase) % m.rows

/-- A channel is present when it occurs in some cell of some stream's pattern (R127). -/
def Mosaic.present (m : Mosaic) (streams c : Nat) : Bool :=
  (List.range streams).any (fun s => (List.range m.rows).any (fun r => (List.range m.cols).any (fun k => m.cell s r k == c)))

/-- The line distance of the reconstruction window (R129). -/
def Mosaic.ry (m : Mosaic) : Nat := if 1 < m.rows then 2 else 0

/-- L of R130: max(0, ⌈max RowOffset / 256⌉) + Ry, over the port's streams. -/
def Mosaic.lookahead (m : Mosaic) (streams : Nat) : Nat :=
  let top := (m.offsets.take streams).foldl max (m.offsets.headD 0)
  (max 0 ((top + 255) / 256)).toNat + m.ry

/-- Stage 1 (R121): shift a sample of bit depth `b` to the top of 16 bits. -/
def normalise (b x : Nat) : Nat := x * 2 ^ (16 - b)

/-- The edge-stopping weight of R122. -/
def nrWeight (q : PsetParams) (dlt x : Int) : Int :=
  let v := q.read2 + asr (q.gain * max (x - q.black) 0) 8
  256 - min 256 (q.edge * dlt * dlt / (256 * v))

/-- The temporal step of R122 for one site: `p` is its state, if valid. -/
def nrTemporal (q : PsetParams) (p : Option Nat) (x : Int) : Int :=
  match p with
  | none => x
  | some p =>
    let dlt := x - p
    x - asr (q.temporal * nrWeight q dlt x * dlt + 32768) 16

/-- The part of a neighbour in the spatial step of R122. -/
def nrSide (q : PsetParams) (t x : Int) : Option Int → Int
  | none => 0
  | some tn => nrWeight q (tn - t) x * (tn - t)

/-- The table site of a stream, a mosaic row and a pixel. -/
def siteKey (s r x : Nat) : Nat := (s * 4 + r) * 32768 + x

/-- Look up consecutive keys from `lo` on. -/
def lookups {α : Type} (seg : Tbl α) (lo n : Nat) : List (Option α) :=
  ((List.range n).foldl (fun (acc : List (Option α) × Tbl α) i =>
    match acc.2 with
    | (k, v) :: rest => if k = lo + i then (some v :: acc.1, rest) else (none :: acc.1, acc.2)
    | [] => (none :: acc.1, [])) ([], seg)).1.reverse

/-- Stage 2 on one stream (R122): the values z, and the new state. `xs` are the normalised valid samples. -/
def nrStream (q : PsetParams) (cols s r : Nat) (nr : Tbl Nat) (xs : List Nat) : List Int × Tbl Nat :=
  let lo := siteKey s r 0
  let hi := lo + xs.length
  let state := lookups (nr.filter (fun e => lo ≤ e.1 && e.1 < hi)) lo xs.length
  let ts := (xs.zip state).map (fun e => nrTemporal q e.2 (e.1 : Int))
  let left : List (Option Int) := List.replicate cols none ++ ts.map some
  let right : List (Option Int) := (ts.drop cols).map some ++ List.replicate cols none
  let zs := ((xs.zip ts).zip (left.zip right)).map (fun e =>
    let x : Int := e.1.1
    let t := e.1.2
    clamp (t + asr (q.spatial * (nrSide q t x e.2.1 + nrSide q t x e.2.2) + 65536) 17) 0 65535)
  let fresh : Tbl Nat := (ts.zip (List.range ts.length)).map (fun e => (lo + e.2, e.1.toNat))
  (zs, nr.filter (fun e => e.1 < lo) ++ fresh ++ nr.filter (fun e => hi ≤ e.1))

/-- A table entry (R124): Gain, DefectCode, Dark. -/
def tableEntry (v : Nat) : Nat × Nat × Int := (field v 16 16, field v 14 2, toSigned 14 v)

/-- The neutral entry of a port that starts without a valid bank (R133). -/
def neutralEntry : Nat × Nat × Int := (0x4000, 0, 0)

/-- Split a byte string into 32-bit numbers. -/
def words32 : Bytes → List Nat
  | a :: b :: c :: e :: rest =>
    (a.toNat + 256 * b.toNat + 65536 * c.toNat + 16777216 * e.toNat) :: words32 rest
  | _ => []

/-- The entries of one stream and row of a bank (R124). -/
def tableRow (table : Option Bytes) (rows width s r : Nat) : List (Nat × Nat × Int) :=
  match table with
  | none => List.replicate width neutralEntry
  | some t => (words32 ((t.drop (4 * ((s * rows + r) * width))).take (4 * width))).map tableEntry

/-- The bounds of internal values (R120). -/
def clamp18 (x : Int) : Int := clamp x (-131072) 131071

/-- Stages 3 and 4 of one site (R125). -/
def stage34 (black : Int) (z : Int) (e : Nat × Nat × Int) : Int :=
  clamp18 (asr ((z - black - e.2.2) * e.1 + 8192) 14)

/-- The nearest site among candidates that carries the channel, is good and is valid (R126). -/
def findGood (cells : Array Nat) (codes : Array Nat) (vals : Array Int) (c : Nat) : List Nat → Option Int
  | [] => none
  | x :: rest =>
    if x < vals.size ∧ cells.getD x 16 = c ∧ codes.getD x 1 = 0 then some (vals.getD x 0)
    else findGood cells codes vals c rest

/-- What stage 5 made of a site: its value, whether it was replaced, whether it may become the hold value, and
whether a hold value was wanting (R126). -/
structure SiteOut where
  value    : Int
  replaced : Bool
  holdable : Bool
  lack     : Bool
  deriving DecidableEq, Repr

/-- Stage 5 for the site at pixel `x` (R126). -/
def stage5 (cells codes : Array Nat) (vals : Array Int) (hold : Option Int) (x : Nat) : SiteOut :=
  let code := codes.getD x 0
  let v := vals.getD x 0
  if code = 0 then { value := v, replaced := false, holdable := true, lack := false }
  else
    let c := cells.getD x 0
    let l := findGood cells codes vals c ((List.range 8).filterMap (fun i => if i + 1 ≤ x then some (x - (i + 1)) else none))
    let r := findGood cells codes vals c ((List.range 8).map (fun i => x + (i + 1)))
    let held : SiteOut := match hold with
      | some h => { value := h, replaced := true, holdable := false, lack := false }
      | none => { value := 0, replaced := true, holdable := false, lack := true }
    let found (y : Int) : SiteOut := { value := y, replaced := true, holdable := true, lack := false }
    match code, l, r with
    | 1, some a, some b => found (asr (a + b + 1) 1)
    | 1, some a, none => found a
    | 1, none, some b => found b
    | 3, some a, some b => found (asr (a + b + 1) 1)
    | _, _, _ => held

/-- Stages 3 to 5 on one stream (R125, R126): outputs of the valid sites, and the new hold values. -/
def replaceStream (m : Mosaic) (black : Int) (table : Option Bytes) (s r : Nat) (hold : Tbl Int) (zs : List Int) :
    List SiteOut × Tbl Int :=
  let n := zs.length
  let entries := (tableRow table m.rows m.width s r).take n
  let vals := ((zs.zip entries).map (fun e => stage34 black e.1 e.2)).toArray
  let codes := (entries.map (fun e => e.2.1)).toArray
  let cells := ((List.range n).map (fun x => m.cell s r (x % m.cols))).toArray
  let lo := siteKey s r 0
  let hi := lo + n
  let holds := lookups (hold.filter (fun e => lo ≤ e.1 && e.1 < hi)) lo n
  let outs := ((List.range n).zip holds).map (fun e => stage5 cells codes vals e.2 e.1)
  let fresh : Tbl Int := ((outs.zip holds).zip (List.range n)).filterMap (fun e =>
    if e.1.1.holdable then some (lo + e.2, e.1.1.value)
    else match e.1.2 with | some h => some (lo + e.2, h) | none => none)
  (outs, hold.filter (fun e => e.1 < lo) ++ fresh ++ hold.filter (fun e => hi ≤ e.1))

/-! ## Row alignment and reconstruction (R128, R129) -/

/-- One site after row alignment: its value if valid, the cell it carries, and whether one line was wanting. -/
structure Aligned where
  value : Option Int
  cell  : Nat
  lack  : Bool
  deriving DecidableEq, Repr

/-- The lines that a reconstruction may read: each with its streams as arrays, by LIX. -/
abbrev Lines := List (Nat × Nat × Array (Array (Option Int)))

def Lines.site (ls : Lines) (lix : Int) (s x : Nat) : Option (Option Int × Nat) :=
  match ls.find? (fun e => (e.1 : Int) == lix) with
  | some (_, row, streams) => some ((streams.getD s #[]).getD x none, row)
  | none => none

/-- The aligned site of stream `s` at line `n`, pixel `x` (R128). -/
def alignedSite (m : Mosaic) (ls : Lines) (s : Nat) (n : Int) (x : Nat) : Aligned :=
  let off := m.offsets.getD s 0
  let k := asr off 8
  let f := off % 256
  let at1 := ls.site (n + k) s x
  let at2 := ls.site (n + k + 1) s x
  let cellOf (e : Option (Option Int × Nat)) : Nat :=
    match e with | some (_, row) => m.cell s row (x % m.cols) | none => 16
  let u := match at1 with | some (v, _) => v | none => none
  let w := match at2 with | some (v, _) => v | none => none
  if f = 0 then { value := u, cell := cellOf at1, lack := false }
  else match u, w with
    | some a, some b => { value := some (asr ((256 - f) * a + f * b + 128) 8), cell := cellOf at1, lack := false }
    | some a, none => { value := some a, cell := cellOf at1, lack := true }
    | none, some b => { value := some b, cell := cellOf at2, lack := true }
    | none, none => { value := none, cell := 16, lack := false }

/-- The window offsets of R129: dy in −Ry..Ry, dx in −2..2. -/
def windowOffsets (ry : Nat) : List (Int × Int) :=
  (List.range (2 * ry + 1)).flatMap (fun (i : Nat) => (List.range 5).map (fun (j : Nat) => ((i : Int) - ry, (j : Int) - 2)))

/-- The tent over the sites of a window that carry `c` (R129): `sample s n x` gives the value that counts. The flag
tells that an input was wanting. -/
def tentOver (ry streams : Nat) (n : Int) (x width : Nat) (sample : Nat → Int → Nat → Option (Int × Bool)) :
    Int × Bool :=
  let acc := (windowOffsets ry).foldl (fun (acc : Int × Int × Bool) o =>
    let xx := (x : Int) + o.2
    if xx < 0 ∨ (width : Int) ≤ xx then acc
    else (List.range streams).foldl (fun (acc : Int × Int × Bool) s =>
      match sample s (n + o.1) xx.toNat with
      | some (v, lack) =>
        let wt := (3 - (o.1.natAbs : Int)) * (3 - (o.2.natAbs : Int))
        (acc.1 + wt * v, acc.2.1 + wt, acc.2.2 || lack)
      | none => acc) acc) (0, 0, false)
  if acc.2.1 = 0 then (0, true) else ((2 * acc.1 + acc.2.1) / (2 * acc.2.1), acc.2.2)

/-- The site of some stream that carries `c` validly at (n, x), the lowest stream first (R129). -/
def directSite (m : Mosaic) (ls : Lines) (streams c : Nat) (n : Int) (x : Nat) : Option (Int × Bool) :=
  (List.range streams).findSome? (fun s =>
    let a := alignedSite m ls s n x
    match a.value with
    | some v => if a.cell = c then some (v, a.lack) else none
    | none => none)

/-- tent(c, n, x) of R129. -/
def tentAt (m : Mosaic) (ls : Lines) (streams c : Nat) (n : Int) (x : Nat) : Int × Bool :=
  tentOver m.ry streams n x m.width (fun s l y =>
    let a := alignedSite m ls s l y
    match a.value with
    | some v => if a.cell = c then some (v, a.lack) else none
    | none => none)

/-- The value of the guide channel, which never needs another (R129). -/
def plainValue (m : Mosaic) (ls : Lines) (streams c : Nat) (n : Int) (x : Nat) : Int × Bool :=
  match directSite m ls streams c n x with
  | some v => v
  | none => tentAt m ls streams c n x

/-- value(c, n, x) of R129. Whether the differences that tentdiff averages are internal values in the sense of R120 is not said: the
model's choice is to leave them and tentdiff as they are, and to clamp only g + tentdiff (log entry 66). -/
def channelValue (m : Mosaic) (ls : Lines) (streams c : Nat) (n : Int) (x : Nat) : Int × Bool :=
  match directSite m ls streams c n x with
  | some v => v
  | none =>
    if ! m.guided || c == m.guide then tentAt m ls streams c n x
    else
      let g := plainValue m ls streams m.guide n x
      let t := tentOver m.ry streams n x m.width (fun s l y =>
        let a := alignedSite m ls s l y
        match a.value with
        | some v => if a.cell = c then
            let gd := plainValue m ls streams m.guide l y
            some (v - gd.1, a.lack || gd.2) else none
        | none => none)
      (g.1 + t.1, g.2 || t.2)

/-! ## Spectral matrix (R131) -/

/-- M[j][i], signed 4.12, and Off[j], signed 16-bit, from a PSET's BLOBs (R139). -/
def matrixAt (q : PsetParams) (j i : Nat) : Int := toSigned 16 (leAt q.matrix (8 * j + 2 * i) 2)
def offsetAt (q : PsetParams) (j : Nat) : Int := toSigned 16 (leAt q.offset (2 * j) 2)

/-- Stage 8 for one plane (R131). -/
def spectral (q : PsetParams) (j : Nat) (v : List Int) : Nat :=
  let acc := matrixAt q j 0 * v.getD 0 0 + matrixAt q j 1 * v.getD 1 0 + matrixAt q j 2 * v.getD 2 0
    + matrixAt q j 3 * v.getD 3 0
  (clamp (asr (acc + 2048) 12 + offsetAt q j) 0 65535).toNat

/-- The channel vectors of every pixel of a line, and whether an aligned site or a window there lacked input (R128, R129). -/
def channelVectors (m : Mosaic) (ls : Lines) (streams n : Nat) : List (List Int × Bool) :=
  (List.range m.width).map (fun x =>
    let vs := (List.range 4).map (fun c =>
      if m.present streams c then channelValue m ls streams c n x else (0, false))
    let lack := (List.range streams).any (fun s => (alignedSite m ls s n x).lack)
    (vs.map (fun v => clamp18 v.1), lack || vs.any (fun v => v.2)))

end Sys2Proof.Machine
end

