-- ==== Sys2Proof/Machine/Engine.lean ====
section
/-! DEFINITION. The Strip Engines (chapter 05): intake and emission of lines, parameter sets, table banks,
acquisitions, statistics, bindings and memory-path jobs. -/

namespace Sys2Proof.Machine

def Dev.ep (d : Dev) (p : Nat) : EngPort := d.eng.ports.getD p EngPort.reset
def Dev.updEp (d : Dev) (p : Nat) (f : EngPort → EngPort) : Dev :=
  d.updEng (fun x => { x with ports := x.ports.modify p f })
def Dev.engine (d : Dev) (e : Nat) : Engine := d.eng.engines.getD e { state := 0, job := none }
def Dev.updEngine (d : Dev) (e : Nat) (f : Engine → Engine) : Dev :=
  d.updEng (fun x => { x with engines := x.engines.modify e f })

/-- Follow the replacements of retired engines (R143). -/
def followEngine (t : Tbl Nat) : (fuel e : Nat) → Nat
  | 0, e => e
  | n + 1, e => match Tbl.get? t e with | some r => followEngine t n r | none => e

/-- EngineInUse of a port (R143). -/
def Dev.engineOf (d : Dev) (p : Nat) : Nat := followEngine d.eng.replaced 14 (d.nat (Obj.bindEngine p))

/-- A repair of an engine is under way or waits, or the engine is the replacement of one under way (R291). -/
def Dev.inRepair (d : Dev) (e : Nat) : Bool := d.eng.repairs.any (fun r => r.engine == e || r.replacement == some e)

/-- No engine serves the port: its engine is Retired and nothing replaced it (R292). -/
def Dev.noEngine (d : Dev) (p : Nat) : Bool := (d.engine (d.engineOf p)).state == 4 && ! d.inRepair (d.engineOf p)

/-- Change the state of an engine and log it (R151). -/
def Dev.setEngineState (d : Dev) (e new : Nat) : Dev :=
  let old := (d.engine e).state
  if old = new then d
  else (d.updEngine e (fun x => { x with state := new })).log 0x03 sevInfo 0x0008 [.f e, .f old, .f new]

/-- The streams of a port as the engine counts them: one per plane of ingress (R120). -/
def Dev.lookahead (d : Dev) (p : Nat) : Nat := (d.mosaic p).lookahead (d.portPlanes p)

/-! ## Table banks (R124, R133) -/

/-- The HBM address of bank `b` of port `p` (R133). -/
def bankAddr (p b : Nat) : Nat := 2 ^ 36 + 524288 * (4 * p + b)

/-- The bytes of the entries of a bank (R124, R133). -/
def Dev.bankSize (d : Dev) (p : Nat) : Nat := d.portPlanes p * d.nat (Obj.mosaicRows p) * d.portWidth p * 4

def Dev.bankBytes (d : Dev) (p b : Nat) : Bytes := Tbl.getBytes 0 d.hbm (bankAddr p b) (d.bankSize p)

def Dev.bankValid (d : Dev) (p b : Nat) : Bool := bit (d.nat (Obj.tableValid p)) b

def Dev.setBankValid (d : Dev) (p b : Nat) (v : Bool) : Dev :=
  d.putN (Obj.tableValid p) (setBit (d.nat (Obj.tableValid p)) b v)

/-- The lines held that have been taken in and not emitted, newest first. -/
def EngPort.taken (e : EngPort) : List SiteLine := e.window.filter (fun s => decide (e.nextEmit.getD 0 ≤ s.lix))

/-- The PSETs in force on a started port: that of the lines taken in last, and those of lines not yet emitted, which stages 6 to 8
still read (R131, R135). -/
def EngPort.forcePsets (e : EngPort) : List Nat := e.pset :: e.taken.map (fun s => s.pset)

/-- The PSETs of a port that hold its banks: in force, switching, or armed (R133, R135). -/
def Dev.heldPsets (d : Dev) (p : Nat) : List Nat :=
  let e := d.ep p
  (if d.flag (Obj.portEnable p) then e.forcePsets else []) ++ e.switches.map (fun s => s.pset) ++
    (match e.armed with | some a => [a.pset] | none => [])

/-- PsetState of a PSET of port `p` (R135, R139): 2 issuing, 1 armed, 3 in force or switching, 0 idle. -/
def Dev.psetStateNow (d : Dev) (p q : Nat) : Nat :=
  let e := d.ep p
  let used := d.flag (Obj.portEnable p) && (e.forcePsets.contains q || e.switches.any (fun s => s.pset == q))
  match e.armed with
  | some a => if a.pset = q then (if a.issued.isSome then 2 else 1) else if used then 3 else 0
  | none => if used then 3 else 0

/-- Show the state of a PSET of port `p`. -/
def Dev.showPset (d : Dev) (p q : Nat) : Dev := d.putN (Obj.psetState q) (d.psetStateNow p q)

/-- A bank used by the PSET in force or by an armed PSET (R133). -/
def Dev.bankUsed (d : Dev) (p b : Nat) : Bool := (d.heldPsets p).any (fun q => d.nat (Obj.tableBank q) == b)

/-- A write to TableData (R41, R133): `off` is 0 or the current length. -/
def Dev.writeTableData (d : Dev) (p off : Nat) (data : Bytes) : Dev × RCode :=
  let b := d.nat (Obj.tableBankSel p)
  let len := (d.ep p).bankLen.getD b 0
  if d.bankUsed p b then (d, .state)
  else if off ≠ 0 ∧ off ≠ len then (d, .range)
  else if 524288 < off + data.length then (d, .range)
  else
    let a := bankAddr p b
    let d := (if off = 0 then d.hbmClear a 524288 else d).hbmWrite (a + off) data
    ((d.updEp p (fun e => { e with bankLen := setAt e.bankLen b (off + data.length) })).setBankValid p b false, .ok)

/-- A write of 1 to TableSeal (R133). A bank of which both copies of a block are lost does not read as what was written (R333, R338). -/
def Dev.writeTableSeal (d : Dev) (p : Nat) : Dev × RCode :=
  let b := d.nat (Obj.tableBankSel p)
  if d.bankUsed p b then (d, .state)
  else if crc32c (d.bankBytes p b) = d.nat (Obj.tableCrc p) ∧ ¬ d.hbmBad (bankAddr p b) (d.bankSize p) then (d.setBankValid p b true, .ok)
  else (d.log 0x03 sevWarn 0x0006 [.f p, .f b] (d.portLcg? p), .integrity)

/-- A change of StreamPlanes, MosaicRows or LineWidth marks every bank of the port invalid (R133). -/
def Dev.invalidateBanks (d : Dev) (p : Nat) : Dev := d.putN (Obj.tableValid p) 0

/-! ## Acquisition (R134) -/

/-- Put consecutive entries from key `lo` on. -/
def putRun {α : Type} (t : Tbl α) (lo : Nat) (vs : List α) : Tbl α :=
  t.filter (fun e => e.1 < lo) ++ (vs.zip (List.range vs.length)).map (fun e => (lo + e.2, e.1)) ++
    t.filter (fun e => lo + vs.length ≤ e.1)

/-- Add a stream's values to the sums of its table sites. -/
def addSums (t : Tbl (Int × Nat)) (s r : Nat) (vs : List Int) : Tbl (Int × Nat) :=
  let lo := siteKey s r 0
  let old := lookups (t.filter (fun e => lo ≤ e.1 && e.1 < lo + vs.length)) lo vs.length
  putRun t lo ((vs.zip old).map (fun e => match e.2 with | some (x, n) => (x + e.1, n + 1) | none => (e.1, 1)))

/-- The mean of a site as R134 rounds it. -/
def siteMean (e : Int × Nat) : Int := if e.2 = 0 then 0 else (2 * e.1 + e.2) / (2 * (e.2 : Int))

/-- A table entry's 32 bits (R124). -/
def packEntry (gain code : Nat) (dark : Int) : Nat := gain * 65536 + code * 16384 + ofSigned 14 dark

/-- The entry that a dark acquisition gives a site (R134). -/
def darkEntry (sum : Int × Nat) : Nat :=
  let m := siteMean sum
  packEntry 0x4000 (if sum.2 = 0 ∨ m < -8192 ∨ 8191 < m then 1 else 0) (clamp m (-8192) 8191)

/-- The entry that a flat acquisition gives a site (R134): `pmSum` over `pmN` sites is the mean of its stream, row and
channel. -/
def flatEntry (target limit : Int) (dark : Int) (m pmSum : Int) (pmN : Nat) : Nat :=
  if m ≤ 0 then packEntry 0xFFFF 1 dark
  else
    let gain := min 0xFFFF ((target * 16384 * 2 + m) / (2 * m))
    let bad := decide (limit * pmSum < 100 * ((m * pmN - pmSum).natAbs : Int))
    packEntry gain.toNat (if bad then 1 else 0) dark

/-- The bank that an acquisition computes (R134), in the order of R124. -/
def Dev.acqBank (d : Dev) (p : Nat) (a : Acq) : Bytes :=
  let m := d.mosaic p
  (List.range (d.portPlanes p)).flatMap (fun s => (List.range m.rows).flatMap (fun r =>
    let lo := siteKey s r 0
    let sums := (lookups (a.sums.filter (fun e => lo ≤ e.1 && e.1 < lo + m.width)) lo m.width).map
      (fun o => o.getD (0, 0))
    if a.mode = 2 then sums.flatMap (fun e => natLE 4 (darkEntry e))
    else
      let means := sums.map siteMean
      let darks := (tableRow (d.ep p).table m.rows m.width s r).map (fun e => e.2.2)
      let chan (x : Nat) : Nat := m.cell s r (x % m.cols)
      let pm := (List.range 4).map (fun c =>
        (means.zip (List.range m.width)).foldl (fun (acc : Int × Nat) e =>
          if chan e.2 = c then (acc.1 + e.1, acc.2 + 1) else acc) (0, 0))
      ((means.zip darks).zip (List.range m.width)).flatMap (fun e =>
        let pc := pm.getD (chan e.2) (0, 0)
        natLE 4 (flatEntry (d.int (Obj.ffTarget p)) (d.int (Obj.ffDefectLimit p)) e.1.2 e.1.1 pc.1 pc.2))))

/-- End an acquisition: 2 done, 3 failed (R134). A bank of which both copies of a block are lost is not valid (R333, R338). -/
def Dev.acqEnd (d : Dev) (p state : Nat) : Dev :=
  match (d.ep p).acq with
  | none => d
  | some a =>
    let d := if state = 2 then
      let lo := bankAddr p a.bank
      let d := (d.hbmClear lo 524288).hbmWrite lo (d.acqBank p a)
      d.setBankValid p a.bank (! d.hbmLost lo (d.bankSize p))
      else d
    let d := (d.putN (Obj.ffState p) state).updEp p (fun e => { e with acq := none })
    d.log 0x03 sevInfo 0x0007 [.f p, .f a.bank, .f state] (d.portLcg? p)

/-- A write of FfMode (R134): 1 flat, 2 dark. -/
def Dev.writeFfMode (d : Dev) (p mode : Nat) : Dev × RCode :=
  let b := d.nat (Obj.tableBankSel p)
  if d.portState p ≠ 4 ∨ (d.ep p).acq.isSome ∨ d.bankUsed p b then (d, .state)
  else
    let d := (d.setBankValid p b false).updEp p (fun e => { e with
      acq := some { mode := mode, bank := b, lines := d.nat (Obj.ffLines p), used := 0, lastUse := d.now, last := none, sums := [] } })
    ((d.putN (Obj.ffState p) 1).putN (Obj.ffLinesUsed p) 0, .ok)

/-- ACQUISITION_TIMEOUT: no usable line for 10 s (R134). -/
def Dev.acquisitionTimeout (d : Dev) (p : Nat) : Dev :=
  match (d.ep p).acq with
  | some a => if a.lastUse + 10000000000 ≤ d.now then d.acqEnd p 3 else d
  | none => d

/-- An acquisition fails when its port leaves Streaming (R134). -/
def Dev.acqCheck (d : Dev) (p : Nat) : Dev := if d.portState p = 4 then d else d.acqEnd p 3

/-! ## Intake (R120 to R126) -/

/-- Bring the PSET of line `lix` into force, if a switch falls due (R137). The noise state becomes invalid (R123). -/
def Dev.switchPset (d : Dev) (p lix : Nat) : Dev × Bool :=
  let e := d.ep p
  match (e.switches.filter (fun s => decide (s.line ≤ lix))).getLast? with
  | none => (d, false)
  | some s =>
    let d := d.updEp p (fun e =>
      { e with pset := s.pset, table := s.table, nr := [],
               switches := e.switches.filter (fun s => ! decide (s.line ≤ lix)) })
    ((d.showPset p e.pset).showPset p s.pset, true)

/-- An acquisition counts a line that it has not seen (R134). -/
def Acq.wants (a : Acq) (l : RawLine) : Bool :=
  ! l.missing && ! l.suspect && (match a.last with | some n => decide (n < l.lix) | none => true)

/-- The stage-1 samples of the valid sites of stream `s` of a line. -/
def RawLine.sites (l : RawLine) (depth s : Nat) : List Nat :=
  if l.missing || ! bit l.planeMask s then [] else ((l.planes.getD s []).take l.width).map (normalise depth)

/-- Stages 1 to 5 of one stream of a line, and what they leave in the noise state, the hold values and a running
acquisition. -/
def Dev.takeStream (d : Dev) (p : Nat) (l : RawLine) (s : Nat) : Dev × List SiteOut :=
  let e := d.ep p
  let m := d.mosaic p
  let q := d.psetParams e.pset
  let r := m.row l.lix
  let xs := l.sites (formatBits (d.portFormat p)).2 s
  if xs.isEmpty then (d, [])
  else
    let (zs, nr) := if q.nrOn then nrStream q m.cols s r e.nr xs else (xs.map (fun (x : Nat) => (x : Int)), e.nr)
    let (outs, hold) := replaceStream m q.black e.table s r e.hold zs
    let acq := match e.acq with
      | some a =>
        if ! a.wants l then some a
        else
          let darks := (tableRow e.table m.rows m.width s r).map (fun t => t.2.2)
          let vs := (zs.zip darks).map (fun z => if a.mode = 2 then z.1 - q.black else z.1 - q.black - z.2)
          some { a with sums := addSums a.sums s r vs }
      | none => none
    (d.updEp p (fun e => { e with nr := nr, hold := hold, acq := acq }), outs)

/-- Count a usable line of an acquisition, and end it after FfLines lines (R134). -/
def Dev.acqCount (d : Dev) (p : Nat) (l : RawLine) : Dev :=
  match (d.ep p).acq with
  | some a =>
    if ! a.wants l then d
    else
      let d := (d.updEp p (fun e => { e with acq := some { a with used := a.used + 1, lastUse := d.now, last := some l.lix } })).putN
        (Obj.ffLinesUsed p) (a.used + 1)
      if a.lines ≤ a.used + 1 then d.acqEnd p 2 else d
  | none => d

/-- Take one line into the engine: stages 1 to 5 (R120). -/
def Dev.takeLine (d : Dev) (p : Nat) (l : RawLine) : Dev :=
  let l := if (d.ep p).bad.contains l.lix then { l with missing := true, cause := 8 } else l
  let before := if d.nat (Obj.bindMode p) = 2 then some ((d.ep p).nr, (d.ep p).hold) else none
  let (d, edge) := d.switchPset p l.lix
  let cut := match (d.ep p).invalidAt with | some c => decide (c ≤ l.lix) | none => false
  let d := if cut then d.updEp p (fun e => { e with nr := [], hold := [], invalidAt := none }) else d
  let (d, outs) := (List.range (d.portPlanes p)).foldl (fun (acc : Dev × List (List SiteOut)) s =>
    let (d, o) := acc.1.takeStream p l s
    (d, acc.2 ++ [o])) (d, [])
  let all := outs.flatten
  let e := d.ep p
  let sl : SiteLine :=
    { lix := l.lix, raw := l, row := (d.mosaic p).row l.lix, streams := outs.map (fun o => o.map (fun s => some s.value)),
      replaced := (all.filter (fun s => s.replaced)).length, mdLack := all.any (fun s => s.lack), pset := e.pset,
      table := e.table, edge := edge, cut := cut, before := before }
  let d := d.updEp p (fun e => { e with
    window := (sl :: e.window).filter (fun w => decide (e.nextEmit.getD l.lix ≤ w.lix + 32)),
    nextEmit := some (e.nextEmit.getD l.lix) })
  d.acqCount p l

/-! ## The corrected line (R130 to R132) -/

/-- The tag of R132. -/
def CorrLine.tag (c : CorrLine) : Bytes :=
  packLE 32 ([(c.lix, 64), (c.width, 16), (c.planeMask, 4), (c.cause, 4), (c.pset, 8), (c.port, 8), (c.engine, 4),
    (b2n c.missing, 1), (b2n c.short, 1), (b2n c.long, 1), (b2n c.suspect, 1), (b2n c.unacked, 1), (b2n c.memPath, 1),
    (b2n c.corrupt, 1), (b2n c.degraded, 1), (b2n c.edge, 1), (b2n c.uncertain, 1), (0, 10),
    (c.means.getD 3 0, 16), (c.means.getD 2 0, 16), (c.means.getD 1 0, 16), (c.means.getD 0 0, 16),
    (c.replaced, 16), (c.saturated, 16), (0, 32)])

/-- PsetUncertain for a line: from the line that a failure names, until a later PSET switches (R138). -/
def EngPort.isUncertain (e : EngPort) (lix : Nat) : Bool :=
  e.uncertain.any (fun u => decide (u.1 ≤ lix) && (match u.2 with | some s => decide (lix < s) | none => true))

/-- A PSET fails: lines from `lix` on are uncertain; where an earlier failure still holds, from its line on (R138). -/
def EngPort.doubt (e : EngPort) (lix : Nat) : EngPort :=
  if e.uncertain.any (fun u => u.2.isNone) then
    { e with uncertain := e.uncertain.map (fun u => if u.2.isNone then (min u.1 lix, none) else u) }
  else { e with uncertain := e.uncertain ++ [(lix, none)] }

/-- A PSET switches at line `lix`, which ends the doubt (R138). -/
def EngPort.settleDoubt (e : EngPort) (lix : Nat) : EngPort :=
  { e with uncertain := e.uncertain.map (fun u => if u.2.isNone then (u.1, some lix) else u) }

/-- A line without pixel data, with a cause and the PSET of the line: its tag follows the ingress tag (R132). -/
def Dev.missingLine (d : Dev) (p : Nat) (l : RawLine) (cause pset : Nat) (edge : Bool) : CorrLine :=
  let e := d.ep p
  { lix := l.lix, port := p, width := 0, planeMask := 0, cause := cause, pset := pset, engine := d.engineOf p,
    missing := true, short := l.short, long := l.long, suspect := l.suspect, unacked := l.unacked, memPath := l.memPath,
    corrupt := l.corrupt, degraded := false, edge := edge, uncertain := e.isUncertain l.lix, means := [0, 0, 0, 0],
    replaced := 0, saturated := 0, planes := [] }

/-- The lines a reconstruction of line `n` may read: those the engine holds up to n + L (R129, R130). -/
def EngPort.linesUpTo (e : EngPort) (limit : Nat) : Lines :=
  (e.window.filter (fun s => decide (s.lix ≤ limit))).map (fun s =>
    (s.lix, s.row, (s.streams.map List.toArray).toArray))

/-- Stages 6 to 8 for a line held in the window (R128 to R131). -/
def Dev.correctLine (d : Dev) (p : Nat) (s : SiteLine) : CorrLine :=
  if s.raw.missing then d.missingLine p s.raw s.raw.cause s.pset s.edge
  else
    let m := d.mosaic p
    let streams := d.portPlanes p
    let q := d.psetParams s.pset
    let outs := d.nat (Obj.outPlanes p)
    let ls := (d.ep p).linesUpTo (s.lix + m.lookahead streams)
    let all := channelVectors m ls streams s.lix
    let vecs := all.take s.raw.width
    let planes := (List.range outs).map (fun j => vecs.map (fun v => spectral q j v.1))
    let sat := sumN (planes.map (fun l => (l.filter (· == 65535)).length))
    { (d.missingLine p s.raw s.raw.cause s.pset s.edge) with
      width := s.raw.width, planeMask := 2 ^ outs - 1, missing := false,
      degraded := s.mdLack || all.any (fun v => v.2),
      means := (List.range 4).map (fun j => let l := planes.getD j []; if l.isEmpty then 0 else sumN l / l.length),
      replaced := min 65535 s.replaced, saturated := min 65535 sat,
      planes := planes.map (fun l => l ++ List.replicate (m.width - s.raw.width) 0) }

/-! ## Statistics (R140, R141) -/

def StatAcc.start (lix pset : Nat) : StatAcc :=
  { first := lix, lines := 0, missing := 0, pset := pset, suspect := false, degraded := false, uncertain := false,
    late := false, planes := List.replicate 4 (0, 0, 0, 0), replaced := 0 }

/-- Enter a corrected line in its window. Each plane holds the sum of the line means, the least and the greatest of
them, and the saturated samples; minima and maxima start with the first line that is not missing. R140 takes the values from the
corrected tags, which hold no Saturated of a plane: the model's choice is to count it from the line's samples (log entry 66). -/
def StatAcc.add (a : StatAcc) (c : CorrLine) : StatAcc :=
  let seen := a.lines - a.missing
  { a with
    lines := a.lines + 1, missing := a.missing + b2n c.missing, suspect := a.suspect || c.suspect,
    degraded := a.degraded || c.degraded, uncertain := a.uncertain || c.uncertain, late := a.late || c.cause == 9,
    replaced := min (2 ^ 32 - 1) (a.replaced + c.replaced),
    planes := if c.missing then a.planes else (List.range 4).map (fun j =>
      let (sum, lo, hi, sat) := a.planes.getD j (0, 0, 0, 0)
      let m := c.means.getD j 0
      (sum + m, if seen = 0 then m else min lo m, max hi m,
       min (2 ^ 32 - 1) (sat + ((c.planes.getD j []).filter (· == 65535)).length))) }

/-- The record of R141. -/
def StatAcc.record (a : StatAcc) (port : Nat) : Bytes :=
  let n := a.lines - a.missing
  packLE 64 ([(a.first, 64), (a.lines, 16), (a.missing, 16), (a.pset, 8), (port, 8), (b2n a.suspect, 1),
    (b2n a.degraded, 1), (b2n a.uncertain, 1), (b2n a.late, 1), (0, 12)] ++
    (a.planes.flatMap (fun e => [(if n = 0 then 0 else e.1 / n, 16), (e.2.1, 16), (e.2.2.1, 16), (e.2.2.2, 32)])) ++
    [(a.replaced, 32), (0, 32)])

/-- End the window under way (R140). -/
def Dev.statEnd (d : Dev) (p : Nat) : Dev :=
  match (d.ep p).stat with
  | some a =>
    if a.lines = 0 then d
    else (d.updEp p (fun e => { e with stat := none, ring := (a.record p :: e.ring).take 16 })).bump (Obj.statsCount p)
  | none => d

/-- Enter an emitted line in the statistics: windows begin at strip boundaries and at switch lines, a boundary that a new NextLix
passes over included (R78, R140). -/
def Dev.statLine (d : Dev) (c : CorrLine) : Dev :=
  let p := c.port
  let passed := match (d.ep p).stat with | some a => stripOf a.first != stripOf c.lix | none => false
  let d := if c.edge || passed then d.statEnd p else d
  let a := ((d.ep p).stat.getD (StatAcc.start c.lix c.pset)).add c
  let d := d.updEp p (fun e => { e with stat := some a })
  if c.lix % 256 = 255 then d.statEnd p else d

/-! ## Emission -/

/-- The lines of the slots that have not been emitted: a job that starts again reads those emitted too (R291). -/
def EngPort.slotted (e : EngPort) : List RawLine :=
  (e.slots.flatMap (fun s => s.lines)).filter (fun l => decide (e.nextEmit.getD 0 ≤ l.lix) && ! e.window.any (fun w => w.lix == l.lix))

/-- The lines that ingress has delivered and the engine has not yet emitted (R294). -/
def Dev.inFlight (d : Dev) (p : Nat) : Nat :=
  (d.ep p).queue.length + (d.ep p).slotted.length + (d.ep p).taken.length

/-- An Active engine with an enabled port: one that the audit can shadow. -/
def Dev.busyEngine (d : Dev) (e : Nat) : Bool :=
  (d.engine e).state == 1 && (List.range 24).any (fun p => d.flag (Obj.portEnable p) && d.engineOf p == e)

/-- The next engine that the audit shadows, in ascending number; 0xFF for none (R287). -/
def Dev.nextTarget (d : Dev) (e : Nat) : Nat :=
  let busy := (List.range 14).filter d.busyEngine
  match busy.find? (fun x => decide (e < x ∨ e = 0xFF)) with
  | some x => x
  | none => busy.headD 0xFF

def Dev.updAudit (d : Dev) (f : Audit → Audit) : Dev := d.updEng (fun x => { x with audit := f x.audit })

/-- The audited engine disagreed on some line of the strip. -/
def Audit.mis (a : Audit) : Bool := a.eMis || a.audMis || a.refMis

/-- The strip and the jobs that started in it have all been compared (R287): a strip in which all lines agree is counted. -/
def Dev.auditEnd (d : Dev) : Dev :=
  let a := d.eng.audit
  if a.strip.isNone ∨ a.ended ∨ ¬ a.past ∨ a.jobs ≠ [] then d
  else
    let d := d.updAudit (fun x => { x with ended := true })
    if a.mis then d else d.bump Obj.auditStrips 64

/-- The strip under comparison is cut short, its port having stopped: a disagreement seen decides all the same, else it is left out
(R287, R288). -/
def Dev.auditCut (d : Dev) : Dev :=
  if d.eng.audit.mis then (d.updAudit (fun x => { x with past := true, jobs := [] })).auditEnd
  else d.updAudit (fun x => { x with strip := none, past := false, jobs := [] })

/-- The enabled in-line port of an engine. -/
def Dev.inlinePortOf (d : Dev) (e : Nat) : Option Nat :=
  (List.range 24).find? (fun p => d.flag (Obj.portEnable p) && d.engineOf p == e && d.nat (Obj.bindMode p) == 1)

/-- Aim the audit at an engine that works, if its target does not; leave a strip whose port has stopped. -/
def Dev.auditAim (d : Dev) : Dev :=
  let e := d.nat Obj.auditTarget
  let a := d.eng.audit
  if ! d.busyEngine e then
    let d := d.updEng (fun x => { x with audit := Audit.reset })
    d.putN Obj.auditTarget (d.nextTarget e)
  else if a.strip.isSome && ! a.past && ! (d.flag (Obj.portEnable a.port) && d.engineOf a.port == e) then d.auditCut
  else d

/-- Enter the check words of one line in the audit (R287, R288): the engines compute the same line, and disagree only
where a fault disturbed one of them. -/
def Dev.auditCompare (d : Dev) (a : Audit) (e p lix : Nat) : Audit :=
  let fe := Config.auditFault e p lix
  let fa := Config.auditFault (d.nat Obj.auditEngine) p lix
  match a.referee with
  | none => { a with eMis := a.eMis || fe != fa }
  | some r =>
    let fr := Config.auditFault r p lix
    if fe ≠ fa ∧ fe ≠ fr then { a with eMis := true }
    else if fa ≠ fe ∧ fa ≠ fr then { a with audMis := true }
    else if fr ≠ fe ∧ fr ≠ fa then { a with refMis := true }
    else a

/-- The first disagreement of a strip: the count, the event, and the strip's lines of every port of the engine as a suspect range
(R288). -/
def Dev.auditMismatch (d : Dev) (e k : Nat) : Dev :=
  let a := d.eng.audit
  let d := (List.range 24).foldl (fun d p =>
    if d.flag (Obj.portEnable p) && d.engineOf p == e then
      let s := if p = a.port then k else stripOf (((d.ep p).nextEmit.getD 1) - 1)
      d.addRanges (d.portLcg p) false scPort p 2 (256 * s) 256
    else d) d
  (d.bump Obj.auditMismatches).logRep 0x09 sevWarn 0x0001 e (fun _ => [.f e, .f (d.nat Obj.auditEngine), .w k]) (d.portLcg? a.port) 4

/-- The check words of one line of the audited strip are compared. -/
def Dev.auditCheck (d : Dev) (e p lix : Nat) : Dev :=
  let was := d.eng.audit
  let d := d.updAudit (fun a => d.auditCompare a e p lix)
  if d.eng.audit.mis && ! was.mis then d.auditMismatch e (was.strip.getD 0) else d

/-- An in-line line leaves engine `e`: a strip begins with its first line and is over with its last (R287). -/
def Dev.auditInline (d : Dev) (e p lix : Nat) : Dev :=
  let k := stripOf lix
  let a := d.eng.audit
  let d := if a.strip.isSome && a.port == p && ! a.past && a.strip != some k then d.auditCut else d
  let d := if d.eng.audit.strip.isNone ∧ lix % 256 = 0 then
      d.updAudit (fun x => { x with strip := some k, port := p, past := false, jobs := [], eMis := false, audMis := false, refMis := false })
    else d
  let a := d.eng.audit
  if a.strip = some k ∧ a.port = p ∧ ¬ a.past then
    let d := d.auditCheck e p lix
    if lix % 256 = 255 then (d.updAudit (fun x => { x with past := true })).auditEnd else d
  else d

/-- A line leaves engine `e`: its part in the audit. Of a memory-path port those lines are compared that belong to a job which
started during the strip (R287). -/
def Dev.auditLine (d : Dev) (e p lix : Nat) : Dev :=
  if 14 ≤ d.nat Obj.auditEngine then d
  else
    let d := d.auditAim
    if d.nat Obj.auditTarget ≠ e ∨ d.eng.audit.ended then d
    else if d.nat (Obj.bindMode p) = 1 then d.auditInline e p lix
    else match (d.engine e).job with
      | some j => if j.port = p ∧ d.eng.audit.jobs.contains (p, j.strip) then d.auditCheck e p lix else d
      | none => d

/-- A memory-path job starts on engine `e`. On an engine without an in-line port the strip audited runs from one start of a job of a
port to the next start of one of the same port (DEDUCED, log entry 66). -/
def Dev.auditJobDue (d : Dev) (e p : Nat) : Dev :=
  let a := d.eng.audit
  if 14 ≤ d.nat Obj.auditEngine ∨ d.nat Obj.auditTarget ≠ e ∨ a.strip.isNone ∨ a.port ≠ p then d
  else (d.updAudit (fun x => { x with past := true })).auditEnd

/-- The job that has started is part of the strip audited, which it begins on an engine without an in-line port. -/
def Dev.auditJob (d : Dev) (e p strip : Nat) : Dev :=
  if 14 ≤ d.nat Obj.auditEngine then d
  else
    let d := d.auditAim
    let a := d.eng.audit
    if d.nat Obj.auditTarget ≠ e ∨ a.ended then d
    else if a.strip.isSome then
      (if a.past then d else d.updAudit (fun x => { x with jobs := x.jobs ++ [(p, strip)] }))
    else if (d.inlinePortOf e).isNone then
      d.updAudit (fun x => { x with
        strip := some strip, port := p, past := false, jobs := [(p, strip)], eMis := false, audMis := false, refMis := false })
    else d

/-- A job of the strip audited has ended. -/
def Dev.auditJobEnd (d : Dev) (e p strip : Nat) : Dev :=
  if d.nat Obj.auditTarget ≠ e then d
  else (d.updAudit (fun x => { x with jobs := x.jobs.filter (fun j => j != (p, strip)) })).auditEnd

/-- While the duplicate of a configuration register of a block is reloaded by firmware, its lines are suspect (R286).
`block` is the source code of R297. -/
def Dev.parityLine (d : Dev) (block unit lcg scope lix : Nat) : Dev :=
  if d.flt.parity.any (fun e => e.1 == block && e.2.1 == unit && decide (d.now < e.2.2)) then
    d.addRange lcg false scope unit 5 lix
  else d

/-- The corrected line leaves the engine towards the Skew Buffer (R132, R140, R294). -/
def Dev.emitCorr (d : Dev) (c : CorrLine) : Dev :=
  let p := c.port
  let e := c.engine
  let d := (d.bump (Obj.engLinesOut e) 64).bump (Obj.portCorrected p) 64
  let d := if c.cause = 8 ∨ c.cause = 9 then d.bump (Obj.linesDropped e) 64 else d
  let d := (((d.putN (Obj.psetInForce p) c.pset).showPset p c.pset).statLine c)
  let d := d.updEp p (fun x => { x with
    since := some (x.since.getD c.lix), bad := x.bad.filter (fun m => decide (c.lix < m)),
    uncertain := x.uncertain.filter (fun u => match u.2 with | some s => decide (c.lix < s) | none => true) })
  let d := (d.auditLine e p c.lix).parityLine 0x03 p (d.portLcg p) scPort c.lix
  let d := d.updStitch (fun x => { x with ports := x.ports.modify p (fun s =>
    { s with arriving := s.arriving ++ [c] }) })
  if c.lix % 256 = 255 then
    let k := stripOf c.lix
    let d := d.putN (Obj.portTallyStrip p) k
    let d := d.tallyCheck 0 p k (d.portLcg? p) (scPort, p)
      [{ eq := 1, lhs := d.nat (Obj.deliveredCount p) + d.nat (Obj.missingCount p),
         rhs := d.nat (Obj.portCorrected p) + d.inFlight p }]
    d.flushRanges (d.portLcg p) scPort p k
  else d

/-- Take out the oldest line not yet emitted, with its PSET and PsetEdge if it was taken in, and what the port then holds. -/
def EngPort.pop (e : EngPort) : Option ((RawLine × Option (Nat × Bool)) × EngPort) :=
  match e.taken.getLast? with
  | some w => some ((w.raw, some (w.pset, w.edge)), { e with window := e.window.filter (fun x => x.lix != w.lix) })
  | none => match e.queue with
    | l :: rest => some ((l, none), { e with queue := rest })
    | [] => match e.slotted with
      | l :: _ => some ((l, none), { e with
          slots := (e.slots.map (fun s => { s with lines := s.lines.filter (fun x => decide (l.lix < x.lix)) })).filter
            (fun s => ! s.lines.isEmpty || s.closeAt.isNone) })
      | [] => none

/-- The oldest line not yet emitted leaves as Missing with a cause, and as a lost range where `lost` gives its cause. A line not
yet taken in may be the first under a new PSET (R132, R137). -/
def Dev.emitLost (d : Dev) (p cause : Nat) (lost : Option Nat) : Dev :=
  match (d.ep p).pop with
  | none => d
  | some ((l, known), e) =>
    let d := d.updEp p (fun _ => { e with nextEmit := some (l.lix + 1) })
    let (d, edge) := match known with
      | some x => (d, x.2)
      | none => d.switchPset p l.lix
    let q := match known with | some x => x.1 | none => (d.ep p).pset
    let c := d.missingLine p l cause q edge
    let d := match lost with | some k => d.addRange (d.portLcg p) true scPort p k l.lix | none => d
    d.emitCorr c

/-- The oldest line not yet emitted. -/
def EngPort.oldest (e : EngPort) : Option Nat := e.pop.map (fun x => x.1.1.lix)

/-- Every line not yet emitted up to LIX `last` leaves as Missing. -/
def Dev.emitLostTo (d : Dev) (p cause : Nat) (lost : Option Nat) (last : Nat) : (fuel : Nat) → Dev
  | 0 => d
  | n + 1 =>
    match (d.ep p).oldest with
    | some l => if l ≤ last then (d.emitLost p cause lost).emitLostTo p cause lost last n else d
    | none => d

/-- Emit the oldest line taken in. -/
def Dev.emitNext (d : Dev) (p : Nat) : Dev :=
  match (d.ep p).taken.getLast? with
  | none => d
  | some s =>
    let c := { d.correctLine p s with engine := d.engineOf p }
    (d.updEp p (fun e => { e with nextEmit := some (s.lix + 1) })).emitCorr c

/-- The engine holds input up to line n + L, or the port has stopped (R130). A line beyond n + L that waits shows as well that
nothing up to n + L is still to come: NextLix has jumped over the lines between (R78, R106). -/
def Dev.readyToEmit (d : Dev) (p : Nat) : Bool :=
  let e := d.ep p
  match e.taken.getLast?, e.window with
  | some o, s :: _ => decide (o.lix + d.lookahead p ≤ s.lix) || e.queue.any (fun l => decide (o.lix + d.lookahead p < l.lix)) ||
      (e.stopping && e.queue.isEmpty)
  | _, _ => false

/-- Take the waiting lines that line n needs: those up to n + L (R130). -/
def Dev.takeWaiting (d : Dev) (p : Nat) : Dev :=
  let limit := ((d.ep p).oldest).getD 0 + d.lookahead p
  let due := (d.ep p).queue.takeWhile (fun l => decide (l.lix ≤ limit))
  let d := d.updEp p (fun e => { e with queue := e.queue.drop due.length })
  due.foldl (fun d l => d.takeLine p l) d

/-- One line of an in-line port (R130); without an engine it leaves as Missing with Cause 8 (R292). -/
def Dev.emitInline (d : Dev) (p : Nat) : Dev :=
  if (d.ep p).creditsHeld then d
  else if d.noEngine p then d.emitLost p 8 (some 1)
  else
    let d := d.takeWaiting p
    if d.readyToEmit p then d.emitNext p else d

/-! ## Memory-path jobs (R145 to R147) -/

/-- The time of the hit of a LIX, as long as the LCG keeps it: none is left older than 10 s, the longest time floor (R26). -/
def Dev.hitTime (d : Dev) (g lix : Nat) : Option Nat :=
  match (d.lcg g).hits.find? (fun h => h.lix == lix) with
  | some h => some h.time
  | none => ((d.lcg g).aged.find? (fun e => e.1 == lix)).map (fun e => e.2)

/-- The hits of an LCG after time `t`, as many as it keeps. -/
def Dev.hitsSince (d : Dev) (g t : Nat) : Nat :=
  let l := d.lcg g
  (l.hits.takeWhile (fun h => decide (t < h.time))).length + (l.aged.takeWhile (fun e => decide (t < e.2))).length

/-- `lines` hits have followed a hit at time `t` and `floor` ns have passed since (R26). -/
def Dev.budgetSince (d : Dev) (g t lines floor : Nat) : Bool := decide (lines ≤ d.hitsSince g t) && decide (t + floor ≤ d.now)

/-- `lines` hits have followed the hit of a LIX and `floor` ns have passed since (R26). A LIX that the LCG jumped over, or whose hit it
no longer keeps, counts by LIX alone (log entry 66). -/
def Dev.budgetPassed (d : Dev) (g lix lines floor : Nat) : Bool :=
  match d.hitTime g lix with
  | some t => d.budgetSince g t lines floor
  | none => decide ((lines : Int) ≤ lixDiff (d.curLix g) lix)

/-- When a strip of an LCG closed: when its last LIX was hit (R9); where NextLix jumped over that, when its slot closed (log entry 66). -/
def Dev.stripClose (d : Dev) (g strip closeAt : Nat) : Nat := (d.hitTime g (256 * strip + 255)).getD closeAt

/-- The oldest slot of a port holds its 256 tags and the port has no job under way (R145): the slot, and when its strip closed. -/
def Dev.jobReady (d : Dev) (p : Nat) : Option (Slot × Nat) :=
  match (d.ep p).slots with
  | s :: _ => match s.closeAt with
    | some t => if d.eng.engines.any (fun x => match x.job with | some j => j.port == p | none => false) then none
                else some (s, d.stripClose (d.portLcg p) s.strip t)
    | none => none
  | [] => none

/-- The key of a job (R146). -/
def Dev.jobKey (d : Dev) (p closeAt : Nat) : Nat :=
  closeAt + max (d.nat (Obj.mpDeadline p) * 1000000000 / max 1 (d.nat (Obj.maxLineRate p))) (d.nat (Obj.mpFloor p) * 1000)

/-- The job that an engine starts next: the earliest key, then the higher priority, then the lower port (R146). -/
def Dev.pickJob (d : Dev) (e : Nat) : Option (Nat × Slot) :=
  let ready := (List.range 24).filterMap (fun p =>
    if d.nat (Obj.bindMode p) = 2 ∧ d.engineOf p = e then (d.jobReady p).map (fun s => (p, s.1, d.jobKey p s.2)) else none)
  (ready.foldl (fun (best : Option (Nat × Slot × Nat)) x =>
    match best with
    | none => some x
    | some b =>
      if x.2.2 < b.2.2 ∨ (x.2.2 = b.2.2 ∧ d.nat (Obj.bindPriority b.1) < d.nat (Obj.bindPriority x.1)) then some x
      else some b) none).map (fun b => (b.1, b.2.1))

/-- MP_JOB_START: an idle engine starts the ready job with the earliest key (R145, R146). -/
def Dev.mpJobStart (d : Dev) (e : Nat) : Dev :=
  if (d.engine e).state ≠ 1 ∨ (d.engine e).job.isSome ∨ d.inRepair e then d
  else match d.pickJob e with
    | none => d
    | some (p, s) =>
      let x := d.ep p
      let job : Job :=
        { port := p, strip := s.strip, next := x.oldest.getD (256 * s.strip), lines := s.lines, pset := x.pset, table := x.table,
          switches := x.switches }
      d.updEngine e (fun x => { x with job := some job })

/-- The last line that the job of a strip emits (R145). -/
def Dev.jobLast (d : Dev) (p strip : Nat) : Nat := 256 * strip + 255 - d.lookahead p

/-- The requests for a line of a memory-path slot, its tag among them (R112, R145, R327). -/
def Dev.slotTraffic (d : Dev) (port p : Nat) (l : RawLine) (write : Bool) : Dev :=
  d.hbmTraffic port 1 0 p l.lix (16 + (if l.missing then 0 else d.linePayload p)) write

/-- Enter a line lost to HBM in the range log and mark it so for its engine (R335). -/
def Dev.loseLine (d : Dev) (p lix : Nat) : Dev :=
  (d.addRange (d.portLcg p) true scPort p 10 lix).updEp p (fun e =>
    { e with bad := if e.bad.contains lix then e.bad else lix :: e.bad })

/-- Take the lines of the oldest slot up to LIX `limit` into the engine. -/
def Dev.takeSlot (d : Dev) (p limit : Nat) : Dev :=
  match (d.ep p).slots with
  | [] => d
  | s :: rest =>
    let due := s.lines.takeWhile (fun l => decide (l.lix ≤ limit))
    let d := d.updEp p (fun x => { x with slots := { s with lines := s.lines.drop due.length } :: rest })
    due.foldl (fun d l => (if s.real then d.slotTraffic 1 p l false else d).takeLine p l) d

/-- The job that the port's engine has under way for it. -/
def Dev.jobOf (d : Dev) (p : Nat) : Option Job :=
  match (d.engine (d.engineOf p)).job with
  | some j => if j.port = p then some j else none
  | none => none

/-- One line of a memory-path port, from the job under way (R145); without an engine it leaves as Missing (R292). -/
def Dev.emitMp (d : Dev) (p : Nat) : Dev :=
  if d.noEngine p then d.emitLost p 8 (some 1)
  else match d.jobOf p, (d.ep p).oldest with
    | some j, some n => if n ≤ d.jobLast p j.strip then (d.takeSlot p (n + d.lookahead p)).emitNext p else d
    | _, _ => d

/-- The port's engine drops the job of the port. -/
def Dev.dropJob (d : Dev) (p : Nat) : Dev :=
  d.updEngine (d.engineOf p) (fun x => match x.job with | some j => if j.port = p then { x with job := none } else x | none => x)

/-- The slot of a strip is free again (R145). -/
def Dev.endSlot (d : Dev) (p strip : Nat) : Dev := d.updEp p (fun x => { x with slots := x.slots.filter (fun s => s.strip != strip) })

/-- How many hits have followed the close of a strip of a port (R149). -/
def Dev.jobLag (d : Dev) (p strip : Nat) : Nat :=
  match (d.ep p).slots.find? (fun s => s.strip == strip) with
  | some s => d.hitsSince (d.portLcg p) (d.stripClose (d.portLcg p) strip (s.closeAt.getD d.now))
  | none => 0

/-- MP_JOB_END: a job whose lines are all emitted ends and frees its slot; the next job emits the last L lines, which the engine
keeps (R145). -/
def Dev.mpJobEnd (d : Dev) (e : Nat) : Dev :=
  match (d.engine e).job with
  | some j =>
    let p := j.port
    if (match (d.ep p).oldest with | some n => decide (d.jobLast p j.strip < n) | none => true) then
      let lag := d.jobLag p j.strip
      let d := d.takeSlot p (256 * j.strip + 255)
      let d := ((d.updEngine e (fun x => { x with job := none })).endSlot p j.strip).auditJobEnd e p j.strip
      (d.bump (Obj.jobsDone e)).putMax (Obj.maxJobLag e) (min (2 ^ 32 - 1) lag)
    else d
  | none => d

/-- The oldest strip of a port is late: MpDeadline hits have followed its close, and MpFloor has elapsed since (R147). -/
def Dev.jobLate (d : Dev) (p : Nat) : Option Slot :=
  match (d.ep p).slots with
  | s :: _ =>
    let g := d.portLcg p
    match s.closeAt with
    | some t =>
      if d.budgetSince g (d.stripClose g s.strip t) (d.nat (Obj.mpDeadline p)) (d.nat (Obj.mpFloor p) * 1000) then some s else none
    | none => none
  | [] => none

/-- What a line changed in the engine's state before its own sites: a switch of PSET makes the noise state invalid (R123), the
line at which a join begins the noise and hold state (R317). -/
def EngPort.renew (e : EngPort) (w : SiteLine) : EngPort :=
  { e with nr := if w.edge || w.cut then [] else e.nr, hold := if w.cut then [] else e.hold }

/-- The engine gives back the lines taken in and not emitted, its noise and hold state as before the first of them, and as the lines
up to LIX `last`, which are missing, leave it (R123, R147). -/
def EngPort.untake (e : EngPort) (last : Nat) : EngPort :=
  match e.taken.getLast? with
  | none => e
  | some o =>
    let was := o.before.getD (e.nr, e.hold)
    (e.taken.filter (fun w => decide (w.lix ≤ last))).foldl EngPort.renew { e with nr := was.1, hold := was.2 }

/-- The lines that a late job leaves to the next one are taken in again, after its own have gone, each with its own PSET and table. -/
def Dev.retake (d : Dev) (p : Nat) : Dev :=
  let kept := (d.ep p).taken.reverse
  let d := d.updEp p (fun e => { e with window := e.window.filter (fun w => ! kept.any (fun k => k.lix == w.lix)) })
  kept.foldl (fun d w =>
    let d := (d.updEp p (fun e => { e.renew w with pset := w.pset, table := w.table })).takeLine p w.raw
    d.updEp p (fun e => { e with window := e.window.map (fun x =>
      if x.lix = w.lix then { x with edge := w.edge, cut := w.cut } else x) })) d

/-- MP_JOB_LATE: the engine ends the job; its lines not yet emitted are delivered Missing with Cause 9, and the noise and history
state is left as for missing lines (R147). The last L lines of the strip are lines of the next job, which runs normally (DEDUCED,
log entry 66). -/
def Dev.mpJobLate (d : Dev) (p : Nat) : Dev :=
  match d.jobLate p with
  | none => d
  | some s =>
    let e := d.engineOf p
    let last := d.jobLast p s.strip
    let lines := ((d.ep p).taken.reverse.map (fun w => w.lix) ++ (d.ep p).slotted.map (fun l => l.lix)).filter (fun n => decide (n ≤ last))
    let lag := d.jobLag p s.strip
    let d := d.updEp p (fun e => e.untake last)
    let d := d.emitLostTo p 9 none last (d.inFlight p)
    let d := (d.retake p).takeSlot p (256 * s.strip + 255)
    let d := ((((d.endSlot p s.strip).dropJob p).auditJobEnd e p s.strip).bump (Obj.jobsLate e)).putMax (Obj.maxJobLag e) (min (2 ^ 32 - 1) lag)
    match lines with
    | [] => d
    | n :: more => d.log 0x03 sevFault 0x0004 [.f p, .f e, .w n, .w ((n :: more).getLastD n)] (d.portLcg? p)

/-! ## Lines from ingress (R110, R112) -/

/-- The slot of a strip: an open one, or a new one, before which an older one closes (R112); without a free slot the strip is
MemoryFull. -/
def Dev.slotFor (d : Dev) (p strip : Nat) : Dev × Bool :=
  let e := d.ep p
  match e.slots.getLast? with
  | some s =>
    if s.strip = strip ∧ s.closeAt.isNone then (d, s.real)
    else
      let free := decide ((e.slots.filter (fun s => s.real)).length < d.nat (Obj.mpSlots p))
      (d.updEp p (fun x => { x with slots := x.slots.map (fun s => { s with closeAt := some (s.closeAt.getD d.now) }) ++
        [{ strip := strip, real := free, lines := [], closeAt := none }] }), free)
  | none => (d.updEp p (fun x => { x with slots := [{ strip := strip, real := true, lines := [], closeAt := none }] }), true)

/-- Put a line into the newest slot, closing it with the strip's last LIX. -/
def Dev.slotLine (d : Dev) (p : Nat) (l : RawLine) : Dev :=
  let d := if l.cause = 6 then d
    else
      let d := d.slotTraffic 0 p l true
      if d.landsLost 1 p l.lix 0 then d.loseLine p l.lix else d
  d.updEp p (fun x => { x with slots := (List.range x.slots.length).map (fun i =>
    let s := x.slots.getD i { strip := 0, real := true, lines := [], closeAt := none }
    if i + 1 = x.slots.length then
      { s with lines := s.lines ++ [l], closeAt := if l.lix % 256 = 255 then some d.now else none }
    else s) })

/-- LINE_DELIVERY: the oldest closed entry leaves ingress as one tagged line (R106, R110, R112). -/
def Dev.lineDelivery (d : Dev) (p : Nat) : Dev :=
  match d.deliver p with
  | none => d
  | some (d, l) =>
    let d := d.parityLine 0x02 p (d.portLcg p) scPort l.lix
    if d.nat (Obj.bindMode p) = 2 then
      let (d, room) := d.slotFor p (stripOf l.lix)
      let l := if room then l
        else { l with missing := true, cause := 6, width := 0, planeMask := 0,
                      short := false, long := false, corrupt := false, planes := [] }
      (d.countLine l).slotLine p l
    else (d.countLine l).updEp p (fun x => { x with queue := x.queue ++ [l] })

/-- The 4 KiB credits that a line takes. -/
def Dev.lineCredits (d : Dev) (p : Nat) : Nat := ceilDiv (d.linePayload p) 4096

/-- The engine's credits of an in-line port cover its oldest closed line, besides the lines that it has not yet taken in (R110). A
missing line carries no data; a line alone in the engine's input always passes. -/
def Dev.creditsCover (d : Dev) (p : Nat) : Bool :=
  let held := ((d.ep p).queue.filter (fun l => ! l.missing)).length
  d.nat (Obj.bindMode p) != 1 || held == 0 || (match (d.port p).ledger with | e :: _ => e.missCause != 0 | [] => true) ||
    decide ((held + 1) * d.lineCredits p ≤ Config.engineCredits p)

/-- LINE_DELIVERY as an event: an in-line line waits in the ingress buffer until the engine's credits cover it (R110). -/
def Dev.creditedDelivery (d : Dev) (p : Nat) : Dev := if d.creditsCover p then d.lineDelivery p else d

/-- A ledger holds at most 256 entries (R103): the oldest of a full one closes and leaves at once (DESIGN CHOICE, log entry 65). -/
def Dev.ledgerRoom (d : Dev) (p : Nat) : Dev :=
  if (d.port p).ledger.length < 256 then d
  else (d.updPort p (fun x => { x with ledger := match x.ledger with
    | e :: rest => { e with closed := true } :: rest
    | [] => [] })).lineDelivery p

/-! ## Parameter sets (R135 to R138) -/

/-- The camera writes of a PSET: (address, value) pairs (R139). -/
def Dev.camWrites (d : Dev) (q : Nat) : Nat := (d.bytes (Obj.camWrites q)).length / 8

/-- A write of PsetArm (R136). A PSET with PsetPort 0xFF belongs to no port: R136 names only one of another port, and the model's choice
is RANGE here too (log entry 66). -/
def Dev.writePsetArm (d : Dev) (p q : Nat) : Dev × RCode :=
  let e := d.ep p
  if q = 0xFF then
    match e.armed with
    | none => (d, .ok)
    | some a =>
      if a.issued.isSome then (d, .state)
      else
        let d := (d.updEp p (fun e => { e with armed := none })).showPset p a.pset
        ((d.putN (Obj.psetArmed p) 0xFF).putN (Obj.psetResult p) 0, .ok)
  else
    let t := d.nat (Obj.psetTarget p)
    let issue : Int := (t : Int) - d.nat (Obj.sensorDelay q) - d.nat (Obj.commandLead q)
    if d.nat (Obj.psetPort q) ≠ p then (d, .range)
    else if ! d.bankValid p (d.nat (Obj.tableBank q)) then (d, .state)
    else if e.armed.isSome then (d, .state)
    else if issue < d.portNextLix p then (d, .late)
    else
      let armed : Armed :=
        { pset := q, target := t, issueLix := issue.toNat, preload := d.nat (Obj.bindMode p) != 1, issued := none, step := 0,
          table := some (d.bankBytes p (d.nat (Obj.tableBank q))) }
      let d := d.updEp p (fun e => { e with armed := some armed })
      -- an in-line engine preloads the bank
      let d := if armed.preload then d
        else d.memRequest 5 (bankAddr p (d.nat (Obj.tableBank q))) (d.bankSize p) false
      (((d.putN (Obj.psetArmed p) q).showPset p q).putN (Obj.psetResult p) 1, .ok)

/-- The PSET fails (R138). -/
def Dev.psetFail (d : Dev) (p : Nat) (a : Armed) : Dev :=
  let lix := a.issued.getD a.issueLix
  let d := d.updEp p (fun e => { e.doubt (lix + 1 + d.nat (Obj.sensorDelay a.pset)) with armed := none })
  let d := ((d.showPset p a.pset).putN (Obj.psetArmed p) 0xFF).putN (Obj.psetResult p) 5
  (d.log 0x03 sevFault 0x0003 [.f p, .f a.pset, .w lix] (d.portLcg? p)).mirror (.pset p lix 0 5)

/-- The switch line is found (R137): the result, the events, and the switch to come. -/
def Dev.psetSwitch (d : Dev) (p : Nat) (a : Armed) (s : Nat) : Dev :=
  let res := if s = a.target then 2 else if s < a.target then 3 else 4
  let d := d.updEp p (fun e =>
    { e.settleDoubt s with armed := none, switches := e.switches ++ [{ line := s, pset := a.pset, table := a.table }] })
  let d := (((d.showPset p a.pset).putN (Obj.psetArmed p) 0xFF).putN (Obj.psetSwitchLix p) s).putN (Obj.psetResult p) res
  let d := d.log 0x03 sevInfo 0x0001 [.f p, .f a.pset, .w a.target, .w s] (d.portLcg? p)
  let d := if res = 2 then d else d.log 0x03 sevWarn 0x0002 [.f p, .f a.pset, .w a.target, .w s] (d.portLcg? p)
  d.mirror (.pset p (a.issued.getD 0) s res)

/-- The fire of LIX `lix` may be the issue of an armed PSET (R136). -/
def Dev.psetIssue (d : Dev) (p lix : Nat) : Dev :=
  match (d.ep p).armed with
  | some a =>
    if a.issued.isSome ∨ ¬ a.preload ∨ lix < a.issueLix then d
    else
      let a := { a with issued := some lix }
      let d := (d.updEp p (fun e => { e with armed := some a })).putN (Obj.psetIssueLix p) lix
      let d := d.showPset p a.pset
      if d.portState p ≠ 4 then d.psetFail p a
      else if d.camWrites a.pset = 0 then d.psetSwitch p a a.target
      else d.ctlSend p (.psetWrite a.pset 0)
  | none => d

/-- PSET_PRELOAD_DONE: the bank is in the engine's SRAM (R136). -/
def Dev.psetPreloadDone (d : Dev) (p : Nat) : Dev :=
  d.updEp p (fun e => { e with armed := e.armed.map (fun a => { a with preload := true }) })

/-- A camera write of PsetInitial is answered; a failure counts as the camera not accepting its configuration (R138). -/
def Dev.initialAck (d : Dev) (p q step : Nat) (error : Bool) : Dev :=
  let d := d.updPort p (fun x => { x with ctl := none })
  if d.portState p ≠ 2 then d.ctlNext p
  else if error then (d.setPortState p 5).ctlNext p
  else
    let d := d.updEp p (fun e => { e with initStep := step + 1 })
    if step + 1 < d.camWrites q then d.ctlSend p (.initialWrite q (step + 1)) else d.ctlNext p

/-- A camera write of an armed PSET is answered (R137, R138). -/
def Dev.psetAck (d : Dev) (p q step : Nat) (error : Bool) : Dev :=
  let d := d.updPort p (fun x => { x with ctl := none })
  match (d.ep p).armed with
    | some a =>
      if a.pset ≠ q ∨ a.issued.isNone then d.ctlNext p
      else if error then (d.psetFail p a).ctlNext p
      else if step + 1 < d.camWrites q then
        (d.updEp p (fun e => { e with armed := some { a with step := step + 1 } })).ctlSend p (.psetWrite q (step + 1))
      else
        -- S = a + 1 + SensorDelay, a being the LIX that the port fired last
        let fired := (d.trig p).lastLix.getD (a.issued.getD 0)
        (d.psetSwitch p a (fired + 1 + d.nat (Obj.sensorDelay q))).ctlNext p
    | none => d.ctlNext p

/-- CONTROL_ACKNOWLEDGE: the camera answers the command on the link (R116, R137). -/
def Dev.controlAck (d : Dev) (p : Nat) (error : Bool) (data : Bytes) : Dev :=
  let d := d.updPort p (fun x => { x with heard := d.now })
  match (d.port p).ctl with
  | none => d
  | some (.bridgeRead _ n, _) => d.ctlEnd p (if error then 2 else 0) (if error then none else some (data.take n))
  | some (.bridgeWrite _ _, _) => d.ctlEnd p (if error then 2 else 0) none
  | some (.psetWrite q step, _) => d.psetAck p q step error
  | some (.initialWrite q step, _) => d.initialAck p q step error

/-- CONTROL_TIMEOUT: no acknowledge within 200 ms, the limit included (R17, R116, R138). -/
def Dev.controlTimeout (d : Dev) (p : Nat) : Dev :=
  match (d.port p).ctl with
  | some (c, sent) =>
    if d.now ≤ sent + 200000000 then d
    else match c with
      | .psetWrite q step => d.psetAck p q step true
      | .initialWrite q step => d.initialAck p q step true
      | _ => d.ctlEnd p 3 none
  | none => d

/-- CAMERA_CONFIGURED: the outcome of Configuring (R99, R113, R138). A camera that in time accepts neither the speed nor the lanes
requires an option that is not supported: the format event is logged, with no header's code (R96; DEDUCED, log entry 65). -/
def Dev.cameraConfigured (d : Dev) (p : Nat) (accepted : Bool) : Dev :=
  if d.portState p ≠ 2 then d
  else
    let inTime := decide (d.now ≤ (d.port p).since + 20000000)
    let sent := decide (d.camWrites (d.ep p).pset ≤ (d.ep p).initStep)
    if accepted && inTime && sent && d.lanesReady p then
      (d.setPortState p 3).updPort p (fun x => { x with heard := d.now })
    else
      let d := if ! accepted && inTime then d.logRep 0x02 sevFault 0x0004 p (fun _ => [.f p, .f 0]) (d.portLcg? p) else d
      d.setPortState p 5

/-- The writes of PsetInitial are sent during Configuring, once the used lanes are locked (R99, R138). R138 does not say which PSET's
writes Configuring sends after an automatic retry: the model's choice is those of the PSET in force (log entry 66). -/
def Dev.initialWrites (d : Dev) (p : Nat) : Dev :=
  let e := d.ep p
  if d.portState p = 2 ∧ d.lanesReady p ∧ e.initStep < d.camWrites e.pset ∧ (d.port p).ctl = none then
    d.ctlSend p (.initialWrite e.pset e.initStep)
  else d

/-- A write of PsetInitial that an earlier Configuring left unanswered is given up. -/
def Dev.dropInitial (d : Dev) (p : Nat) : Dev :=
  let old (c : CtlCmd) : Bool := match c with | .initialWrite _ _ => true | _ => false
  d.updPort p (fun x => { x with
    ctl := match x.ctl with | some (c, t) => if old c then none else some (c, t) | none => none
    ctlWait := x.ctlWait.filter (fun c => ! old c) })

/-- The camera answers discovery (R99). -/
def Dev.masterConnection (d : Dev) (p : Nat) (speeds : List Nat) (connections : Nat) : Dev :=
  if d.portState p ≠ 1 then d
  else (((d.dropInitial p).masterAnswers p speeds connections).updEp p (fun e => { e with initStep := 0 })).initialWrites p

/-- LANE_LOCK: with the last used lane locked, Configuring goes on to the writes of PsetInitial. -/
def Dev.laneLocks (d : Dev) (n : Nat) : Dev := (d.laneLock n).initialWrites (n / 8)

/-! ## Enabling and disabling a port (R99, R133, R135, R142) -/

/-- The power domain of a port's Strip die, and of an engine's (R18). -/
def portDomain (p : Nat) : Nat := if p < 12 then 3 else 4
def engineDomain (e : Nat) : Nat := if e % 2 = 0 then 3 else 4

/-- A domain is on and not draining: work may start in it (R441). -/
def Dev.ready (d : Dev) (dom : Nat) : Bool := d.nat (Obj.domState dom) == 2

/-- A write of 1 to PortEnable (R99, R133, R135, R138, R142). A PSET armed while the port was stopped stays armed (R135), and the
last fire kept before the stop still counts for R104. Trigger packets not yet answered are forgotten (DESIGN CHOICE, log entry
65). -/
def Dev.enablePort (d : Dev) (p : Nat) : Dev × RCode :=
  let q := d.nat (Obj.psetInitial p)
  if d.flag (Obj.portEnable p) then (d, .ok)
  else if ! d.ready (portDomain p) || ! d.ready (engineDomain (d.engineOf p)) then (d, .state)
  else if d.nat (Obj.bindMode p) = 0 ∨ d.nat (Obj.psetPort q) ≠ p then (d, .state)
  else
    let b := d.nat (Obj.tableBank q)
    let valid := d.bankValid p b
    let d := (d.putF (Obj.portEnable p) true).updPort p (fun x => { x with
      faulted := false, offered := none, ledger := [], cur := [], held := [], packets := [], falling := [], heard := d.now })
    let d := d.updEp p (fun e => { e with
      queue := [], slots := [], window := [], nextEmit := none, nr := [], hold := [], pset := q,
      table := if valid then some (d.bankBytes p b) else none, switches := [], since := none, bad := [], uncertain := [],
      initStep := 0, stat := none, stopping := false })
    let d := d.showPset p q
    let d := d.updTrig p (fun t => { t with
      lvds := if d.nat (Obj.trigMode p) = 2 ∨ d.nat (Obj.trigMode p) = 3 then some (d.lvdsPlan p) else none })
    let d := d.updStitch (fun x => { x with ports := x.ports.modify p (fun s => { s with fires := [], firstIn := none }) })
    let d := if valid then d else d.log 0x03 sevWarn 0x0005 [.f p, .f b] (d.portLcg? p)
    (d.setPortState p 1, .ok)

/-- Deliver every outstanding entry (R99). -/
def Dev.deliverAll (d : Dev) (p : Nat) : (fuel : Nat) → Dev
  | 0 => d
  | n + 1 => if (d.port p).ledger.isEmpty then d else (d.lineDelivery p).deliverAll p n

/-- Emit every line a stopped in-line port still holds: lines beyond the last are missing (R130). -/
def Dev.flushInline (d : Dev) (p : Nat) : (fuel : Nat) → Dev
  | 0 => d
  | n + 1 => if d.inFlight p = 0 then d else (d.emitInline p).flushInline p n

/-- Emit every line a stopped port still holds. A memory-path port ends its job and reads its slots as they stand; while a repair
holds the input, or without an engine, the lines are lost (R291, R292). -/
def Dev.flushPort (d : Dev) (p : Nat) : Dev :=
  let d := d.updEp p (fun e => { e with stopping := true })
  let n := 2 * d.inFlight p + 2
  if (d.ep p).creditsHeld || d.noEngine p then d.emitLostTo p 8 (some 1) (2 ^ 64) n
  else
    let lines := (d.ep p).slotted
    let d := (d.dropJob p).updEp p (fun x => { x with slots := [], queue := x.queue ++ lines })
    d.flushInline p n

/-- A write of 0 to PortEnable (R99, R130, R134, R135, R140, R458). An outstanding entry that already has a cause keeps it, as R107
has it for Timeout; the spec states Stopped for the entries of a stop and no order between the two. PsetResult of a PSET that the
stop disarms after its issue has begun is 0, which the spec states for a disarm before issue only (both log entry 65). R140 does not speak
of a stop within a statistics window: the model's choice is that the window ends with its record, and that a restart in the same strip
begins another (log entry 66). -/
def Dev.disablePort (d : Dev) (p : Nat) : Dev :=
  if ! d.flag (Obj.portEnable p) then d
  else
    let d := d.updPort p (fun x => { x with
      cur := [], held := [], ctl := none, ctlWait := [], falling := [],
      ledger := x.ledger.map (fun e => if e.cause = 0 then { e with closed := true, cause := 7 } else { e with closed := true }) })
    let d := (d.idleLvds p).updTrig p (fun t => { t with lvds := none })
    let d := if d.nat (Obj.ctlStatus p) = 1 then d.putN (Obj.ctlStatus p) 4 else d
    let d := d.deliverAll p (d.port p).ledger.length
    let d := (d.flushPort p).statEnd p
    let held := d.heldPsets p
    let d := match (d.ep p).armed with
      | some _ => (d.putN (Obj.psetArmed p) 0xFF).putN (Obj.psetResult p) 0
      | none => d
    let d := (d.updEp p (fun e => { e with armed := none, switches := [], uncertain := [] })).putF (Obj.portEnable p) false
    let d := held.foldl (fun d q => d.showPset p q) d
    (d.setPortState p 0).acqCheck p

/-! ## Bindings and capacity (R124, R127, R128, R142 to R144) -/

/-- Load of a port in samples per second (R144). -/
def Dev.portLoad (d : Dev) (p : Nat) : Nat :=
  d.portWidth p * max (d.portPlanes p) (d.nat (Obj.outPlanes p)) * d.nat (Obj.maxLineRate p)

/-- The switch overhead of a memory-path port (R144). -/
def Dev.portOverhead (d : Dev) (p : Nat) : Nat := if d.nat (Obj.bindMode p) = 2 then 64 * d.nat (Obj.maxLineRate p) else 0

/-- The ports bound to an engine. -/
def Dev.boundPorts (d : Dev) (e : Nat) : List Nat :=
  (List.range (if d.rb9212 then 12 else 24)).filter (fun p => d.nat (Obj.bindMode p) != 0 && d.engineOf p == e)

/-- The load that an engine is admitted for (R144, R149). -/
def Dev.engineLoad (d : Dev) (e : Nat) : Nat := sumN ((d.boundPorts e).map (fun p => d.portLoad p + d.portOverhead p))

def Dev.inlinePorts (d : Dev) (e : Nat) : List Nat := (d.boundPorts e).filter (fun p => d.nat (Obj.bindMode p) == 1)
def Dev.mpPorts (d : Dev) (e : Nat) : List Nat := (d.boundPorts e).filter (fun p => d.nat (Obj.bindMode p) == 2)

/-- The capacity rules of R144 for an engine, for a port, and for the device. -/
def Dev.engineFits (d : Dev) (e : Nat) : Bool :=
  (d.inlinePorts e).all (fun p => decide (d.portLoad p ≤ 6000000000)) &&
  ((d.mpPorts e).isEmpty || decide (d.engineLoad e ≤ 5700000000))

def Dev.slotsFit (d : Dev) (p : Nat) : Bool :=
  decide (2 + ceilDiv (d.nat (Obj.mpDeadline p)) 256 ≤ d.nat (Obj.mpSlots p))

def Dev.mpTrafficFits (d : Dev) : Bool :=
  decide (sumN ((List.range 24).map (fun p =>
    if d.nat (Obj.bindMode p) = 2 then d.linePayload p * d.nat (Obj.maxLineRate p) else 0)) ≤ 72000000000)

/-- The admission rules that a write to a term of port `p` must keep (R113, R144). -/
def Dev.termsFit (d : Dev) (p : Nat) : Bool :=
  (d.nat (Obj.bindMode p) == 0 || d.engineFits (d.engineOf p)) && d.slotsFit p && d.mpTrafficFits

/-- What a binding must satisfy with BindMode non-zero (R142, R143, R144). Of a write that breaks several rules the spec does not say
which is judged first: the model's choice is RANGE of R142, then STATE of R143, then RANGE of R144 (log entry 26). -/
def Dev.bindingCode (d : Dev) (p : Nat) : RCode :=
  if d.nat (Obj.bindMode p) = 0 then .ok
  else
    let e := d.engineOf p
    let st := (d.engine (d.nat (Obj.bindEngine p))).state
    if 1 < (d.inlinePorts e).length then .range
    else if st = 2 ∨ st = 3 ∨ (d.engine e).state ≠ 1 then .state
    else if d.termsFit p then .ok else .range

/-- The mosaic descriptor rules of R124, R127, R128 and R129. -/
def Dev.mosaicOk (d : Dev) (p : Nat) : Bool :=
  let m := d.mosaic p
  let n := d.portPlanes p
  decide (n * m.rows ≤ 4) &&
  (List.range 4).all (fun s => (List.range 4).all (fun r => (List.range 4).all (fun c =>
    if r < m.rows ∧ c < m.cols then decide (m.cell s r c < 4) else m.cell s r c == 0))) &&
  (! isBayer (d.portFormat p) || (m.rows == 2 && m.cols == 2 &&
    m.pattern.getD 0 0 == (match (d.portFormat p) % 4 with
      | 0 => 0x00210010
      | 1 => 0x00120001
      | 2 => 0x00100021
      | _ => 0x00010012))) &&
  (m.rows ≤ 1 || (List.range n).all (fun s => m.offsets.getD s 0 % 256 == 0)) &&
  (! m.guided || m.present n m.guide)

end Sys2Proof.Machine
end

