-- ==== Sys2Proof/Machine/Stitch.lean ====
section
/-! DEFINITION. The stitcher and the Skew Buffer (chapter 06): the Last, the output grid, the Welts, photometric
matching and the stitched line. -/

namespace Sys2Proof.Machine

def Dev.sp (d : Dev) (p : Nat) : SkewPort := d.stitch.ports.getD p SkewPort.reset
def Dev.updSp (d : Dev) (p : Nat) (f : SkewPort → SkewPort) : Dev :=
  d.updStitch (fun x => { x with ports := x.ports.modify p f })
def Dev.vw (d : Dev) (v : Nat) : ViewState := d.stitch.views.getD v ViewState.reset
def Dev.updVw (d : Dev) (v : Nat) (f : ViewState → ViewState) : Dev :=
  d.updStitch (fun x => { x with views := x.views.modify v f })

/-- The ports of a View (R159). -/
def Dev.viewPorts (d : Dev) (v : Nat) : List Nat := (List.range 24).filter (bit (d.nat (Obj.portMask v)))

/-- A View is deferred when one of its ports is bound on the memory path (R160). -/
def Dev.deferred (d : Dev) (v : Nat) : Bool := (d.viewPorts v).any (fun p => d.nat (Obj.bindMode p) == 2)

/-- The Views that run and use a port. -/
def Dev.viewsOf (d : Dev) (p : Nat) : List Nat :=
  (List.range 4).filter (fun v => (d.vw v).running && bit (d.nat (Obj.portMask v)) p)

/-! ## The Last (R152 to R154) -/

/-- The geometry of a port for one stitched line: A and B, and the coefficients of R152 and R153. -/
structure Last where
  a        : Nat
  b        : Nat
  c0       : Int
  c1       : Int
  c2       : Int
  c3       : Int
  centre   : Int
  mdOffset : Int
  mdSkew   : Int
  deriving DecidableEq, Repr

/-- The geometry of a port in force for stitched line `lix` of LCG `g` (R55, R155). -/
def Dev.lastAt (d : Dev) (g p lix : Nat) : Last :=
  { a := d.natOn g (Obj.activeFirst p) lix, b := min (d.natOn g (Obj.activeLast p) lix) (d.portWidth p - 1),
    c0 := d.intOn g (Obj.lastC0 p) lix, c1 := d.intOn g (Obj.lastC1 p) lix, c2 := d.intOn g (Obj.lastC2 p) lix,
    c3 := d.intOn g (Obj.lastC3 p) lix, centre := d.intOn g (Obj.xCentre p) lix,
    mdOffset := d.intOn g (Obj.mdOffset p) lix, mdSkew := d.intOn g (Obj.mdSkew p) lix }

/-- The web-frame CD position of pixel `x` (R152). -/
def Last.cd (l : Last) (x : Nat) : Int :=
  let t : Int := x - l.centre
  asr (l.c0 * 2 ^ 48 + l.c1 * t * 2 ^ 32 + l.c2 * (t * t) * 2 ^ 16 + l.c3 * (t * t * t) + 2 ^ 47) 48

/-- The MD offset of pixel `x` in 2^-16 lines (R153). -/
def Last.mdo (l : Last) (x : Nat) : Int := l.mdOffset + asr (l.mdSkew * (x - l.centre) + 32768) 16

/-- Three lines in 2^-16 lines. -/
def threeLines : Int := 196608

/-- The rules of R152, R153 and R156 for one port, and the subset rule of StorePlanes (R172). -/
def Last.ok (l : Last) : Bool :=
  decide (l.a ≤ l.b) &&
  (let steps := (List.range (l.b - l.a)).map (fun i => l.cd (l.a + i + 1) - l.cd (l.a + i))
   steps.all (fun s => decide (256 ≤ s)) || steps.all (fun s => decide (s ≤ -256))) &&
  [l.a, l.b].all (fun x => decide (-threeLines ≤ l.mdo x ∧ l.mdo x ≤ threeLines))

/-- The Last of a port as now configured. -/
def Dev.lastNow (d : Dev) (p : Nat) : Last :=
  { a := d.nat (Obj.activeFirst p), b := min (d.nat (Obj.activeLast p)) (d.portWidth p - 1),
    c0 := d.int (Obj.lastC0 p), c1 := d.int (Obj.lastC1 p), c2 := d.int (Obj.lastC2 p), c3 := d.int (Obj.lastC3 p),
    centre := d.int (Obj.xCentre p), mdOffset := d.int (Obj.mdOffset p), mdSkew := d.int (Obj.mdSkew p) }

/-- A port's configuration keeps the rules of R152, R153 and R156. -/
def Dev.lastOk (d : Dev) (p : Nat) : Bool :=
  (d.lastNow p).ok && decide (popcount (d.nat (Obj.storePlanes p)) 4 * d.portWidth p ≤ 65536) &&
    decide (d.nat (Obj.storePlanes p) < 2 ^ d.nat (Obj.outPlanes p))

/-- MdMin and MdMax (R153): the extremes over A to B; mdo is monotone in x, so they lie at the ends. -/
def Last.mdMin (l : Last) : Int := min (l.mdo l.a) (l.mdo l.b)
def Last.mdMax (l : Last) : Int := max (l.mdo l.a) (l.mdo l.b)

/-- The exposure term E(n) of a port (R154). -/
def Dev.exposure (d : Dev) (p n : Nat) : Int :=
  let delay := d.natAt (Obj.expDelay p) n
  let time (lix : Nat) := ((d.sp p).fires.find? (fun f => f.1 == lix)).map (fun f => f.2)
  match time n, (if n = 0 then none else time (n - 1)) with
  | some t1, some t0 => let h := t1 - t0; if delay = 0 ∨ h = 0 then 0 else ((delay * 65536 + h / 2) / h : Nat)
  | _, _ => 0

/-! ## The output grid (R159 to R161) -/

/-- A View's grid. -/
structure Grid where
  width  : Nat
  pitch  : Nat
  origin : Int
  minus  : Bool
  deriving DecidableEq, Repr

def Dev.grid (d : Dev) (v : Nat) : Grid :=
  { width := d.nat (Obj.viewWidth v), pitch := d.nat (Obj.webPitch v), origin := d.int (Obj.cdOrigin v),
    minus := d.flag (Obj.cdSign v) }

/-- The View coordinate of pixel `x` of a port (R159, R161). -/
def Grid.cv (g : Grid) (l : Last) (x : Nat) : Int := if g.minus then g.origin - l.cd x else l.cd x - g.origin

/-- The output pixels that a port covers (R161), as (first, last); none when it covers none. -/
def Grid.covers (g : Grid) (l : Last) : Option (Nat × Nat) :=
  if l.b < l.a then none
  else
    let u := g.cv l l.a
    let w := g.cv l l.b
    let lo := min u w
    let hi := max u w
    let first := if lo ≤ 0 then 0 else ((lo + g.pitch - 1) / g.pitch).toNat
    let last := min ((hi / g.pitch).toNat) (g.width - 1)
    if hi < 0 ∨ last < first then none else some (first, last)

/-- The greatest x of lo to hi with P x, where P holds at lo and, once false, stays false. -/
def lastWhere (P : Nat → Bool) : (fuel lo hi : Nat) → Nat
  | 0, lo, _ => lo
  | n + 1, lo, hi =>
    if hi ≤ lo then lo
    else
      let m := (lo + hi + 1) / 2
      if P m then lastWhere P n m hi else lastWhere P n lo (m - 1)

/-- The source of output pixel `i` (R161): the camera pixel, and the 16-bit fraction towards the next. -/
def Grid.source (g : Grid) (l : Last) (i : Nat) : Nat × Nat :=
  let P : Int := i * g.pitch
  if P = g.cv l l.b then (l.b, 0)
  else
    let rising := decide (g.cv l l.a ≤ g.cv l l.b)
    let x := lastWhere (fun x => if rising then decide (g.cv l x ≤ P) else decide (P ≤ g.cv l x)) 16 l.a (l.b - 1)
    let step := (g.cv l (x + 1) - g.cv l x).natAbs
    (x, if step = 0 then 0 else (P - g.cv l x).natAbs * 65536 / step)

/-- The camera pixels that the area rule of R161 takes for output pixel `i`: first and count. -/
def Grid.area (g : Grid) (l : Last) (i : Nat) : Nat × Nat :=
  let P : Int := i * g.pitch
  let lo : Int := P - (g.pitch / 2 : Nat)
  let hi : Int := P + (ceilDiv g.pitch 2 : Nat)
  let rising := decide (g.cv l l.a ≤ g.cv l l.b)
  -- pixels before the range, and pixels up to its end, along x
  let before (x : Nat) : Bool := if rising then decide (g.cv l x < lo) else decide (hi ≤ g.cv l x)
  let upto (x : Nat) : Bool := if rising then decide (g.cv l x < hi) else decide (lo ≤ g.cv l x)
  let first := if before l.a then lastWhere before 16 l.a l.b + 1 else l.a
  let stop := if upto l.a then lastWhere upto 16 l.a l.b + 1 else l.a
  (first, stop - first)

/-! ## One port's part of a stitched line (R154, R157, R158, R161) -/

/-- What a port gives to a stitched line: the values by output pixel from `first` on, for each output plane, before
gain, and what the tag entry says. -/
structure PortPart where
  port      : Nat
  first     : Nat
  values    : List (Array (Option Nat))   -- per output plane, from output pixel `first` on
  cause     : Nat
  pset      : Nat
  suspect   : Bool
  degraded  : Bool
  uncertain : Bool
  short     : Bool
  corrupt   : Bool
  edge      : Bool
  skewRange : Bool
  deriving Repr

/-- How the stitcher finds a line of a port. -/
inductive LineAt where
  | have (c : CorrLine)
  | overrun
  | before                -- earlier than the first line its port delivered (R170)
  | absent
  deriving DecidableEq, Repr

/-- Line `lix` of a port as View `v` reads it. -/
def Dev.lineAt (d : Dev) (v p : Nat) (lix : Int) : LineAt :=
  let s := d.sp p
  let pool := if d.deferred v then s.hold else s.lines
  if lix < 0 then .before
  else match pool.find? (fun c => c.lix == lix.toNat) with
    | some c => .have c
    | none =>
      if s.overrun.contains lix.toNat then .overrun
      else match s.firstIn with
        | some f => if lix.toNat < f then .before else .absent
        | none => .absent

/-- The cause that a line brings to the entry (R169). -/
def LineAt.cause : LineAt → Nat
  | .have c => c.cause
  | .overrun => 12
  | .before => 0
  | .absent => 11

def LineAt.corr? : LineAt → Option CorrLine
  | .have c => some c
  | _ => none

/-- A line's sample of engine plane `j` at x, if valid (R158). `A ≤ x ≤ B` is the caller's. -/
def LineAt.sample (planes : Array (Array Nat)) (l : LineAt) (j x : Nat) : Option Nat :=
  match l with
  | .have c => if c.missing || decide (c.width ≤ x) then none else (planes.getD j #[])[x]?
  | _ => none

/-- Blend two lines by R158: the value if valid, and Degraded. -/
def blendLines (f : Nat) (u w : Option Nat) : Option Nat × Bool :=
  if f = 0 then (u, false)
  else match u, w with
    | some a, some b => (some (((65536 - f) * a + f * b + 32768) / 65536), false)
    | some a, none => (some a, true)
    | none, some b => (some b, true)
    | none, none => (none, false)

/-- The seven lines n − 3 to n + 3 that stitched line `n` reads, in order; line n + 4 has weight 0 (R157). -/
def Dev.sevenLines (d : Dev) (v p n : Nat) : Array LineAt :=
  ((List.range 7).map (fun (i : Nat) => d.lineAt v p ((n : Int) + i - 3))).toArray

/-- A port that is treated as missing for the whole line (R160). -/
def PortPart.notReady (p : Nat) : PortPart :=
  { port := p, first := 0, values := [], cause := 11, pset := 0, suspect := false, degraded := false,
    uncertain := false, short := false, corrupt := false, edge := false, skewRange := false }

/-- A port's part of stitched line `n` of View `v`. -/
def Dev.portPart (d : Dev) (v p n : Nat) : PortPart :=
  let l := d.lastAt (d.viewLcg v) p n
  let g := d.grid v
  let e := d.exposure p n
  let lines := d.sevenLines v p n
  let planes := lines.map (fun x => match x with | .have c => (c.planes.map List.toArray).toArray | _ => #[])
  let srcs := (List.range (d.nat (Obj.viewOutPlanes v))).map (fun k => field (d.nat (Obj.planeSrc v)) (4 * k) 4)
  let xs := List.range (l.b + 1 - l.a)
  let mt (x : Nat) : Int := l.mdo x - e
  let inRange (x : Nat) : Bool := decide (-threeLines ≤ mt x ∧ mt x ≤ threeLines)
  let at_ (i : Int) : LineAt := lines.getD i.toNat .absent
  -- s(x) of each output plane, and Degraded (R158)
  let s (j i : Nat) : Option Nat × Bool :=
    let x := l.a + i
    if inRange x then
      let k := mt x / 65536 + 3
      let f := (mt x % 65536).toNat
      blendLines f ((at_ k).sample (planes.getD k.toNat #[]) j x) ((at_ (k + 1)).sample (planes.getD (k + 1).toNat #[]) j x)
    else (none, false)
  let rows := srcs.map (fun j => xs.map (s j))
  let vals := rows.map (fun r => (r.map (fun e => e.1)).toArray)
  -- the lines that R158 names for some active pixel
  let used := (List.range 7).filter (fun o => xs.any (fun i =>
    let x := l.a + i
    inRange x && (let k := (mt x / 65536 + 3).toNat; o == k || (mt x % 65536 != 0 && o == k + 1))))
  let us := used.map (fun o => lines.getD o .absent)
  let hs := us.filterMap LineAt.corr?
  let skew := xs.any (fun i => ! inRange (l.a + i))
  let area := d.natAt (Obj.resample v) n == 1
  let pixel (vs : Array (Option Nat)) (i : Nat) : Option Nat :=
    let linear : Option Nat :=
      let (x, fr) := g.source l i
      let a := vs.getD (x - l.a) none
      if fr = 0 then a
      else match a, vs.getD (x + 1 - l.a) none with
        | some u, some w => some (((65536 - fr) * u + fr * w + 32768) / 65536)
        | _, _ => none
    if area then
      let (x, c) := g.area l i
      if c < 2 then linear
      else
        let os := (List.range c).map (fun k => vs.getD (x + k - l.a) none)
        if os.all Option.isSome then some ((2 * sumN (os.map (fun o => o.getD 0)) + c) / (2 * c)) else none
    else linear
  let (first, count) := match g.covers l with | some (a, b) => (a, b + 1 - a) | none => (0, 0)
  { port := p, first := first,
    values := vals.map (fun vs => ((List.range count).map (fun i => pixel vs (first + i))).toArray),
    cause := max (maxN (us.map LineAt.cause)) (if skew then 10 else 0),
    pset := if inRange l.centre.toNat then
      (match at_ (mt l.centre.toNat / 65536 + 3) with | .have c => c.pset | _ => 0) else 0,
    suspect := hs.any (fun c => c.suspect),
    degraded := hs.any (fun c => c.degraded) || rows.any (fun r => r.any (fun e => e.2)),
    uncertain := hs.any (fun c => c.uncertain), short := hs.any (fun c => c.short),
    corrupt := hs.any (fun c => c.corrupt), edge := hs.any (fun c => c.edge), skewRange := skew }

/-- A part's value of output plane `k` at output pixel `i`. -/
def PortPart.at (q : PortPart) (k i : Nat) : Option Nat :=
  if i < q.first then none else (q.values.getD k #[]).getD (i - q.first) none

/-! ## Welts and matching (R162 to R167) -/

/-- The Welts of a View for one of its lines (R55, R173). -/
def Dev.welts (d : Dev) (v lix : Nat) : List Nat :=
  (List.range 96).filter (fun w => d.natOn (d.viewLcg v) (Obj.weltView w) lix == v)

/-- The zone of a Welt (R163): the output pixels that both its ports cover. -/
def Grid.zone (g : Grid) (a b : Last) : Option (Nat × Nat) :=
  match g.covers a, g.covers b with
  | some (a0, a1), some (b0, b1) => if max a0 b0 ≤ min a1 b1 then some (max a0 b0, min a1 b1) else none
  | _, _ => none

/-- Apply a gain (R165). -/
def gained (g v : Nat) : Nat := min 65535 ((v * g + 32768) / 65536)

/-- The cost of a seam at `c` (R164). -/
def seamCost (a b : Nat) (diff : Nat → Nat) (c : Int) : Nat :=
  sumN ((List.range 4).map (fun (i : Nat) =>
    let j := c - 2 + i
    if (a : Int) ≤ j ∧ j ≤ b then diff j.toNat else 0))

/-- The next place of a quality seam that moves by at most one pixel (R164). -/
def seamMove (a b guard : Nat) (s : Nat) (diff : Nat → Nat) : Nat :=
  let lo : Int := a + guard
  let hi : Int := b + 1 - guard
  let cand := ([(s : Int), s - 1, s + 1]).filter (fun c => decide (lo ≤ c ∧ c ≤ hi))
  -- the old place first, then the lower neighbour: a strictly lower cost is needed to move
  match cand with
  | [] => s
  | c :: cs => (cs.foldl (fun best x => if seamCost a b diff x < seamCost a b diff best then x else best) c).toNat

/-- What identifies the configuration of a Welt of View `v` (R164). -/
def Dev.weltCfg (d : Dev) (v w lix a b : Nat) : List Int :=
  let g := d.viewLcg v
  [v, d.intOn g (Obj.weltLeft w) lix, d.intOn g (Obj.weltRight w) lix, d.intOn g (Obj.weltMode w) lix,
   d.intOn g (Obj.seamCd w) lix, d.intOn g (Obj.seamGuard w) lix, a, b]

/-- The key of a match sum: the View, the Welt and the plane (R166). -/
def sumKey (v w k : Nat) : Nat := 256 * v + 2 * w + k

/-- The match sums of one Welt and plane of a View so far in the strip (R166). -/
def Dev.matchSum (d : Dev) (v w k : Nat) : MatchSum := Tbl.get d.stitch.sums (sumKey v w k) { sl := 0, sr := 0, c := 0 }

/-- A Welt at work on one line: its number, zone, ports, mode and seam. -/
structure WeltWork where
  welt  : Nat
  a     : Nat
  b     : Nat
  left  : Nat
  right : Nat
  mode  : Nat
  seam  : Nat
  deriving DecidableEq, Repr

/-- The output value in a zone (R163): the value, and whether one side stood alone. -/
def WeltWork.blend (w : WeltWork) (i : Nat) (l r : Option Nat) : Option Nat × Bool :=
  match l, r with
  | some x, some y =>
    if w.mode = 0 then
      let wt := if w.a = w.b then 32768 else (i - w.a) * 65536 / (w.b - w.a)
      (some ((x * (65536 - wt) + y * wt + 32768) / 65536), false)
    else (some (if i < w.seam then x else y), false)
  | some x, none => (some x, true)
  | none, some y => (some y, true)
  | none, none => (none, false)

/-- Move gain towards a target by at most `rate` (R167). -/
def towards (g t rate : Nat) : Nat := if g < t then min t (g + rate) else max t (g - rate)

/-- The gains for stitched line `n` (R165, R167). -/
def Dev.viewGains (d : Dev) (v n : Nat) : Dev :=
  let d := d.updVw v (fun x =>
    if x.unityFrom.any (fun u => decide (u ≤ n)) then { x.unit with unityFrom := x.unityFrom.filter (fun u => decide (n < u)) } else x)
  match d.natAt (Obj.matchMode v) n with
  | 0 => d.updVw v ViewState.unit
  | 1 =>
    let rate := d.natAt (Obj.matchRate v) n
    d.updVw v (fun x =>
      let due := x.newTargets.filter (fun t => decide (t.1 ≤ n))
      let ts := due.foldl (fun l t => l.set t.2.1 t.2.2) x.targets
      { x with targets := ts, newTargets := x.newTargets.filter (fun t => ! decide (t.1 ≤ n)),
               gains := (x.gains.zip ts).map (fun e => towards e.1 e.2 rate) })
  | _ => d

/-- The targets as last set: those in force and those still to come (R166). -/
def ViewState.setTargets (x : ViewState) : List Nat := x.newTargets.foldl (fun l t => l.set t.2.1 t.2.2) x.targets

/-- One target of R166, and whether it was clamped. -/
def matchTarget (tq sq sr lo hi : Nat) : Nat × Bool :=
  let t := (tq * sq + sr / 2) / sr
  (if t < lo then (lo, true) else if hi < t then (hi, true) else (t, false))

/-- Walk the Welts from MatchRef outward (R166): `reached` are the ports done. -/
def Dev.matchWalk (d : Dev) (v n : Nat) (welts : List (Nat × Nat × Nat)) :
    (fuel : Nat) → (reached : List Nat) → (ts : List Nat) → Dev × List Nat
  | 0, _, ts => (d, ts)
  | fuel + 1, reached, ts =>
    match welts.find? (fun w => reached.contains w.2.1 != reached.contains w.2.2) with
    | none => (d, ts)
    | some (w, l, r) =>
      let (q, t) := if reached.contains l then (l, r) else (r, l)
      let planes := d.nat (Obj.viewOutPlanes v)
      let strip := stripOf n
      let res := (List.range planes).foldl (fun (acc : Dev × List Nat) k =>
        let m := d.matchSum v w k
        let (sq, sr) := if q = l then (m.sl, m.sr) else (m.sr, m.sl)
        if d.natAt (Obj.matchMinCount v) n ≤ m.c ∧ 0 < sr then
          let (x, clamped) := matchTarget (acc.2.getD (2 * q + k) 65536) sq sr (d.natAt (Obj.matchMin v) n) (d.natAt (Obj.matchMax v) n)
          let dd := if clamped then acc.1.log 0x04 sevWarn 0x0005 [.f v, .f t, .f k, .w strip] (some (d.viewLcg v)) else acc.1
          (dd, acc.2.set (2 * t + k) x)
        else acc) (d, ts)
      res.1.matchWalk v n welts fuel (t :: reached) res.2

/-- MATCH_TARGETS: after the last line of a strip (R166). -/
def Dev.matchTargets (d : Dev) (v n : Nat) (ws : List WeltWork) : Dev :=
  let d := ws.foldl (fun d w => d.putN (Obj.matchCount w.welt) (d.matchSum v w.welt 0).c) d
  let d := if d.natAt (Obj.matchMode v) n = 1 then
      let r := d.natAt (Obj.matchRef v) n
      let old := (d.vw v).setTargets
      let start := (old.set (2 * r) 65536).set (2 * r + 1) 65536
      let (d, ts) := d.matchWalk v n (ws.map (fun w => (w.welt, w.left, w.right))) 24 [r] start
      let line := 256 * (stripOf n + 2)
      d.updVw v (fun x => { x with newTargets := x.newTargets ++ (List.range 48).map (fun i => (line, i, ts.getD i 65536)) })
    else d
  d.updStitch (fun x => { x with sums := x.sums.filter (fun e => e.1 / 256 != v) })

/-! ## Arrival (R156, R157, R160) -/

/-- A running View still needs line `m` of its ports: stitched line m + 3 is not yet formed. -/
def Dev.needs (d : Dev) (v m : Nat) : Bool :=
  let x := d.vw v
  x.running && decide (x.next ≤ m + 3) && (match x.stopAt with | some s => decide (m ≤ s + 3) | none => true)

/-- Free the positions and hold slots of a port that no View needs any more (R157). -/
def Dev.freeLines (d : Dev) (p : Nat) : Dev :=
  let vs := d.viewsOf p
  let inl := vs.filter (fun v => ! d.deferred v)
  let dfr := vs.filter d.deferred
  d.updSp p (fun s => { s with
    lines := s.lines.filter (fun c => inl.any (fun v => d.needs v c.lix)),
    hold := s.hold.filter (fun c => dfr.any (fun v => d.needs v c.lix)),
    overrun := s.overrun.filter (fun m => vs.any (fun v => d.needs v m)) })

/-- Line `m` is already stitched in View `v` (R160). -/
def Dev.stitched (d : Dev) (v m : Nat) : Bool := decide (d.nat (Obj.viewFirstLix v) ≤ m ∧ m < (d.vw v).next)

/-- A line in a hold slot is lost to HBM: missing with cause SkewOverrun for the stitched lines that need it (R335). -/
def Dev.loseHold (d : Dev) (p lix : Nat) : Dev :=
  (d.addRange (d.portLcg p) true scPort p 10 lix).updSp p (fun s => { s with
    hold := s.hold.filter (fun l => l.lix != lix), overrun := if s.overrun.contains lix then s.overrun else lix :: s.overrun })

/-- The requests for a line of a hold slot (R160, R327). -/
def Dev.holdTraffic (d : Dev) (p lix : Nat) (write : Bool) : Dev :=
  d.hbmTraffic 2 1 1 p lix (32 + 2 * popcount (d.nat (Obj.storePlanes p)) 4 * d.portWidth p) write

/-- A corrected line is discarded with cause SkewOverrun: it counts, and the event is logged for its View (R157, R176). -/
def Dev.skewOverrun (d : Dev) (p lix : Nat) : Dev :=
  let d := d.updSp p (fun s => { s with overrun := if s.overrun.contains lix then s.overrun else s.overrun ++ [lix] })
  (d.bump (Obj.skewOverrunCount p)).logFirst 0x04 sevFault 0x0004 ((d.viewsOf p).headD 0) [.f p, .w lix] (fun _ first => first)
    (d.portLcg? p)

/-- CORRECTED_LINE_ARRIVAL: the next corrected line of a port reaches the Skew Buffer. -/
def Dev.lineArrival (d : Dev) (p : Nat) : Dev :=
  match (d.sp p).arriving with
  | [] => d
  | c :: rest =>
    let d := d.updSp p (fun s => { s with
      arriving := rest, firstIn := some (min (s.firstIn.getD c.lix) c.lix), lastIn := some c.lix })
    let d := d.freeLines p
    let vs := d.viewsOf p
    let late := vs.any (fun v => d.stitched v c.lix)
    let want := vs.filter (fun v => d.needs v c.lix && ! d.stitched v c.lix)
    let d := if late then d.bump (Obj.portLateLines p) else d
    if want.isEmpty then d
    else if 7 ≤ (d.sp p).lines.length then d.skewOverrun p c.lix
    else
      let held := want.any d.deferred
      let d := d.updSp p (fun s => { s with
        lines := if want.any (fun v => ! d.deferred v) then s.lines ++ [c] else s.lines,
        hold := if held then s.hold ++ [c] else s.hold })
      if ! held then d
      else
        let d := d.holdTraffic p c.lix true
        if d.landsLost 1 (64 + p) c.lix 0 then d.loseHold p c.lix else d

/-! ## The deadline (R160) -/

/-- The stitch deadline of line `n` has passed: ViewDeadline hits and ViewFloor µs after its hit. -/
def Dev.stitchDue (d : Dev) (v n : Nat) : Bool :=
  d.budgetPassed (d.viewLcg v) n (d.nat (Obj.viewDeadline v)) (d.nat (Obj.viewFloor v) * 1000)

/-- A port still lacks a line that stitched line `n` needs. A line before the first that its port delivered is missing from the start
(R170), not late: it gives neither cause NotReady nor, as no cause is stated, any other (log entry 66). -/
def Dev.lacks (d : Dev) (v p n : Nat) : Bool := (d.sevenLines v p n).any (fun l => l == .absent)

/-- Log an event of a View's lines that repeats (R176): it names what the first event since the last entry named, and `last`. -/
def Dev.noteView (d : Dev) (v sev detail : Nat) (mine last : List Item) : Dev :=
  d.logFirst 0x04 sev detail v mine (fun _ first => first ++ last) (some (d.viewLcg v))

/-- STITCH_DEADLINE: the ports still missing a line are treated as missing for the next line (R160). -/
def Dev.stitchDeadline (d : Dev) (v : Nat) : Dev :=
  let x := d.vw v
  if ! x.running || x.due.isSome || ! d.stitchDue v x.next then d
  else
    let ps := (d.viewPorts v).filter (fun p => d.lacks v p x.next)
    let d := d.updVw v (fun x => { x with due := some ps })
    ps.foldl (fun d p => d.noteView v sevFault 0x0002 [.f v, .f p, .w x.next] [.w x.next]) d

/-! ## The stitched line (R163 to R169) -/

def PortEntry.none : PortEntry :=
  { first := 0, last := 0, pset := 0, cause := 0, inView := false, missing := false, suspect := false,
    degraded := false, uncertain := false, short := false, corrupt := false }

/-- The entry of R169. -/
def PortPart.entry (q : PortPart) : PortEntry :=
  let vs := (q.values.getD 0 #[]).toList
  let ok := (List.range vs.length).filter (fun i => (vs.getD i .none).isSome)
  let missing := ok.isEmpty
  { first := if missing then 0x3FFFF else q.first + ok.headD 0, last := if missing then 0 else q.first + maxN ok,
    pset := q.pset, cause := q.cause, inView := true, missing := missing, suspect := q.suspect,
    degraded := q.degraded, uncertain := q.uncertain, short := q.short, corrupt := q.corrupt }

/-- The 64 bits of an entry (R169). -/
def PortEntry.fields (e : PortEntry) : List (Nat × Nat) :=
  [(e.first, 18), (e.last, 18), (e.pset, 8), (e.cause, 4), (b2n e.inView, 1), (b2n e.missing, 1), (b2n e.suspect, 1),
   (b2n e.degraded, 1), (b2n e.uncertain, 1), (b2n e.short, 1), (b2n e.corrupt, 1), (0, 9)]

/-- The 32-byte header of the stitched line tag (R169). -/
def StitchLine.header (l : StitchLine) : Bytes :=
  packLE 32 [(l.lix, 64), (l.width, 19), (l.invalid, 19), (l.view, 2), (l.lcg, 2), (b2n l.twoPlanes, 1),
    (b2n l.suspect, 1), (b2n l.degraded, 1), (b2n l.uncertain, 1), (b2n l.missing, 1), (b2n l.notReady, 1),
    (b2n l.fallback, 1), (b2n l.psetEdge, 1), (0, 14), (l.geomCsn, 32), (0, 96)]

/-- The stitched line tag (R169). -/
def StitchLine.tag (l : StitchLine) : Bytes :=
  l.header ++ l.entries.flatMap (fun e => packLE 8 e.fields)

/-- The parts of the line's ports. -/
def Dev.lineParts (d : Dev) (v n : Nat) : List PortPart :=
  let due := (d.vw v).due.getD []
  (d.viewPorts v).map (fun p => if due.contains p then PortPart.notReady p else d.portPart v p n)

/-- The Welts at work on line `n`, with the seams of this line (R163, R164). -/
def Dev.weltsAt (d : Dev) (v n : Nat) (part : Nat → PortPart) : Dev × List WeltWork :=
  let g := d.grid v
  let lcg := d.viewLcg v
  let gains := (d.vw v).gains
  let (d, ws) := (d.welts v n).foldl (fun (acc : Dev × List WeltWork) w =>
    let d := acc.1
    let l := d.natOn lcg (Obj.weltLeft w) n
    let r := d.natOn lcg (Obj.weltRight w) n
    match g.zone (d.lastAt lcg l n) (d.lastAt lcg r n) with
    | none => acc
    | some (a, b) =>
      let mode := d.natOn lcg (Obj.weltMode w) n
      let cfg := d.weltCfg v w n a b
      let guard := d.natOn lcg (Obj.seamGuard w) n
      let lv (i : Nat) := ((part l).at 0 i).map (gained (gains.getD (2 * l) 65536))
      let rv (i : Nat) := ((part r).at 0 i).map (gained (gains.getD (2 * r) 65536))
      let seam :=
        if mode = 1 then (max 0 (((d.intOn lcg (Obj.seamCd w) n) + g.pitch - 1) / g.pitch)).toNat
        else if mode = 2 then
          match Tbl.get? d.stitch.seams w with
          | some s =>
            if s.cfg ≠ cfg then (clamp ((a + b + 1) / 2 : Nat) (a + guard) (b + 1 - guard)).toNat
            else if (List.range (b + 1 - a)).all (fun i => (lv (a + i)).isSome && (rv (a + i)).isSome) then
              seamMove a b guard s.pos (fun j => ((((lv j).getD 0 : Nat) : Int) - ((rv j).getD 0 : Nat)).natAbs)
            else s.pos
          | none => (clamp ((a + b + 1) / 2 : Nat) (a + guard) (b + 1 - guard)).toNat
        else 0
      let d := if mode = 0 then d
        else d.updStitch (fun x => { x with seams := Tbl.put x.seams w { pos := seam, cfg := cfg } })
      let d := if mode = 0 then d else d.putN (Obj.seamPos w) seam
      (d, acc.2 ++ [{ welt := w, a := a, b := b, left := l, right := r, mode := mode, seam := seam }])) (d, [])
  -- a Welt that has no seam on this line starts afresh when it has one again
  (d.updStitch (fun x => { x with
    seams := x.seams.filter (fun e => e.2.cfg.headD 0 != v || ws.any (fun w => w.welt == e.1 && w.mode != 0)) }), ws)

/-- Accumulate the match sums of one line (R166). -/
def Dev.addMatch (d : Dev) (v n : Nat) (part : Nat → PortPart) (ws : List WeltWork) : Dev :=
  let lo := d.natAt (Obj.matchFloor v) n
  let hi := d.natAt (Obj.matchCeil v) n
  let fit (x : Nat) : Bool := decide (lo ≤ x ∧ x ≤ hi)
  ws.foldl (fun d w =>
    let l := part w.left
    let r := part w.right
    if l.suspect || r.suspect then d
    else (List.range (d.nat (Obj.viewOutPlanes v))).foldl (fun d k =>
      let m := (List.range (w.b + 1 - w.a)).foldl (fun (m : MatchSum) i =>
        match l.at k (w.a + i), r.at k (w.a + i) with
        | some x, some y => if fit x && fit y then { sl := m.sl + x, sr := m.sr + y, c := m.c + 1 } else m
        | _, _ => m) (d.matchSum v w.welt k)
      (d.updStitch (fun x => { x with sums := Tbl.put x.sums (sumKey v w.welt k) m }))) d) d

/-- One output pixel of plane `k` (R163, R168): the value if valid, and the Welt that stood on one side. -/
def outPixel (gains : List Nat) (parts : List PortPart) (ws : List WeltWork) (k i : Nat) : Option Nat × Option Nat :=
  let val (p : Nat) : Option Nat :=
    ((parts.find? (fun q => q.port == p)).bind (fun q => q.at k i)).map (gained (gains.getD (2 * p + k) 65536))
  match ws.find? (fun w => decide (w.a ≤ i ∧ i ≤ w.b)) with
  | some w => let r := w.blend i (val w.left) (val w.right); (r.1, if r.2 then some w.welt else none)
  | none => ((parts.findSome? (fun q => val q.port)), none)

/-- A port has delivered a line, or it is lost to an overrun (R160). -/
def Dev.arrived (d : Dev) (v p n : Nat) : Bool :=
  match d.lineAt v p n with
  | .have _ => true
  | .overrun => true
  | _ => false

/-- STITCHED_LINE: form the next stitched line of a View, if every port has delivered line n + 3 or the deadline has
passed (R157 to R169). Where a port's span has a hole (a skewed port that lacks one line, at a pixel with f = 0), R158 makes the pixel
invalid and R168 calls every pixel of the span valid: the model goes by R158, pixel by pixel (log entry 66). -/
def Dev.stitchedLine (d : Dev) (v : Nat) : Dev :=
  let x := d.vw v
  let n := x.next
  if ! x.running || lixDiff (d.curLix (d.viewLcg v)) n < 0 || ! (x.due.isSome || (d.viewPorts v).all (fun p => d.arrived v p (n + 3))) then d
  else
    let d := d.viewGains v n
    let d := if d.deferred v then
        ((d.viewPorts v).filter (fun p => match d.lineAt v p (n + 3) with | .have _ => true | _ => false)).foldl (fun d p =>
          d.holdTraffic p (n + 3) false) d
      else d
    let parts := d.lineParts v n
    let part (p : Nat) : PortPart := (parts.find? (fun q => q.port == p)).getD (PortPart.notReady p)
    let (d, ws) := d.weltsAt v n part
    let d := d.addMatch v n part ws
    let gains := (d.vw v).gains
    let g := d.grid v
    let planes := d.nat (Obj.viewOutPlanes v)
    let outs := (List.range planes).map (fun k => (List.range g.width).map (outPixel gains parts ws k))
    let fill := d.natAt (Obj.fillValue v) n
    let valid := (outs.headD []).map (fun e => e.1.isSome)
    let fallen := ws.filter (fun w => outs.any (fun o => o.any (fun e => e.2 == some w.welt)))
    let entries := (List.range 24).map (fun p =>
      match parts.find? (fun q => q.port == p) with | some q => q.entry | none => PortEntry.none)
    let line : StitchLine :=
      { lix := n, runFirst := d.nat (Obj.viewFirstLix v), width := g.width, invalid := (valid.filter (fun b => ! b)).length, view := v, lcg := d.viewLcg v,
        twoPlanes := planes == 2, suspect := parts.any (fun q => q.suspect), degraded := parts.any (fun q => q.degraded),
        uncertain := parts.any (fun q => q.uncertain), missing := entries.any (fun e => e.missing),
        notReady := entries.any (fun e => e.cause == 11), fallback := ! fallen.isEmpty,
        psetEdge := parts.any (fun q => q.edge), geomCsn := d.natOn (d.viewLcg v) (Obj.handedCsn (d.viewLcg v)) n,
        entries := entries, valid := valid, planes := outs.map (fun o => o.map (fun e => e.1.getD fill)), last := decide (x.stopAt = some n) }
    -- the stitcher's own counters and events
    let d := (parts.filter (fun q => q.skewRange)).foldl (fun d q =>
      (d.bump (Obj.skewRangeCount q.port)).noteView v sevWarn 0x0003 [.f q.port, .w n, .i (d.exposure q.port n)] []) d
    let d := fallen.foldl (fun d w =>
      (d.bump (Obj.fallbackCount w.welt)).noteView v sevWarn 0x0006 [.f w.welt, .w n] []) d
    let d := if line.notReady then
      (d.bump (Obj.viewLateLines v)).updVw v (fun x => { x with nrLines := x.nrLines ++ [n] }) else d
    let d := d.bump (Obj.viewLinesOut v) 64
    let d := if 0 < line.invalid then d.bump (Obj.linesInvalid v) 64 else d
    let d := (d.putB (Obj.lastStitchTag v) line.tag).parityLine 0x04 v (d.viewLcg v) scView n
    let stop := decide (x.stopAt = some n)
    let d := d.updVw v (fun x => { x with
      next := n + 1, due := none, ready := x.ready ++ [line], running := ! stop, stopAt := if stop then none else x.stopAt })
    let d := (d.viewPorts v).foldl (fun d p => d.freeLines p) d
    let d := if n % 256 = 255 then
        (d.matchTargets v n ws).tallyCheck 2 v (stripOf n) (some (d.viewLcg v)) (scView, v)
          [{ eq := 2, lhs := lixDiff (d.curLix (d.viewLcg v) + 1) (d.nat (Obj.viewFirstLix v)),
             rhs := d.nat (Obj.viewLinesOut v) + lixDiff (d.curLix (d.viewLcg v)) n }]
      else d
    if stop then (d.updVw v ViewState.settleGains).log 0x04 sevInfo 0x0001 [.f v, .w n] (some (d.viewLcg v)) else d

/-- LinesPending (R170). -/
def Dev.linesPending (d : Dev) (v : Nat) : Nat :=
  let x := d.vw v
  if x.running then (lixDiff (d.curLix (d.viewLcg v) + 1) x.next).toNat else 0

/-! ## Enabling a View (R159, R162, R170, R459) -/

/-- The zone of Welt `w` as now configured (ZoneFirst, ZoneLast). -/
def Dev.weltZone (d : Dev) (w : Nat) : Option (Nat × Nat) :=
  let v := d.nat (Obj.weltView w)
  if v < 4 then (d.grid v).zone (d.lastNow (d.nat (Obj.weltLeft w))) (d.lastNow (d.nat (Obj.weltRight w))) else none

/-- WeltLeft is the port at lower View coordinates (R459). -/
def leftFirst (l r : Nat) (cl cr : Nat × Nat) : Bool :=
  decide (cl.1 < cr.1) || (cl.1 == cr.1 && (decide (cl.2 < cr.2) || (cl.2 == cr.2 && decide (l < r))))

/-- The rules of one Welt of an enabled View (R162, R163, R164, R459). -/
def Dev.weltOk (d : Dev) (v w : Nat) : Bool :=
  let g := d.grid v
  let l := d.nat (Obj.weltLeft w)
  let r := d.nat (Obj.weltRight w)
  let ps := d.viewPorts v
  match g.covers (d.lastNow l), g.covers (d.lastNow r), d.weltZone w with
  | some cl, some cr, some (a, b) =>
    ps.contains l && ps.contains r && l != r && leftFirst l r cl cr &&
    (match d.nat (Obj.weltMode w) with
     | 1 =>
       let s : Int := max 0 ((d.int (Obj.seamCd w) + g.pitch - 1) / g.pitch)
       decide ((a : Int) ≤ s ∧ s ≤ b + 1)
     | 2 => decide (2 * d.nat (Obj.seamGuard w) + 1 ≤ b + 1 - a)
     | _ => true)
  | _, _, _ => false

/-- Whether two spans share a pixel. -/
def spansMeet (x y : Nat × Nat) : Bool := decide (max x.1 y.1 ≤ min x.2 y.2)

/-- All ordered pairs of different places of a list. -/
def pairs {α : Type} : List α → List (α × α)
  | [] => []
  | x :: xs => xs.map (fun y => (x, y)) ++ pairs xs

/-- The samples per second of a View (R159). -/
def Dev.viewRate (d : Dev) (v : Nat) : Nat :=
  d.nat (Obj.viewWidth v) * d.nat (Obj.viewOutPlanes v) * maxN ((d.viewPorts v).map (fun p => d.nat (Obj.maxLineRate p)))

/-- The View-wide rules of R159, R162 and R459 for View `v`, counted as enabled. -/
def Dev.viewOk (d : Dev) (v : Nat) : Bool :=
  let ps := d.viewPorts v
  let g := d.grid v
  let planes := (List.range (d.nat (Obj.viewOutPlanes v))).map (fun k => field (d.nat (Obj.planeSrc v)) (4 * k) 4)
  let spans := ps.filterMap (fun p => (g.covers (d.lastNow p)).map (fun c => (p, c)))
  let ws := (List.range 96).filter (fun w => d.nat (Obj.weltView w) == v)
  let named (p q : Nat) (w : Nat) : Bool :=
    let l := d.nat (Obj.weltLeft w)
    let r := d.nat (Obj.weltRight w)
    (l == p && r == q) || (l == q && r == p)
  ps.all (fun p => planes.all (fun k => bit (d.nat (Obj.storePlanes p)) k)) &&
  ps.all (fun p => d.portLcg p == d.viewLcg v) &&
  decide ((g.width - 1) * g.pitch < 2 ^ 31) &&
  decide (sumN ((List.range 4).map (fun u => if u = v ∨ d.flag (Obj.viewEnable u) then d.viewRate u else 0)) ≤ 72000000000) &&
  (pairs spans).all (fun e => ! spansMeet e.1.2 e.2.2 ||
    (ws.any (named e.1.1 e.2.1) &&
     spans.all (fun f => f.1 == e.1.1 || f.1 == e.2.1 ||
       ! (spansMeet f.2 (max e.1.2.1 e.2.2.1, min e.1.2.2 e.2.2.2))))) &&
  ws.all (d.weltOk v) &&
  (pairs ws).all (fun e => ! named (d.nat (Obj.weltLeft e.1)) (d.nat (Obj.weltRight e.1)) e.2)

/-- The rules of R160 for the deferred Views that are enabled. -/
def Dev.deferredOk (d : Dev) : Bool :=
  let vs := (List.range 4).filter (fun v => d.flag (Obj.viewEnable v) && d.deferred v)
  vs.all (fun v => (d.viewPorts v).all (fun p =>
    decide (d.nat (Obj.mpDeadline p) + 260 ≤ d.nat (Obj.viewDeadline v) ∧ d.nat (Obj.mpFloor p) ≤ d.nat (Obj.viewFloor v)))) &&
  decide (sumN ((List.range 24).map (fun p =>
    if vs.any (fun v => bit (d.nat (Obj.portMask v)) p) then
      4 * popcount (d.nat (Obj.storePlanes p)) 4 * d.portWidth p * d.nat (Obj.maxLineRate p) else 0)) ≤ 72000000000)

/-- A write of 1 to ViewEnable (R159, R170). R166 sums over the lines of a strip and does not speak of a View that stops within one:
the sums start empty with the View (log entry 66). -/
def Dev.enableView (d : Dev) (v : Nat) : Dev × RCode :=
  if d.flag (Obj.viewEnable v) then (d, .ok)
  else if (d.vw v).running then (d, .state)
  else if ! d.viewOk v then (d, .range)
  else
    let g := d.viewLcg v
    let first := (d.curLix g + 4) % 2 ^ 64
    let d := ((d.putF (Obj.viewEnable v) true).putN (Obj.viewFirstLix v) first).updVw v (fun x => { x with
      running := true, stopAt := none, next := first, due := none, nrLines := [] })
    let d := [Obj.viewLinesOut v, Obj.linesInvalid v, Obj.viewLateLines v].foldl (fun d k => d.putN k 0) d
    let d := d.updStitch (fun x => { x with sums := x.sums.filter (fun e => e.1 / 256 != v) })
    let d := d.updPair (fun x => { x with accs := x.accs.set v { DigestAcc.reset with base := x.badArrays } })
    (d.log 0x04 sevInfo 0x0001 [.f v, .w first] (some g), .ok)

/-- A write of 0 to ViewEnable at LIX `cur` (R170): the View stops with the line of that LIX. -/
def Dev.disableView (d : Dev) (v cur : Nat) : Dev :=
  if ! d.flag (Obj.viewEnable v) then d
  else
    let d := d.putF (Obj.viewEnable v) false
    if 0 ≤ lixDiff cur (d.vw v).next then d.updVw v (fun x => { x with stopAt := some cur })
    else
      let last := (d.vw v).next - 1
      let d := d.updVw v (fun x => { x.settleGains with
        running := false, stopAt := none,
        ready := x.ready.map (fun l => if (l.lix + 1) % 2 ^ 64 = x.next then { l with last := true } else l) })
      ((d.viewPorts v).foldl (fun d p => d.freeLines p) d).log 0x04 sevInfo 0x0001 [.f v, .w last] (some (d.viewLcg v))

end Sys2Proof.Machine
end

