-- ==== Sys2Proof/Machine/Repair.lean ====
section
/-! DEFINITION. The Cobbler (chapter 11): corrected errors and row replacement (R284), the audit's verdict (R287, R288,
R460), and the repair of engines (R291, R292). -/

namespace Sys2Proof.Machine


/-! ## Rows (R283, R284) -/

/-- The die half of a port's Skew Buffer (R175): 0 on S0, 1 on S1. -/
def skewHalf (p : Nat) : Nat := if p < 12 then 0 else 1

/-- The unit whose spare rows a buffer shares: the Skew Buffer has one pool for each half. -/
def poolUnit (code unit : Nat) : Nat := if code = 4 then skewHalf unit else unit

/-- Spare rows left in a buffer (R284). -/
def Dev.spareRows (d : Dev) (code unit : Nat) : Nat :=
  Config.spareRowsShipped code (poolUnit code unit) - Tbl.get d.flt.used (code * 65536 + poolUnit code unit) 0

/-- The buffers of R285 with the number of their units. -/
def sramBuffers : List (Nat × Nat) :=
  [(1, 24), (2, 14), (3, 14), (4, 24), (5, 4), (6, 4), (7, 72), (8, 1), (9, 512), (10, 1)]

/-- SpareRowsLeft: the fewest in any buffer (R302). -/
def Dev.fewestSpareRows (d : Dev) : Nat :=
  let l := sramBuffers.flatMap (fun b => (List.range b.2).map (fun u => d.spareRows b.1 u))
  l.foldl min (l.headD 0)

/-- The counter and the event of the block that a buffer belongs to (R284); blocks without one count nothing. -/
def Dev.countCorrected (d : Dev) (code unit : Nat) : Dev :=
  match code with
  | 2 | 3 =>
    let d := d.bump (Obj.sramErrors unit)
    d.log 0x03 sevWarn 0x0009 [.f unit, .w (d.nat (Obj.sramErrors unit))]
  | 4 =>
    let h := skewHalf unit
    let d := d.bump (Obj.skewSramErrors h)
    d.log 0x04 sevWarn 0x0007 [.f h, .w (d.nat (Obj.skewSramErrors h))]
  | 5 | 6 =>
    let d := d.bump Obj.segSramErrors
    d.log 0x05 sevWarn 0x0007 [.w (d.nat Obj.segSramErrors)]
  | 7 | 8 =>
    let d := d.bump Obj.clsSramErrors
    d.log 0x06 sevWarn 0x000C [.w (d.nat Obj.clsSramErrors)]
  | _ => d

/-- The key of a row. -/
def rowKey (code unit row : Nat) : Nat := (code * 65536 + poolUnit code unit) * 2 ^ 32 + row

/-- Enter an error of a row: two corrected errors within 24 h, or one uncorrectable error, mark it (R284). -/
def Dev.rowError (d : Dev) (code unit row : Nat) (uncorrectable : Bool) : Dev :=
  let k := rowKey code unit row
  let recent := (Tbl.get d.flt.rows k []).filter (fun t => decide (d.now ≤ t + 86400000000000))
  let mark := uncorrectable || ! recent.isEmpty
  d.updFlt (fun f => { f with
    rows := Tbl.put f.rows k (d.now :: recent),
    marked := if mark && ! f.marked.contains k then f.marked ++ [k] else f.marked })

/-- CORRECTED_ERROR: a SECDED error was corrected (R284). -/
def Dev.correctedError (d : Dev) (code unit row : Nat) : Dev := (d.countCorrected code unit).rowError code unit row false

/-- ROW_REPLACEMENT: a marked row holds no live data, or its strip boundary is reached (R284). -/
def Dev.rowReplacement (d : Dev) (code unit row : Nat) : Dev :=
  let k := rowKey code unit row
  if ! d.flt.marked.contains k then d
  else if d.spareRows code unit = 0 then
    (d.setHealth 6 true).updFlt (fun f => { f with marked := f.marked.filter (· != k) })
  else
    let d := d.updFlt (fun f => { f with
      marked := f.marked.filter (· != k), rows := Tbl.del f.rows k,
      used := Tbl.upd f.used (code * 65536 + poolUnit code unit) 0 (· + 1) })
    let d := d.bump Obj.rowsReplaced
    d.logRep 0x09 sevInfo 0x0006 (code * 1024 + unit) (fun _ => [.f code, .f unit, .w d.fewestSpareRows]) none 2

/-! ## Audit duty (R287) -/

/-- An engine's die is powered. -/
def Dev.enginePowered (d : Dev) (e : Nat) : Bool := d.domOn (engineDomain e)

/-- EngineState as read (R143): Off while its die has no power. -/
def Dev.engineStateNow (d : Dev) (e : Nat) : Nat := if d.enginePowered e then (d.engine e).state else 0

/-- The spare engines that can serve: state Spare or Audit, powered. -/
def Dev.sparePool (d : Dev) : List Nat :=
  (List.range 14).filter (fun e => ((d.engine e).state == 2 || (d.engine e).state == 3) && d.enginePowered e)

/-- Give the Audit duty to the lowest spare while AuditEnable is set (R287). -/
def Dev.auditDuty (d : Dev) : Dev :=
  let duty : Option Nat := if d.flag Obj.auditEnable then d.sparePool.head? else none
  let d := (List.range 14).foldl (fun d e =>
    if d.enginePowered e ∧ ((d.engine e).state = 2 ∨ (d.engine e).state = 3) then d.setEngineState e (if duty = some e then 3 else 2) else d) d
  let e := duty.getD 0xFF
  if d.nat Obj.auditEngine = e then d
  else
    let d := (d.putN Obj.auditEngine e).updEng (fun x => { x with audit := Audit.reset })
    if e = 0xFF then d.putN Obj.auditTarget 0xFF else d

/-! ## Repair (R291, R292) -/

/-- The replacement that would serve: the lowest Spare, else the Audit engine (R291). -/
def Dev.replacementFor (d : Dev) : Option Nat :=
  match d.sparePool.find? (fun e => (d.engine e).state == 2) with
  | some e => some e
  | none => d.sparePool.head?

/-- The enabled ports that an engine serves. -/
def Dev.portsOf (d : Dev) (e : Nat) : List Nat :=
  (List.range 24).filter (fun p => d.flag (Obj.portEnable p) && d.engineOf p == e)

/-- Step 6 of R291: the lines of the strip under way that the engine emitted. -/
def Dev.suspectEmitted (d : Dev) (p : Nat) : Dev :=
  match (d.ep p).nextEmit, (d.ep p).since with
  | some n, some s =>
    let first := max s (256 * stripOf n)
    d.addRanges (d.portLcg p) false scPort p 1 first (n - first)
  | _, _ => d

/-- Step 2 of R291 for a port: every line delivered to the engine and not emitted leaves as Missing with Cause 8. On the memory
path those are the lines taken in that are not of the job under way, which starts again: its lines stand in its slot. -/
def Dev.dropDelivered (d : Dev) (p cause : Nat) (job : Option Job) : Dev :=
  let again := match job with
    | some j => if j.port = p then some j else none
    | none => none
  let gone := match again with
    | some j => (d.ep p).taken.filter (fun w => ! j.lines.any (fun l => l.lix == w.lix))
    | none => (d.ep p).taken
  let d := d.updEp p (fun e => { e with
    window := gone,
    slots := match again with
      | some j => e.slots.map (fun s => if s.strip = j.strip then { s with lines := j.lines } else s)
      | none => e.slots })
  let n := gone.length + (d.ep p).queue.length
  let d := d.emitLostTo p 8 (some cause) (2 ^ 64) n
  d.updEp p (fun e => { e with window := [], nr := [], hold := [] })

/-- An engine that joined the audit as referee becomes a replacement: another Spare takes its place, or the audited engine is shadowed
again without one (R288). -/
def Dev.dropReferee (d : Dev) (e : Nat) : Dev :=
  if d.eng.audit.referee ≠ some e then d
  else
    let other := d.sparePool.find? (fun x => (d.engine x).state == 2 && x != e)
    d.updEng (fun x => { x with audit := { Audit.reset with
      phase := if other.isSome then 1 else 2, blame := x.audit.blame, referee := other } })

/-- Start the repair at the head of the queue, and where no engine is left those behind it (R291, step 3; R292). -/
def Dev.repairsStart (d : Dev) : (fuel : Nat) → Dev
  | 0 => d
  | fuel + 1 =>
  match d.eng.repairs with
  | [] => d
  | r :: rest =>
    if r.replacement.isSome then d
    else match d.replacementFor with
      | none =>
        -- no engine is left: the ports deliver every line as Missing (R292)
        let d := d.updEng (fun x => { x with repairs := rest })
        let d := match r.inline with
          | some p => d.updEp p (fun e => { e with creditsHeld := false })
          | none => d
        (d.logRep 0x09 sevFault 0x0004 r.engine (fun _ => [.f r.engine])).repairsStart fuel
      | some s =>
        let d := d.dropReferee s
        let cross := match r.inline with | some p => portDomain p != engineDomain s | none => false
        let bytes := match r.inline with | some p => d.bankSize p | none => 0
        let acceptAt := d.now + 2000 + ceilDiv bytes 64 + (if cross then 80 else 0)
        let d := match r.inline with
          | some p => d.memRequest 5 (bankAddr p (d.nat (Obj.tableBank (d.ep p).pset))) bytes false
          | none => d
        let r := { r with replacement := some s, acceptAt := acceptAt }
        let d := d.updEng (fun x => { x with repairs := r :: rest, replaced := Tbl.put x.replaced r.engine s })
        (d.setEngineState s 1).auditDuty

/-- Start the next repair, if none is under way (R292). -/
def Dev.repairStart (d : Dev) : Dev := d.repairsStart (d.eng.repairs.length + 1)

/-- RepairsActive: repairs that have their replacement, and spares being programmed for a retired array (R223, R291, R302). -/
def Dev.repairsActive (d : Dev) : Nat :=
  (d.eng.repairs.filter (fun r => r.replacement.isSome)).length + (d.cls.arrays.filter (fun x => x.state == 3)).length

/-- The audit no longer concerns an engine that fails: neither as the one shadowed nor as the one in question (R288). -/
def Dev.auditWithout (d : Dev) (e : Nat) : Dev :=
  if d.nat Obj.auditTarget = e ∨ (d.eng.audit.phase = 3 ∧ d.eng.audit.blame = e) then d.updEng (fun x => { x with audit := Audit.reset })
  else d

/-- Repair engine `e` (R291): detection now, with `cause` the cause of the lost range. An engine that fails before it has accepted
input as a replacement takes the place, in the queue, of the repair it was chosen for, with the job that was to start again. -/
def Dev.engineRepair (d : Dev) (e cause : Nat) : Dev :=
  let ports := d.portsOf e
  let inline := ports.find? (fun p => d.nat (Obj.bindMode p) == 1)
  let d := ports.foldl (fun d p => d.suspectEmitted p) d
  let chosenFor := d.eng.repairs.find? (fun r => r.replacement == some e)
  let job := match chosenFor with | some r => r.job | none => (d.engine e).job
  let d := (d.updEngine e (fun x => { x with job := none })).setEngineState e 4
  let r : Repair := { engine := e, start := d.now, replacement := none, inline := inline, acceptAt := 0, job := job }
  let d := (d.auditWithout e).updEng (fun x => { x with
    repairs := if chosenFor.isSome then x.repairs.map (fun q => if q.replacement = some e then r else q) else x.repairs ++ [r] })
  let d := match inline with
    | some p => d.updEp p (fun x => { x with creditsHeld := true })
    | none => d
  (ports.foldl (fun d p => d.dropDelivered p cause job) d).repairStart

/-- Restart a memory-path job from the start of its strip, with the PSET of that line in force and the engine's state invalid
(R291, step 5). -/
def Dev.restartJob (d : Dev) (e : Nat) (j : Job) : Dev :=
  let p := j.port
  if (d.ep p).slots.any (fun s => s.strip == j.strip) then
    let d := d.updEp p (fun x => { x with
      pset := j.pset, table := j.table, switches := j.switches ++ x.switches.filter (fun s => ! j.switches.contains s) })
    d.updEngine e (fun x => { x with job := some j })
  else d

/-- REPLACEMENT_ACCEPTS_INPUT: step 4 of R291, on the replacement. The interruption counts from detection; it ends at the bound of
R291 at the latest. -/
def Dev.replacementAccepts (d : Dev) (e : Nat) : Dev :=
  match d.eng.repairs with
  | [] => d
  | r :: rest =>
    if r.replacement ≠ some e then d
    else
      let t := min d.now r.acceptAt - r.start
      let d := d.updEng (fun x => { x with repairs := rest })
      let d := (d.portsOf e).foldl (fun d p => d.updEp p (fun x => { x with creditsHeld := false, nr := [], hold := [], since := none })) d
      let d := match r.job with | some j => d.restartJob e j | none => d
      let d := ((d.bump Obj.repairsDone).putN Obj.repairInterruption t).putMax Obj.maxInterruption t
      let d := d.putN Obj.lastRepairTime d.stamp
      let d := d.log 0x09 sevWarn 0x0003 [.f r.engine, .f e, .w t] none 2
      d.repairStart

/-- Retire a Spare or Audit engine (R292, R460): it leaves at once, and the next spare takes the Audit duty. -/
def Dev.retireSpare (d : Dev) (e : Nat) : Dev :=
  let d := d.setEngineState e 4
  let d := if d.eng.audit.referee = some e then d.updEng (fun x => { x with audit := Audit.reset }) else d
  d.auditDuty

/-- A residue error in an engine (R286, R291, R460). -/
def Dev.engineResidue (d : Dev) (e : Nat) : Dev :=
  let st := (d.engine e).state
  let lix := match d.portsOf e with | p :: _ => (d.ep p).nextEmit.getD 0 | [] => 0
  let lcg := match d.portsOf e with | p :: _ => d.portLcg? p | [] => none
  let noted := d.logRep 0x09 sevFault 0x0007 (0x300 + e) (fun _ => [.f 0x03, .f e, .w lix]) lcg
  if st = 1 then noted.engineRepair e 4
  else if st = 2 ∨ st = 3 then (noted.retireSpare e).log 0x09 sevWarn 0x0003 [.f e, .f 0xFF, .w 0] none 2
  else d

/-- A write of EngineRetire (R292). -/
def Dev.writeEngineRetire (d : Dev) (e : Nat) : Dev × RCode :=
  let st := (d.engine e).state
  if ! d.enginePowered e then (d, .state)
  else if st = 2 ∨ st = 3 then (d.retireSpare e, .ok)
  else if st = 1 ∧ d.replacementFor.isSome then (d.engineRepair e 1, .ok)
  else (d, .state)

/-! ## The audit's verdict (R288) -/

/-- Blame an engine: an Active one is repaired, the Audit engine or a referee is retired (R288). -/
def Dev.blame (d : Dev) (e strip : Nat) : Dev :=
  let st := (d.engine e).state
  let d := d.log 0x09 sevFault 0x0002 [.f e, .w strip]
  if st = 1 then d.engineRepair e 2 else if st = 2 ∨ st = 3 then d.retireSpare e else d

/-- Set the audit for its next strip. -/
def Dev.auditNext (d : Dev) (phase blame target : Nat) (referee : Option Nat) : Dev :=
  (d.putN Obj.auditTarget target).updEng (fun x => { x with
    audit := { Audit.reset with phase := phase, blame := blame, referee := referee } })

/-- After an audited strip has ended, decide (R288). -/
def Dev.auditJudge (d : Dev) : Dev :=
  let a := d.eng.audit
  if ! a.ended then d
  else
    let strip := a.strip.getD 0
    let e := d.nat Obj.auditTarget
    let aud := d.nat Obj.auditEngine
    let mis := a.mis
    let next := d.nextTarget e
    match a.phase with
    | 0 =>
      if ! mis then d.auditNext 0 0 next none
      else match d.sparePool.find? (fun x => (d.engine x).state == 2) with
        | some r => d.auditNext 1 e e (some r)
        | none => d.auditNext 2 e e none
    | 1 =>
      let d := d.auditNext 0 0 next none
      let d := if a.eMis then d.blame e strip else d
      let d := if a.refMis then (match a.referee with | some r => d.blame r strip | none => d) else d
      if a.audMis then d.blame aud strip else d
    | 2 => if mis then d.auditNext 3 a.blame next none else d.auditNext 0 0 next none
    | _ =>
      let d := d.auditNext 0 0 next none
      if mis then d.blame aud strip else d.blame a.blame strip

/-- ENGINE_LINE_EMIT: the engine of a port emits its next line (R130, R145), and an audited strip that it ends is
judged (R288). -/
def Dev.engineLineEmit (d : Dev) (p : Nat) : Dev :=
  (if d.nat (Obj.bindMode p) = 2 then d.emitMp p else d.emitInline p).auditJudge

/-- MP_JOB_START (R145), with the job's part in the audit (R287). -/
def Dev.jobStart (d : Dev) (e : Nat) : Dev :=
  let t := d.mpJobStart e
  match (d.engine e).job, (t.engine e).job with
  | none, some j => ((t.auditJobDue e j.port).auditJudge).auditJob e j.port j.strip
  | _, _ => t

/-- MP_JOB_END and MP_JOB_LATE end what the job had in the audit (R145, R147, R288). -/
def Dev.jobEnd (d : Dev) (e : Nat) : Dev := (d.mpJobEnd e).auditJudge
def Dev.jobIsLate (d : Dev) (p : Nat) : Dev := (d.mpJobLate p).auditJudge

/-! ## Health (R292, R300) -/

/-- DeviceHealth as read: bit 0 while an enabled port has no engine (R292). -/
def Dev.healthNow (d : Dev) : Nat :=
  setBit d.health 0 ((List.range 24).any (fun p => d.flag (Obj.portEnable p) && d.noEngine p))

end Sys2Proof.Machine
end

