-- ==== Sys2Proof/Machine/Segment.lean ====
section
/-! DEFINITION. The segmenter (chapter 07): background and deviation, zones, runs, labelling, features, streaks,
overflow, and the candidate record. -/

namespace Sys2Proof.Machine

def Dev.sg (d : Dev) (v : Nat) : SegView := d.seg.views.getD v SegView.reset
def Dev.updSg (d : Dev) (v : Nat) (f : SegView → SegView) : Dev :=
  d.updSeg (fun x => { x with views := x.views.modify v f })

def Dev.viewLcg? (d : Dev) (v : Nat) : Option Nat := if d.viewLcg v < 4 then some (d.viewLcg v) else none

/-! ## Background and deviation (R177, R178) -/

/-- The background objects in force for a line (R177). -/
structure BgParams where
  shift  : Nat
  radius : Nat
  gate   : Nat
  reseed : Nat
  warmup : Nat
  deriving DecidableEq, Repr

def Dev.bgParams (d : Dev) (v n : Nat) : BgParams :=
  { shift := d.natAt (Obj.bgShift v) n, radius := d.natAt (Obj.bgRadius v) n, gate := d.natAt (Obj.bgGate v) n,
    reseed := d.natAt (Obj.bgReseed v) n, warmup := d.natAt (Obj.bgWarmup v) n }

/-- `smooth` of R177 over the state before the line. -/
def smooth (radius : Nat) (bg : Array BgPix) (i x : Nat) : Nat :=
  let lo := i - radius
  let hi := min (i + radius) (bg.size - 1)
  let (sum, n) := (List.range (hi + 1 - lo)).foldl (fun (acc : Nat × Nat) o =>
    let p := bg.getD (lo + o) { s := 0, cnt := 0, gated := 0 }
    if 1 ≤ p.cnt then (acc.1 + p.s / 65536, acc.2 + 1) else acc) (0, 0)
  if n = 0 then x else (2 * sum + n) / (2 * n)

/-- One pixel with data (R177): its deviation, its state after the line, and whether it was reseeded. -/
def bgPixel (q : BgParams) (bg : Nat) (p : BgPix) (x : Nat) : Int × BgPix × Bool :=
  let dev := clamp ((x : Int) - bg) (-32768) 32767
  if p.cnt = 0 then (dev, { s := x * 65536, cnt := 1, gated := 0 }, false)
  else if ((x : Int) - bg).natAbs ≤ q.gate then
    (dev, { s := ((p.s : Int) + asr ((x : Int) * 65536 - p.s) q.shift).toNat, cnt := min (p.cnt + 1) 255, gated := 0 }, false)
  else
    let gated := min (p.gated + 1) 65535
    if 0 < q.reseed ∧ q.reseed ≤ gated then (dev, { s := x * 65536, cnt := 1, gated := 0 }, true)
    else (dev, { p with gated := gated }, false)

/-- One plane of one line (R177): deviations, the state after it, and the pixels reseeded. -/
def bgPlane (q : BgParams) (bg : List BgPix) (xs : List Nat) (valid : List Bool) : List Int × List BgPix × Nat :=
  let arr := bg.toArray
  let out := ((xs.zip valid).zip (bg.zip (List.range bg.length))).map (fun e =>
    let x := e.1.1
    let p := e.2.1
    if e.1.2 then bgPixel q (smooth q.radius arr e.2.2 x) p x else (0, p, false))
  (out.map (fun o => o.1), out.map (fun o => o.2.1), (out.filter (fun o => o.2.2)).length)

/-- What identifies the geometry whose change resets the background (R178). -/
def Dev.segGeometry (d : Dev) (v : Nat) : List Int :=
  [d.int (Obj.viewWidth v), d.int (Obj.webPitch v), d.int (Obj.cdOrigin v), d.int (Obj.cdSign v), d.int (Obj.portMask v)]

def freshBg (planes width : Nat) : List (List BgPix) :=
  List.replicate planes (List.replicate width { s := 0, cnt := 0, gated := 0 })

/-! ## Zones, classes and runs (R179, R180, R182) -/

/-- One zone's thresholds. -/
structure Zone where
  start    : Nat
  hiBright : Nat
  loBright : Nat
  hiDark   : Nat
  loDark   : Nat
  minArea  : Nat
  deriving DecidableEq, Repr

/-- The zones of a View in force for a line (R179). -/
def Dev.zones (d : Dev) (v n : Nat) : List Zone :=
  (List.range (d.natAt (Obj.zoneCount v) n)).map (fun z =>
    let u := 64 * v + z
    { start := d.natAt (Obj.zoneStart u) n, hiBright := d.natAt (Obj.hiBright u) n, loBright := d.natAt (Obj.loBright u) n,
      hiDark := d.natAt (Obj.hiDark u) n, loDark := d.natAt (Obj.loDark u) n, minArea := d.natAt (Obj.minArea u) n })

/-- A zone rule of R179. -/
def Zone.ok (z : Zone) : Bool :=
  decide (z.loBright ≤ z.hiBright ∧ z.loDark ≤ z.hiDark) && ! (z.loBright == 0 && z.hiBright != 0) &&
    ! (z.loDark == 0 && z.hiDark != 0)

/-- The commit rules of R179 on a configuration. -/
def Dev.zonesOk (d : Dev) (v : Nat) : Bool :=
  let zs := (List.range (d.nat (Obj.zoneCount v))).map (fun z =>
    let u := 64 * v + z
    ({ start := d.nat (Obj.zoneStart u), hiBright := d.nat (Obj.hiBright u), loBright := d.nat (Obj.loBright u),
       hiDark := d.nat (Obj.hiDark u), loDark := d.nat (Obj.loDark u), minArea := d.nat (Obj.minArea u) } : Zone))
  (zs.head?.map (fun z => z.start) == some 0) &&
  (zs.zip (zs.drop 1)).all (fun e => decide (e.1.start < e.2.start)) &&
  zs.all (fun z => decide (z.start < d.nat (Obj.viewWidth v)) && z.ok)

/-- The zone of a pixel, with its number. -/
def zoneOf (zs : List (Zone × Nat)) (i : Nat) : Zone × Nat :=
  match (zs.filter (fun z => decide (z.1.start ≤ i))).getLast? with
  | some z => z
  | none => ({ start := 0, hiBright := 0, loBright := 0, hiDark := 0, loDark := 0, minArea := 0 }, 0)

/-- The class of a deviation (R180): none, or (dark, strong). -/
def classOf (z : Zone) (dev : Int) : Option (Bool × Bool) :=
  if 0 < z.hiBright ∧ (z.hiBright : Int) ≤ dev then some (false, true)
  else if 0 < z.loBright ∧ (z.loBright : Int) ≤ dev then some (false, false)
  else if 0 < z.hiDark ∧ dev ≤ -(z.hiDark : Int) then some (true, true)
  else if 0 < z.loDark ∧ dev ≤ -(z.loDark : Int) then some (true, false)
  else none

/-- A found run (R182, R183) with the exact sums of its pixels. -/
structure Run where
  first    : Nat
  last     : Nat
  dark     : Bool
  strong   : Bool
  zone     : Nat
  peak     : Nat
  peakPos  : Nat
  peakZone : Nat
  sumDev   : Nat
  sumVal   : Nat
  su       : Nat
  suu      : Nat
  edge     : Bool
  deriving DecidableEq, Repr

/-- The 128-bit run record of R183. -/
def Run.record (r : Run) (view : Nat) : Bytes :=
  packLE 16 [(r.first, 18), (r.last, 18), (b2n r.dark, 1), (b2n r.strong, 1), (r.zone, 6), (r.peak, 16), (r.peakPos, 18),
    (min 0xFFFFFFFF r.sumDev, 32), (view, 2), (0, 15), (b2n r.edge, 1)]

/-- The run that one pixel makes. -/
def Run.one (i zone : Nat) (dark strong : Bool) (mag val : Nat) : Run :=
  { first := i, last := i, dark := dark, strong := strong, zone := zone, peak := mag, peakPos := i, peakZone := zone,
    sumDev := mag, sumVal := val, su := i, suu := i * i, edge := false }

/-- Add the next pixel to a run. -/
def Run.push (r : Run) (i zone : Nat) (strong : Bool) (mag val : Nat) : Run :=
  { r with
    last := i, strong := r.strong || strong, sumDev := r.sumDev + mag, sumVal := r.sumVal + val, su := r.su + i,
    suu := r.suu + i * i, peak := max r.peak mag, peakPos := if r.peak < mag then i else r.peakPos,
    peakZone := if r.peak < mag then zone else r.peakZone }

/-- The found runs of a line (R182): pixels in ascending order with their value, deviation as the thresholds see it,
and whether they have data. -/
def findRuns (zs : List (Zone × Nat)) : (i : Nat) → (cur : Option Run) → List (Nat × Int × Bool) → List Run
  | _, none, [] => []
  | _, some r, [] => [r]
  | i, cur, (x, dev, valid) :: t =>
    let (z, zn) := zoneOf zs i
    match (if valid then classOf z dev else none), cur with
    | none, none => findRuns zs (i + 1) none t
    | none, some r => r :: findRuns zs (i + 1) none t
    | some (dark, strong), none => findRuns zs (i + 1) (some (Run.one i zn dark strong dev.natAbs x)) t
    | some (dark, strong), some r =>
      if r.dark = dark then findRuns zs (i + 1) (some (r.push i zn strong dev.natAbs x)) t
      else r :: findRuns zs (i + 1) (some (Run.one i zn dark strong dev.natAbs x)) t

/-- EdgeRun of R183. -/
def Run.atEdge (valid : Array Bool) (r : Run) : Bool :=
  r.first == 0 || decide (valid.size ≤ r.last + 1) || ! valid.getD (r.first - 1) false || ! valid.getD (r.last + 1) false

/-! ## Features (R184, R188, R189, R193) -/

def Piece.empty : Piece :=
  { lines := none, area := 0, cdFirst := 0, cdLast := 0, peak := 0, peakCd := 0, peakLix := 0, peakZone := 0, flags := 0,
    pend := 0, bridged := false, truncated := false, edge := false, merges := 0, sumDev := 0, sumVal := 0, su := 0,
    sl := 0, suu := 0, sll := 0, sul := 0 }

/-- Add a run of line `n` (R184, R189). Ties of the peak go to the earlier line, then to the lower pixel. -/
def Piece.addRun (p : Piece) (n : Nat) (r : Run) : Piece :=
  let a := r.last + 1 - r.first
  let fresh := p.lines.isNone
  let better := fresh || decide (p.peak < r.peak)
  { p with
    lines := some (match p.lines with | some (f, _) => f | none => n, n), area := p.area + a,
    cdFirst := if fresh then r.first else min p.cdFirst r.first, cdLast := if fresh then r.last else max p.cdLast r.last,
    peak := if better then r.peak else p.peak, peakCd := if better then r.peakPos else p.peakCd,
    peakLix := if better then n else p.peakLix, peakZone := if better then r.peakZone else p.peakZone,
    flags := p.flags ||| p.pend, pend := 0, edge := p.edge || r.edge, sumDev := p.sumDev + r.sumDev,
    sumVal := p.sumVal + r.sumVal, su := p.su + r.su, sl := p.sl + a * n, suu := p.suu + r.suu, sll := p.sll + a * (n * n),
    sul := p.sul + r.su * n }

/-- The flags of a line that every piece under way passes through (R188). -/
def Piece.passLine (p : Piece) (flags : Nat) : Piece :=
  { p with pend := (if p.lines.isSome then p.pend else 0) ||| flags }

/-- Merge the features of `b` into `s` (R184). -/
def Piece.merge (s b : Piece) : Piece :=
  match s.lines, b.lines with
  | _, none => { s with merges := min 65535 (s.merges + b.merges + 1), bridged := s.bridged || b.bridged,
                        truncated := s.truncated || b.truncated, edge := s.edge || b.edge, flags := s.flags ||| b.flags }
  | none, some _ => { b with merges := min 65535 (s.merges + b.merges + 1), bridged := s.bridged || b.bridged,
                             truncated := s.truncated || b.truncated, edge := s.edge || b.edge, flags := s.flags ||| b.flags }
  | some (f1, l1), some (f2, l2) =>
    let better := decide (s.peak < b.peak) ||
      (s.peak == b.peak && (decide (b.peakLix < s.peakLix) || (b.peakLix == s.peakLix && decide (b.peakCd < s.peakCd))))
    { lines := some (min f1 f2, max l1 l2), area := s.area + b.area, cdFirst := min s.cdFirst b.cdFirst,
      cdLast := max s.cdLast b.cdLast, peak := if better then b.peak else s.peak,
      peakCd := if better then b.peakCd else s.peakCd, peakLix := if better then b.peakLix else s.peakLix,
      peakZone := if better then b.peakZone else s.peakZone, flags := s.flags ||| b.flags, pend := s.pend ||| b.pend,
      bridged := s.bridged || b.bridged, truncated := s.truncated || b.truncated, edge := s.edge || b.edge,
      merges := min 65535 (s.merges + b.merges + 1), sumDev := s.sumDev + b.sumDev, sumVal := s.sumVal + b.sumVal,
      su := s.su + b.su, sl := s.sl + b.sl, suu := s.suu + b.suu, sll := s.sll + b.sll, sul := s.sul + b.sul }

def sat32 (x : Int) : Nat := (clamp x 0 0xFFFFFFFF).toNat
def sat48 (x : Nat) : Nat := min (2 ^ 48 - 1) x

/-- The candidate record of a piece (R188, R189). `n` is the line it is emitted with; a piece without a run has Area 0
and no line. -/
def Piece.cand (p : Piece) (view serial segIndex kind : Nat) (dark continues : Bool) (n : Nat) : Cand :=
  let (f, l) := p.lines.getD (n, n)
  let A : Int := p.area
  let X : Int := p.su
  let Y : Int := p.sl - p.area * f
  let YY : Int := (p.sll : Int) - 2 * f * p.sl + f * f * p.area
  let XY : Int := (p.sul : Int) - f * p.su
  let moment (s : Int) : Int := if A = 0 then 0 else (512 * s + A * A) / (2 * (A * A))
  let geo := decide (kind ≠ 2) && p.area != 0
  { firstLix := f, lines := if p.lines.isSome then l - f + 1 else 0, serial := serial, segIndex := segIndex, candSeq := 0,
    area := p.area, cdFirst := p.cdFirst, cdLast := p.cdLast, peakCd := p.peakCd, peak := min 65535 p.peak,
    peakLine := p.peakLix - f, peakZone := p.peakZone, view := view, kind := kind, dark := dark, continues := continues,
    flags := p.flags, bridged := p.bridged, truncated := p.truncated, edge := p.edge, merges := p.merges,
    sumDev := sat48 p.sumDev, sumVal := sat48 p.sumVal,
    centroidCd := if geo then ((512 * X + A) / (2 * A)).toNat else 0,
    centroidMd := if geo then ((512 * Y + A) / (2 * A)).toNat else 0,
    mxx := if geo then sat32 (moment (A * p.suu - X * X)) else 0,
    myy := if geo then sat32 (moment (A * YY - Y * Y)) else 0,
    mxy := if geo then clamp (moment (A * XY - X * Y)) (-2147483648) 2147483647 else 0,
    segCsn := 0, mergedInto := 0, model := 0xFF, line := n, firstLine := 0, run := 0 }

/-- The terminating record of a merged streak (R192). -/
def terminating (view serial segIndex n into : Nat) : Cand :=
  { (Piece.empty.cand view serial segIndex 1 false false n) with mergedInto := into }

/-- The 96 bytes of a candidate record (R188). -/
def Cand.bytes (c : Cand) : Bytes :=
  packLE 96 [(c.firstLix, 64), (c.lines, 32), (c.serial, 48), (c.segIndex, 16), (c.candSeq, 32), (c.area, 40),
    (c.cdFirst, 18), (c.cdLast, 18), (c.peakCd, 18), (c.peak, 16), (c.peakLine, 32), (c.peakZone, 6), (c.view, 2),
    (c.kind, 2), (b2n c.dark, 1), (b2n c.continues, 1), (b2n (bit c.flags 0), 1), (b2n (bit c.flags 1), 1),
    (b2n (bit c.flags 2), 1), (b2n (bit c.flags 3), 1), (b2n c.bridged, 1), (b2n c.truncated, 1), (b2n c.edge, 1), (0, 15),
    (c.merges, 16), (c.sumDev, 48), (c.sumVal, 48), (c.centroidCd, 26), (0, 6), (c.centroidMd, 32), (c.mxx, 32),
    (c.myy, 32), (ofSigned 32 c.mxy, 32), (c.segCsn, 32), (c.mergedInto, 48), (0, 48)]

/-! ## Labelling (R184, R185, R193) -/

/-- The labeller at work on one line. `held` is the table entries in use at the start of the line plus those opened in
it: an entry freed in the line is not used again in it (R185). -/
structure Labeller where
  n          : Nat
  flags      : Nat
  blobs      : List Blob
  refs       : List RefEntry      -- of the line before
  next       : List RefEntry      -- of this line
  bright     : Option (Piece × Nat)
  dark       : Option (Piece × Nat)
  nextSerial : Nat
  held       : Nat
  kept       : Nat
  discarded  : Nat
  labelled   : Nat
  folded     : Nat
  opened     : Nat
  peak       : Nat                -- most blobs open at once in this line
  merged     : List (Blob × Nat)  -- blobs merged in this line, with the survivor's serial
  overLimit  : Nat                -- runs folded for the run limit
  overQuota  : Nat                -- runs folded for the quota
  deriving DecidableEq, Repr

/-- A run touches an entry (R184). -/
def Run.touches (r : Run) (e : RefEntry) : Bool :=
  e.dark == r.dark && decide (e.first ≤ r.last + 1 ∧ r.first ≤ e.last + 1)

def Labeller.updBlob (w : Labeller) (serial : Nat) (f : Blob → Blob) : Labeller :=
  { w with blobs := w.blobs.map (fun b => if b.serial = serial then f b else b) }

/-- Fold a run into the saturated-region accumulator of its polarity (R193). -/
def Labeller.fold (w : Labeller) (r : Run) (limit : Bool) : Labeller :=
  let add (a : Option (Piece × Nat)) : Option (Piece × Nat) :=
    let (p, c) := a.getD (Piece.empty, 0)
    some (p.addRun w.n r, c + 1)
  { w with
    bright := if r.dark then w.bright else add w.bright, dark := if r.dark then add w.dark else w.dark,
    next := w.next ++ [{ first := r.first, last := r.last, dark := r.dark, blob := none }], folded := w.folded + 1,
    overLimit := w.overLimit + b2n limit }

/-- Assign a run to a blob (R184): a held blob that receives a run carries Bridged (R185). -/
def Labeller.assign (w : Labeller) (r : Run) (serial : Nat) : Labeller :=
  let w := w.updBlob serial (fun b => { b with
    hold := 0, piece := (let p := b.piece.addRun w.n r; if 0 < b.hold then { p with bridged := true } else p) })
  { w with
    next := w.next ++ [{ first := r.first, last := r.last, dark := r.dark, blob := some serial }],
    labelled := w.labelled + 1 }

/-- Merge blob `b` into blob `s` (R184). A held blob joined by a run counts as bridged. -/
def Labeller.merge (w : Labeller) (s b : Nat) : Labeller :=
  match w.blobs.find? (fun x => x.serial == b) with
  | none => w
  | some x =>
    let moved (e : RefEntry) : RefEntry := if e.blob = some b then { e with blob := some s } else e
    let w := w.updBlob s (fun y => { y with
      piece := (let p := y.piece.merge x.piece; if 0 < x.hold then { p with bridged := true } else p) })
    { w with
      blobs := w.blobs.filter (fun y => y.serial != b), refs := w.refs.map moved, next := w.next.map moved,
      merged := w.merged ++ [(x, s)] }

/-- Label one found run (R184). -/
def Labeller.run (limit quota : Nat) (w : Labeller) (r : Run) : Labeller :=
  let T := w.refs.filter (fun e => r.touches e)
  if ! r.strong && T.isEmpty then { w with discarded := w.discarded + 1 }
  else
    let w := { w with kept := w.kept + 1 }
    let B := (w.blobs.map (fun b => b.serial)).filter (fun s => T.any (fun e => e.blob == some s))
    if limit < w.kept then
      (B.foldl (fun w s => w.updBlob s (fun b => { b with piece := { b.piece with truncated := true } })) w).fold r true
    else match B with
      | s :: rest => (rest.foldl (fun w b => w.merge s b) w).assign r s
      | [] =>
        if T.any (fun e => e.blob.isNone) then w.fold r false
        else if quota ≤ w.held then
          let w := w.fold r false
          { w with overQuota := w.overQuota + 1 }
        else
          let b : Blob :=
            { serial := w.nextSerial, segIndex := 0, dark := r.dark, hold := 0, spans := [],
              piece := Piece.empty.passLine w.flags }
          let w := { w with
            blobs := w.blobs ++ [b], nextSerial := w.nextSerial + 1, held := w.held + 1, opened := w.opened + 1,
            peak := max w.peak (w.blobs.length + 1) }
          w.assign r b.serial

/-- Every pixel from First − 1 to Last + 1 of a span has no data (R185). -/
def spanDark (valid : Array Bool) (s : Nat × Nat) : Bool :=
  (List.range (s.2 + 1 - s.1 + 2)).all (fun o =>
    let i := s.1 + o
    i == 0 || decide (valid.size ≤ i - 1) || ! valid.getD (i - 1) false)

/-- After the runs of a line (R185): the blobs that stay, and those that close, in ascending serial. A blob that is held carries
Bridged (R188). -/
def Labeller.settleBlobs (w : Labeller) (bridgeMax : Nat) (valid : Array Bool) : Labeller × List Blob :=
  let spansOf (b : Blob) := (w.next.filter (fun e => e.blob == some b.serial)).map (fun e => (e.first, e.last))
  let judge (b : Blob) : Blob × Bool :=
    let got := spansOf b
    if ! got.isEmpty then ({ b with spans := got }, true)
    else if b.spans.all (spanDark valid) && decide (b.hold < bridgeMax) then ({ b with hold := b.hold + 1, piece := { b.piece with bridged := true } }, true)
    else (b, false)
  let js := w.blobs.map judge
  let stay := (js.filter (fun j => j.2)).map (fun j => j.1)
  let closed := (js.filter (fun j => ! j.2)).map (fun j => j.1)
  let held := (stay.filter (fun b => 0 < b.hold)).flatMap (fun b =>
    b.spans.map (fun s => ({ first := s.1, last := s.2, dark := b.dark, blob := some b.serial } : RefEntry)))
  ({ w with blobs := stay, next := w.next ++ held }, closed)

/-- The final piece of a blob (R190, R191): kind 0 for a first piece, else 1. -/
def Blob.final (b : Blob) (view n : Nat) : Cand :=
  b.piece.cand view b.serial b.segIndex (if b.segIndex = 0 then 0 else 1) b.dark false n

/-! ## Emission (R186, R190 to R193, R195) -/

/-- The window of a request (R197). -/
def Dev.cropWindow (d : Dev) (c : Cand) : CropReq :=
  let v := c.view
  let pw := d.nat (Obj.patchW v)
  let ph := d.nat (Obj.patchH v)
  let wide := c.cdLast + 1 - c.cdFirst
  let double (f : Nat) : Nat :=
    if f < 16 ∧ (f * pw < wide ∨ f * ph < c.lines) ∧ 2 * f * ph ≤ 512 then 2 * f else f
  let f := if d.nat (Obj.patchFit v) = 1 then double (double (double (double 1))) else 1
  let w := f * pw
  let h := f * ph
  let fits := decide (wide ≤ w ∧ c.lines ≤ h)
  let cx := if fits then (c.centroidCd + 128) / 256 else c.peakCd
  let cy := c.firstLix + (if fits then (c.centroidMd + 128) / 256 else c.peakLine)
  let width := d.nat (Obj.viewWidth v)
  let left : Int := (cx : Int) - (w / 2 : Nat)
  { view := v, cand := c, left := if w ≤ width then clamp left 0 ((width : Int) - w) else left,
    top := (cy : Int) - (h / 2 : Nat), f := f, w := pw, h := ph, channels := d.nat (Obj.patchChannels v), fill := d.nat (Obj.patchFill v),
    partialWin := ! fits, last := none }

/-- A request expires (R198): its record goes on without a patch. `cause` is 0 for the ring, 1 for the queue. -/
def Dev.patchExpired (d : Dev) (c : Cand) (cause : Nat) : Dev :=
  let d := d.bump (Obj.patchesExpired c.view) 64
  let d := d.updSg c.view (fun x => { x with waiting := x.waiting.map (fun w =>
    if w.cand = c then { w with ready := true, patch := none } else w) })
  d.log 0x05 sevWarn 0x0005 [.f c.view, .w c.candSeq, .f cause] (d.viewLcg? c.view)

/-- Request a patch (R195, R198). -/
def Dev.requestPatch (d : Dev) (c : Cand) : Dev :=
  let d := d.bump (Obj.patchesRequested c.view) 64
  if 4096 ≤ d.seg.crop.length then d.patchExpired c 1
  else
    let d := d.updSeg (fun x => { x with crop := x.crop ++ [d.cropWindow c] })
    d.putMax Obj.cropQueueMax d.seg.crop.length

/-- Emit one record (R186): it takes the next CandSeq and goes to the cropper and the classifier. -/
def Dev.emitCand (d : Dev) (n : Nat) (c : Cand) : Dev :=
  let v := c.view
  let term := decide (c.kind = 1 ∧ c.lines = 0 ∧ c.mergedInto ≠ 0)
  let seq := (d.sg v).nextCand
  let c := { c with
    candSeq := seq, segCsn := if term then 0 else d.nat (Obj.handedCsn (d.viewLcg v)),
    model := d.natAt (Obj.modelSel v) n, line := n, firstLine := (d.sg v).viewFirst, run := (d.sg v).run }
  let wants := decide (c.kind ≤ 1 ∧ 0 < c.area)
  let d := d.updSg v (fun x => { x with
    nextCand := (seq + 1) % 2 ^ 32, waiting := x.waiting ++ [{ cand := c, ready := ! wants, patch := none }] })
  let d := (d.bump (Obj.candidatesOut v) 64).putB (Obj.lastCandidate v) c.bytes
  let d := if d.role = 0 then d
    else d.updPair (fun x => { x with accs := x.accs.modify v (fun a => { a with
      cands := a.cands ++ c.bytes, count := a.count + 1, first := if a.count = 0 then seq else a.first }) })
  if wants then d.requestPatch c else d

/-- Close a blob (R185, R190): a small one is filtered, any other emitted. -/
def Dev.closeBlob (d : Dev) (v n : Nat) (zs : List Zone) (b : Blob) : Dev :=
  let d := d.bump (Obj.blobsClosed v) 64
  let c := b.final v n
  let small := (zs.getD c.peakZone { start := 0, hiBright := 0, loBright := 0, hiDark := 0, loDark := 0, minArea := 0 }).minArea
  if b.segIndex = 0 ∧ c.area < small then d.bump (Obj.blobsFiltered v) 64
  else (d.emitCand n c).bump (Obj.blobsEmitted v) 64

/-- Emit the saturated region of one polarity (R193). -/
def Dev.emitSat (d : Dev) (v n : Nat) (dark : Bool) (a : Option (Piece × Nat)) : Dev :=
  match a with
  | none => d
  | some (p, runs) =>
    let c := p.cand v runs 0 2 dark false n
    let d := (d.emitCand n c).bump (Obj.satRecordsOut v) 64
    d.log 0x05 sevWarn 0x0004 [.f v, .f (b2n dark), .w c.firstLix, .w c.lines] (d.viewLcg? v)

/-- The streak segments of a strip end (R191). -/
def Dev.emitStreaks (d : Dev) (v n : Nat) : Dev :=
  let limit := d.natAt (Obj.streakLines v) n
  let due (b : Blob) : Bool := match b.piece.lines with
    | some (f, _) => decide (f + limit ≤ n + 1)
    | none => false
  let d := (((d.sg v).blobs).filter due).foldl (fun d b =>
    (d.emitCand n (b.piece.cand v b.serial b.segIndex 1 b.dark true n)).bump (Obj.segmentsOut v) 64) d
  d.updSg v (fun x => { x with blobs := x.blobs.map (fun b =>
    if due b then { b with segIndex := (b.segIndex + 1) % 65536, piece := Piece.empty } else b) })

/-- The records of a strip end: streak segments, then the saturated regions, bright before dark (R186). -/
def Dev.emitStripEnd (d : Dev) (v n : Nat) : Dev :=
  let d := d.emitStreaks v n
  let d := (d.emitSat v n false (d.sg v).satBright).emitSat v n true (d.sg v).satDark
  d.updSg v (fun x => { x with satBright := none, satDark := none })

/-! ## One line (R177 to R186) -/

/-- The flags of a stitched line that candidate records carry (R188). -/
def StitchLine.candFlags (l : StitchLine) : Nat :=
  b2n l.suspect + 2 * b2n l.missing + 4 * b2n l.degraded + 8 * b2n l.uncertain

/-- Log folding events at most once per millisecond, with the first LIX and the runs folded since (R193, R205). -/
def Dev.noteFold (d : Dev) (v detail n count : Nat) : Dev :=
  if count = 0 then d
  else
    let (first, c) := Tbl.get (d.sg v).noted detail (n, 0)
    let before := d.nat Obj.logSeq
    let d := d.logRep 0x05 sevWarn detail v (fun _ => [.f v, .w first, .w (c + count)]) (d.viewLcg? v)
    let logged := d.nat Obj.logSeq != before
    d.updSg v (fun x =>
      { x with noted := if logged then Tbl.del x.noted detail else Tbl.put x.noted detail (first, c + count) })

/-- The background with which a line is judged, afresh after a reset and after a change of the View's geometry (R177, R178). -/
def Dev.segBg (d : Dev) (v : Nat) (l : StitchLine) : List (List BgPix) :=
  let x := d.sg v
  if x.bgReset || x.geometry != d.segGeometry v || x.bg.length != l.planes.length then freshBg l.planes.length l.width else x.bg

/-- The found runs of a stitched line: those of SegPlane, from its deviations where the background has settled (R179 to R183). -/
def Dev.lineRuns (d : Dev) (v : Nat) (l : StitchLine) : List Run :=
  let q := d.bgParams v l.lix
  let bg := d.segBg v l
  let sp := d.nat (Obj.segPlane v)
  let devs := (((l.planes.zip bg).map (fun e => bgPlane q e.2 e.1 l.valid)).getD sp ([], [], 0)).1
  let seen := (devs.zip ((bg.getD sp []).map (fun p => decide (q.warmup ≤ p.cnt)))).map (fun e => if e.2 then e.1 else 0)
  let zs := d.zones v l.lix
  (findRuns (zs.zip (List.range zs.length)) 0 none
    (((l.planes.getD sp []).zip (seen.zip l.valid)).map (fun e => (e.1, e.2.1, e.2.2)))).map (fun r =>
      { r with edge := r.atEdge l.valid.toArray })

/-- Segment one stitched line (R177 to R186). -/
def Dev.segLine (d : Dev) (v : Nat) (l : StitchLine) : Dev :=
  let n := l.lix
  let x := d.sg v
  let q := d.bgParams v n
  let geo := d.segGeometry v
  let planes := l.planes.length
  let outs := (l.planes.zip (d.segBg v l)).map (fun e => bgPlane q e.2 e.1 l.valid)
  let reseeds := sumN (outs.map (fun o => o.2.2))
  let sp := d.nat (Obj.segPlane v)
  let valid := l.valid.toArray
  let zs := d.zones v n
  let runs := d.lineRuns v l
  let flags := l.candFlags
  let pass (a : Option (Piece × Nat)) := a.map (fun e => (e.1.passLine flags, e.2))
  -- a saturated region begun in this line carries the line's flags too
  let start : Labeller :=
    { n := n, flags := flags, blobs := x.blobs.map (fun b => { b with piece := b.piece.passLine flags }), refs := x.refs, next := [],
      bright := some ((pass x.satBright).getD (Piece.empty.passLine flags, 0)),
      dark := some ((pass x.satDark).getD (Piece.empty.passLine flags, 0)),
      nextSerial := d.nat (Obj.nextSerial v), held := x.blobs.length, kept := 0, discarded := 0, labelled := 0, folded := 0,
      opened := 0, peak := x.blobs.length, merged := [], overLimit := 0, overQuota := 0 }
  let w := runs.foldl (fun w r => Labeller.run (d.nat (Obj.runLimit v)) (d.nat (Obj.blobQuota v)) w r) start
  let (w, closed) := w.settleBlobs (d.natAt (Obj.bridgeMax v) n) valid
  let keepSat (a : Option (Piece × Nat)) : Option (Piece × Nat) := match a with
    | some (p, c) => if c = 0 then none else some (p, c)
    | none => none
  -- pixels that fall on lost blocks read as having no data (R338)
  let stored := if d.nat (Obj.regionState 0) = 2 then
      (l.valid.zip (List.range l.width)).map (fun e => e.1 && ! d.landsLost 0 v n e.2)
    else l.valid
  let ring : RingLine := { lix := n, valid := stored, planes := (l.planes.zip outs).map (fun e => e.1.zip e.2.1) }
  let settledAfter := (((outs.getD sp ([], [], 0)).2.1).filter (fun p => decide (q.warmup ≤ p.cnt))).length
  let d := d.updSg v (fun x => { x with
    bg := outs.map (fun o => o.2.1), bgReset := false, geometry := geo, refs := w.next, blobs := w.blobs,
    satBright := keepSat w.bright, satDark := keepSat w.dark, ring := (ring :: x.ring).take 512, lastLine := some n, viewFirst := l.runFirst,
    settled := settledAfter })
  let d := d.hbmTraffic 3 0 2 v n (4 * l.width * planes) true
  let d := if stored = l.valid then d else d.addRange (d.viewLcg v) false scView v 10 n
  let d := ((((d.bumpBy (Obj.runsFound v) runs.length 64).bumpBy (Obj.runsDiscarded v) w.discarded 64).bumpBy
    (Obj.runsLabelled v) w.labelled 64).bumpBy (Obj.runsFolded v) w.folded 64)
  let d := ((d.bumpBy (Obj.blobsOpened v) w.opened 64).bumpBy (Obj.blobsMerged v) w.merged.length 64)
  let d := (d.putN (Obj.nextSerial v) w.nextSerial).bump (Obj.linesSegmented v) 64
  let keptZones := (runs.filter (fun r => w.next.any (fun e => e.first == r.first && e.last == r.last))).map (fun r => r.zone)
  let d := keptZones.foldl (fun d z => d.bump (Obj.zoneRuns (64 * v + z)) 64) d
  let d := d.putMax (Obj.maxOpenBlobs v) w.peak
  let d := if reseeds = 0 then d
    else
      let d := d.bumpBy (Obj.reseedCount v) reseeds 64
      d.log 0x05 sevInfo 0x0006 [.f v, .w n, .w (d.nat (Obj.reseedCount v))] (d.viewLcg? v)
  let d := (d.noteFold v 0x0002 n w.overLimit).noteFold v 0x0003 n w.overQuota
  -- the records of the line (R186)
  let ends := (w.merged.filter (fun m => 0 < m.1.segIndex))
  let sorted := ends.foldl (fun (acc : List (Blob × Nat)) m =>
    acc.filter (fun y => y.1.serial < m.1.serial) ++ [m] ++ acc.filter (fun y => ! decide (y.1.serial < m.1.serial))) []
  let d := sorted.foldl (fun d m => (d.emitCand n (terminating v m.1.serial m.1.segIndex n m.2)).bump (Obj.segmentsOut v) 64) d
  let d := closed.foldl (fun d b => d.closeBlob v n zs b) d
  let d := if n % 256 = 255 then d.emitStripEnd v n else d
  d.parityLine 0x05 v (d.viewLcg v) scView n

/-- End the segmenter (R187): every open blob closes, with the records of the strip so far; every request of the View is ready
(R198). -/
def Dev.segEnd (d : Dev) (v : Nat) : Dev :=
  let x := d.sg v
  if ! x.running then d
  else
    let n := x.lastLine.getD 0
    let zs := d.zones v n
    let d := d.updSg v (fun x => { x with blobs := [], refs := [] })
    let d := x.blobs.foldl (fun d b => d.closeBlob v n zs b) d
    let d := d.emitStripEnd v n
    let d := d.updSg v (fun x => { x with running := false })
    let d := d.updSeg (fun x => { x with crop := x.crop.map (fun q =>
      if q.view = v then { q with last := some (q.last.getD n) } else q) })
    (d.putF (Obj.segEnable v) false).log 0x05 sevInfo 0x0001 [.f v, .w n] (d.viewLcg? v)

/-! ## Enabling (R178, R184, R194, R204) -/

/-- The quota rule of R194, with View `v` counted. -/
def Dev.quotaOk (d : Dev) (v : Nat) : Bool :=
  decide (sumN ((List.range 4).map (fun u =>
    if u = v ∨ d.flag (Obj.segEnable u) then d.nat (Obj.blobQuota u) else 0)) ≤ 65536)

/-- SegPlane and PatchChannels against OutPlanes (R200, R202). -/
def Dev.segPlanesOk (d : Dev) (v : Nat) : Bool :=
  d.nat (Obj.viewOutPlanes v) == 2 || (d.nat (Obj.segPlane v) == 0 && decide (d.nat (Obj.patchChannels v) < 4))

/-- Start the segmenter (R178, R184, R186). CandSeq starts afresh, and with it the next CandSeq to be released (R242, R253). -/
def Dev.segStart (d : Dev) (v : Nat) : Dev :=
  let d := d.updSg v (fun x => { x with
    running := true, bgReset := true, refs := [], blobs := [], satBright := none, satDark := none, nextCand := 1,
    run := x.run + 1, noted := [] })
  let d := d.updCls (fun x => { x with released := x.released.set v 1 })
  let d := ((d.putF (Obj.segEnable v) true).putN (Obj.nextSerial v) 1).putN (Obj.maxOpenBlobs v) 0
  d.log 0x05 sevInfo 0x0001 [.f v, .w (d.curLix (d.viewLcg v))] (d.viewLcg? v)

end Sys2Proof.Machine
end

