-- ==== Sys2Proof/Machine/Publish.lean ====
section
/-! DEFINITION. Publishing, the Stalls (chapter 09): the defect record, the patch store, the queue of a Stall, datagrams,
launch queues. -/

namespace Sys2Proof.Machine

/-! ## Stamps (R238, R239) -/

/-- Nanoseconds of a WebTime in 2^-16 ns. -/
def webNs (w : Nat) : Nat := w / 65536

/-- The 64-bit stamp format of R238: seconds, epoch, nanoseconds. -/
def stampU64 (ns epoch : Nat) : Nat := ns / 1000000000 % 2 ^ 32 * 2 ^ 32 + epoch % 4 * 2 ^ 30 + ns % 1000000000

/-- WebTime and epoch at the hit of a LIX, and whether the hit lies further back than those kept (R239). -/
def Dev.hitStamp (d : Dev) (g lix : Nat) : Nat × Nat × Bool :=
  let hits := (d.lcg g).hits
  match hits.find? (fun h => h.lix == lix), hits.getLast? with
  | some h, _ => (h.web, h.epoch, false)
  | none, some h => (h.web, h.epoch, true)
  | none, none => (0, 0, false)

/-! ## The defect record (R238, R239) -/

/-- A terminating record (R192). -/
def Cand.terminating (c : Cand) : Bool := c.kind == 1 && c.lines == 0

/-- Aux (R239). -/
def Cand.aux (c : Cand) (webPitch : Nat) : Nat :=
  if c.kind = 2 then 0
  else if c.terminating then c.mergedInto % 2 ^ 48
  else (c.centroidCd * webPitch + 128) / 256 % 2 ^ 32 * 2 ^ 32 + c.centroidMd % 2 ^ 32

/-- The defect record (R238). -/
def Dev.record (d : Dev) (c : Cand) (r : ClsRes) (kept partialPatch : Bool) : Bytes :=
  let (web, epoch, old) := d.hitStamp (d.viewLcg c.view) c.firstLix
  packLE 64 [(c.firstLix, 64), (stampU64 (webNs web) epoch, 64), (c.serial, 48), (c.candSeq, 32), (c.segIndex, 16),
    (min 0xFFFFFF c.lines, 24), (c.aux (d.nat (Obj.webPitch c.view)), 64), (c.cdFirst, 18), (c.cdLast, 18),
    (min 0xFFFFFFFF c.area, 32), (c.peak, 16), (r.conf, 16), (r.conf2, 16), (r.modelId, 16), (r.cls, 6), (r.cls2, 6),
    (c.peakZone, 6), (c.view, 2), (c.kind, 2), (b2n c.dark, 1), (b2n c.continues, 1), (r.reason, 3), (b2n r.verified, 1),
    (r.slot, 1), (b2n (bit c.flags 0), 1), (b2n (bit c.flags 1), 1), (b2n (bit c.flags 2 || old), 1),
    (b2n (bit c.flags 3), 1), (b2n c.bridged, 1), (b2n c.truncated, 1), (b2n c.edge, 1), (b2n kept, 1),
    (b2n partialPatch, 1), (1, 2), (0, 28)]

/-! ## A Stall's queue (R249, R250) -/

def Dev.stall? (d : Dev) (s : Nat) : Option StallSt := Tbl.get? d.pub.stalls s

def Dev.updStall (d : Dev) (s : Nat) (f : StallSt → StallSt) : Dev :=
  match d.stall? s with
  | some x => d.updPub (fun z => { z with stalls := Tbl.put z.stalls s (f x) })
  | none => d

/-- The Stalls that are open, in ascending number. -/
def Dev.stallsOpen (d : Dev) : List Nat := d.pub.stalls.map (fun e => e.1)

/-- The datagrams of a Stall in launch queues. -/
def Dev.launchesOf (d : Dev) (s : Nat) : List LaunchItem := d.pub.launch.flatten.filter (fun l => l.stall == s)

/-- QueuedBytes: the object lengths of the unsent items (R250). -/
def Dev.queuedBytesOf (d : Dev) (s : Nat) : Nat :=
  match d.stall? s with
  | none => 0
  | some x => sumN (x.queue.map (fun i => i.object.length)) + (match x.dg with | some g => g.endLen | none => 0)
      + sumN ((d.launchesOf s).map (fun l => l.endLen))

/-- ItemsInQueue (R255). -/
def Dev.itemsInQueueOf (d : Dev) (s : Nat) : Nat :=
  match d.stall? s with
  | none => 0
  | some x => x.queue.length + (match x.dg with | some g => g.ends | none => 0) + sumN ((d.launchesOf s).map (fun l => l.ends))

/-- Count items dropped (R250). -/
def Dev.countDrop (d : Dev) (s n : Nat) : Dev :=
  if n = 0 then d
  else
    let d := d.bumpBy (Obj.itemsDropped s) n 64
    d.logRep 0x07 sevWarn 0x0003 s (fun _ => [.f s, .w (d.nat (Obj.itemsDropped s)), .w (d.queuedBytesOf s)])

/-- The ranks of R250: a tile lowest, then patches, then records; a notice is never removed. -/
def StallItem.rank (i : StallItem) : Nat := if i.kind = 3 then 1 else if i.kind = 2 then 2 else if i.kind = 1 then 3 else 4

/-- The next item that R250 removes for one of rank `rank`. -/
def StallSt.victim (x : StallSt) (rank : Nat) (same : Bool) : Option StallItem :=
  let free := x.queue.filter (fun i => i.sent == 0)
  let of (k : Nat) := free.find? (fun i => i.rank == k)
  match (if 1 < rank then of 1 else none), (if 2 < rank then of 2 else none) with
  | some i, _ => some i
  | none, some i => some i
  | none, none => if same then of rank else none

/-- Remove queued items until `need` bytes fit (R250, steps 1 and 2). -/
def Dev.makeRoom (s need rank : Nat) : (fuel : Nat) → Dev → Dev
  | 0, d => d
  | fuel + 1, d =>
    if d.queuedBytesOf s + need ≤ d.nat (Obj.queueBytes s) then d
    else match d.stall? s with
      | none => d
      | some x => match x.victim rank (d.nat (Obj.dropPolicy s) == 1) with
        | none => d
        | some i => makeRoom s need rank fuel ((d.updStall s (fun x => { x with queue := x.queue.erase i })).countDrop s 1)

/-! ## Packing (R251, R254) -/

/-- Bytes of the tag of a Stall's datagrams (R253). -/
def Dev.tagLen (d : Dev) (s : Nat) : Nat :=
  if d.flag (Obj.stallTagged s) ∧ d.nat (Obj.stallTransport s) ≠ 0 then 16 else 0

/-- One item of a datagram: a fragment with its header (R253). -/
def StallItem.fragment (i : StallItem) (off len : Nat) : Bytes :=
  packLE 16 [(off, 32), (i.object.length, 32), (i.key, 32), (i.kind, 4), (b2n i.compressed, 1), (0, 3), (i.view, 2),
    (i.channel, 6), (len, 16)] ++ padTo 8 (slice i.object off len)

/-- An item's identity, as the mirror carries it (R313): kind, View or channel, key. -/
def StallItem.ident (i : StallItem) : Nat := i.kind * 2 ^ 40 + (if i.kind = 3 then i.channel else i.view) * 2 ^ 32 + i.key

/-- Whether the device publishes: it drives, and a takeover has been followed by the resumption of R312. -/
def Dev.publishes (d : Dev) : Bool := d.drives && ! d.pair.hold

/-- The launch time of an item in ns of WebTime (R254). -/
def Dev.launchOf (d : Dev) (s : Nat) (i : StallItem) : Option Nat :=
  if d.nat (Obj.launchMode s) = 1 ∧ i.kind ≠ 4 then i.stamp.map (fun w => webNs w + d.nat (Obj.launchOffset s) * 1000)
  else none

/-- Credit enough to begin an object (R251). -/
def Dev.mayBegin (d : Dev) (s : Nat) (i : StallItem) : Bool :=
  d.nat (Obj.creditMode s) == 0 || i.sent != 0 ||
    decide (d.nat (Obj.datagramSeq s) + ceilDiv i.object.length (d.nat (Obj.pubMtu s) - 64) + 1 ≤ d.nat (Obj.creditLimit s))

/-- Place the head of the queue in the datagram under way, or close that datagram (R251); none when nothing is to be
done. -/
def Dev.packStep (d : Dev) (s : Nat) : Option Dev :=
  match d.stall? s with
  | none => none
  | some x => match x.queue with
    | [] => none
    | i :: rest =>
      let launch := d.launchOf s i
      let g := x.dg.getD { items := [], ends := 0, endLen := 0, since := d.now, launch := launch, epoch := i.epoch,
                           closed := false, patches := [], waited := false, last := 0 }
      if g.closed || ! d.mayBegin s i then none
      else if g.launch ≠ launch ∨ (launch.isSome ∧ g.epoch ≠ i.epoch) then
        some (d.updStall s (fun x => { x with dg := some { g with closed := true } }))
      else
        let used := sumN (g.items.map List.length)
        let room := d.nat (Obj.pubMtu s) - 32 - d.tagLen s - used
        let left := i.object.length - i.sent
        let whole := i.fragment i.sent left
        let ps := if i.kind = 2 then (i.view, i.key, i.run) :: g.patches else g.patches
        if whole.length ≤ room then
          some (d.updStall s (fun x => { x with
            queue := rest,
            dg := some { g with items := g.items ++ [whole], ends := g.ends + 1,
                                endLen := g.endLen + i.object.length, patches := ps, last := i.ident } }))
        else if (i.kind = 2 ∨ i.kind = 3) ∧ 24 ≤ room then
          let n := (room - 16) / 8 * 8
          some (d.updStall s (fun x => { x with
            queue := { i with sent := i.sent + n } :: rest,
            dg := some { g with items := g.items ++ [i.fragment i.sent n], closed := true, patches := ps } }))
        else if g.items = [] then none
        else some (d.updStall s (fun x => { x with dg := some { g with closed := true } }))

/-- Pack as far as the datagram under way takes items (R251). -/
def Dev.packLoop (s : Nat) : (fuel : Nat) → Dev → Dev
  | 0, d => d
  | fuel + 1, d => match d.packStep s with
    | some d => packLoop s fuel d
    | none => d

/-- Pack as far as the datagram under way takes items; a device that does not publish keeps its items queued (R252). -/
def Dev.pack (d : Dev) (s : Nat) : Dev :=
  match d.stall? s with
  | some x => if d.publishes then d.packLoop s (x.queue.length + 2) else d
  | none => d

/-- Queue an accepted item (R250). -/
def Dev.enqueue (d : Dev) (s : Nat) (i : StallItem) : Dev :=
  let need := i.object.length
  let d := match d.stall? s with
    | some x => Dev.makeRoom s need i.rank (x.queue.length + 1) d
    | none => d
  if d.queuedBytesOf s + need ≤ d.nat (Obj.queueBytes s) then
    let d := d.updStall s (fun x => { x with queue := x.queue ++ [i] })
    (d.putMax (Obj.queueMaxBytes s) (d.queuedBytesOf s)).pack s
  else d.countDrop s 1

/-- Offer an item to a Stall (R249, R255). -/
def Dev.offer (d : Dev) (s : Nat) (accepted : Bool) (i : StallItem) : Dev :=
  let d := d.bump (Obj.itemsOffered s) 64
  if accepted then (d.bump (Obj.itemsQueued s) 64).enqueue s i else d.bump (Obj.filteredOut s) 64

/-- The record filter of a Stall (R249), without the Content bit. -/
def Dev.recordFilter (d : Dev) (s : Nat) (c : Cand) (r : ClsRes) : Bool :=
  bit (d.nat (Obj.viewMask s)) c.view && bit (d.nat (Obj.kindMask s)) c.kind && bit (d.nat (Obj.reasonMask s)) r.reason &&
    decide (d.nat (Obj.minPeak s) ≤ c.peak) &&
    (r.reason != 0 || (bit (d.nat (Obj.classMask s)) r.cls && decide (d.nat (Obj.minConfidence s) ≤ r.conf)))

/-! ## The patch store (R240, R241) -/

/-- The header of a patch object (R241). -/
def Patch.header (p : Patch) (view cand : Nat) : Bytes :=
  packLE 32 [(ofSigned 64 p.topLix, 64), (cand, 32), (ofSigned 18 p.left, 18), (0, 14), (p.w, 16), (p.h, 16),
    (p.binning, 8), (p.channels, 4), (view, 2), (b2n p.partialCut, 1), (0, 81)]

/-- The size of the patch store in bytes (R331). -/
def Dev.storeSize (d : Dev) : Nat := d.nat (Obj.regionSize 4) * 2 ^ 20

/-- The HBM address of a byte of the patch store (R332). -/
def storeAddr (off : Nat) : Nat := 4 * 2 ^ 36 + off

/-- The item carries a stored patch. -/
def StallItem.carries (i : StallItem) (p : StoredPatch) : Bool :=
  i.kind == 2 && i.view == p.view && i.key == p.cand && i.run == p.run

/-- A patch whose transmission has begun on some Stall and has not ended (R240). -/
def Dev.pinned (d : Dev) (p : StoredPatch) : Bool :=
  d.pub.stalls.any (fun e =>
    e.2.queue.any (fun i => i.sent != 0 && i.carries p) ||
    (match e.2.dg with | some g => g.patches.contains (p.view, p.cand, p.run) | none => false)) ||
  d.pub.launch.flatten.any (fun l => l.patches.contains (p.view, p.cand, p.run))

/-- Two byte ranges meet. -/
def rangesMeet (a n b m : Nat) : Bool := decide (a < b + m ∧ b < a + n)

/-- The place for an object of `n` bytes: from `pos` on, past every pinned patch, from 0 again at the end (R240). -/
def Dev.storePlace (d : Dev) (n : Nat) : (fuel pos : Nat) → Option Nat
  | 0, _ => none
  | fuel + 1, pos =>
    let pos := if d.storeSize < pos + n then 0 else pos
    match d.pub.store.find? (fun p => rangesMeet pos n p.off p.len && d.pinned p) with
    | some p => d.storePlace n fuel (p.off + p.len)
    | none => if pos + n ≤ d.storeSize then some pos else none

/-- Remove an overwritten patch: queued items of it that are not begun are dropped (R240). -/
def Dev.evictPatch (d : Dev) (p : StoredPatch) : Dev :=
  let d := d.updPub (fun x => { x with store := x.store.erase p })
  let d := d.bump Obj.patchesEvicted 64
  d.stallsOpen.foldl (fun d s => match d.stall? s with
    | some x =>
      let gone := x.queue.filter (fun i => i.sent == 0 && i.carries p)
      if gone = [] then d
      else
        let d := d.updStall s (fun x => { x with
          queue := x.queue.filter (fun i => ! (i.sent == 0 && i.carries p)) })
        (d.countDrop s gone.length).logRep 0x07 sevWarn 0x0006 s (fun _ => [.f s, .w p.cand])
    | none => d) d

/-- Write a cut patch into the store (R240, R241). -/
def Dev.storePatch (d : Dev) (view cand first run : Nat) (p : Patch) : Dev :=
  let obj := p.header view cand ++ p.bytes
  let n := obj.length
  match d.storePlace n (2 * d.pub.store.length + 2) d.pub.storePos with
  | none => d
  | some pos =>
    let gone := d.pub.store.filter (fun q => rangesMeet pos n q.off q.len)
    let d := gone.foldl Dev.evictPatch d
    let st := d.hitStamp (d.viewLcg view) first
    let entry : StoredPatch := { view := view, cand := cand, run := run, stamp := st.1, epoch := st.2.1, off := pos, len := n }
    let d := (d.hbmWrite (storeAddr pos) obj).memRequest 8 (storeAddr pos) n true
    let d := d.updPub (fun x => { x with store := x.store ++ [entry], storePos := pos + n })
    let d := d.bump Obj.patchesStored 64
    if d.hbmLost (storeAddr pos) n then d.evictPatch entry else d

/-- The newest stored patch of a candidate of a run of the segmenter. -/
def Dev.storedPatch (d : Dev) (view cand run : Nat) : Option StoredPatch :=
  (d.pub.store.filter (fun p => p.view == view && p.cand == cand && p.run == run)).getLast?

/-- The item that carries a stored patch; its stamp is that of its record (R254). -/
def Dev.patchItem (d : Dev) (p : StoredPatch) : StallItem :=
  { kind := 2, view := p.view, channel := 0, key := p.cand, compressed := false,
    object := d.hbmRead (storeAddr p.off) p.len, stamp := some p.stamp, epoch := p.epoch, sent := 0, run := p.run }

/-- Offer a stored patch to a Stall; an accepted one is read from HBM on port 8 (R242, R327). -/
def Dev.offerPatch (d : Dev) (s : Nat) (accepted : Bool) (p : StoredPatch) : Dev :=
  (if accepted then d.memRequest 8 (storeAddr p.off) p.len false else d).offer s accepted (d.patchItem p)

/-- Offer a record, and its patch where it is kept, to every open Stall (R242, R249). -/
def Dev.offerRecord (d : Dev) (c : Cand) (r : ClsRes) (record : Bytes) (patch : Option StoredPatch) : Dev :=
  let st := d.hitStamp (d.viewLcg c.view) c.firstLix
  let item : StallItem :=
    { kind := 1, view := c.view, channel := 0, key := c.candSeq, compressed := false, object := record, stamp := some st.1,
      epoch := st.2.1, sent := 0, run := c.run }
  -- from here on the patch carries the stamp of its record (R254)
  let stamped (p : StoredPatch) : StoredPatch := { p with stamp := st.1, epoch := st.2.1 }
  let d := match patch with
    | some q => d.updPub (fun x => { x with store := x.store.map (fun p => if p = q then stamped p else p) })
    | none => d
  d.stallsOpen.foldl (fun d s =>
    let ok := d.recordFilter s c r
    let content := d.nat (Obj.stallContent s)
    let d := d.offer s (ok && bit content 0) item
    match patch with
    | some p => d.offerPatch s (ok && bit content 1) (stamped p)
    | none => d) d

/-! ## Frames (R344, R345, R359) -/

/-- Bytes of a UDP frame with a payload of `n` bytes on port `q` to an address of `a` bytes (R345). -/
def Dev.frameLen (d : Dev) (q a n : Nat) : Nat :=
  n + 8 + (if a = 16 then 40 else 20) + (if d.nat (Obj.vlanId q) = 0 then 0 else 4) + 14 + 4

/-- The speed of a port in Mbit/s (R344, R361). -/
def Dev.portMbit (d : Dev) (q : Nat) : Nat :=
  let m := d.nat (Obj.netMode q)
  if q < 4 then (if m = 1 then 10000 else 25000) else if m = 2 then 100 else if m = 3 then 10 else 1000

/-- Time on the wire of a frame, with preamble and inter-frame gap, in ns. -/
def Dev.wireNs (d : Dev) (q len : Nat) : Nat := ceilDiv ((len + 20) * 8 * 1000) (d.portMbit q)

/-- A port sends: it is enabled and its link is up. -/
def Dev.portUp (d : Dev) (q : Nat) : Bool := d.flag (Obj.netEnable q) && d.flag (Obj.linkUp q) && d.domOn pdNet

/-- The local address of a port: LocalIpA in position A, LocalIpB in position B (R346). -/
def Dev.localIp (d : Dev) (q : Nat) : Bytes := d.bytes (if d.nat Obj.pairPosition = 1 then Obj.localIpB q else Obj.localIpA q)

/-- The port's own MAC address, and that of the service address (R346). -/
def portMac (q : Nat) : Nat := Config.portMac q % 2 ^ 48
def Dev.serviceMacOf (d : Dev) (q : Nat) : Nat := if d.nat Obj.serviceMac = 0 then portMac q else d.nat Obj.serviceMac % 2 ^ 48

/-- The service address of a port is set, and answered in the present role (R346). -/
def Dev.serviceOn (d : Dev) (q : Nat) : Bool := d.drives && d.bytes (Obj.serviceIp q) != []

/-- Where a frame comes from: the service address or the local one, with the tag of the port (R344, R346, R361). -/
def Dev.frameHead (d : Dev) (q : Nat) (service : Bool) : FrameHead :=
  { mac := if service then d.serviceMacOf q else portMac q, ip := if service then d.bytes (Obj.serviceIp q) else d.localIp q,
    tag := if d.nat (Obj.vlanId q) = 0 then none else some (d.nat (Obj.vlanId q), d.nat (Obj.pcp q)) }

/-- Bytes of a frame that is not UDP, of `n` bytes with its FCS and without a tag. -/
def Dev.rawLen (d : Dev) (q n : Nat) : Nat := n + (if d.nat (Obj.vlanId q) = 0 then 0 else 4)

/-- The time of a launch at the device's own pins lies EgressLatency before the one at the reference plane (R348, R358): WebTime there
when a frame starts now, in ns. -/
def Dev.planeNow (d : Dev) (q : Nat) : Int := webNs (d.webAt d.now) + d.int (Obj.egressLatency q) / 65536

/-- A frame of `len` bytes may start now: the port is up and free, and the frame with its gap ends before the datagram at the head of the
launch queue has to start (R358, R359). -/
def Dev.mayStart (d : Dev) (q len : Nat) : Bool :=
  d.portUp q && decide (d.net.busyUntil.getD q 0 ≤ d.now) && (match d.pub.launch.getD q [] with
    | [] => true
    | l :: _ => decide (d.planeNow q + (d.wireNs q len : Nat) ≤ l.launch))

/-- The transmit timestamp of a frame that starts now (R348). -/
def Dev.txStamp (d : Dev) (q : Nat) : Int := d.webAt d.now + d.int (Obj.egressLatency q)

/-- A frame joins those that wait, in the order of precedence (R359). -/
def insertTx (f : TxFrame) : List TxFrame → List TxFrame
  | [] => [f]
  | x :: xs => if f.prio < x.prio then f :: x :: xs else x :: insertTx f xs

/-- A frame starts on a port. A delay request leaves its transmit timestamp with its domain; a Pdelay_Resp is followed by its
Follow_Up, which carries it (R347 to R349). -/
def Dev.startFrame (d : Dev) (q : Nat) (f : TxFrame) : Dev :=
  let d := (d.bump (Obj.framesOut q) 64).emit f.out
  let d := d.updNet (fun x => { x with busyUntil := x.busyUntil.set q (d.now + d.wireNs q f.len) })
  match f.domain, f.out with
  | some k, _ => d.updNet (fun x => { x with domains := x.domains.modify k (fun z => { z with sent := Tbl.put z.sent q (d.txStamp q) }) })
  | none, .frame _ .pdelayResp head data =>
    let follow : TxFrame :=
      { prio := 1, len := f.len, out := .frame q .pdelayFollowUp head (data ++ natLE 16 (ofSigned 128 (d.txStamp q))), domain := none }
    d.updNet (fun x => { x with tx := x.tx.modify q (insertTx follow) })
  | none, _ => d

/-- The frames that wait at a port start as long as they may (R359). -/
def Dev.sendWaiting (q : Nat) : (fuel : Nat) → Dev → Dev
  | 0, d => d
  | fuel + 1, d => match d.net.tx.getD q [] with
    | [] => d
    | f :: rest =>
      if d.mayStart q f.len then
        Dev.sendWaiting q fuel ((d.updNet (fun x => { x with tx := x.tx.set q rest })).startFrame q f)
      else d

/-- Send a frame on a port: at once, or as soon as it may start at a later sending of the port (R359; log entry 72). -/
def Dev.sendFrame (d : Dev) (q : Nat) (f : TxFrame) : Dev :=
  if ! d.portUp q then d
  else Dev.sendWaiting q ((d.net.tx.getD q []).length + 2) (d.updNet (fun x => { x with tx := x.tx.modify q (insertTx f) }))

/-- A group or broadcast address, whose MAC address follows from it. -/
def groupIp (ip : Bytes) : Bool :=
  if ip.length = 4 then decide (224 ≤ (ip.headD 0).toNat) else (ip.headD 0).toNat == 0xFF

/-- Two addresses of one family agree in their first `n` bits. -/
def samePrefix (n : Nat) (a b : Bytes) : Bool :=
  a.length == b.length && leNat a.reverse / 2 ^ (8 * a.length - n) == leNat b.reverse / 2 ^ (8 * b.length - n)

/-- The neighbour that a datagram to an address goes to: the address itself within the prefix of the port, else the gateway; none for a
group, and where there is no gateway (R344, R361). -/
def Dev.nextHop (d : Dev) (q : Nat) (dest : Bytes) : Option Bytes :=
  if dest = [] ∨ groupIp dest then none
  else if samePrefix (d.nat (Obj.prefixLen q)) dest (d.localIp q) then some dest
  else if d.bytes (Obj.gateway q) = [] then none
  else some (d.bytes (Obj.gateway q))

/-- Ask for the MAC address of the neighbour that a destination goes to, by an ARP request or an NDP neighbour solicitation, unless it has
been asked for. When the device asks is not stated: the model asks as a Stall opens on the port, as its link comes up and as the device
comes to drive (R344; log entry 72). -/
def Dev.resolve (d : Dev) (q : Nat) (dest : Bytes) : Dev :=
  match d.nextHop q dest with
  | none => d
  | some ip =>
    if ! d.portUp q || d.net.neigh.any (fun e => e.1 == q && e.2.1 == ip) then d
    else (d.updNet (fun n => { n with neigh := n.neigh ++ [(q, ip, none)] })).sendFrame q {
      prio := 1, len := d.rawLen q (if ip.length = 16 then 90 else 64),
      out := .frame q .neighbourRequest (d.frameHead q (d.serviceOn q)) ip, domain := none }

/-- Ask for the neighbours that the open Stalls of a port send to. -/
def Dev.resolveStalls (d : Dev) (q : Nat) : Dev :=
  if ! d.drives then d
  else (d.stallsOpen.filter (fun s => d.nat (Obj.stallTransport s) == q + 1)).foldl (fun d s => d.resolve q (d.bytes (Obj.destAddr s))) d

/-! ## Datagrams (R251 to R254) -/

/-- The header of a datagram (R253). -/
def datagramHeader (seq dropped count len launchStamp s : Nat) (late tagged : Bool) : Bytes :=
  packLE 32 [(seq, 64), (dropped, 32), (count, 16), (len, 16), (launchStamp, 64), (s, 16), (b2n late, 1), (b2n tagged, 1),
    (0, 6), (1, 8), (0, 16), (0x5354, 16)]

/-- The key that tags the datagrams of an open Stall (R253): StallKey for a persistent one, else the key fixed at its open. -/
def Dev.stallKeyNow (d : Dev) (s : Nat) (x : StallSt) : Bytes :=
  if d.flag (Obj.stallPersistent s) then Tbl.get d.pub.keys s [] else x.key

/-- A whole datagram with its tag (R253). -/
def Dev.datagram (d : Dev) (s : Nat) (key : Bytes) (l : LaunchItem) : Bytes :=
  let tagged := d.tagLen s != 0
  let launch := if l.launch = 0 then 0 else stampU64 l.launch l.epoch
  let body := datagramHeader l.seq l.dropped l.count l.payload.length launch s l.late tagged ++ l.payload
  if tagged then body ++ Config.kmac256 key body "TOL STALL" 128 else body

/-- The bucket of R251, in millionths of a bit. -/
def Dev.bucket (d : Dev) (s : Nat) (x : StallSt) : Nat :=
  min (16 * d.nat (Obj.pubMtu s) * 1000000) (x.tokens + (d.now - x.tokenAt) * d.nat (Obj.stallRateLimit s))

/-- The bucket is settled at the rate in force so far (R251), before RateLimit changes. -/
def Dev.settleTokens (d : Dev) (s : Nat) : Dev := d.updStall s (fun x => { x with tokens := d.bucket s x, tokenAt := d.now })

/-- Bytes of a datagram under way (R251). -/
def Dev.dgLen (d : Dev) (s : Nat) (g : Datagram) : Nat := 32 + sumN (g.items.map List.length) + d.tagLen s

/-- Ring registers (R395). -/
def Dev.ring (d : Dev) (r : Nat) : Ring := d.host.rings.getD r (Ring.reset r)
def Dev.updRing (d : Dev) (r : Nat) (f : Ring → Ring) : Dev :=
  d.updHost (fun x => { x with rings := x.rings.modify r f })
def Ring.slots (r : Ring) : Nat := 2 ^ (field r.ctl 0 4 + 3)
def Ring.slotSize (r : Ring) : Nat := 2 ^ (field r.ctl 4 3 + 10)
def Ring.enabled (r : Ring) : Bool := bit r.ctl 8
def Ring.filled (r : Ring) : Nat := subMod (2 ^ 32) r.tail r.head

/-- The minimum lead of a timed launch (R358). -/
def launchLead (q : Nat) : Nat := if q < 4 then 2000 else 8000

/-- A closed datagram that credit and rate allow (R251). -/
def Dev.dgReady (d : Dev) (s : Nat) : Bool :=
  match d.stall? s with
  | some x => match x.dg with
    | some g => g.closed && (d.nat (Obj.creditMode s) == 0 || decide (d.nat (Obj.datagramSeq s) < d.nat (Obj.creditLimit s))) &&
        decide (d.dgLen s g * 8000000 ≤ d.bucket s x)
    | none => false
  | none => false

/-- Whether the transport takes the datagram now: the ring has a slot (R396), the launch queue an entry (R254), the frame
ends before the next launch (R359). -/
def Dev.transportTakes (d : Dev) (s : Nat) : Bool :=
  match d.stall? s with
  | some x => match x.dg with
    | some g =>
      let t := d.nat (Obj.stallTransport s)
      if t = 0 then
        let r := d.ring (d.nat (Obj.destPort s))
        r.enabled && decide (r.filled < r.slots)
      else
        let q := t - 1
        let Q := d.pub.launch.getD q []
        if g.launch.isSome then decide (Q.length < 1024)
        else (d.net.tx.getD q []).isEmpty && d.mayStart q (d.frameLen q (d.bytes (Obj.destAddr s)).length (d.dgLen s g))
    | none => false
  | none => false

/-- Insert into a launch queue by launch time, then order of entry (R358). -/
def insertLaunch (l : LaunchItem) : List LaunchItem → List LaunchItem
  | [] => [l]
  | x :: xs => if l.launch < x.launch then l :: x :: xs else x :: insertLaunch l xs

/-- Hand a datagram to its port or ring: its items count as sent (R255). -/
def Dev.handOver (d : Dev) (s : Nat) (key : Bytes) (l : LaunchItem) : Dev :=
  let bytes := d.datagram s key l
  let t := d.nat (Obj.stallTransport s)
  let d := (d.bumpBy (Obj.itemsSent s) l.ends 64).updStall s (fun x =>
    { x with last := if l.ends = 0 then x.last else l.last })
  if t = 0 then
    let r := d.nat (Obj.destPort s)
    let R := d.ring r
    let tail := (R.tail + 1) % 2 ^ 32
    let d := (d.emit (.hostWrite (R.base + R.tail % R.slots * R.slotSize) bytes)).emit (.hostWrite R.tailAddr (natLE 4 tail))
    let d := d.updRing r (fun R => { R with tail := tail })
    if bit R.ctl 9 then d.interrupt (field R.ctl 16 8) else d
  else
    let q := t - 1
    let f : TxFrame := {
      prio := 3, len := d.frameLen q (d.bytes (Obj.destAddr s)).length bytes.length
      out := .datagram q (d.frameHead q (d.bytes (Obj.serviceIp q) != [])) bytes, domain := none }
    if l.late then d.sendFrame q f else d.startFrame q f

/-- Count a late datagram (R254). -/
def Dev.countLate (d : Dev) (s : Nat) : Dev :=
  let d := d.bump (Obj.lateCount s)
  d.logRep 0x07 sevWarn 0x0004 s (fun _ => [.f s, .w (d.nat (Obj.lateCount s))])

/-- Send the datagram of Stall `s` (R251 to R254): at once, into the launch queue, or late. -/
def Dev.sendDatagram (d : Dev) (s : Nat) : Dev :=
  match d.stall? s with
  | none => d
  | some x => match x.dg with
    | none => d
    | some g =>
      let seq := d.nat (Obj.datagramSeq s) + 1
      let left := d.bucket s x - d.dgLen s g * 8000000
      let late := match g.launch with
        | some t => decide (t < webNs (d.webAt d.now) + launchLead (d.nat (Obj.stallTransport s) - 1))
        | none => false
      let l : LaunchItem :=
        { stall := s, launch := g.launch.getD 0, epoch := g.epoch, seq := seq,
          dropped := min 0xFFFFFFFF (d.nat (Obj.itemsDropped s)), count := g.items.length, payload := g.items.flatten,
          ends := g.ends, endLen := g.endLen, patches := g.patches, late := late, last := g.last }
      if late ∧ d.nat (Obj.lateLaunch s) = 1 then
        let d := (d.updStall s (fun x => { x with dg := none })).countLate s
        (d.countDrop s g.ends).pack s
      else
        let d := (d.updStall s (fun x => { x with dg := none, tokens := left, tokenAt := d.now })).putN (Obj.datagramSeq s) seq
        let d := if late then d.countLate s else d
        let d :=
          if g.launch.isSome ∧ ¬ late then
            let q := d.nat (Obj.stallTransport s) - 1
            let d := d.updPub (fun x => { x with launch := x.launch.modify q (insertLaunch l) })
            d.putMax Obj.launchQueueMax (d.pub.launch.getD q []).length
          else d.handOver s (d.stallKeyNow s x) l
        d.pack s

/-- Note what keeps a ready datagram waiting: a full ring once (R396), a full launch queue (R254, R259). -/
def Dev.noteWait (d : Dev) (s : Nat) : Dev :=
  match d.stall? s with
  | none => d
  | some x => match x.dg with
    | none => d
    | some g =>
      let t := d.nat (Obj.stallTransport s)
      if t = 0 then
        if g.waited then d
        else (d.updStall s (fun x => { x with dg := some { g with waited := true } })).bump
          (Obj.ringFullWaits (d.nat (Obj.destPort s)))
      else if g.launch.isSome then d.logRep 0x07 sevWarn 0x0007 s (fun _ => [.f (t - 1), .f s])
      else d

/-- The next Stall in the order of R252: highest priority, then round robin after the one that was served last at that priority. -/
def pickStall (prio last : Nat → Nat) (l : List Nat) : Option Nat :=
  let top := maxN (l.map prio)
  let best := l.filter (fun s => prio s == top)
  match best.find? (fun s => decide (last top < s)) with
  | some s => some s
  | none => best.head?

/-- DATAGRAM_SEND on transport `t` (R252): the frames that wait at its port come first (R359). -/
def Dev.datagramSend (d : Dev) (t : Nat) : Dev :=
  let d := if t = 0 then d else Dev.sendWaiting (t - 1) ((d.net.tx.getD (t - 1) []).length + 2) d
  if ! d.publishes then d
  else
    let ready := (d.stallsOpen.filter (fun s => d.nat (Obj.stallTransport s) == t)).filter d.dgReady
    let d := (ready.filter (fun s => ! d.transportTakes s)).foldl Dev.noteWait d
    let prio (s : Nat) : Nat := d.nat (Obj.stallPriority s)
    match pickStall prio (fun k => Tbl.get d.pub.turn (4 * t + k) 512) (ready.filter d.transportTakes) with
    | none => d
    | some s => (d.updPub (fun x => { x with turn := Tbl.put x.turn (4 * t + prio s) s })).sendDatagram s

/-- STALL_FLUSH: the datagram under way closes StallFlush µs after its first item was placed (R251). -/
def Dev.stallFlushDue (d : Dev) (s : Nat) : Dev :=
  d.updStall s (fun x => match x.dg with
    | some g => if g.since + d.nat (Obj.stallFlush s) * 1000 ≤ d.now then { x with dg := some { g with closed := true } } else x
    | none => x)

/-! ## Launch (R358 to R360) -/

/-- LAUNCH on port `q`: the datagram at the head of the launch queue is sent at its launch time (R358, R359). -/
def Dev.launchNow (d : Dev) (q : Nat) : Dev :=
  match d.pub.launch.getD q [] with
  | [] => d
  | l :: rest =>
    let plane := d.planeNow q
    if ! d.portUp q || ! d.publishes || decide (plane < l.launch) || decide (d.now < d.net.busyUntil.getD q 0) then d
    else
      let d := d.updPub (fun x => { x with launch := x.launch.set q rest })
      let d := match d.stall? l.stall with
        | some x => d.handOver l.stall (d.stallKeyNow l.stall x) l
        | none => d
      if (l.launch : Int) + 100 < plane then
        let d := d.bump (Obj.launchSlips q)
        d.logRep 0x0C sevWarn 0x0009 q (fun _ => [.f q, .w (d.nat (Obj.launchSlips q))])
      else d

/-- Handle a queued launch datagram as late under its Stall's LateLaunch (R254, R360); `drop` overrides it. -/
def Dev.launchLate (d : Dev) (drop : Bool) (l : LaunchItem) : Dev :=
  match d.stall? l.stall with
  | none => d
  | some x =>
    let d := d.countLate l.stall
    if drop ∨ d.nat (Obj.lateLaunch l.stall) = 1 then d.countDrop l.stall l.ends
    else d.handOver l.stall (d.stallKeyNow l.stall x) { l with late := true }

/-- Empty a launch queue, each datagram handled as late. -/
def Dev.flushLaunch (d : Dev) (q : Nat) (drop : Bool) : Dev :=
  let items := d.pub.launch.getD q []
  items.foldl (fun d l => d.launchLate drop l) (d.updPub (fun x => { x with launch := x.launch.set q [] }))

/-- At an epoch change every datagram in a launch queue is treated as late (R254, R360). -/
def Dev.epochLaunches (d : Dev) : Dev := (List.range 6).foldl (fun d q => d.flushLaunch q false) d

end Sys2Proof.Machine
end

