-- ==== Sys2Proof/Machine/Qpk.lean ====
section
/-! DEFINITION. The QPK format (R380 to R383): blocks, the compressor and the decompressor, as functions on bytes. -/

namespace Sys2Proof.Machine

def qpkMagic : Nat := 0x314B5051

/-- One block with its header (R380). `kind` is 0 stored, 1 LZ, 2 run. -/
def qpkBlock (kind : Nat) (last : Bool) (orig payload : Bytes) : Bytes :=
  let head (check : Nat) := packLE 16 [(crc32c orig, 32), (orig.length - 1, 16), (payload.length - 1, 16), (kind, 8),
    (b2n last, 1), (0, 7), (check, 16), (qpkMagic, 32)]
  head (crc32c ((head 0).drop 6) % 65536) ++ payload

/-- `literals` of R383: runs of 128 and one of the remainder. -/
def lzLiterals : (fuel : Nat) → Bytes → Bytes
  | 0, _ => []
  | _, [] => []
  | fuel + 1, bs =>
    let run := bs.take 128
    BitVec.ofNat 8 (run.length - 1) :: run ++ lzLiterals fuel (bs.drop 128)

/-- `match` of R383: distance and length (R381). -/
def lzMatch (dist m : Nat) : Bytes :=
  if m ≤ 10 ∧ dist ≤ 2048 then
    [BitVec.ofNat 8 (0x80 + (m - 3) * 8 + (dist - 1) / 256), BitVec.ofNat 8 (dist - 1)]
  else if m < 66 then BitVec.ofNat 8 (0xC0 + (m - 3)) :: natLE 2 (dist - 1)
  else BitVec.ofNat 8 0xFF :: natLE 2 (dist - 1) ++ [BitVec.ofNat 8 (m - 66)]

/-- The length of the match between positions `c` and `i`, at most `fuel`. -/
def matchLen (inp : Array Byte) (c i : Nat) : (fuel : Nat) → Nat
  | 0 => 0
  | fuel + 1 =>
    if i < inp.size ∧ inp.getD c 0 = inp.getD i 0 then matchLen inp (c + 1) (i + 1) fuel + 1 else 0

/-- The three bytes at `i` as a number. -/
def threeBytes (inp : Array Byte) (i : Nat) : Nat :=
  (inp.getD i 0).toNat + 256 * (inp.getD (i + 1) 0).toNat + 65536 * (inp.getD (i + 2) 0).toNat

/-- The LZ loop of R383: `h` is the table H, `pre` the literals not yet emitted. -/
def lzLoop (inp : Array Byte) (bs : Bytes) : (fuel : Nat) → (h : Tbl Nat) → (start i : Nat) → (out : Bytes) → Bytes
  | 0, _, _, _, out => out
  | fuel + 1, h, start, i, out =>
    let lits (a b : Nat) := lzLiterals (b - a + 1) (slice bs a (b - a))
    if inp.size < i + 3 then out ++ lits start inp.size
    else
      let v := threeBytes inp i
      let k := v * 0x9E3779B1 % 2 ^ 32 / 2 ^ 20
      let h' := Tbl.put h k i
      match Tbl.get? h k with
      | some c =>
        if i - c ≤ 65536 ∧ threeBytes inp c = v then
          let m := matchLen inp c i 321
          lzLoop inp bs fuel h' (i + m) (i + m) (out ++ lits start i ++ lzMatch (i - c) m)
        else lzLoop inp bs fuel h' start (i + 1) out
      | none => lzLoop inp bs fuel h' start (i + 1) out

/-- The kind and payload of a block (R383). -/
def compressPayload (bs : Bytes) : Nat × Bytes :=
  match bs with
  | [] => (0, [])
  | x :: xs =>
    if xs.all (fun y => y == x) then (2, [x])
    else
      let out := lzLoop bs.toArray bs (bs.length + 1) [] 0 0 []
      if bs.length ≤ out.length then (0, bs) else (1, out)

/-- One compressed block with its kind (R383). -/
def compressBlock (last : Bool) (bs : Bytes) : Nat × Bytes :=
  let (k, p) := compressPayload bs
  (k, qpkBlock k last bs p)

/-- A whole stream of blocks of `size` bytes, the last with Last set (R383, R386). -/
def compressAll (size : Nat) : (fuel : Nat) → Bytes → List (Nat × Bytes)
  | 0, _ => []
  | fuel + 1, bs =>
    if bs.length ≤ size then (if bs = [] then [] else [compressBlock true bs])
    else compressBlock false (bs.take size) :: compressAll size fuel (bs.drop size)

/-- A decoded block header (R380). -/
structure QpkHead where
  crc  : Nat
  orig : Nat
  len  : Nat
  kind : Nat
  last : Bool
  deriving DecidableEq, Repr

/-- The header of a block, or the detail code of R385. -/
def qpkHead (h : Bytes) : Except Nat QpkHead :=
  if leAt h 0 4 ≠ qpkMagic then .error 1
  else if leAt h 4 2 ≠ crc32c (slice h 6 10) % 65536 then .error 2
  else if 2 < leAt h 7 1 then .error 3
  else .ok { crc := leAt h 12 4, orig := leAt h 10 2 + 1, len := leAt h 8 2 + 1, kind := leAt h 7 1,
             last := bit (leAt h 6 1) 7 }

/-- Put out bytes while there is room for `n`; the flag tells that more would exceed it. -/
def putOut (n : Nat) : Bytes → Array Byte → Array Byte × Bool
  | [], out => (out, false)
  | x :: xs, out => if n ≤ out.size then (out, true) else putOut n xs (out.push x)

/-- Copy a match byte by byte (R381). -/
def copyMatch (n off : Nat) : (len : Nat) → Array Byte → Array Byte × Bool
  | 0, out => (out, false)
  | len + 1, out =>
    if n ≤ out.size then (out, true) else copyMatch n off len (out.push (out.getD (out.size - off) 0))

/-- The LZ payload decoder of R382: the bytes put out, and the detail code of an error. -/
def lzDecode (n : Nat) : (fuel : Nat) → Bytes → Array Byte → Array Byte × Option Nat
  | 0, _, out => (out, if out.size < n then some 8 else none)
  | _, [], out => (out, if out.size < n then some 8 else none)
  | fuel + 1, x :: p, out =>
    let t := x.toNat
    let copy (off len used : Nat) :=
      if out.size < off then (out, some 5)
      else match copyMatch n off len out with
        | (out, true) => (out, some 7)
        | (out, false) => lzDecode n fuel (p.drop used) out
    if t < 0x80 then
      if p.length < t + 1 then (out, some 6)
      else match putOut n (p.take (t + 1)) out with
        | (out, true) => (out, some 7)
        | (out, false) => lzDecode n fuel (p.drop (t + 1)) out
    else if t < 0xC0 then
      if p.length < 1 then (out, some 6) else copy (t % 8 * 256 + leAt p 0 1 + 1) (t / 8 % 8 + 3) 1
    else if t < 0xFF then
      if p.length < 2 then (out, some 6) else copy (leAt p 0 2 + 1) (t % 64 + 3) 2
    else if p.length < 3 then (out, some 6) else copy (leAt p 0 2 + 1) (66 + leAt p 2 1) 3

/-- The payload decoder of R382: the bytes put out, and the detail code of an error. -/
def decodePayload (h : QpkHead) (payload : Bytes) : Bytes × Option Nat :=
  let (out, err) : Bytes × Option Nat :=
    if h.kind = 0 then (if h.len ≠ h.orig then ([], some 4) else (payload, none))
    else if h.kind = 2 then
      (if h.len ≠ 1 then ([], some 4) else (List.replicate h.orig (payload.getD 0 0), none))
    else let r := lzDecode h.orig (payload.length + 1) payload #[]; (r.1.toList, r.2)
  match err with
  | some e => (out, some e)
  | none => (out, if crc32c out = h.crc then none else some 9)

/-- A whole stream (R383). -/
def qpkStream (bs : Bytes) : Bytes := (compressAll 65536 (bs.length + 1) bs).flatMap (fun k => k.2)

/-- The bytes that a whole stream decompresses to (R382), none where a block is in error or no last block comes. -/
def qpkUnpack : (fuel : Nat) → Bytes → Option Bytes
  | 0, _ => none
  | fuel + 1, bs =>
    match qpkHead (bs.take 16) with
    | .error _ => none
    | .ok h =>
      match decodePayload h (slice bs 16 h.len) with
      | (_, some _) => none
      | (out, none) => if h.last then some out else (qpkUnpack fuel (bs.drop (16 + h.len))).map (fun rest => out ++ rest)

end Sys2Proof.Machine
end

