-- ==== Sys2Proof/Machine/LiveView.lean ====
section
/-! DEFINITION. Live views (R243 to R247): rows, bands, outlines and tiles. -/

namespace Sys2Proof.Machine

def Dev.lvChan (d : Dev) (c : Nat) : LvChan := Tbl.get d.pub.lv c LvChan.reset
def Dev.updLv (d : Dev) (c : Nat) (f : LvChan → LvChan) : Dev :=
  d.updPub (fun x => { x with lv := Tbl.put x.lv c (f (d.lvChan c)) })

/-- W of R243. -/
def Dev.lvWidth (d : Dev) (c : Nat) : Nat :=
  ceilDiv (d.nat (Obj.lvCdLast c) + 1 - d.nat (Obj.lvCdFirst c)) (d.nat (Obj.cdScale c))

/-- The channels of View `v` that are enabled. -/
def Dev.lvChannels (d : Dev) (v : Nat) : List Nat :=
  (List.range 64).filter (fun c => d.flag (Obj.lvEnable c) && d.nat (Obj.lvView c) == v)

/-! ## Rows (R243, R244) -/

/-- Add a value to a cell; `dev` tells that values are compared by magnitude (R244). -/
def LvCell.add (x : LvCell) (v : Int) (dev : Bool) : LvCell :=
  let better := x.m == 0 || (if dev then decide (x.ext.natAbs < v.natAbs) else decide (x.ext < v))
  { sum := x.sum + v, m := x.m + 1, ext := if better then v else x.ext }

/-- Add one line's values to the cells: `vs` are the values of the channel's pixels, none where there is no data. -/
def lvAdd (scale : Nat) (dev : Bool) (cells : List LvCell) (vs : List (Option Int)) : List LvCell :=
  (cells.zip (List.range cells.length)).map (fun e =>
    ((vs.drop (scale * e.2)).take scale).foldl (fun x v => match v with | some v => x.add v dev | none => x) e.1)

/-- The index of a cell (R244). -/
def Dev.lvIndex (d : Dev) (c : Nat) (x : LvCell) : Byte :=
  if x.m = 0 then BitVec.ofNat 8 (d.nat (Obj.lvNoData c))
  else
    let v : Int := if d.nat (Obj.lvDecimate c) = 1 then x.ext else (2 * x.sum + x.m) / (2 * x.m)
    BitVec.ofNat 8 (clamp (((v - d.int (Obj.lvBlack c)) * d.int (Obj.lvGain c) + 32768) / 65536) 0 255).toNat

/-- The values of LvSource over a channel's pixels of one line (R243, R244). -/
def Dev.lvValues (d : Dev) (c : Nat) (l : RingLine) : List (Option Int) :=
  let src := d.nat (Obj.lvSource c)
  let first := d.nat (Obj.lvCdFirst c)
  let n := d.nat (Obj.lvCdLast c) + 1 - first
  let plane := l.planes.getD (src / 2) []
  let both := ((plane.zip l.valid).drop first).take n
  both.map (fun e => if e.2 then some (if src % 2 = 0 then (e.1.1 : Int) else e.1.2) else none)

/-! ## Tiles (R245, R247) -/

/-- The tile header of R247. -/
def LvBand.tileHeader (b : LvBand) (c x cols : Nat) (backfill : Bool) : Bytes :=
  packLE 32 [(b.firstLix, 64), (x, 16), (b.rows.length, 16), (cols, 16), (b.mdScale, 8), (b.cdScale, 8),
    ((b.cdFirst + 256 * x * b.cdScale) * b.pitch, 32), (b.pitch * b.cdScale, 32), (b.format, 4), (b2n b.partialBand, 1),
    (b2n b.missing, 1), (b.view, 2), (c, 6), (b2n backfill, 1), (0, 49)]

/-- The compressor with the fewest bytes waiting (R386). -/
def Dev.tileCompressor (d : Dev) : Nat :=
  let waiting (e : Nat) := sumN (d.host.chans.map (fun h => match h.cur with
    | some q => if q.op = 1 ∧ q.engine = e then h.total - h.inDone else 0
    | none => 0))
  let least := (List.range 4).foldl (fun m e => min m (waiting e)) (waiting 0)
  ((List.range 4).find? (fun e => waiting e == least)).getD 0

/-- Count the blocks that a compressor wrote (R388). -/
def Dev.countBlocks (d : Dev) (e : Nat) (blocks : List (Nat × Bytes)) : Dev :=
  ((d.bumpBy (Obj.cmpBytesOut e) (sumN (blocks.map (fun k => k.2.length))) 64).bumpBy (Obj.cmpBlocksStored e)
    (blocks.filter (fun k => k.1 == 0)).length 64).bumpBy (Obj.cmpBlocksRun e) (blocks.filter (fun k => k.1 == 2)).length 64

/-- One tile of a released band as a Stall item; with LvCompress its pixels are one QPK stream (R247, R386). -/
def Dev.tile (d : Dev) (c : Nat) (b : LvBand) (x : Nat) (backfill : Bool) : Dev × StallItem :=
  let bpp := if b.format = 1 then 3 else 1
  let cols := min 256 (b.width - 256 * x)
  let pixels := b.rows.flatMap (fun r => slice r (256 * x * bpp) (cols * bpp))
  let head := b.tileHeader c x cols backfill
  let zip := d.flag (Obj.lvCompress c)
  let blocks := if zip then compressAll 65536 (pixels.length + 1) pixels else []
  let body := if zip then blocks.flatMap (fun k => k.2) else pixels
  let d := if zip then
      let e := d.tileCompressor
      ((d.bump (Obj.cmpTiles e) 64).bumpBy (Obj.cmpBytesIn e) pixels.length 64).countBlocks e blocks
    else d
  (d, { kind := 3, view := b.view, channel := c, key := b.number % 2 ^ 32, compressed := zip,
        object := head ++ body, stamp := some b.stamp, epoch := b.epoch, sent := 0, run := 0 })

/-- The tiles of a band. -/
def Dev.tiles (d : Dev) (c : Nat) (b : LvBand) (backfill : Bool) : Dev × List StallItem :=
  (List.range (ceilDiv b.width 256)).foldl (fun (acc : Dev × List StallItem) x =>
    let (d, i) := acc.1.tile c b x backfill
    (d, acc.2 ++ [i])) (d, [])

/-- A Stall takes the tiles of a channel (R249). -/
def Dev.takesTiles (d : Dev) (s c : Nat) : Bool := bit (d.nat (Obj.stallContent s)) 2 && bit (d.nat (Obj.lvMask s)) c

/-! ## Outlines (R246) -/

/-- Whether an output pixel lies on the border of a rectangle. -/
def onBorder (x0 x1 y0 y1 x y : Int) : Bool :=
  decide (x0 ≤ x ∧ x ≤ x1 ∧ y0 ≤ y ∧ y ≤ y1) && (x == x0 || x == x1 || y == y0 || y == y1)

/-- OverlayMode selects the record (R246). -/
def Dev.overlaid (d : Dev) (c reason cls : Nat) : Bool :=
  let mode := d.nat (Obj.overlayMode c)
  mode == 1 || (mode == 2 && reason == 0 && bit (d.nat (Obj.overlayClassMask c)) cls)

/-- The outline overlaps a range of LIX. -/
def Outline.meets (o : Outline) (first last : Nat) : Bool := decide (first ≤ o.last ∧ o.first ≤ last)

/-- The LIX from which on bands are still to be released. -/
def LvChan.shownTo (x : LvChan) : Nat := match x.shown.getLast? with | some r => r.2 + 1 | none => 0

/-- A released band covers LIX `first` to `last`. -/
def LvChan.show (x : LvChan) (first last : Nat) : LvChan :=
  let shown := match x.shown.getLast? with
    | some r => if r.2 + 1 = first then x.shown.dropLast ++ [(r.1, last)] else x.shown ++ [(first, last)]
    | none => [(first, last)]
  { x with shown := shown, outlines := x.outlines.filter (fun o => decide (last < o.last)) }

/-- The rows of a band as pixel bytes, with its outlines (R244, R246). -/
def Dev.lvPixels (d : Dev) (c : Nat) (b : LvBand) (outlines : List Outline) : List (List Byte) :=
  let md : Nat := d.nat (Obj.mdScale c)
  let cd : Int := d.nat (Obj.cdScale c)
  let first : Int := d.nat (Obj.lvCdFirst c)
  let value := d.nat (Obj.overlayValue c)
  let pal := (d.bytes (Obj.lvPalette c)).toArray
  let rgb := d.nat (Obj.lvFormat c) == 1
  let rects := outlines.map (fun o =>
    (((o.cdFirst : Int) - first) / cd, ((o.cdLast : Int) - first) / cd, ((o.first / md : Nat) : Int), ((o.last / md : Nat) : Int)))
  (b.rows.zip (List.range b.rows.length)).map (fun r =>
    let y : Int := (b.firstLix / md + r.2 : Nat)
    (r.1.zip (List.range r.1.length)).flatMap (fun p =>
      let marked := rects.any (fun q => onBorder q.1 q.2.1 q.2.2.1 q.2.2.2 p.2 y)
      if rgb then
        (if marked then [BitVec.ofNat 8 (value / 65536), BitVec.ofNat 8 (value / 256), BitVec.ofNat 8 value]
         else (List.range 3).map (fun k => pal.getD (3 * p.1.toNat + k) 0))
      else [if marked then BitVec.ofNat 8 value else p.1]))

/-- Pixels of a released band take LvNoData (R335): in RGB8 the colour that the palette gives that index. `hit` is asked by row
and column, as row · 2^20 + column. -/
def Dev.losePixels (d : Dev) (c : Nat) (b : LvBand) (hit : Nat → Bool) : LvBand :=
  let none' := d.nat (Obj.lvNoData c)
  let pal := d.bytes (Obj.lvPalette c)
  { b with rows := (b.rows.zip (List.range b.rows.length)).map (fun r =>
      (r.1.zip (List.range r.1.length)).map (fun px =>
        let col := if b.format = 1 then px.2 / 3 else px.2
        if ! hit (r.2 * 2 ^ 20 + col) then px.1
        else if b.format = 1 then pal.getD (3 * none' + px.2 % 3) 0
        else BitVec.ofNat 8 none')) }

/-- The number of bytes that a released band takes in the history. -/
def LvBand.bytes (b : LvBand) : Nat := sumN (b.rows.map List.length)

/-- Keep a released band in the history, on port 6 (R247, R327); pixels that fall on lost blocks are not kept (R338). -/
def Dev.keepBand (d : Dev) (c : Nat) (b : LvBand) : Dev :=
  let kept := if d.nat (Obj.regionState 2) = 2 then
      d.losePixels c b (fun px => d.landsLost 2 (128 + c) b.number px)
    else b
  (d.updLv c (fun x => { x with history := keepLast (d.nat (Obj.lvHistory c)) (x.history ++ [kept]) })).hbmTraffic 6 2 0 c b.number
    b.bytes true

/-- Release a band (R245 to R247, BAND_RELEASE): outlines drawn, tiles cut and offered, the band kept in the history. -/
def Dev.releaseBand (d : Dev) (c : Nat) (b : LvBand) : Dev :=
  let md := d.nat (Obj.mdScale c)
  let x := d.lvChan c
  let last := b.firstLix + md * b.rows.length - 1
  let shownOn := x.outlines.filter (fun o => o.meets b.firstLix last && d.overlaid c o.reason o.cls)
  let v := d.nat (Obj.lvView c)
  let b := { b with
    rows := d.lvPixels c b shownOn, format := d.nat (Obj.lvFormat c), view := v, cdFirst := d.nat (Obj.lvCdFirst c),
    cdScale := d.nat (Obj.cdScale c), mdScale := md, pitch := d.nat (Obj.webPitch v), width := d.lvWidth c }
  let d := (d.updLv c (fun x => x.show b.firstLix last)).keepBand c b
  let (d, ts) := d.tiles c b false
  let d := match ts.getLast? with
    | some t => d.putB (Obj.lastTileHeader c) (t.object.take 32)
    | none => d
  let d := d.bumpBy (Obj.tilesOut c) ts.length 64
  ts.foldl (fun d t => d.stallsOpen.foldl (fun d s => d.offer s (d.takesTiles s c) t) d) d

/-- Release the bands of a channel that are due: complete and held long enough, oldest first. -/
def Dev.releaseDue (d : Dev) (c : Nat) : (fuel : Nat) → Dev
  | 0 => d
  | fuel + 1 => match (d.lvChan c).bands with
    | b :: rest =>
      if b.complete && b.hold == 0 then ((d.updLv c (fun x => { x with bands := rest })).releaseBand c b).releaseDue c fuel
      else d
    | [] => d

/-- Complete the band under collection, if it has rows (R245). -/
def Dev.completeBand (d : Dev) (c : Nat) (partialBand : Bool) (hold : Nat) : Dev :=
  d.updLv c (fun x => match x.bands.getLast? with
    | some b =>
      if b.complete then x
      else { x with bands := x.bands.dropLast ++ [{ b with complete := true, partialBand := partialBand, hold := hold }] }
    | none => x)

/-- A row is formed of the lines that it got (R244, R245). -/
def Dev.lvRow (d : Dev) (c : Nat) : Dev :=
  let x := d.lvChan c
  let row := x.cells.map (d.lvIndex c)
  let fresh : Dev × LvBand :=
    let st := d.hitStamp (d.viewLcg (d.nat (Obj.lvView c))) x.rowLix
    (d, { number := x.nextBand, firstLix := x.rowLix, rows := [], started := d.now, partialBand := false, missing := false,
          complete := false, hold := 0, stamp := st.1, epoch := st.2.1, format := 0, view := 0, cdFirst := 0, cdScale := 0, mdScale := 0, pitch := 0, width := 0 })
  let (bands, b, next) := match x.bands.getLast? with
    | some b => if b.complete then (x.bands, fresh.2, x.nextBand + 1) else (x.bands.dropLast, b, x.nextBand)
    | none => ([], fresh.2, x.nextBand + 1)
  let b := { b with rows := b.rows ++ [row], missing := b.missing || x.rowMiss }
  let d := d.updLv c (fun x => { x with
    bands := bands ++ [b], nextBand := next, cells := [], rowLines := 0, rowMiss := false })
  if b.rows.length = 256 then d.completeBand c false (d.nat (Obj.overlayHold c)) else d

/-- Line `n` is the first after lines that the segmenter did not take (SegEnable was 0): the row under formation ends with the lines
it got, and a band that the row of `n` does not adjoin ends Partial (log entry 71). -/
def Dev.lvGap (d : Dev) (c n : Nat) : Dev :=
  let md := d.nat (Obj.mdScale c)
  let d := if (d.lvChan c).rowLines ≠ 0 ∧ (d.lvChan c).rowLix ≠ n / md * md then d.lvRow c else d
  match (d.lvChan c).bands.getLast? with
  | some b =>
    if ! b.complete ∧ (d.lvChan c).rowLines = 0 ∧ b.firstLix + md * b.rows.length ≠ n / md * md then
      d.completeBand c true (d.nat (Obj.overlayHold c))
    else d
  | none => d

/-- The reducer takes one segmented line (R243 to R245). -/
def Dev.lvLine (d : Dev) (c : Nat) (l : RingLine) (missing : Bool) : Dev :=
  let n := l.lix
  let md := d.nat (Obj.mdScale c)
  let d := d.lvGap c n
  let d := d.updLv c (fun x => { x with
    bands := x.bands.map (fun b => if b.complete then { b with hold := b.hold - 1 } else b) })
  let d :=
    if n < d.nat (Obj.lvFirstLix c) then d
    else
      let x := d.lvChan c
      let start := x.rowLines == 0
      let cells := if start then List.replicate (d.lvWidth c) { sum := 0, m := 0, ext := 0 } else x.cells
      let cells := lvAdd (d.nat (Obj.cdScale c)) (d.nat (Obj.lvSource c) % 2 == 1) cells (d.lvValues c l)
      let d := d.updLv c (fun x => { x with
        cells := cells, rowLines := x.rowLines + 1, rowLix := if start then n / md * md else x.rowLix,
        rowMiss := x.rowMiss || missing })
      if n % md = md - 1 then d.lvRow c else d
  d.releaseDue c ((d.lvChan c).bands.length)

/-- LV_FLUSH: a band completes LvFlush ms after its first row (R245). -/
def Dev.lvFlushDue (d : Dev) (c : Nat) : Dev :=
  match (d.lvChan c).bands.getLast? with
  | some b =>
    if ! b.complete && decide (b.started + d.nat (Obj.lvFlush c) * 1000000 ≤ d.now) then
      let d := d.completeBand c true (d.nat (Obj.overlayHold c))
      d.releaseDue c ((d.lvChan c).bands.length)
    else d
  | none => d

/-- When the View stops every band is released at once (R245). -/
def Dev.lvViewStop (d : Dev) (v : Nat) : Dev :=
  (d.lvChannels v).foldl (fun d c =>
    let d := d.completeBand c true 0
    let d := d.updLv c (fun x => { x with
      bands := x.bands.map (fun b => { b with hold := 0 }), cells := [], rowLines := 0, rowMiss := false })
    d.releaseDue c ((d.lvChan c).bands.length)) d

/-- A released record's outline on the channels of its View (R246). -/
def Dev.lvOutline (d : Dev) (k : Cand) (r : ClsRes) : Dev :=
  if k.terminating || k.lines == 0 then d
  else (d.lvChannels k.view).foldl (fun d c =>
    let o : Outline :=
      { cdFirst := k.cdFirst, cdLast := k.cdLast, first := k.firstLix, last := k.firstLix + k.lines - 1, reason := r.reason, cls := r.cls }
    if ! decide (k.cdFirst ≤ d.nat (Obj.lvCdLast c) ∧ d.nat (Obj.lvCdFirst c) ≤ k.cdLast) then d
    else
      let x := d.lvChan c
      let d := if x.shownTo ≤ o.last then d.updLv c (fun x => { x with outlines := x.outlines ++ [o] }) else d
      if d.overlaid c r.reason r.cls && x.shown.any (fun s => o.meets s.1 s.2) then
        let d := d.bump (Obj.overlayMissed c) 64
        d.logRep 0x07 sevInfo 0x0005 c (fun _ => [.f c, .w (d.nat (Obj.overlayMissed c))])
      else d) d

/-! ## Enabling (R243, R331) -/

/-- The load of one channel in samples per second (R243). -/
def Dev.lvRate (d : Dev) (c : Nat) : Nat :=
  (d.nat (Obj.lvCdLast c) + 1 - d.nat (Obj.lvCdFirst c)) *
    maxN ((d.viewPorts (d.nat (Obj.lvView c))).map (fun p => d.nat (Obj.maxLineRate p)))

/-- The enabled channels keep the limit of R243. -/
def Dev.lvLoadFits (d : Dev) : Bool :=
  decide (sumN ((List.range 64).map (fun k => if d.flag (Obj.lvEnable k) then d.lvRate k else 0)) ≤ 72000000000)

/-- The load of the enabled channels, with channel `c` counted. -/
def Dev.lvLoadWith (d : Dev) (c : Nat) : Nat :=
  sumN ((List.range 64).map (fun k => if k = c ∨ d.flag (Obj.lvEnable k) then d.lvRate k else 0))

/-- The history of one channel in bytes (R331). -/
def Dev.lvHistoryBytes (d : Dev) (c : Nat) : Nat :=
  d.nat (Obj.lvHistory c) * 256 * d.lvWidth c * (if d.nat (Obj.lvFormat c) = 1 then 3 else 1)

/-- The histories of the enabled channels, with channel `c` counted, fit the live-view region (R331). -/
def Dev.lvHistoryFits (d : Dev) (c : Nat) : Bool :=
  decide (sumN ((List.range 64).map (fun k => if k = c ∨ d.flag (Obj.lvEnable k) then d.lvHistoryBytes k else 0)) ≤
    d.nat (Obj.regionSize 2) * 2 ^ 20)

/-- The rules of R243, R244 and R331 on an enabled channel. -/
def Dev.lvOk (d : Dev) (c : Nat) : Bool :=
  let v := d.nat (Obj.lvView c)
  decide (d.nat (Obj.lvCdFirst c) ≤ d.nat (Obj.lvCdLast c) ∧ d.nat (Obj.lvCdLast c) < d.nat (Obj.viewWidth v)) &&
    (d.nat (Obj.viewOutPlanes v) == 2 || decide (d.nat (Obj.lvSource c) < 2)) &&
    decide (d.lvLoadWith c ≤ 72000000000) && d.lvHistoryFits c

/-- A channel starts or stops: nothing is collected, and the released bands that it keeps stay (R247; log entry 45). -/
def LvChan.restart (x : LvChan) : LvChan := { LvChan.reset with history := x.history, nextBand := x.nextBand }

/-- A write of LvEnable (R243). -/
def Dev.writeLvEnable (d : Dev) (c : Nat) (on : Bool) : Dev × RCode :=
  if on = d.flag (Obj.lvEnable c) then (d, .ok)
  else if on then
    if ! d.lvOk c then (d, .range)
    else
      let md := d.nat (Obj.mdScale c)
      let g := d.viewLcg (d.nat (Obj.lvView c))
      let first := (d.nat (Obj.nextLix g) + md - 1) / md * md
      let d := (d.putF (Obj.lvEnable c) true).putN (Obj.lvFirstLix c) first
      (d.updLv c LvChan.restart, .ok)
  else
    ((d.putF (Obj.lvEnable c) false).updLv c LvChan.restart, .ok)

end Sys2Proof.Machine
end

