-- ==== Sys2Proof/Machine/Model.lean ====
section
/-! DEFINITION. Model images (R211 to R214), their checks (R216), the shell's arithmetic (R217 to R220), and the figures
of a slot (R225, R226). -/

namespace Sys2Proof.Machine

/-- A layer descriptor (R213). -/
structure Layer where
  op        : Nat
  src       : Nat
  inW       : Nat
  inH       : Nat
  inC       : Nat
  kh        : Nat
  kw        : Nat
  stride    : Nat
  pad       : Nat
  n         : Nat
  act       : Nat
  shift     : Nat
  reqShift  : Nat
  reqMul    : Nat
  firstTile : Nat
  bias      : Nat
  deriving DecidableEq, Repr

/-- A tile entry with its placements (R214): logical array and bank. -/
structure Tile where
  layer  : Nat
  row    : Nat
  col    : Nat
  rows   : Nat
  cols   : Nat
  offset : Nat
  places : List (Nat × Nat)
  deriving DecidableEq, Repr

/-- A model image (R211, R212). `places` are the placement words as they stand. -/
structure Image where
  magic    : Nat
  format   : Nat
  modelId  : Nat
  version  : Nat
  classes  : Nat
  inW      : Nat
  inH      : Nat
  channels : Nat
  mac      : Nat
  length   : Nat
  signer   : Nat
  inputs   : List (Int × Nat × Nat)
  layers   : List Layer
  tiles    : List Tile
  places   : List Nat
  deriving DecidableEq, Repr

def parseLayer (b : Bytes) : Layer :=
  { op := leAt b 0 1, src := leAt b 1 1, inW := leAt b 2 2, inH := leAt b 4 2, inC := leAt b 6 2, kh := leAt b 8 1,
    kw := leAt b 9 1, stride := leAt b 10 1, pad := leAt b 11 1, n := leAt b 12 2, act := field (leAt b 14 1) 0 4,
    shift := field (leAt b 14 1) 4 4, reqShift := leAt b 15 1, reqMul := leAt b 16 2, firstTile := leAt b 18 2,
    bias := leAt b 20 4 }

def parseTile (places : List Nat) (b : Bytes) (t : Nat) : Tile :=
  { layer := leAt b 0 2, row := leAt b 2 2, col := leAt b 4 2, rows := leAt b 6 2, cols := leAt b 8 2,
    offset := leAt b 12 4,
    places := (places.filter (fun p => field p 0 16 == t)).map (fun p => (field p 16 6, field p 22 1)) }

/-- The image that a byte string lays out (R211); counts above 128 are refused, so they are read as 129. -/
def parseImage (b : Bytes) : Image :=
  let layers := leAt b 12 1
  let tiles := leAt b 14 2
  let nPlaces := leAt b 16 2
  let lBase := 96
  let tBase := lBase + 32 * layers
  let pBase := tBase + 16 * tiles
  let places := (List.range (min 129 nPlaces)).map (fun i => leAt b (pBase + 4 * i) 4)
  { magic := leAt b 0 4, format := leAt b 4 2, modelId := leAt b 6 2, version := leAt b 8 4, classes := leAt b 13 1,
    inW := leAt b 18 2, inH := leAt b 20 2, channels := field (leAt b 22 2) 0 4, mac := leAt b 24 8, length := leAt b 32 4,
    signer := leAt b 36 8,
    inputs := (List.range 4).map (fun i =>
      (toSigned 32 (leAt b (64 + 8 * i) 4), leAt b (68 + 8 * i) 2, leAt b (70 + 8 * i) 1)),
    layers := (List.range layers).map (fun i => parseLayer (slice b (lBase + 32 * i) 32)),
    tiles := (List.range (min 129 tiles)).map (fun i => parseTile places (slice b (tBase + 16 * i) 16) i), places := places }

/-- The input channels of an image. -/
def Image.nch (m : Image) : Nat := popcount m.channels 4

/-- Output width for an input width, or height for a height (R213); 0 where the window exceeds the padded input. -/
def Layer.outDim (l : Layer) (size k : Nat) : Nat := if size + 2 * l.pad < k ∨ l.stride = 0 then 0 else (size + 2 * l.pad - k) / l.stride + 1
def Layer.outW (l : Layer) : Nat := l.outDim l.inW l.kw
def Layer.outH (l : Layer) : Nat := l.outDim l.inH l.kh
def Layer.positions (l : Layer) : Nat := l.outW * l.outH
/-- The rows K of an MVP layer (R213). -/
def Layer.k (l : Layer) : Nat := l.kh * l.kw * l.inC

/-- The fields of one layer within their ranges, and its input that of its source (R213, R216). Reserved fields are ignored (R15). -/
def Image.layerOk (m : Image) (i : Nat) (l : Layer) : Bool :=
  decide (l.op ≤ 2 ∧ 1 ≤ l.kh ∧ 1 ≤ l.kw ∧ 1 ≤ l.stride ∧ l.stride ≤ 16 ∧ l.pad ≤ 8 ∧ 1 ≤ l.n ∧ l.n ≤ 4096) &&
  decide (0 < l.positions) &&
  (if l.src = 0xFF then decide (l.inW = m.inW ∧ l.inH = m.inH ∧ l.inC = m.nch)
   else decide (l.src < i) && (match m.layers[l.src]? with
     | some q => decide (l.inW = q.outW ∧ l.inH = q.outH ∧ l.inC = q.n)
     | none => false)) &&
  decide (l.act ≤ 2 ∧ l.shift ≤ 14 ∧ 1 ≤ l.reqShift ∧ l.reqShift ≤ 31) &&
  (if l.op = 0 then decide (l.bias + 4 * l.n + 3309 ≤ m.length) else l.bias == 0 && l.n == l.inC)

/-- The RANGE conditions on fields, sources and offsets (R216, third row). -/
def Image.fieldsOk (m : Image) : Bool :=
  decide (1 ≤ m.layers.length ∧ m.layers.length ≤ 32 ∧ 1 ≤ m.tiles.length ∧ m.tiles.length ≤ 128 ∧ 1 ≤ m.places.length ∧
    m.places.length ≤ 128 ∧ 1 ≤ m.classes ∧ m.classes ≤ 64 ∧ 16 ≤ m.inW ∧ m.inW ≤ 256 ∧ 16 ≤ m.inH ∧ m.inH ≤ 256 ∧
    m.channels ≠ 0) &&
  (m.inputs.zip (List.range 4)).all (fun e =>
    if e.2 < m.nch then decide (1 ≤ e.1.2.2 ∧ e.1.2.2 ≤ 31) else e.1 == (0, 0, 0)) &&
  (m.layers.zip (List.range m.layers.length)).all (fun e => m.layerOk e.2 e.1) &&
  m.tiles.all (fun t => decide (t.layer < m.layers.length ∧ 1 ≤ t.rows ∧ t.rows ≤ 512 ∧ 1 ≤ t.cols ∧
    t.cols ≤ 512 ∧ t.offset + t.rows * t.cols + 3309 ≤ m.length)) &&
  m.places.all (fun p => decide (field p 0 16 < m.tiles.length))

/-- The tiles of one layer, with their numbers. -/
def Image.tilesOf (m : Image) (i : Nat) : List (Tile × Nat) :=
  (m.tiles.zip (List.range m.tiles.length)).filter (fun e => e.1.layer == i)

/-- The tiles of a layer are exactly those of its grid (R216); a pooling layer has none. -/
def Image.tilesOk (m : Image) (i : Nat) (l : Layer) : Bool :=
  let ts := m.tilesOf i
  if l.op ≠ 0 then ts.isEmpty
  else
    let nr := ceilDiv l.k 512
    let nc := ceilDiv l.n 512
    (ts.length == nr * nc) && (match ts.head? with | some t => t.2 == l.firstTile | none => false) &&
    (List.range nr).all (fun r => (List.range nc).all (fun c =>
      ((ts.filter (fun t => t.1.row == r && t.1.col == c)).map (fun t => (t.1.rows, t.1.cols))) ==
        [(min 512 (l.k - 512 * r), min 512 (l.n - 512 * c))]))

/-- No element twice. -/
def noRepeats {α : Type} [DecidableEq α] : List α → Bool
  | [] => true
  | x :: xs => ! xs.contains x && noRepeats xs

/-- The placement rules of R216. -/
def Image.placesOk (m : Image) : Bool :=
  m.tiles.all (fun t => decide (2 ≤ t.places.length) && noRepeats (t.places.map (fun p => p.1))) &&
    noRepeats (m.places.map (fun p => (field p 16 6, field p 22 1)))

/-- The head (R216). -/
def Image.headOk (m : Image) : Bool :=
  match m.layers.getLast? with
  | some l => l.op == 0 && l.n == m.classes && l.positions == 1
  | none => false

/-- The result of loading an image with `active` arrays (R216), the signature judged by `signed`. -/
def Image.check (m : Image) (signed : Bool) (active : Nat) : RCode :=
  if m.magic ≠ 0x4D445053 ∨ m.format ≠ 1 ∨ 50331648 < m.length ∨ m.length < 3405 then .integrity
  else if ! signed then .integrity
  else if ! m.fieldsOk then .range
  else if ! (m.layers.zip (List.range m.layers.length)).all (fun e => m.tilesOk e.2 e.1) then .range
  else if ! m.placesOk then .range
  else if ! m.headOk then .range
  else if m.places.any (fun p => decide (active ≤ field p 16 6)) then .state
  else .ok

/-! ## The shell (R217 to R220) -/

/-- Little-endian 16-bit words. -/
def words16 : Bytes → List Nat
  | a :: b :: t => (a.toNat + 256 * b.toNat) :: words16 t
  | _ => []

/-- The channels of a mask in ascending bit order; odd bits are deviations (R200). -/
def maskBits (m : Nat) : List Nat := (List.range 4).filter (bit m)

/-- The input tensor of a patch (R217), indexed (y × W + x) × C + channel. -/
def Image.input (m : Image) (patch : Bytes) : List Int :=
  let ws := (words16 patch).toArray
  let area := m.inW * m.inH
  let chans := (maskBits m.channels).zip (List.range 4)
  (List.range area).flatMap (fun p => chans.map (fun ch =>
    let raw := ws.getD (ch.2 * area + p) 0
    let v : Int := if ch.1 % 2 = 1 then toSigned 16 raw else raw
    let (bias, mul, shift) := m.inputs.getD ch.2 (0, 0, 1)
    clamp (asr ((v - bias) * mul + 2 ^ (shift - 1)) shift) (-128) 127))

/-- An element of a layer's input, none out of bounds. -/
def Layer.inAt (l : Layer) (inp : Array Int) (iy ix : Int) (c : Nat) : Option Int :=
  if 0 ≤ iy ∧ iy < l.inH ∧ 0 ≤ ix ∧ ix < l.inW then some (inp.getD ((iy.toNat * l.inW + ix.toNat) * l.inC + c) 0) else none

/-- `vec` of R218 at an output position. -/
def Layer.vec (l : Layer) (inp : Array Int) (pos : Nat) : List Int :=
  let oy : Int := (pos / l.outW * l.stride : Nat)
  let ox : Int := (pos % l.outW * l.stride : Nat)
  (List.range l.k).map (fun r =>
    let c := r % l.inC
    let kx := r / l.inC % l.kw
    let ky := r / l.inC / l.kw
    (l.inAt inp (oy - l.pad + ky) (ox - l.pad + kx) c).getD 0)

/-- One output of an MVP layer from its accumulated codes (R218). -/
def Layer.requant (l : Layer) (head : Bool) (acc bias : Int) : Int :=
  let a := acc * (2 ^ l.shift : Nat) + bias
  let z := asr (a * l.reqMul + 2 ^ (l.reqShift - 1)) l.reqShift
  if head then clamp z (-32768) 32767
  else clamp (if l.act = 1 then max z 0 else if l.act = 2 ∧ z < 0 then asr z 3 else z) (-128) 127

/-- A pooling layer (R219); a window wholly in the padding gives 0. -/
def Layer.pool (l : Layer) (inp : Array Int) : List Int :=
  (List.range l.positions).flatMap (fun pos => (List.range l.n).map (fun c =>
    let oy : Int := (pos / l.outW * l.stride : Nat)
    let ox : Int := (pos % l.outW * l.stride : Nat)
    let vs := (List.range (l.kh * l.kw)).filterMap (fun k =>
      l.inAt inp (oy - l.pad + (k / l.kw : Nat)) (ox - l.pad + (k % l.kw : Nat)) c)
    match vs with
    | [] => 0
    | v :: rest =>
      if l.op = 1 then rest.foldl max v else (2 * sumI vs + vs.length) / (2 * vs.length)))

/-- Floor of the square root: Newton's steps from above. -/
def isqrtGo (n : Nat) : (fuel x : Nat) → Nat
  | 0, x => x
  | fuel + 1, x =>
    let y := (x + n / x) / 2
    if x ≤ y then x else isqrtGo n fuel y

def isqrt (n : Nat) : Nat := if n = 0 then 0 else isqrtGo n (2 * n.log2 + 4) (2 ^ (n.log2 / 2 + 1))

/-- T of R220: 65,536 × 2^(−d/256) rounded, exact; 2T − 1 is at most the 256th root of 2^(4352 − d). -/
def expTable (d : Nat) : Nat := (Nat.repeat isqrt 8 (2 ^ (4352 - d)) + 1) / 2

/-- The index of the largest score other than `skip`, ties to the lower index. -/
def bestScore (zs : List Int) (skip : Option Nat) : Option Nat :=
  ((zs.zip (List.range zs.length)).filter (fun e => some e.2 != skip)).foldl (fun (acc : Option Nat) e => match acc with
    | none => some e.2
    | some b => if zs.getD b 0 < e.1 then some e.2 else some b) none

/-- Class, Class2, Confidence, Confidence2 of the scores (R220). -/
def scoreClasses (zs : List Int) : Nat × Nat × Nat × Nat :=
  match bestScore zs none with
  | none => (0, 0, 0, 0)
  | some a =>
    let za := zs.getD a 0
    let t (z : Int) : Nat := if za - z < 4096 then expTable (za - z).toNat else 0
    let s := sumN (zs.map t)
    let conf := (65535 * 65536 + s / 2) / s
    match bestScore zs (some a) with
    | none => (a, 0, conf, 0)
    | some b =>
      let tb := t (zs.getD b 0)
      (a, b, conf, if tb = 0 then 0 else (tb * 65535 + s / 2) / s)

/-! ## Figures of an image (R225, R226) -/

/-- A sum of fractions as a fraction. -/
def addFractions (fs : List (Nat × Nat)) : Nat × Nat :=
  fs.foldl (fun acc f => (acc.1 * f.2 + f.1 * acc.2, acc.2 * f.2)) (0, 1)

/-- Whether a logical array is served. -/
abbrev Served := Nat → Bool

/-- The load of one logical array in 1/256 MVP, rounded up; only placements on served arrays count (R225). -/
def Image.load (m : Image) (served : Served) (logical : Nat) : Nat :=
  let fs := m.tiles.filterMap (fun t =>
    let live := t.places.filter (fun p => served p.1)
    if live.any (fun p => p.1 == logical) then
      some (((m.layers[t.layer]?).map Layer.positions).getD 0, live.length)
    else none)
  let (n, k) := addFractions fs
  ceilDiv (256 * n) k

/-- ModelMaxLoad. -/
def Image.maxLoad (m : Image) (served : Served) : Nat := maxN ((List.range 64).map (m.load served))

/-- ModelRate from ModelMaxLoad (R225). -/
def rateOf (maxLoad : Nat) : Nat := if maxLoad = 0 then 0 else min 0xFFFFFFFF (4096000000 / maxLoad)

/-- ModelLatency (R226). -/
def Image.latency (m : Image) : Nat :=
  120 + ceilDiv (16 * (m.inW * m.inH * m.nch * 2)) 1024 +
    sumN ((m.layers.zip (List.range m.layers.length)).map (fun e =>
      if e.1.op ≠ 0 then 200
      else
        let ts := m.tilesOf e.2
        200 + 50 * ceilDiv (e.1.positions * ts.length) (sumN (ts.map (fun t => t.1.places.length)))))

end Sys2Proof.Machine
end

