-- ==== Sys2Proof/Machine/Classify.lean ====
section
/-! DEFINITION. The classifier (chapter 08): arrays, checksums, re-runs and retirement, requests and results, model
slots. -/

namespace Sys2Proof.Machine

def Dev.arr (d : Dev) (a : Nat) : ArrayUnit := d.cls.arrays.getD a (ArrayUnit.reset a)
def Dev.updArr (d : Dev) (a : Nat) (f : ArrayUnit → ArrayUnit) : Dev :=
  d.updCls (fun x => { x with arrays := x.arrays.modify a f })
def Dev.slot (d : Dev) (m : Nat) : ModelSlot := d.cls.slots.getD m ModelSlot.reset
def Dev.updSlot (d : Dev) (m : Nat) (f : ModelSlot → ModelSlot) : Dev :=
  d.updCls (fun x => { x with slots := x.slots.modify m f })
def Dev.flights (d : Dev) (v : Nat) : List Flight := d.cls.flights.getD v []

/-! ## Arrays in dispatch (R206, R223, R262) -/

/-- Being calibrated, so out of dispatch (R262). -/
def Dev.borrowed (d : Dev) (a : Nat) : Bool := d.cal.current.any (fun c => c.array == a)

def Dev.inDispatch (d : Dev) (a : Nat) : Bool := (d.arr a).state == 1 && ! d.borrowed a

/-- The array that holds a logical number. -/
def Dev.arrayOf (d : Dev) (logical : Nat) : Option Nat :=
  (List.range 72).find? (fun a => (d.arr a).logical == logical && ((d.arr a).state == 1 || (d.arr a).state == 3))

/-- A logical number is served by some array in state 1 or 3. -/
def Dev.served (d : Dev) (logical : Nat) : Bool := (d.arrayOf logical).isSome

/-- ActiveArrays and SpareArrays (R233). -/
def Dev.activeArrays (d : Dev) : Nat := (d.cls.arrays.filter (fun x => x.state == 1 || x.state == 3)).length
def Dev.spareArrays (d : Dev) : Nat := (d.cls.arrays.filter (fun x => x.state == 2)).length

/-! ## Model slots in use (R231) -/

/-- The image programmed in a slot. -/
def Dev.image (d : Dev) (m : Nat) : Image := parseImage (d.slot m).image

/-- The records that carry a model and have not left (R231). -/
def Dev.modelRecords (d : Dev) (m : Nat) : Nat :=
  sumN ((List.range 4).map (fun v =>
    ((d.sg v).waiting.filter (fun w => w.cand.model == m)).length + ((d.flights v).filter (fun f => f.cand.model == m)).length))

/-- A list of entries names slot `m` as the ModelSel of View `v`. -/
def selNames (v m : Nat) (es : List (Nat × Val)) : Bool := es.any (fun e => e.1 == Obj.modelSel v && e.2 == .n m)

/-- View `v` names slot `m`: in force, in a pending commit or in a shadow (R231). -/
def Dev.viewNames (d : Dev) (v m : Nat) : Bool :=
  d.nat (Obj.modelSel v) == m ||
    d.tol.groups.any (fun g => selNames v m g.shadow || g.pend.any (fun c => selNames v m c.entries))

/-- ModelUsers: the Views and records that hold a slot in use (R231). -/
def Dev.modelUsers (d : Dev) (m : Nat) : Nat :=
  ((List.range 4).filter (fun v => d.viewNames v m)).length + d.modelRecords m

/-- A slot is in use (R231). -/
def Dev.modelInUse (d : Dev) (m : Nat) : Bool := decide (0 < d.modelUsers m)

/-- The image in slot `m` fits the View's patches (R232). -/
def Dev.modelFits (d : Dev) (v m : Nat) : Bool :=
  let i := d.image m
  i.inW == d.nat (Obj.patchW v) && i.inH == d.nat (Obj.patchH v) && i.channels == d.nat (Obj.patchChannels v)

/-- ModelSel may name this (R232). -/
def Dev.modelSelOk (d : Dev) (v m : Nat) : Bool :=
  m == 0xFF || (decide (m < 2) && d.nat (Obj.modelSlotState m) == 2 && d.modelFits v m)

/-- The tiles of a slot in use or Ready that no array serves (R224). -/
def Dev.lostTiles (d : Dev) (m : Nat) : List Nat :=
  let i := d.image m
  if d.nat (Obj.modelSlotState m) ≠ 2 then []
  else (List.range i.tiles.length).filter (fun t => match i.tiles[t]? with
    | some e => e.places.all (fun p => ! d.served p.1)
    | none => false)

/-- Recompute ModelMaxLoad and ModelRate (R224, R225). -/
def Dev.refreshLoad (d : Dev) (m : Nat) : Dev :=
  if d.nat (Obj.modelSlotState m) ≠ 2 then d
  else
    let l := (d.image m).maxLoad d.served
    (d.putN (Obj.modelMaxLoad m) l).putN (Obj.modelRate m) (rateOf l)

/-- A result that is not classified (R228). -/
def noResult (c : Cand) (reason : Nat) : ClsRes :=
  { candSeq := c.candSeq, conf := 0, conf2 := 0, modelId := 0, cls := 0, cls2 := 0, view := c.view,
    slot := if c.model < 2 then c.model else 0, verified := false, reason := reason, attempts := 0, reruns := 0 }

/-- Give a record of View `v` its result. -/
def setResult (seq : Nat) (r : ClsRes) : List Flight → List Flight
  | [] => []
  | f :: fs =>
    if f.cand.candSeq = seq ∧ f.result.isNone then { f with result := some r } :: fs else f :: setResult seq r fs

def Dev.giveResult (d : Dev) (r : ClsRes) : Dev :=
  d.updCls (fun x => { x with flights := x.flights.modify r.view (setResult r.candSeq r) })

/-- A slot is unusable: every request for it, waiting or running, is reported with Reason 6 (R224). -/
def Dev.slotUnusable (d : Dev) (m : Nat) : Dev :=
  let gone := (d.cls.queue ++ d.cls.running.map (fun n => n.req)).filter (fun q => q.slot == m)
  let d := d.updCls (fun x => { x with
    queue := x.queue.filter (fun q => q.slot != m), running := x.running.filter (fun n => n.req.slot != m) })
  gone.foldl (fun d q => d.giveResult (noResult q.cand 6)) d

/-- The tiles of a slot that no array serves make it unusable, and its figures follow the arrays in service (R224, R225). -/
def Dev.judgeSlot (d : Dev) (m : Nat) : Dev :=
  let d := d.refreshLoad m
  let fresh := (d.lostTiles m).filter (fun t => ! (d.slot m).lost.contains t)
  if fresh = [] then d
  else
    let d := d.updSlot m (fun x => { x with unusable := true, lost := x.lost ++ fresh })
    (fresh.foldl (fun d t => d.log 0x06 sevFault 0x000A [.f m, .f t]) d).slotUnusable m

/-- After a change of the active set: tiles lost, loads recomputed (R224). -/
def Dev.activeSetChanged (d : Dev) : Dev := (List.range 2).foldl Dev.judgeSlot d

/-! ## Calibration requests (R269) -/

/-- The better class of two. -/
def betterClass (q : List (Nat × Nat)) (a k : Nat) : List (Nat × Nat) :=
  if q.any (fun e => e.1 == a) then q.map (fun e => if e.1 = a then (a, min e.2 k) else e) else q ++ [(a, k)]

/-- Queue a calibration of an array in a class (R269). -/
def Dev.calRequest (d : Dev) (a k : Nat) : Dev :=
  if (d.arr a).state = 4 ∨ (d.arr a).state = 0 ∨ d.borrowed a then d
  else d.updCal (fun x => { x with queue := betterClass x.queue a k })

/-! ## Retirement (R222 to R224) -/

/-- Among the attempts of an MVP, one that its array had not completed when it retired: nobody is blamed for it (R222, R223). -/
def noArray : Nat := 72

/-- The MVPs of the layer under way that still have no result, in order of position and tile. -/
def Dev.pendingMvps (d : Dev) (n : Inference) : List (Nat × Nat × Tile) :=
  let m := d.image n.req.slot
  match m.layers[n.layer]? with
  | none => []
  | some l => (List.range l.positions).flatMap (fun pos => ((m.tilesOf n.layer).filter (fun t =>
      (Tbl.get? n.done (pos * 128 + t.2)).isNone)).map (fun t => (pos, t.2, t.1)))

/-- An MVP may run on array `a`: its tile is placed there, and it did not fail there last, unless every other placement lies on a
retired array (R221). -/
def Dev.mvpFits (d : Dev) (n : Inference) (a : Nat) (e : Nat × Nat × Tile) : Bool :=
  let tried := Tbl.get n.tries (e.1 * 128 + e.2.1) []
  let here := e.2.2.places.any (fun p => p.1 == (d.arr a).logical)
  let others := e.2.2.places.any (fun p => match d.arrayOf p.1 with
    | some b => b != a
    | none => false)
  here && (tried.getLast? != some a || ! others)

/-- MVP `key` of inference number `i` is given up on an array that retires (R223). The attempt counts, and as a re-run where it was
one, unless that would leave no further attempt of the MaxAttempts of R221: then it starts again as the same attempt (log entry 67). -/
def Dev.giveUpMvp (d : Dev) (i key : Nat) : Dev :=
  match d.cls.running[i]? with
  | none => d
  | some n =>
    let tried := (Tbl.get n.tries key []).length
    if d.nat Obj.maxAttempts ≤ tried + 1 then d
    else
      let again := decide (0 < tried)
      let n := { n with tries := Tbl.upd n.tries key [] (· ++ [noArray]), reruns := n.reruns + b2n again }
      let d := d.updCls (fun x => { x with running := x.running.set i n })
      if again then d.bump Obj.reruns 64 else d

/-- Step 1 of R223: the MVPs not yet complete on an array that retires go to other placements, as further attempts. How many it has
under way at that moment depends on the dispatch, which the spec leaves open: a free number, at most the two that an array can hold
(log entry 67). -/
def Dev.giveUpMvps (d : Dev) (a : Nat) : Dev :=
  let fit := (d.cls.running.zip (List.range d.cls.running.length)).flatMap (fun e =>
    ((d.pendingMvps e.1).filter (d.mvpFits e.1 a)).map (fun m => (e.2, m.1 * 128 + m.2.1)))
  if ! d.inDispatch a then d
  else (fit.take (min 2 (Config.mvpsUnderWay a d.now))).foldl (fun d e => d.giveUpMvp e.1 e.2) d

/-- ARRAY_RETIRE (R223, R224). -/
def Dev.retireArray (d : Dev) (a : Nat) : Dev :=
  let d := d.giveUpMvps a
  let l := (d.arr a).logical
  let spare := if l = 0xFF then none else (List.range 72).find? (fun b => b != a && (d.arr b).state == 2)
  let d := d.updArr a (fun x => { x with state := 4, logical := 0xFF, unfit := false })
  let d := d.putN (Obj.retireTime a) d.stamp
  let d := d.updCal (fun x => { x with
    queue := x.queue.filter (fun e => e.1 != a), current := x.current.filter (fun c => c.array != a && some c.array != spare),
    cycle := x.cycle.filter (fun b => b != a), boot := x.boot.filter (fun b => b != a) })
  let d := ((d.bump Obj.repairsDone).putN Obj.lastRepairTime d.stamp).updPair (fun x => { x with badArrays := x.badArrays + 1 })
  let d := match spare with
    | some b => d.updArr b (fun x => { x with state := 3, logical := l })
    | none => d
  let d := d.log 0x06 sevFault 0x0006 [.f a, .f (spare.getD 0xFF), .f l] none 2
  let d := if spare.isNone ∧ l ≠ 0xFF then (d.log 0x06 sevFault 0x0008 [.f a]).setHealth 1 true else d
  d.activeSetChanged

/-- Blame an array, at work on tile `t` (R222). An array that is retired already is not retired again. -/
def Dev.blameArray (d : Dev) (a t : Nat) : Dev :=
  let window := d.nat Obj.retireWindow * 1000
  let d := d.updArr a (fun x => { x with blames := d.now :: x.blames.filter (fun t => decide (d.now ≤ t + window)) })
  let d := (d.bump (Obj.blames a)).logRep 0x06 sevWarn 0x0004 a (fun c => [.f a, .f t, .w c])
  let d := d.calRequest a 1
  if (d.arr a).state ≠ 4 ∧ d.nat Obj.retireCount ≤ (d.arr a).blames.length then d.retireArray a else d

/-- Retiring the array would leave a tile of a slot in use with no placement (R222). -/
def Dev.retireLeaves (d : Dev) (a : Nat) : Bool :=
  (List.range 2).any (fun m => d.modelInUse m && d.nat (Obj.modelSlotState m) == 2 &&
    (d.image m).tiles.any (fun t =>
      t.places.any (fun p => p.1 == (d.arr a).logical) &&
      t.places.all (fun p => p.1 == (d.arr a).logical || ! d.served p.1)))

/-- A write of Retire (R21, R222). For an array retired already R222 gives no answer: the model's choice is STATE (log entry 74). -/
def Dev.writeRetire (d : Dev) (a : Nat) : Dev × RCode :=
  if (d.arr a).state = 4 ∨ (d.arr a).state = 0 ∨ d.retireLeaves a then (d, .state) else (d.retireArray a, .ok)

/-! ## Weight banks (R209, R214, R215) -/

/-- The weights of a checksum column: for each row the sum over the even, or the odd, logical columns (R209). -/
def checkWeights (w : Array Byte) (t : Tile) (odd : Nat) : List Int :=
  (List.range t.rows).map (fun r =>
    sumI (((List.range t.cols).filter (fun c => c % 2 == odd)).map (fun c => (w.getD (r * t.cols + c) 0).toInt)))

/-- The HBM address of a model slot's image area (R216). -/
def modelBase (m : Nat) : Nat := 5 * 2 ^ 36 + 50331648 * m

/-- A bank programmed with tile number `k` of an image. -/
def bankWith (image : Bytes) (k : Nat) (t : Tile) : WBank :=
  let bs := slice image t.offset (t.rows * t.cols)
  { tile := k, rows := t.rows, cols := t.cols, weights := bs, even := checkWeights bs.toArray t 0, odd := checkWeights bs.toArray t 1 }

/-- Program bank `b` of an array from the model store: the tile that the image of its slot places there; without one the bank holds
zero weights (R214 to R216). The weights are read on port 9 (R327). -/
def Dev.programBank (d : Dev) (a b : Nat) : Dev :=
  let m := b / 2
  let i := d.image m
  let here (t : Tile) : Bool := t.places.any (fun p => p.1 == (d.arr a).logical && p.2 == b % 2)
  match (i.tiles.zip (List.range i.tiles.length)).find? (fun e => here e.1) with
  | some (t, k) =>
    (d.updArr a (fun x => { x with banks := Tbl.put x.banks b (bankWith (d.slot m).image k t) })).memRequest 9 (modelBase m + t.offset)
      (t.rows * t.cols) false
  | none => d.updArr a (fun x => { x with banks := Tbl.del x.banks b })

/-- Program the bank pair of slot `m` of an array (R215). -/
def Dev.programArray (d : Dev) (m a : Nat) : Dev := (d.programBank a (2 * m)).programBank a (2 * m + 1)

/-- SPARE_PROGRAMMED: the spare has been programmed with the slots that hold a model, and enters dispatch (R223). -/
def Dev.spareProgrammed (d : Dev) (a : Nat) : Dev :=
  if (d.arr a).state ≠ 3 then d
  else
    let ready := (List.range 2).filter (fun m => d.nat (Obj.modelSlotState m) == 2)
    let slots := sumN (ready.map (fun m => 2 ^ m))
    let d := ready.foldl (fun d m => d.programArray m a) d
    ((d.updArr a (fun x => { x with state := 1 })).log 0x06 sevInfo 0x0007 [.f a, .f slots]).activeSetChanged

/-! ## Results (R228 to R230) -/

/-- The 128-bit result (R228). -/
def ClsRes.bytes (r : ClsRes) : Bytes :=
  packLE 16 [(r.candSeq, 32), (r.conf, 16), (r.conf2, 16), (r.modelId, 16), (r.cls, 6), (r.cls2, 6), (r.view, 2), (r.slot, 1),
    (b2n r.verified, 1), (r.reason, 3), (r.attempts, 2), (0, 11), (min 65535 r.reruns, 16)]

/-- Shed a request (R229). -/
def Dev.shed (d : Dev) (q : ClsReq) : Dev :=
  let d := d.giveResult (noResult q.cand 4)
  d.logRep 0x06 sevWarn 0x0009 0 (fun n => [.w n, .w d.cls.queue.length])

/-- The sync line of the last join (R317), 0 where there was none. -/
def Dev.syncLix (d : Dev) (g : Nat) : Nat := (d.pair.sync.getD g none).getD 0

/-- RESULT_LEAVE: the oldest record of a View leaves with its result (R230, R238). -/
def Dev.resultLeave (d : Dev) (v : Nat) : Dev :=
  match d.flights v with
  | [] => d
  | f :: rest => match f.result with
    | none => d
    | some r =>
      let d := d.updCls (fun x => { x with flights := x.flights.set v rest, toRelease := x.toRelease ++ [(f, r)] })
      let d := d.putB Obj.lastResult r.bytes
      let d := if r.reason = 0 then (d.bump Obj.classified 64).bump (Obj.viewClassified v) 64
        else if r.reason = 4 then (d.bump Obj.clsShed 64).bump (Obj.viewShed v) 64
        else d.bump Obj.notClassified 64
      let d := if r.reason = 0 ∧ ¬ r.verified then d.bump Obj.unverified 64 else d
      let d := (d.bump Obj.recordsMade 64).mirror (.result v r.candSeq (leNat r.bytes))
      if d.role = 3 then
        d.updPair (fun x => { x with results := Tbl.upd x.results (v * 2 ^ 32 + r.candSeq) (none, none) (fun e =>
          (some (leNat r.bytes, stripOf f.cand.line, decide ((d.cropWindow f.cand).top < (d.syncLix (d.viewLcg v) : Nat))), e.2)) })
      else d

/-- The count to be released next, after the record of CandSeq `seq` where `next` was due (R186: CandSeq counts modulo 2^32). -/
def candAfter (next seq : Nat) : Nat := next + subMod (2 ^ 32) (seq + 1) (next % 2 ^ 32)

/-- RECORD_RELEASE: the record of the oldest result that left is formed and offered (R238, R242, R246, R249). -/
def Dev.recordRelease (d : Dev) : Dev :=
  match d.cls.toRelease with
  | [] => d
  | (f, r) :: rest =>
    let v := f.cand.view
    let patch := if f.hasPatch then d.storedPatch v f.cand.candSeq f.cand.run else none
    let rec' := d.record f.cand r patch.isSome f.partialCut
    let d := d.updCls (fun x => { x with
      toRelease := rest,
      -- a record of an earlier run of the segmenter leaves the numbering of this one alone (R186)
      released := if f.cand.run = (d.sg v).run then x.released.set v (candAfter (x.released.getD v 1) f.cand.candSeq) else x.released })
    ((d.putB Obj.lastRecord rec').offerRecord f.cand r rec' patch).lvOutline f.cand r

/-! ## Requests (R227, R229) -/

/-- Why a record is not classified, 0 if it may be (R227); judged in the order classifier off, Kind, patch, model, slot. -/
def Dev.clsReason (d : Dev) (c : Cand) (patch : Option Patch) : Nat :=
  if ! d.domOn pdCls || ! d.flag Obj.clsEnable then 5
  else if ! bit (d.natAt (Obj.classifyKinds c.view) c.line) c.kind then 2
  else match patch with
    | none => 1
    | some p =>
      if 2 ≤ c.model ∨ d.nat (Obj.modelSlotState c.model) ≠ 2 then 3
      else
        let i := d.image c.model
        if i.inW ≠ p.w ∨ i.inH ≠ p.h ∨ i.channels ≠ p.channels then 3
        else if (d.slot c.model).unusable then 6 else 0

/-- The waiting request that OverloadMode 1 sheds: the smallest Peak, the latest among equals (R229). -/
def smallestPeak : List ClsReq → Option ClsReq
  | [] => none
  | q :: qs => match smallestPeak qs with
    | none => some q
    | some r => if r.cand.peak ≤ q.cand.peak then some r else some q

/-- Put a request in the queue (R229). -/
def Dev.clsEnqueue (d : Dev) (q : ClsReq) : Dev :=
  let push (d : Dev) : Dev :=
    let d := d.updCls (fun x => { x with queue := x.queue ++ [q] })
    d.putMax Obj.queueMax d.cls.queue.length
  if d.cls.queue.length < 8192 then push d
  else if d.nat Obj.overloadMode = 1 then
    match smallestPeak d.cls.queue with
    | some r =>
      if r.cand.peak < q.cand.peak then
        push ((d.updCls (fun x => { x with queue := x.queue.erase r })).shed r)
      else d.shed q
    | none => d.shed q
  else d.shed q

/-- CLASSIFIER_REQUEST: the next record of View `v` enters the classifier (R227). -/
def Dev.classifierRequest (d : Dev) (v : Nat) : Dev :=
  match (d.sg v).waiting with
  | [] => d
  | w :: rest =>
    if ! w.ready then d
    else
      let c := w.cand
      let d := (d.updSg v (fun x => { x with waiting := rest })).bump Obj.clsRequests 64
      let reason := d.clsReason c w.patch
      let f : Flight :=
        { cand := c, hasPatch := w.patch.isSome, partialCut := (w.patch.map (fun p => p.partialCut)).getD false,
          result := if reason = 0 then none else some (noResult c reason) }
      let d := d.updCls (fun x => { x with flights := x.flights.modify v (fun l => l ++ [f]) })
      match reason, w.patch with
      | 0, some p => d.clsEnqueue { cand := c, patch := p, slot := c.model, arrival := d.now }
      | _, _ => d

/-- SHED_TIMEOUT: a request that has not started ClsMaxWait after its arrival (R229). -/
def Dev.shedTimeout (d : Dev) (v seq : Nat) : Dev :=
  match d.cls.queue.find? (fun q => q.cand.view == v && q.cand.candSeq == seq) with
  | some q =>
    if q.arrival + d.nat Obj.clsMaxWait * 1000 ≤ d.now then
      (d.updCls (fun x => { x with queue := x.queue.erase q })).shed q
    else d
  | none => d

/-! ## Inferences (R217 to R221) -/

/-- The layer an inference is at. -/
def Dev.layerOf (d : Dev) (n : Inference) : Option Layer := (d.image n.req.slot).layers[n.layer]?

/-- Run the pooling layers that come next, up to an MVP layer (R219). -/
def poolOn (m : Image) : (fuel : Nat) → Inference → Inference
  | 0, n => n
  | fuel + 1, n => match m.layers[n.layer]? with
    | some l =>
      if l.op = 0 then n
      else
        let inp := if l.src = 0xFF then n.input else n.outs.getD l.src []
        poolOn m fuel { n with layer := n.layer + 1, outs := n.outs ++ [l.pool inp.toArray] }
    | none => n

/-- Start the request at the head of the queue (R229). -/
def Dev.startInference (d : Dev) : Option (Dev × Inference) :=
  match d.cls.queue with
  | [] => none
  | q :: rest =>
    let n : Inference :=
      { req := q, layer := 0, input := (d.image q.slot).input q.patch.bytes, outs := [], done := [], tries := [], verified := true,
        attempts := 1, reruns := 0, again := false }
    let n := poolOn (d.image q.slot) 33 n
    some (d.updCls (fun x => { x with queue := rest, running := x.running ++ [n] }), n)

/-- The physical columns that hold an array's logical columns (R268). -/
def ArrayUnit.column (x : ArrayUnit) (c : Nat) : Nat := Tbl.get x.map c c

/-- A raw code after its trims in force (R208). -/
def ArrayUnit.trim (x : ArrayUnit) (phys : Nat) (raw lo hi : Int) : Int :=
  let (g, off) := Tbl.get x.trims phys (0x1000, 0)
  clamp (asr ((raw - off) * g + 8192) 14) lo hi

/-- The raw code of an exact sum in quarter LSB, with the analog error and the ADC's range (R206, R260). -/
def rawCode (y : Int) (s : Nat) (err lim : Int) : Int := clamp (asr (4 * y) s + err) (-lim) (lim - 1)

/-- The ideal result of an exact sum (R206). -/
def idealCode (y : Int) (s : Nat) : Int := clamp (if s = 0 then y else asr (y + 2 ^ (s - 1)) s) (-512) 511

/-- What one MVP on array `x` with bank `k` gives (R206 to R210): the trimmed codes, whether the MVP passes, whether a set was
saturated. `errs` are the analog errors of the logical columns, in quarter LSB of the raw code. -/
def ArrayUnit.mvp (x : ArrayUnit) (k : WBank) (s tol : Nat) (vec : List Int) (errs : List Int)
    (errEven errOdd : Int) : List Int × Bool × Bool :=
  let weights := k.weights.toArray
  let xs := (vec.take k.rows).zip (List.range k.rows)
  let y (c : Nat) : Int :=
    if c < k.cols then sumI (xs.map (fun e => (weights.getD (e.2 * k.cols + c) 0).toInt * e.1)) else 0
  let ys := (List.range 512).map y
  let q := (ys.zip (List.range 512)).map (fun e =>
    x.trim (x.column e.2) (rawCode e.1 s (errs.getD e.2 0) 2048) (-512) 511)
  let part (l : List Int) (odd : Nat) : List Int := ((l.zip (List.range 512)).filter (fun e => e.2 % 2 == odd)).map (fun e => e.1)
  let judge (odd : Nat) (ws : List Int) (err : Int) : Bool × Bool :=
    let col := part q odd
    let satSet := (part ys odd).any (fun y => idealCode y s == -512 || idealCode y s == 511)
    let chk := x.trim (544 + odd) (rawCode (sumI ((vec.zip ws).map (fun e => e.1 * e.2))) s err 524288) (-131072) 131071
    (satSet || decide ((chk - sumI col).natAbs ≤ tol), satSet)
  let (okE, satE) := judge 0 k.even errEven
  let (okO, satO) := judge 1 k.odd errOdd
  (q.take k.cols, okE && okO, satE || satO)

/-- The bank of array `a` that holds a tile of slot `m` (R215); an array without the tile has zero weights. -/
def Dev.tileBank (d : Dev) (a m : Nat) (t : Tile) : WBank :=
  let x := d.arr a
  ((t.places.find? (fun p => p.1 == x.logical)).bind (fun p => Tbl.get? x.banks (2 * m + p.2))).getD
    { tile := 0, rows := t.rows, cols := t.cols, weights := [], even := [], odd := [] }

/-- The MVP that array `a` completes: the first that fits, of the inference started first. -/
def Dev.pickMvp (d : Dev) (a : Nat) : (l : List Inference) → (i : Nat) → Option (Nat × Inference × Nat × Nat × Tile)
  | [], _ => none
  | n :: ns, i => match (d.pendingMvps n).find? (d.mvpFits n a) with
    | some e => some (i, n, e)
    | none => pickMvp d a ns (i + 1)

/-- The output of an MVP layer from the results of its MVPs (R218). -/
def layerOutput (image : Bytes) (l : Layer) (tiles : List (Tile × Nat)) (head : Bool) (done : Tbl (List Int)) : List Int :=
  (List.range l.positions).flatMap (fun pos => (List.range l.n).map (fun o =>
    let acc := sumI ((tiles.filter (fun t => t.1.col == o / 512)).map (fun t =>
      (Tbl.get done (pos * 128 + t.2) []).getD (o % 512) 0))
    l.requant head acc (toSigned 32 (leAt image (l.bias + 4 * o) 4))))

/-- An inference ends: its result, or once more from its patch after a shell error (R220, R285). -/
def Dev.inferenceEnd (d : Dev) (i : Nat) (n : Inference) (scores : List Int) : Dev :=
  let (a, b, conf, conf2) := scoreClasses scores
  let c := n.req.cand
  let r : ClsRes :=
    { candSeq := c.candSeq, conf := conf, conf2 := conf2, modelId := (d.image n.req.slot).modelId, cls := a, cls2 := b, view := c.view,
      slot := n.req.slot, verified := n.verified, reason := 0, attempts := n.attempts, reruns := n.reruns }
  let d := d.updCls (fun x => { x with running := x.running.eraseIdx i })
  let d := d.giveResult r
  if n.verified then d else d.log 0x06 sevWarn 0x0005 [.f c.view, .w c.candSeq]

/-- After an MVP has its result: the layer's output once all have one, and the layers that follow. -/
def Dev.advance (d : Dev) (i : Nat) (n : Inference) : Dev :=
  let m := d.image n.req.slot
  let put (d : Dev) (n : Inference) : Dev := d.updCls (fun x => { x with running := x.running.set i n })
  if ! (d.pendingMvps n).isEmpty then put d n
  else match m.layers[n.layer]? with
    | none => put d n
    | some l =>
      let head := n.layer + 1 == m.layers.length
      let out := layerOutput (d.slot n.req.slot).image l (m.tilesOf n.layer) head n.done
      if head then d.inferenceEnd i n out
      else put d (poolOn m 33 { n with layer := n.layer + 1, outs := n.outs ++ [out], done := [], tries := [] })

/-- One MVP of an inference completes on array `a` (R210, R221, R222). -/
def Dev.runMvp (d : Dev) (a i : Nat) (n : Inference) (pos t : Nat) (tile : Tile) (errs : List Int) (errEven errOdd : Int) : Dev :=
  match d.layerOf n with
  | none => d
  | some l =>
    let key := pos * 128 + t
    let inp := (if l.src = 0xFF then n.input else n.outs.getD l.src []).toArray
    let vec := ((l.vec inp pos).drop (512 * tile.row)).take tile.rows
    let (q, pass, sat) := (d.arr a).mvp (d.tileBank a n.req.slot tile) l.shift (d.nat Obj.csTol) vec errs errEven errOdd
    let tried := Tbl.get n.tries key []
    let again := decide (0 < tried.length)
    let d := d.bump (Obj.mvpCount a) 64
    let d := if again then d.bump Obj.reruns 64 else d
    let d := if sat then
        let d := d.bump Obj.satMvps 64
        d.logRep 0x06 sevWarn 0x000B n.req.slot (fun c => [.f n.req.slot, .f n.layer, .w c])
      else d
    let n := { n with
      attempts := max n.attempts (tried.length + 1), reruns := n.reruns + b2n again, verified := n.verified && ! sat }
    let finish (n : Inference) : Inference := { n with done := Tbl.put n.done key q, tries := Tbl.del n.tries key }
    if pass then
      let blamed := tried.filter (fun b => b != a && b != noArray)
      let d := d.advance i (finish n)
      blamed.foldl (fun d b => d.blameArray b t) d
    else
      let d := d.bump (Obj.csFails a)
      if d.nat Obj.maxAttempts ≤ tried.length + 1 then
        (d.bump Obj.doubleFails 64).advance i (finish { n with verified := false })
      else d.updCls (fun x => { x with running := x.running.set i { n with tries := Tbl.put n.tries key (tried ++ [a]) } })

/-- MVP_COMPLETE on array `a` (R210): an MVP of a running inference, or of the next request to start. -/
def Dev.mvpComplete (d : Dev) (a : Nat) (errs : List Int) (errEven errOdd : Int) : Dev :=
  if ! d.inDispatch a || ! d.domOn pdCls then d
  else match d.pickMvp a d.cls.running 0 with
    | some (i, n, pos, t, tile) => d.runMvp a i n pos t tile errs errEven errOdd
    | none => match d.startInference with
      | none => d
      | some (d, n) => match (d.pendingMvps n).find? (d.mvpFits n a) with
        | some (pos, t, tile) => d.runMvp a (d.cls.running.length - 1) n pos t tile errs errEven errOdd
        | none => d

/-! ## Model loads (R216, R234) -/

/-- The public key that SignerKeyId names in an enabled slot (R415). -/
def Dev.modelKey (d : Dev) (id : Nat) : Option Bytes :=
  ((List.range 4).find? (fun k => d.flag (Obj.modelKeyEnabled k) && d.nat (Obj.modelKeyId k) == id)).map (fun k =>
    d.bytes (Obj.modelKeyPublic k))

/-- An image's signature over the digest of everything before it (R413, R415). -/
def Dev.imageSigned (d : Dev) (m : Image) (bytes : Bytes) : Bool :=
  match d.modelKey m.signer with
  | some key => Config.mlDsaVerify key (Config.shake256 (bytes.take (m.length - 3309)) 64) (slice bytes (m.length - 3309) 3309)
  | none => false

/-- A write of ModelLoad (R216, R270, R441). -/
def Dev.writeModelLoad (d : Dev) (m : Nat) : Dev × RCode :=
  if d.modelInUse m ∨ (List.range 2).any (fun k => d.nat (Obj.modelSlotState k) == 1) ∨ d.nat (Obj.domState pdCls) ≠ 2 ∨
      d.cal.boot ≠ [] then (d, .state)
  else (d.putN (Obj.modelSlotState m) 1, .ok)

/-- A model load of the partner is carried out here as soon as no other runs and the classifier accepts one: the partner's check
stands, whatever Views select the slot (R58, R270, R317). -/
def Dev.nextLoad (d : Dev) : Dev :=
  match d.pair.loads with
  | [] => d
  | m :: rest =>
    if (List.range 2).any (fun k => d.nat (Obj.modelSlotState k) == 1) ∨ d.nat (Obj.domState pdCls) ≠ 2 ∨ d.cal.boot ≠ [] then d
    else (d.putN (Obj.modelSlotState m) 1).updPair (fun x => { x with loads := rest })

/-- The partner has begun to load slot `m` (R58, R317). -/
def Dev.queueLoad (d : Dev) (m : Nat) : Dev := (d.updPair (fun x => { x with loads := x.loads ++ [m] })).nextLoad

/-- MODEL_LOAD_COMPLETE (R216). -/
def Dev.modelLoadComplete (d : Dev) (m : Nat) : Dev :=
  if d.nat (Obj.modelSlotState m) ≠ 1 then d
  else
    let bytes := Tbl.getBytes 0 d.hbm (modelBase m) (min 50331648 (leNat (Tbl.getBytes 0 d.hbm (modelBase m + 32) 4)))
    let i := parseImage bytes
    -- an image of which both copies of a block are lost cannot be read (R333)
    let r := if d.hbmBad (modelBase m) bytes.length then .integrity else i.check (d.imageSigned i bytes) d.activeArrays
    let d := d.memRequest 9 (modelBase m) bytes.length false
    let d := d.putN (Obj.modelLoadResult m) r.toNat
    if r = .ok then
      let d := d.updSlot m (fun x => { x with image := bytes, unusable := false, lost := [] })
      -- step 4: the banks of every active array (R209, R215)
      let d := ((List.range 72).filter (fun a => (d.arr a).state == 1)).foldl (fun d a => d.programArray m a) d
      let d := (d.putN (Obj.modelSlotState m) 2).refreshLoad m
      let d := (((d.putN (Obj.modelIdLoaded m) i.modelId).putN (Obj.modelVersionLoaded m) i.version).putN (Obj.modelMac m) i.mac).putN
        (Obj.modelLatency m) i.latency
      (d.log 0x06 sevInfo 0x0001 [.f m, .f i.modelId, .w (d.nat (Obj.modelRate m))]).judgeSlot m
    else (d.putN (Obj.modelSlotState m) 4).log 0x06 sevWarn 0x0002 [.f m, .f r.toNat]

/-- A write of ModelUnload (R234). -/
def Dev.writeModelUnload (d : Dev) (m : Nat) : Dev × RCode :=
  if d.modelInUse m ∨ d.nat (Obj.modelSlotState m) = 1 then (d, .state)
  else ((d.putN (Obj.modelSlotState m) 0).updSlot m (fun x => { x with image := [], unusable := false, lost := [] }), .ok)

end Sys2Proof.Machine
end

