-- ==== Sys2Proof/Machine/PairCore.lean ====
section
/-! DEFINITION. Pair operation, first part (chapter 12): roles and pins, the yield, digests and verdicts, the comparison of
classifications. -/

namespace Sys2Proof.Machine


/-- The steered LVDS outputs of a device that does not drive them are idle (R109, R305, R309). -/
def Dev.idleSteered (d : Dev) : Dev := if d.drives then d else (List.range 24).foldl Dev.idleLvds d

/-- Enter a role (R306, R320). -/
def Dev.setRole (d : Dev) (r : Nat) : Dev :=
  let old := d.role
  if old = r then d
  else
    let d := (d.putN Obj.pairRole r).idleSteered.logRep 0x0A sevInfo 0x0001 (8 * old + r) (fun _ => [.f old, .f r])
    if r = 1 then d.updPair (fun x => { x with seekAt := d.now, phase := 0 }) else d

/-- A join is refused, and tried again after 1 s (R317). -/
def Dev.joinRefused (d : Dev) (code : RCode) : Dev :=
  let d := (d.putN Obj.joinResult code.toNat).logRep 0x0A sevWarn 0x0003 0 (fun _ => [.f code.toNat])
  let d := if d.role = 2 then d.setRole 1 else d
  d.updPair (fun x => { x with retryAt := some (d.now + 1000000000), phase := 0 })

/-- The level of PAIR_PEER as seen. -/
def Dev.setPeer (d : Dev) (high : Bool) : Dev :=
  if d.pair.peer = high then d else d.updPair (fun x => { x with peer := high, peerAt := d.now })

/-- Drive the pins PAIR_ACT and PAIR_TAKE. -/
def Dev.setPins (d : Dev) (act take : Bool) : Dev :=
  if d.pair.act = act ∧ d.pair.take = take then d
  else (d.updPair (fun x => { x with act := act, take := take })).emit (.pairPins act take)

/-- YIELD (R309): the yield frame, outputs idle and PAIR_ACT low, then Standby after a PairSwitch, else Seeking. -/
def Dev.yieldRole (d : Dev) (cause : Nat) : Dev :=
  if d.role ≠ 4 ∧ d.role ≠ 5 then d
  else
    let before := d
    let d := d.mirror (.yieldFrame cause)
    let d := d.setPins false d.pair.take
    let d := d.setRole (if cause = 0 then 3 else 1)
    d.emitAct before

/-- A bit of FailoverMask that DeviceHealth gains (R308). -/
def Dev.healthFailover (d : Dev) : Dev :=
  let h := d.healthNow
  let gained := (h &&& d.nat Obj.failoverMask) &&& (2 ^ 32 - 1 - d.pair.health % 2 ^ 32)
  let d := d.updPair (fun x => { x with health := h })
  if gained = 0 ∨ (d.role ≠ 4 ∧ d.role ≠ 5) then d
  else if d.nat Obj.partnerRole = 3 then d.yieldRole 1
  else d.logRep 0x0A sevFault 0x000A 0 (fun _ => [.w h, .f (d.nat Obj.partnerRole)])

/-! ## Digests (R314) -/

/-- The samples of a stitched line, all planes, little-endian. -/
def StitchLine.sampleBytes (l : StitchLine) : Bytes := l.planes.flatMap (fun p => p.flatMap (fun x => natLE 2 x))

/-- Add a line to the digest of its strip (R314). -/
def Dev.digestLine (d : Dev) (v : Nat) (l : StitchLine) : Dev :=
  if d.role = 0 then d
  else d.updPair (fun x => { x with accs := x.accs.modify v (fun a => { a with
    lines := a.lines ++ l.tag ++ l.sampleBytes, flagged := a.flagged + b2n (l.missing || l.suspect || l.notReady) }) })

/-- The ranges of strip `k` that count as evidence on a View (R314): a mask of LIX each. -/
def Dev.evidenceRanges (d : Dev) (v k : Nat) : List Nat :=
  let g := d.viewLcg v
  let cause (c : Nat) : Bool := decide (1 ≤ c ∧ c ≤ 7) || c == 10
  let at' (scope unit : Nat) : Bool :=
    (scope == scView && unit == v) || (scope == scPort && (d.viewPorts v).contains unit) ||
      (scope == scEngine && (d.viewPorts v).any (fun p => (d.boundPorts unit).contains p))
  let opened := (d.logs.openR.filter (fun o => o.strip == k && o.lcg == g && cause o.cause && at' o.scope o.unit)).map (fun o => o.mask)
  let closed := (d.logs.ranges.filter (fun r => r.lcg == g && cause r.cause && at' r.scope r.unit &&
      stripOf r.first == k)).map (fun r => r.mask)
  opened ++ closed

/-- The evidence word (R314). -/
def Dev.evidence (d : Dev) (v k base : Nat) : Nat :=
  let rs := d.evidenceRanges v k
  let lix := popcount (rs.foldl (fun m r => m ||| r) 0) 256
  min 0xFFFF lix + 2 ^ 16 * min 255 rs.length + 2 ^ 24 * min 255 (d.pair.badArrays - base)

/-- The ingress tags of a View's ports for strip `k`, in port order for each LIX (R314). -/
def Dev.inputTags (d : Dev) (v k : Nat) : Bytes :=
  (List.range 256).flatMap (fun i => (d.viewPorts v).flatMap (fun p =>
    match (d.pair.tags.getD p []).find? (fun t => t.1 == 256 * k + i) with
    | some t => t.2
    | none => []))

/-- The digest of strip `k` (R314). -/
def Dev.digest (d : Dev) (v k : Nat) (partialStrip : Bool) : Bytes :=
  let a := d.pair.accs.getD v DigestAcc.reset
  packLE 64 [(k, 64), (leNat (Config.shake256 a.lines 16), 128), (leNat (Config.shake256 a.cands 16), 128),
    (leNat (Config.shake256 (d.inputTags v k) 8), 64), (a.count, 32), (a.first, 32), (a.flagged, 16), (v, 2),
    (b2n partialStrip, 1), (0, 5), (1, 8), (d.evidence v k a.base, 32)]

/-- Put one side's digest in hand (R315); a strip not complete two strips later is not compared. -/
def Dev.noteDigest (d : Dev) (v k : Nat) (own : Bool) (bytes : Bytes) : Dev :=
  let put (e : DigestPair) : DigestPair := if own then { e with own := some bytes } else { e with partner := some bytes }
  let keep := d.pair.digests.filter (fun e => e.view != v || decide (k < e.strip + 2))
  let has := keep.any (fun e => e.view == v && e.strip == k)
  d.updPair (fun x => { x with
    digests := if has then keep.map (fun e => if e.view = v ∧ e.strip = k then put e else e)
      else keep ++ [put { view := v, strip := k, own := none, partner := none }] })

/-- Form the digest of a strip at its segment point (R314) in Standby and in the active roles. -/
def Dev.formDigest (d : Dev) (v k : Nat) (partialStrip : Bool) : Dev :=
  if d.role = 0 then d
  else
    let bytes := d.digest v k partialStrip
    let due := 3 < d.role || (d.role == 3 && decide (d.pair.since.getD (d.viewLcg v) 0 ≤ k))
    let d := if due then (d.noteDigest v k true bytes).mirror (.digest v k bytes) else d
    let d := if due ∧ d.role = 3 ∧ d.nat Obj.linkState = 2 then d.emit (.mirror (.digest v k bytes)) else d
    d.updPair (fun x => { x with accs := x.accs.set v { DigestAcc.reset with base := x.badArrays } })

/-! ## Verdicts (R315) -/

/-- An unexplained strip (R315, R316): at UnexplainedLimit within 256 strips the standby enters Seeking. -/
def Dev.unexplained (d : Dev) (v k : Nat) : Dev :=
  if d.pair.unexplained.contains (v, k) then d
  else
    let d := d.bump Obj.unexplainedStrips
    let d := d.updPair (fun x => { x with
      unexplained := (v, k) :: x.unexplained.filter (fun e => e.1 != v || decide (k < e.2 + 256)) })
    let n := (d.pair.unexplained.filter (fun e => e.1 == v && decide (e.2 ≤ k + 255))).length
    if d.role = 3 ∧ d.nat Obj.unexplainedLimit ≤ n then d.setRole 1 else d

/-- The fields of a digest that a verdict compares: everything but Evidence (R315). -/
def digestBody (b : Bytes) : Bytes := b.drop 4

/-- DIGEST_VERDICT (R315). -/
def Dev.digestVerdict (d : Dev) (v k : Nat) : Dev :=
  match d.pair.digests.find? (fun e => e.view == v && e.strip == k) with
  | none => d
  | some e => match e.own, e.partner with
    | some own, some partner =>
      let d := d.updPair (fun x => { x with digests := x.digests.erase e })
      if digestBody own = digestBody partner then d.bump Obj.digestsCompared 64
      else
        let d := (d.bump Obj.digestMismatches 64).putB Obj.lastDigest (if d.role = 3 then own else partner)
        let note (d : Dev) (verdict : Nat) : Dev :=
          d.logRep 0x0A sevWarn 0x0007 v (fun _ => [.f v, .w k, .f verdict]) (d.viewLcg? v)
        if slice own 16 8 ≠ slice partner 16 8 then
          (note (d.bump Obj.inputDivergences 64) 1).logRep 0x0A sevInfo 0x0008 v (fun _ => [.f v, .w k]) (d.viewLcg? v)
        else
          let mine := leAt own 0 4
          let theirs := leAt partner 0 4
          if mine ≠ 0 ∧ theirs = 0 then
            let d := note d 2
            if d.role = 3 then d.setRole 1 else d.yieldRole 2
          else if mine = 0 ∧ theirs ≠ 0 then note d 2
          else (note d 3).unexplained v k
    | _, _ => d

/-! ## Classification compared (R316) -/

/-- Two results agree (R316). -/
def Dev.resultsAgree (d : Dev) (a b : Nat) : Bool :=
  let diff (x y : Nat) : Nat := (x - y) + (y - x)
  let conf (r : Nat) := field r 80 16
  let conf2 (r : Nat) := field r 64 16
  let cls (r : Nat) := field r 42 6
  let cls2 (r : Nat) := field r 36 6
  (cls a == cls b && decide (diff (conf a) (conf b) ≤ d.nat Obj.confTol)) ||
    (cls a == cls2 b && cls b == cls2 a && decide (conf a ≤ conf2 a + d.nat Obj.tieTol ∧ conf b ≤ conf2 b + d.nat Obj.tieTol))

/-- CLASSIFICATION_COMPARE (R316): once the standby holds both results of a record. -/
def Dev.compareResults (d : Dev) (v seq : Nat) : Dev :=
  let key := v * 2 ^ 32 + seq
  match Tbl.get? d.pair.results key with
  | some (some (mine, strip, early), some theirs) =>
    let d := d.updPair (fun x => { x with results := Tbl.del x.results key })
    let usable (r : Nat) : Bool := field r 29 3 == 0 && bit r 32
    if early || ! usable mine || ! usable theirs then d.bump Obj.classNotCompared 64
    else
      let d := d.bump Obj.classCompared 64
      if d.resultsAgree mine theirs then d
      else
        let d := d.bump Obj.classDisagreed 64
        let dk := v * 2 ^ 56 + strip
        let n := Tbl.get d.pair.disagree dk 0 + 1
        let d := d.updPair (fun x => { x with disagree := Tbl.put x.disagree dk n })
        let d := d.logRep 0x0A sevWarn 0x0009 v (fun _ => [.f v, .w strip, .w n]) (d.viewLcg? v)
        if n = d.nat Obj.classDisagreeLimit + 1 then d.unexplained v strip else d
  | _ => d

end Sys2Proof.Machine
end

