-- ==== Sys2Proof/Machine/Lines.lean ====
section
/-! DEFINITION. One stitched line through the segmenter with everything that hangs on it (SEGMENT_LINE): live views, the
Tally points of R294, digests; the end of a View; and the patch cropper (R197 to R200). -/

namespace Sys2Proof.Machine

/-! ## The Tally at the segment point (R294) -/

/-- Equations 3 to 7 of a View. -/
def Dev.viewEqs (d : Dev) (v : Nat) : List TallyEq :=
  let n (k : Nat → Nat) : Int := d.nat (k v)
  let queued : Int := (d.seg.crop.filter (fun q => q.view == v)).length
  [{ eq := 3, lhs := n Obj.runsFound, rhs := n Obj.runsDiscarded + n Obj.runsLabelled + n Obj.runsFolded },
   { eq := 4, lhs := n Obj.blobsOpened, rhs := n Obj.blobsMerged + n Obj.blobsClosed + (d.sg v).blobs.length },
   { eq := 5, lhs := n Obj.blobsClosed, rhs := n Obj.blobsEmitted + n Obj.blobsFiltered },
   { eq := 6, lhs := n Obj.candidatesOut, rhs := n Obj.blobsEmitted + n Obj.segmentsOut + n Obj.satRecordsOut },
   { eq := 7, lhs := n Obj.patchesRequested, rhs := n Obj.patchesCut + n Obj.patchesExpired + queued }]

/-- InFlight (R230). -/
def Dev.clsInFlight (d : Dev) : Nat := sumN (d.cls.flights.map List.length)

/-- Equations 8 to 10. -/
def Dev.deviceEqs (d : Dev) : List TallyEq :=
  let n (k : Nat) : Int := d.nat k
  let cands : Int := sumN ((List.range 4).map (fun v => d.nat (Obj.candidatesOut v)))
  let waiting : Int := sumN (d.seg.views.map (fun x => x.waiting.length))
  [{ eq := 8, lhs := cands, rhs := n Obj.clsRequests + waiting },
   { eq := 9, lhs := n Obj.clsRequests, rhs := n Obj.classified + n Obj.clsShed + n Obj.notClassified + d.clsInFlight },
   { eq := 10, lhs := n Obj.recordsMade, rhs := n Obj.classified + n Obj.clsShed + n Obj.notClassified }]

/-- Equations 11 and 12 of an open Stall. -/
def Dev.stallEqs (d : Dev) (s : Nat) : List TallyEq :=
  let n (k : Nat → Nat) : Int := d.nat (k s)
  [{ eq := 11, lhs := n Obj.itemsOffered, rhs := n Obj.filteredOut + n Obj.itemsQueued },
   { eq := 12, lhs := n Obj.itemsQueued, rhs := n Obj.itemsSent + n Obj.itemsDropped + d.itemsInQueueOf s }]

/-- The Tally at the segment point of strip `k` (R294); a joiner is not judged before Standby (R317). A failure of a device-wide
equation marks the strip of the View at whose point it is found (DEDUCED, log entry 66). -/
def Dev.segTally (d : Dev) (v k : Nat) : Dev :=
  if d.role = 2 then d
  else
    let lcg := d.viewLcg? v
    let d := d.tallyCheck 2 v k lcg (scView, v) (d.viewEqs v)
    let d := d.tallyCheck 5 0 k lcg (scView, v) d.deviceEqs
    d.stallsOpen.foldl (fun d s => d.tallyCheck 6 s k lcg (scView, v) (d.stallEqs s)) d

/-! ## SEGMENT_LINE -/

/-- A View has stopped with line `last`: its segmenter and its live views end (R187, R245), and the strip so far has its digest
(R314). -/
def Dev.viewEnd (d : Dev) (v last : Nat) : Dev :=
  let d := (d.segEnd v).lvViewStop v
  if last % 256 = 255 then d else d.formDigest v (stripOf last) true

/-- A joiner holds its stitched lines until the captured state of the View is installed (R317). -/
def Dev.joinHolds (d : Dev) (v : Nat) : Bool := d.role == 2 && ! d.pair.installed.getD v false

/-- The stitcher's part of the captured state of a View (R317). -/
def Dev.captureStitch (d : Dev) (v : Nat) : Captured :=
  let x := d.vw v
  { gains := x.gains, targets := x.targets, newTargets := x.newTargets, seams := d.stitch.seams.filter (fun e => e.2.cfg.headD 0 == v),
    sums := d.stitch.sums.filter (fun e => e.1 / 256 == v), bg := [], refs := [], blobs := [], satBright := none, satDark := none,
    nextSerial := 0, nextCand := 0 }

/-- The active stitches line C − 1: it keeps the stitcher's part of the captured state (R317). -/
def Dev.noteStitched (d : Dev) (v n : Nat) : Dev :=
  if (d.role = 4 ∨ d.role = 5) ∧ d.pair.sync.getD (d.viewLcg v) none = some (n + 1) then
    d.updPair (fun x => { x with caps := Tbl.put x.caps v (d.captureStitch v) })
  else d

/-- The active has labelled line C − 1: it sends the captured state of the View to the joiner (R317). -/
def Dev.sendCaptured (d : Dev) (v n : Nat) : Dev :=
  match Tbl.get? d.pair.caps v with
  | none => d
  | some c =>
    if d.pair.sync.getD (d.viewLcg v) none = some (n + 1) then
      let x := d.sg v
      let c := { c with
        bg := x.bg, refs := x.refs, blobs := x.blobs, satBright := x.satBright, satDark := x.satDark,
        nextSerial := d.nat (Obj.nextSerial v), nextCand := x.nextCand }
      (d.updPair (fun x => { x with caps := Tbl.del x.caps v })).mirror (.captured v c)
    else d

/-- SEGMENT_LINE: the oldest stitched line of View `v` is segmented (R177 to R186). Live views take the line as it leaves the segmenter,
not as the Patch Ring holds it (R243). -/
def Dev.segmentLine (d : Dev) (v : Nat) : Dev :=
  match (d.vw v).ready with
  | [] => d
  | l :: rest =>
    if d.joinHolds v then d
    else
    let n := l.lix
    let d := (d.updVw v (fun x => { x with ready := rest })).digestLine v l
    let on := (d.sg v).running
    let d :=
      if on then
        let d := d.segLine v l
        match (d.sg v).ring with
        | r :: _ => (d.lvChannels v).foldl (fun d c => d.lvLine c { r with valid := l.valid } l.missing) d
        | [] => d
      else d
    let d :=
      if n % 256 = 255 then
        let d := if on then d.segTally v (stripOf n) else d
        (d.formDigest v (stripOf n) false).flushRanges (d.viewLcg v) scView v (stripOf n)
      else d
    let d := d.sendCaptured v n
    if l.last then d.viewEnd v n else d

/-- Segment every stitched line already formed. -/
def Dev.segmentAll (d : Dev) (v : Nat) : (fuel : Nat) → Dev
  | 0 => d
  | fuel + 1 => if (d.vw v).ready.isEmpty then d else (d.segmentLine v).segmentAll v fuel

/-- SegEnable goes from 1 to 0 (R187): the last stitched line is processed, then every open blob ends. -/
def Dev.segDisable (d : Dev) (v : Nat) : Dev :=
  let d := d.segmentAll v ((d.vw v).ready.length)
  d.segEnd v

/-- A write of SegEnable (R178, R187, R194, R200, R232). -/
def Dev.writeSegEnable (d : Dev) (v : Nat) (on : Bool) : Dev × RCode :=
  if on = d.flag (Obj.segEnable v) then (d, .ok)
  else if on then
    if ! d.quotaOk v ∨ ! d.segPlanesOk v then (d, .range)
    else if ! d.modelSelOk v (d.nat (Obj.modelSel v)) then (d, .state)
    else (d.segStart v, .ok)
  else (d.segDisable v, .ok)

/-- A write of ViewEnable to 0 at LIX `cur`; a View that stops at once with no line on its way ends its segmenter too (R170,
R187). -/
def Dev.viewDisable (d : Dev) (v cur : Nat) : Dev :=
  let was := (d.vw v).running && (d.vw v).stopAt.isNone
  let d := d.disableView v cur
  if was && ! (d.vw v).running && (d.vw v).ready.isEmpty then
    (if d.nat (Obj.viewLinesOut v) = 0 then (d.segEnd v).lvViewStop v else d.viewEnd v ((d.vw v).next - 1))
  else d

/-! ## The cropper (R197 to R200, R240) -/

/-- A request is ready (R198). -/
def Dev.cropReady (d : Dev) (q : CropReq) : Bool :=
  q.last.isSome || (match (d.sg q.view).lastLine with
    | some n => decide (q.top + (q.f * q.h : Nat) ≤ (n : Int) + 1)
    | none => false)

/-- One patch pixel of one channel, none where some pixel of its window has no data (R199). -/
def cropPixel (lines : Array (Option RingLine)) (left : Int) (first f row col plane : Nat) (dev : Bool) : Option Int :=
  let cell (dy dx : Nat) : Option Int :=
    match lines.getD (first + f * row + dy) none with
    | none => none
    | some l =>
      let x := left + (f * col + dx : Nat)
      if x < 0 ∨ ! l.valid.getD x.toNat false then none
      else match (l.planes.getD plane [])[x.toNat]? with
        | some e => some (if dev then e.2 else e.1)
        | none => none
  let vs := (List.range f).flatMap (fun dy => (List.range f).map (fun dx => cell dy dx))
  if vs.any Option.isNone then none
  else some ((2 * sumI (vs.filterMap id) + f * f) / (2 * (f * f)))

/-- Cut the patch of a request (R199, R200); the flag tells that it counts in PatchesPartial. -/
def Dev.cutPatch (d : Dev) (q : CropReq) : Patch :=
  let w := q.w
  let h := q.h
  let mask := q.channels
  let ring := (d.sg q.view).ring
  let outside (lix : Int) : Bool := decide (lix < q.cand.firstLine) || (match q.last with | some n => decide ((n : Int) < lix) | none => false)
  let lines := ((List.range (q.f * h)).map (fun (r : Nat) =>
    let lix : Int := q.top + (r : Nat)
    if outside lix then none else ring.find? (fun l => (l.lix : Int) == lix))).toArray
  let chans := (maskBits mask).map (fun ch => (List.range h).flatMap (fun row => (List.range w).map (fun col =>
    (cropPixel lines q.left 0 q.f row col (ch / 2) (ch % 2 == 1), ch % 2 == 1))))
  let px := chans.flatten
  { topLix := q.top, left := q.left, w := w, h := h, binning := q.f, channels := mask,
    partialCut := q.partialWin || px.any (fun e => e.1.isNone),
    bytes := px.flatMap (fun e => natLE 2 (ofSigned 16 (e.1.getD (if e.2 then 0 else q.fill)))) }

/-- The top of the window lies before the oldest line in the ring (R198). -/
def Dev.cropExpired (d : Dev) (q : CropReq) : Bool :=
  match (d.sg q.view).ring.getLast? with
  | some l => decide (q.top < l.lix)
  | none => true

/-- The View whose turn it is: the first with a ready request, from the one after the View served last (R198). -/
def Dev.cropTurn (d : Dev) : Option Nat :=
  ((List.range 4).map (fun i => (d.seg.turn + i) % 4)).find? (fun v => d.seg.crop.any (fun q => q.view == v && d.cropReady q))

/-- PATCH_CUT: the ready request of lowest CandSeq of View `v`, whose turn it is, is served (R198, R240). -/
def Dev.patchCut (d : Dev) (v : Nat) : Dev :=
  if d.cropTurn ≠ some v then d
  else match d.seg.crop.find? (fun q => q.view == v && d.cropReady q) with
  | none => d
  | some q =>
    let d := d.updSeg (fun x => { x with crop := x.crop.erase q, turn := (v + 1) % 4 })
    if d.cropExpired q then d.patchExpired q.cand 0
    else
      let p := d.cutPatch q
      -- the lines of the window that the ring holds are read, samples and deviations
      let d := ((d.sg v).ring.filter (fun l => decide (q.top ≤ l.lix ∧ (l.lix : Int) < q.top + (q.f * q.h : Nat)))).foldl (fun d l =>
        d.hbmTraffic 4 0 2 v l.lix (4 * q.f * q.w * l.planes.length) false) d
      let d := d.updSg v (fun x => { x with waiting := x.waiting.map (fun w =>
        if w.cand = q.cand then { w with ready := true, patch := some p } else w) })
      let d := d.bump (Obj.patchesCut v) 64
      let d := if p.partialCut then d.bump (Obj.patchesPartial v) 64 else d
      d.storePatch v q.cand.candSeq q.cand.firstLix q.cand.run p

end Sys2Proof.Machine
end

