-- ==== Sys2Proof/Machine/Calib.lean ====
section
/-! DEFINITION. The Calibration Unit (chapter 10): figures of a column, targets and the column map, records and their store,
the queue, ramps and the reference check. -/

namespace Sys2Proof.Machine


/-! ## Figures of one column (R260, R261, R264) -/

/-- The nine levels of R261. -/
def calLevels : List Int := [-448, -320, -192, -64, 0, 64, 192, 320, 448]

/-- What one pass finds of a column (R264). -/
structure Figures where
  off   : Int
  g     : Int
  e     : List Int
  noisy : Bool
  deriving DecidableEq, Repr

/-- The figures of one column in one pass of `n` samples per level, none where den ≤ 0 (R264). -/
def figures (n : Int) (s : ColumnSums) : Option Figures :=
  let m (k : Nat) : Int := s.m.getD k 0
  let off := (2 * m 4 + n) / (2 * n)
  let den := sumI ((calLevels.zip (List.range 9)).map (fun e => e.1 * (m e.2 - m 4)))
  if den ≤ 0 then none
  else
    let g := (2 * 16384 * 688128 * n + den) / (2 * den)
    some { off := off, g := g,
           e := (calLevels.zip (List.range 9)).map (fun e => ((m e.2 - n * off) * g * 16 + n * 8192) / (n * 16384) - 16 * e.1),
           noisy := decide (576 * n * n < 100 * (n * s.q - m 4 * m 4)) }

/-- Two passes agree on a column (R266). -/
def figuresAgree (offTol gTol : Nat) (a b : Figures) : Bool :=
  decide ((a.off - b.off).natAbs ≤ offTol) && decide ((a.g - b.g).natAbs ≤ gTol)

/-- The targets of two passes that agree (R266). -/
def meanFigures (a b : Figures) : Int × Int := ((a.off + b.off + 1) / 2, (a.g + b.g + 1) / 2)

/-- The first pair of passes that agrees: 1 and 2, then 3 with 2, then 3 with 1 (R266). -/
def agreedTargets (offTol gTol : Nat) (f1 f2 : Figures) (f3 : Option Figures) : Option (Int × Int) :=
  if figuresAgree offTol gTol f1 f2 then some (meanFigures f1 f2)
  else match f3 with
    | none => none
    | some f3 =>
      if figuresAgree offTol gTol f3 f2 then some (meanFigures f3 f2)
      else if figuresAgree offTol gTol f3 f1 then some (meanFigures f3 f1) else none

/-! ## Columns of an array (R266 to R268, R275) -/

def Column.shipped : Column := { g := 0x1000, off := 0, fit := true, unstable := false }

def ArrayUnit.col (x : ArrayUnit) (p : Nat) : Column := Tbl.get x.cols p Column.shipped

/-- The physical columns mapped to logical columns (R268). -/
def ArrayUnit.mapped (x : ArrayUnit) : List Nat := (List.range 512).map x.column

/-- InUse (R275). -/
def ArrayUnit.inUse (x : ArrayUnit) (p : Nat) : Bool := decide (544 ≤ p) || x.mapped.contains p

/-- FitColumns, SparesLeft and UnstableColumns (R274, R281). -/
def ArrayUnit.fitCount (x : ArrayUnit) : Nat := ((List.range 546).filter (fun p => (x.col p).fit)).length
def ArrayUnit.sparesFit (x : ArrayUnit) : List Nat :=
  let used := x.mapped
  (List.range 544).filter (fun p => (x.col p).fit && ! used.contains p)
def ArrayUnit.unstableCount (x : ArrayUnit) : Nat := ((List.range 546).filter (fun p => (x.col p).unstable)).length

/-- A column entry of R275: G, Off, Fit, Unstable, InUse. -/
def columnEntry (g : Nat) (off : Int) (fit unstable used : Bool) : Bytes :=
  packLE 4 [(g, 16), (ofSigned 12 off, 12), (b2n fit, 1), (b2n unstable, 1), (b2n used, 1), (0, 1)]

/-- ColumnMap, ColumnTargets, ColumnTrims and LadderTrim as their objects give them (R275, R281). -/
def ArrayUnit.mapBytes (x : ArrayUnit) : Bytes := x.mapped.flatMap (natLE 2)
def ArrayUnit.targetBytes (x : ArrayUnit) : Bytes :=
  let used := x.mapped
  (List.range 546).flatMap (fun p =>
    columnEntry (x.col p).g (x.col p).off (x.col p).fit (x.col p).unstable (decide (544 ≤ p) || used.contains p))
def ArrayUnit.trimBytes (x : ArrayUnit) : Bytes :=
  let used := x.mapped
  (List.range 546).flatMap (fun p =>
    let t := Tbl.get x.trims p (0x1000, 0)
    columnEntry t.1 t.2 (x.col p).fit (x.col p).unstable (decide (544 ≤ p) || used.contains p))
def ArrayUnit.ladderBytes (x : ArrayUnit) : Bytes := (List.range 8).map (fun k => BitVec.ofInt 8 (Tbl.get x.ladder k 0))

/-- Put an entry that is not listed where it has the value as shipped. -/
def putUnless {α : Type} [DecidableEq α] (t : Tbl α) (i : Nat) (x dflt : α) : Tbl α :=
  if x = dflt then Tbl.del t i else Tbl.put t i x

def ArrayUnit.setCol (x : ArrayUnit) (p : Nat) (c : Column) : ArrayUnit := { x with cols := putUnless x.cols p c Column.shipped }
def ArrayUnit.setTrim (x : ArrayUnit) (p : Nat) (t : Nat × Int) : ArrayUnit := { x with trims := putUnless x.trims p t (0x1000, 0) }

/-- The columns whose trims in force have not reached their targets (R272). -/
def ArrayUnit.ramping (x : ArrayUnit) : List Nat :=
  (List.range 546).filter (fun p => Tbl.get x.trims p (0x1000, 0) ≠ ((x.col p).g, (x.col p).off))

/-- Put every target in force at once (R270). -/
def ArrayUnit.adoptNow (x : ArrayUnit) : ArrayUnit :=
  x.ramping.foldl (fun x p => x.setTrim p ((x.col p).g, (x.col p).off)) x

/-! ## Records (R273 to R279) -/

/-- The magic of a record (R274). -/
def recMagic : Nat := 0x314C4143

/-- The header of R274 with its CheckWord, before the body. -/
def recordBytes (kind unit seq calLix calTime fitCols spares : Nat) (temp : Int) (body : Bytes) : Bytes :=
  let len := 64 + body.length
  let head (check : Nat) : Bytes :=
    packLE 64 [(check, 32), (seq, 64), (calLix, 64), (calTime, 80), (len, 16), (kind, 8), (unit, 8), (1, 8), (fitCols, 16),
      (ofSigned 16 temp, 16), (spares, 8), (0, 64), (0, 16), (0, 8), (0, 72), (recMagic, 32)]
  head (crc32c (head 0 ++ body)) ++ body

/-- The CheckWord of a record verifies over RecordLength bytes (R274). -/
def recChecks (b : Bytes) : Bool :=
  leAt b 60 4 == crc32c ((b.take 60 ++ [0, 0, 0, 0] ++ b.drop 64).take (leAt b 32 2))

/-- The record of an array (R275). -/
def Dev.arrayRecord (d : Dev) (a seq : Nat) : Bytes :=
  let x := d.arr a
  recordBytes 1 a seq (d.nat (Obj.arrCalLix a)) (d.nat (Obj.arrCalTime a)) x.fitCount x.sparesFit.length x.calTemp
    (x.ladderBytes ++ x.targetBytes ++ x.mapBytes)

/-- The reference record (R275). -/
def Dev.refRecord (d : Dev) (seq : Nat) : Bytes :=
  recordBytes 2 0 seq (d.nat Obj.lastCalLix) d.stamp 0 0 (d.int Obj.clsTemp)
    (natLE 2 (d.nat Obj.refTrim) ++ [0, 0] ++ natLE 4 (ofSigned 32 (d.int Obj.bgDiff)))

/-- The length of the record of a unit (0 to 71 arrays, 72 the reference), and where its slots lie (R273, R275). -/
def recLen (unit : Nat) : Nat := if unit < 72 then 3280 else 72
def recAddr (unit slot : Nat) : Nat := if unit < 72 then 8192 * unit + 4096 * slot else 0x90000 + 4096 * slot
def recKind (unit : Nat) : Nat := if unit < 72 then 1 else 2
def recUnit (unit : Nat) : Nat := if unit < 72 then unit else 0

/-- The map of an array record is plausible (R277). -/
def mapPlausible (b : Bytes) : Bool :=
  let map := (List.range 512).map (fun c => leAt b (2256 + 2 * c) 2)
  let entry (p : Nat) : Nat := leAt b (72 + 4 * p) 4
  noRepeats map && map.all (fun p => decide (p ≤ 543) && bit (entry p) 3) &&
    (List.range 546).all (fun p => decide (0x0C00 ≤ field (entry p) 16 16 ∧ field (entry p) 16 16 ≤ 0x1400))

/-- A record is valid for its unit (R277). -/
def recValid (unit : Nat) (b : Bytes) : Bool :=
  leAt b 0 4 == recMagic && leAt b 32 2 == recLen unit && leAt b 31 1 == recKind unit && leAt b 30 1 == recUnit unit && recChecks b &&
    (decide (72 ≤ unit) || mapPlausible b)

/-- A slot of the store: 0 empty, 1 corrupt, 2 valid with its bytes (R277). -/
def Dev.slotState (d : Dev) (unit slot : Nat) : Nat × Bytes :=
  if (Tbl.get d.cal.mram (recAddr unit slot + 29) 0).toNat ≠ 1 then (0, [])
  else
    let b := Tbl.getBytes 0 d.cal.mram (recAddr unit slot) (recLen unit)
    if recValid unit b then (2, b) else (1, [])

/-- The slot that holds the newest valid record, and its bytes. -/
def Dev.newestSlot (d : Dev) (unit : Nat) : Option (Nat × Bytes) :=
  let s0 := d.slotState unit 0
  let s1 := d.slotState unit 1
  if s0.1 = 2 ∧ (s1.1 ≠ 2 ∨ leAt s1.2 52 8 < leAt s0.2 52 8) then some (0, s0.2)
  else if s1.1 = 2 then some (1, s1.2) else none

/-- A unit's record changes in volatile mode (R279): RecordDirty of an array is set. -/
def Dev.keepRecord (d : Dev) (unit : Nat) (b : Bytes) : Dev :=
  let d := d.updCal (fun c => { c with recs := Tbl.put c.recs unit b })
  if d.nat Obj.calStoreMode = 1 ∧ unit < 72 then d.putF (Obj.recordDirty unit) true else d

/-- Write a record to the store, read it back and check its CheckWord, the `n`-th time (R276). -/
def Dev.mramTry (d : Dev) (addr seq n : Nat) (b : Bytes) : Dev × Bool :=
  let fails := Config.mramFails addr seq d.now n
  let stored := if fails then Config.firstBytes b.length (Config.mramSpoiled addr seq d.now n) else b
  (d.updCal (fun c => { c with mram := Tbl.putBytes 0 c.mram addr stored }), ! fails || recChecks stored)

/-- The slot that the next record of a unit goes to: the one that does not hold the newest valid record (R276). -/
def Dev.recordSlot (d : Dev) (unit : Nat) : Nat :=
  match d.newestSlot unit with
  | some (0, _) => 1
  | _ => 0

/-- Write a record in MRAM mode (R276): a mismatch on reading back is met by one more write, and a second one is logged. -/
def Dev.storeRecord (d : Dev) (unit seq : Nat) (b : Bytes) : Dev :=
  let slot := d.recordSlot unit
  let once := d.mramTry (recAddr unit slot) seq 0 b
  let (d, good) := if once.2 then once else once.1.mramTry (recAddr unit slot) seq 1 b
  if good then
    ((d.updCal (fun c => { c with seq := seq, recs := Tbl.del c.recs unit })).putN Obj.recordSeq seq).bump Obj.recordWrites 64
  else d.log 0x08 sevFault 0x000A [.f (recKind unit), .f (recUnit unit), .f slot]

/-- Write a record of a unit (R276, R279); `make` gives the record for a Sequence. -/
def Dev.writeRecord (d : Dev) (unit : Nat) (make : Nat → Bytes) : Dev :=
  let seq := d.cal.seq + 1
  let b := make seq
  let d := d.updCal (fun c => { c with host := c.host.filter (fun u => u != unit) })
  if d.nat Obj.calStoreMode = 1 then d.keepRecord unit b else d.storeRecord unit seq b

/-- The record that a unit has: in the device's own memory, else the newest valid one of the store. -/
def Dev.unitRecord (d : Dev) (unit : Nat) : Option Bytes :=
  match Tbl.get? d.cal.recs unit with
  | some b => some b
  | none => (d.newestSlot unit).map (fun e => e.2)

/-- The record of a unit that R277 finds valid: the device's own, else the newest valid one of the store. -/
def Dev.validRecord (d : Dev) (unit : Nat) : Option Bytes :=
  match (Tbl.get? d.cal.recs unit).filter (recValid unit) with
  | some b => some b
  | none => (d.newestSlot unit).map (fun e => e.2)

/-- Take over map, ladder and targets of an array record, with the targets in force (R270). A record does not say which columns a move
has left (R268): the unmapped ones below 512 are such, and of the spares those that this array has left since the reset or, where it
has no history, those that the record shows unfit (log entry 42). -/
def ArrayUnit.install (x0 : ArrayUnit) (b : Bytes) : ArrayUnit :=
  let x := { x0 with
    map := (List.range 512).foldl (fun t c => putUnless t c (leAt b (2256 + 2 * c) 2) c) [],
    ladder := (List.range 8).foldl (fun t k => putUnless t k (toSigned 8 (leAt b (64 + k) 1)) 0) [],
    left := [], trims := [], cols := [], calTemp := toSigned 16 (leAt b 25 2), fromRecord := true, unfit := false }
  let x := (List.range 546).foldl (fun x p =>
    let e := leAt b (72 + 4 * p) 4
    x.setCol p { g := field e 16 16, off := toSigned 12 (field e 4 12), fit := bit e 3, unstable := bit e 2 }) x
  let used := x.mapped
  let gone (p : Nat) : Bool :=
    ! used.contains p && (decide (p < 512) || x0.left.contains p || (x0.calAt.isNone && ! (x.col p).fit))
  { x.adoptNow with left := (List.range 544).filter gone }

/-- An array without a record begins with the ladder trims of the factory area (R273). -/
def ArrayUnit.factory (x : ArrayUnit) (a : Nat) : ArrayUnit :=
  { x with ladder := (List.range 8).foldl (fun t k => putUnless t k (clamp (Config.factoryLadder a k) (-31) 31) 0) [] }

/-! ## The queue (R269) -/

/-- Queue arrays whose class needs CalEnable (R269). -/
def Dev.calRequestAuto (d : Dev) (a k : Nat) : Dev := if d.flag Obj.calEnable then d.calRequest a k else d

/-- A write of CalStart (R269). -/
def Dev.writeCalStart (d : Dev) (a : Nat) : Dev × RCode :=
  if a = 0xFF then
    ((List.range 72).foldl (fun d b => if (d.arr b).state = 0 ∨ (d.arr b).state = 4 then d else d.calRequest b 2) d, .ok)
  else if 72 ≤ a then (d, .range)
  else if (d.arr a).state = 4 then (d, .state)
  else (d.calRequest a 2, .ok)

/-- Nanoseconds since the last calibration of an array whose calibration is known (R269): since it was calibrated or installed, and
of an installed record since its CalTime, if WebTime says more. -/
def Dev.calElapsed (d : Dev) (a : Nat) : Option Nat :=
  let t := d.nat (Obj.arrCalTime a)
  let web := d.webAt d.now / 65536 - (t / 2 ^ 32 * 1000000000 + t % 2 ^ 32)
  (d.arr a).calAt.map (fun at_ => if (d.arr a).fromRecord then max (d.now - at_) web else d.now - at_)

/-- CAL_INTERVAL (R269). -/
def Dev.calInterval (d : Dev) (a : Nat) : Dev :=
  if (d.calElapsed a).any (fun t => decide (d.nat Obj.calInterval * 1000000000 ≤ t)) then d.calRequestAuto a 4 else d

/-- TEMPERATURE_CHANGE (R269): the Classifier die temperature as measured, in 0.1 °C. -/
def Dev.temperatureChange (d : Dev) (tenths : Int) : Dev :=
  let d := d.putI Obj.clsTemp (toSigned 16 (ofSigned 16 tenths))
  (List.range 72).foldl (fun d a =>
    let x := d.arr a
    if (x.calAt.isSome ∨ x.fromRecord) ∧ 10 * d.nat Obj.calTempDelta < (tenths - x.calTemp).natAbs then d.calRequestAuto a 3 else d) d

/-- The head of the queue: the best class, then the lowest array (R269). -/
def queueHead (q : List (Nat × Nat)) : Option (Nat × Nat) :=
  q.foldl (fun best e => match best with
    | none => some e
    | some b => if e.2 < b.2 ∨ (e.2 = b.2 ∧ e.1 < b.1) then some e else some b) none

/-- An active array may be borrowed (R262): every tile placed on it has another placement in dispatch. -/
def Dev.mayBorrow (d : Dev) (a : Nat) : Bool :=
  (List.range 2).all (fun m => d.nat (Obj.modelSlotState m) != 2 || (d.image m).tiles.all (fun t =>
    ! t.places.any (fun p => p.1 == (d.arr a).logical) ||
      t.places.any (fun p => match d.arrayOf p.1 with
        | some b => b != a && d.inDispatch b
        | none => false)))

/-- Start a cycle where none is under way (R269). -/
def Dev.startCycle (d : Dev) : Dev :=
  if d.cal.cycle.isEmpty then
    d.updCal (fun c => { c with cycle := (List.range 72).filter (fun a => (d.arr a).state != 0 && (d.arr a).state != 4) })
  else d

/-- ARRAY_CALIBRATION_START (R262, R270): up to eight arrays without a record at power-up, else the head of the queue. -/
def Dev.calibrationStart (d : Dev) : Dev :=
  if d.flag Obj.calHold ∨ ! d.domOn pdCls ∨ ! d.domOn pdCal ∨ ! d.domOn pdHub ∨ d.cal.current ≠ [] then d
  else if d.cal.boot ≠ [] then
    let d := d.startCycle
    d.updCal (fun c => { c with
      current := (c.boot.take 8).map (fun a => { array := a, start := d.now, samples := d.nat Obj.calSamples, boot := true }),
      queue := c.queue.filter (fun e => ! (c.boot.take 8).contains e.1) })
  else match queueHead d.cal.queue with
    | none => d
    | some (a, _) =>
      if (d.arr a).state = 1 ∧ ! d.mayBorrow a then
        (d.bump Obj.calDeferred).log 0x08 sevInfo 0x0007 [.f a]
      else
        let d := d.startCycle
        d.updCal (fun c => { c with
          queue := c.queue.filter (fun e => e.1 != a), current := [{ array := a, start := d.now, samples := d.nat Obj.calSamples, boot := false }] })

/-! ## The end of a calibration (R265 to R269) -/

/-- The ladder pass (R267): levels whose mean error asks for a step, with the limit events. -/
def Dev.ladderPass (d : Dev) (a : Nat) (figs : List (Option Figures)) : Dev :=
  let x := d.arr a
  let used := x.mapped
  let es := ((figs.zip (List.range 546)).filter (fun e =>
    (x.col e.2).fit && (decide (544 ≤ e.2) || used.contains e.2))).filterMap (fun e => e.1)
  let n : Int := es.length
  (List.range 8).foldl (fun d k =>
    let level := if k < 4 then k else k + 1
    let sum := sumI (es.map (fun f => f.e.getD level 0))
    let old := Tbl.get (d.arr a).ladder k 0
    let new := if 2 * n < sum then old - 1 else if sum < -2 * n then old + 1 else old
    if new < -31 ∨ 31 < new then d.log 0x08 sevWarn 0x0005 [.f a, .f level]
    else d.updArr a (fun x => { x with ladder := putUnless x.ladder k new 0 })) d

/-- What a column becomes after its passes (R264 to R266). A column without figures (den ≤ 0) in a pass that it needs is unfit: in
pass 0, 1 or 2, or in pass 3 (`third`: it ran) if passes 1 and 2 disagree. One that passes 1 and 2 do not both measure keeps its
targets and has nothing to agree on. `left`: a move has left the column (R268). -/
def Column.judge (c : Column) (offTol gTol inl : Nat) (left third : Bool) (f0 f1 f2 f3 : Option Figures) : Column :=
  match f1, f2 with
  | some f1, some f2 =>
    let t := agreedTargets offTol gTol f1 f2 f3
    let lacks := f0.isNone || (third && f3.isNone && ! figuresAgree offTol gTol f1 f2)
    let off := (t.map (fun e => e.1)).getD c.off
    let g : Int := (t.map (fun e => e.2)).getD (c.g : Int)
    let bad := decide (256 < off.natAbs) || decide (g < 0x0C00 ∨ 0x1400 < g) || f2.e.any (fun e => decide (inl < e.natAbs)) ||
      f2.noisy || (t.isNone && c.unstable)
    { g := g.toNat, off := off, fit := ! bad && ! lacks && ! left, unstable := t.isNone }
  | _, _ => { c with fit := false, unstable := false }

/-- Move the logical columns of unfit physical columns to fit spares (R268), with their events. -/
def Dev.moveColumns (d : Dev) (a : Nat) : Dev :=
  (List.range 512).foldl (fun d c =>
    let x := d.arr a
    let old := x.column c
    if (x.col old).fit then d
    else match x.sparesFit with
      | [] => d
      | p :: _ =>
        let d := d.updArr a (fun x =>
          let x := { x with map := putUnless x.map c p c, left := x.left ++ [old] }
          x.setTrim p ((x.col p).g, (x.col p).off))
        let d := (d.bump (Obj.columnMoves a)).log 0x08 sevWarn 0x0003 [.f a, .f c, .f old, .f p]
        d.writeRecord a (d.arrayRecord a)) d

/-- A model load programs the array: loads program the active arrays (R216, R268). -/
def Dev.loading (d : Dev) (a : Nat) : Bool :=
  (d.arr a).state == 1 && (List.range 2).any (fun m => d.nat (Obj.modelSlotState m) == 1)

/-- An array with an unfit column that no spare replaces, or an unfit checksum column, asks for its retirement (R268). -/
def Dev.judgeArray (d : Dev) (a : Nat) : Dev :=
  let x := d.arr a
  let check := ! (x.col 544).fit || ! (x.col 545).fit
  let lack := decide (x.sparesFit.length < (x.mapped.filter (fun p => ! (x.col p).fit)).length)
  if ! check && ! lack then d.updArr a (fun x => { x with unfit := false })
  else
    let d := d.log 0x08 sevFault 0x0004 [.f a, .f (if lack then 0 else 1)]
    let (d, r) := d.writeRetire a
    if r = .ok then d
    else
      let d := d.updArr a (fun x => { x with unfit := true })
      if x.unfit then d else d.updPair (fun p => { p with badArrays := p.badArrays + 1 })

/-- Targets, fit and the ladder from the passes of an array (R265 to R267). -/
def Dev.adoptPasses (d : Dev) (a samples : Nat) (passes : List (List ColumnSums)) : Dev :=
  let n : Int := samples
  let figs (k : Nat) : List (Option Figures) :=
    match passes[k]? with
    | none => List.replicate 546 none
    | some p => (List.range 546).map (fun c => figures n (p.getD c { m := [], q := 0 }))
  let f0 := figs 0
  let d := d.ladderPass a f0
  let x := d.arr a
  let rows := (List.range 546).zip (f0.zip ((figs 1).zip ((figs 2).zip (figs 3))))
  let cols := rows.map (fun r =>
    (r.1, (x.col r.1).judge (d.nat Obj.offAgree) (d.nat Obj.gainAgree) (d.nat Obj.inlLimit)
      (x.left.contains r.1) (decide (3 < passes.length)) r.2.1 r.2.2.1 r.2.2.2.1 r.2.2.2.2))
  let before := x
  let d := cols.foldl (fun d e => d.updArr a (fun x => x.setCol e.1 e.2)) d
  let k := (cols.filter (fun e => e.2.unstable)).length
  let d := if 0 < k then
      (d.bumpBy Obj.disagreements k).log 0x08 sevWarn 0x0002 [.f a, .w k]
    else d
  let off := (cols.filter (fun e =>
    decide (d.nat Obj.offAgree < (e.2.off - (before.col e.1).off).natAbs) ||
      decide (d.nat Obj.gainAgree < ((e.2.g : Int) - (before.col e.1).g).natAbs))).length
  let d := if before.fromRecord ∧ 0 < off then d.log 0x08 sevWarn 0x0009 [.f a, .w off] else d
  d.updArr a (fun x => { x with fromRecord := false })

/-- Counts, time and LIX of a completed calibration (R269). -/
def Dev.countCalibration (d : Dev) (a : Nat) : Dev :=
  let lix := d.curLix (d.nat Obj.calLixLcg)
  let d := (d.bump Obj.calRuns 64).bump (Obj.arrCalCount a)
  let d := ((d.putN Obj.lastCalTime d.stamp).putN (Obj.arrCalTime a) d.stamp).putN Obj.lastCalLix lix
  let d := (d.putN (Obj.arrCalLix a) lix).putI (Obj.arrCalTemp a) (d.int Obj.clsTemp)
  let d := d.updArr a (fun x => { x with calAt := some d.now, calTemp := d.int Obj.clsTemp })
  let left := d.cal.cycle.filter (fun b => b != a)
  let d := if d.cal.cycle ≠ [] ∧ left = [] then d.bump Obj.calCycles 64 else d
  let d := d.updCal (fun c => { c with cycle := left })
  d.log 0x08 sevInfo 0x0001 [.f a, .w (d.arr a).fitCount, .w lix]

/-- A step of RefTrim that waited for the calibrations to end (R261, R276). -/
def Dev.stepRefTrim (d : Dev) : Dev :=
  if d.cal.pendStep = 0 ∨ d.cal.current ≠ [] then d
  else
    let t := (clamp (d.nat Obj.refTrim + d.cal.pendStep) 0 65535).toNat
    let changed := t ≠ d.nat Obj.refTrim
    let d := (d.putN Obj.refTrim t).updCal (fun c => { c with pendStep := 0 })
    if changed then d.writeRecord 72 d.refRecord else d

/-- ARRAY_CALIBRATION_COMPLETE: the passes of the oldest calibration under way are in (R263 to R269). Nothing is adopted
while CalHold is set; that nothing is counted then either is the model's choice (log entry 74). -/
def Dev.calibrationComplete (d : Dev) (passes : List (List ColumnSums)) : Dev :=
  match d.cal.current with
  | [] => d
  | r :: rest =>
    let a := r.array
    let d := d.updCal (fun c => { c with current := rest })
    let d :=
      if d.flag Obj.calHold then d
      else
        let d := d.updCal (fun c => { c with boot := c.boot.filter (fun b => b != a) })
        let idle := (d.arr a).ramping.isEmpty
        let d := d.adoptPasses a r.samples passes
        let d := if r.boot then (d.updArr a ArrayUnit.adoptNow).putN (Obj.recordSource a) 3 else d
        let d := if idle then d.updArr a (fun x => { x with rampAt := d.now + 1000 }) else d
        let d := d.countCalibration a
        let d := d.writeRecord a (d.arrayRecord a)
        let d := if d.loading a then d else d.moveColumns a
        (d.judgeArray a).nextLoad
    d.stepRefTrim

/-- The column moves that a model load held up follow its end (R268); an array retired meanwhile has none. -/
def Dev.heldMoves (d : Dev) : Dev :=
  (List.range 72).foldl (fun d a =>
    if (d.arr a).calAt.isSome && (d.arr a).state == 1 && ! d.loading a then d.moveColumns a else d) d

/-! ## Ramps (R272) -/

/-- Move a number towards a target by at most `k`. -/
def stepTo (x target : Int) (k : Nat) : Int := if x < target then min target (x + k) else max target (x - k)

/-- One ramp step of an array (R272). -/
def ArrayUnit.rampStep (x : ArrayUnit) (kg ko : Nat) : ArrayUnit :=
  x.ramping.foldl (fun x p =>
    let t := Tbl.get x.trims p (0x1000, 0)
    x.setTrim p ((stepTo t.1 (x.col p).g kg).toNat, stepTo t.2 (x.col p).off ko)) x

/-- RAMP_STEP: every array whose RampPeriod has passed moves its trims towards their targets (R272). -/
def Dev.rampStep (d : Dev) : Dev :=
  let period := d.nat Obj.rampPeriod * 1000
  (List.range 72).foldl (fun d a =>
    let x := d.arr a
    if x.state = 0 ∨ x.state = 4 ∨ d.now < x.rampAt + period ∨ x.ramping.isEmpty then d
    else d.updArr a (fun x =>
      { x.rampStep (d.nat Obj.rampGainStep) (d.nat Obj.rampOffStep) with rampAt := x.rampAt + period })) d

/-! ## The reference (R261) -/

/-- REFERENCE_CHECK: BG0, BG1 and the charge reference as measured, in µV (R261). -/
def Dev.referenceCheck (d : Dev) (bg0 bg1 reference : Int) : Dev :=
  if ! d.domOn pdHub ∨ ! d.domOn pdCal then d
  else
    let diff := toSigned 32 (ofSigned 32 (bg0 - bg1))
    let d := d.putI Obj.bgDiff diff
    let d :=
      if d.nat Obj.bgLimit < (bg0 - bg1).natAbs then
        let d := (d.bump Obj.refFaults).log 0x08 sevFault 0x0006 [Item.i diff]
        (d.putF Obj.calHold true).updCal (fun c => { c with good := 0, lastCheck := some d.now })
      else if d.flag Obj.calHold then
        let apart := match d.cal.lastCheck with
          | some t => decide (t + 1000000000 ≤ d.now)
          | none => true
        if d.cal.good = 0 then d.updCal (fun c => { c with good := 1, lastCheck := some d.now })
        else if apart then
          ((d.putF Obj.calHold false).log 0x08 sevFault 0x0006 [Item.i diff]).updCal (fun c => { c with
            good := 0, lastCheck := some d.now })
        else d
      else d
    let step : Int := if bg0 < 2000 * (reference - bg0).natAbs then (if reference < bg0 then 1 else -1) else 0
    (d.updCal (fun c => { c with pendStep := step })).stepRefTrim

/-! ## Power-up of PD_CLS and host records (R270, R277, R279) -/

/-- Count and report the corrupt slots of a unit, and take over the largest Sequence found (R276, R277). -/
def Dev.scanUnit (d : Dev) (unit : Nat) : Dev :=
  (List.range 2).foldl (fun d j =>
    let s := d.slotState unit j
    if s.1 = 1 then (d.bump Obj.recordsCorrupt).log 0x08 sevWarn 0x0008 [.f (recKind unit), .f (recUnit unit), .f j]
    else if s.1 = 2 then d.updCal (fun c => { c with seq := max c.seq (leAt s.2 52 8) }) else d) d

/-- RefTrim as the reference record gives it, else as the factory area does (R273, R277). -/
def Dev.installReference (d : Dev) : Dev :=
  d.putN Obj.refTrim (match d.validRecord 72 with
    | some b => leAt b 64 2
    | none => Config.factoryRefTrim % 65536)

/-- The Calibration Unit at boot: the store is read, its corrupt slots are counted and reported (R276, R277). -/
def Dev.calBoot (d : Dev) : Dev := ((List.range 73).foldl Dev.scanUnit d).installReference

/-- The records installed when PD_CLS is powered; arrays without one are to be calibrated first (R270). -/
def Dev.installRecords (d : Dev) : Dev :=
  let d := if (Tbl.get? d.cal.recs 72).isSome || d.cal.host.contains 72 then d.installReference else d
  (List.range 72).foldl (fun d a =>
    let st := (d.arr a).state
    if st = 0 ∨ st = 4 then d
    else match d.validRecord a with
      | some b =>
        let own := (Tbl.get? d.cal.recs a) == some b
        let d := d.updArr a (fun x => { x.install b with calAt := some d.now })
        let d := ((d.putN (Obj.arrCalLix a) (leAt b 44 8)).putN (Obj.arrCalTime a) (leAt b 34 10)).putI (Obj.arrCalTemp a)
          (toSigned 16 (leAt b 25 2))
        let d := if d.cal.host.contains a then d.putN (Obj.recordSource a) 2
          else if own then d else d.putN (Obj.recordSource a) 1
        d.calRequestAuto a 4
      | none =>
        (d.updArr a (fun x => if x.calAt.isNone then x.factory a else x)).updCal (fun c => { c with
          boot := if c.boot.contains a then c.boot else c.boot ++ [a] })) d

/-- The reserved fields of a record that the host writes are zero (R15, R274, R275). -/
def reservedClear (unit : Nat) (b : Bytes) : Bool :=
  leAt b 16 8 == 0 && leAt b 4 9 == 0 &&
    (if unit < 72 then (List.range 546).all (fun p => ! bit (leAt b (72 + 4 * p) 4) 0) else leAt b 66 2 == 0)

/-- A record with another Sequence (R274, R279). -/
def withSequence (b : Bytes) (seq : Nat) : Bytes :=
  let head := b.take 52 ++ natLE 8 seq
  head ++ natLE 4 (crc32c (head ++ [0, 0, 0, 0] ++ b.drop 64)) ++ b.drop 64

/-- A write of CalRecordLoad = 1 (R279). RANGE for another SchemaVersion and for a reserved field that is set is the model's choice (log
entry 74). -/
def Dev.writeCalRecordLoad (d : Dev) : Dev × RCode :=
  let b := d.cal.buf
  let unit := d.nat Obj.calRecordSel
  if d.domOn pdCls then (d, .state)
  else if leAt b 0 4 ≠ recMagic ∨ ! recChecks b then (d, .integrity)
  else if leAt b 29 1 ≠ 1 ∨ b.length < recLen unit ∨ ! recValid unit b ∨ ! reservedClear unit b then (d, .range)
  else
    let rec_ := b.take (recLen unit)
    let d := d.keepRecord unit rec_
    let d := if d.nat Obj.calStoreMode = 1 then d else d.storeRecord unit (d.cal.seq + 1) (withSequence rec_ (d.cal.seq + 1))
    let d := d.updCal (fun c => { c with buf := [], host := if c.host.contains unit then c.host else c.host ++ [unit] })
    let d := if unit < 72 then d.putN (Obj.recordSource unit) 2 else d
    (d.log 0x08 sevInfo 0x000B [.f (recKind unit), .f (recUnit unit), .w (leAt b 52 8)], .ok)

/-- The Calibration Unit after a Hub restart (R271): the store in PD_AON is kept, all else starts again. -/
def Dev.resetCalUnit (d : Dev) : Dev := d.updCal (fun _ => { CalState.reset with mram := d.cal.mram })

end Sys2Proof.Machine
end

