-- ==== Sys2Proof/Machine/Stalls.lean ====
section
/-! DEFINITION. Claiming, opening and closing a Stall, requests for patches, credit (R242, R248, R251, R253). -/

namespace Sys2Proof.Machine

/-! ## The state of a Stall (R248) -/

/-- The counters of a Stall, cleared at a claim and at an open (R248). -/
def stallCounters (s : Nat) : List Nat :=
  [Obj.datagramSeq s, Obj.itemsOffered s, Obj.filteredOut s, Obj.itemsQueued s, Obj.itemsSent s, Obj.itemsDropped s,
   Obj.queueMaxBytes s, Obj.lateCount s]

def Dev.clearStall (d : Dev) (s : Nat) : Dev := (stallCounters s).foldl Dev.clear d

/-- The SessionId of the session in a slot. -/
def Dev.sessionId (d : Dev) (ses : Nat) : Nat := match Tbl.get? d.tol.sessions ses with | some x => x.id | none => 0

/-- A reset no longer opens the Stall (R248): it is not persistent any more, or it has been claimed since. -/
def Dev.noRestore (d : Dev) (s : Nat) : Dev :=
  d.updPub (fun x => { x with restore := x.restore.filter (fun r => r != s) })

/-- A write of StallClaim (R248). -/
def Dev.stallClaim (d : Dev) (ses s : Nat) : Dev × RCode :=
  if d.nat (Obj.stallState s) ≠ 0 then (d, .busy)
  else
    let id := d.sessionId ses
    (((((d.noRestore s).clearStall s).putN (Obj.stallState s) 1).putN (Obj.stallOwner s) id).noteStall s id 1, .ok)

/-- A multicast destination (R251). -/
def multicast (addr : Bytes) : Bool :=
  match addr with
  | x :: _ => if addr.length = 16 then x.toNat == 0xFF else decide (0xE0 ≤ x.toNat ∧ x.toNat ≤ 0xEF)
  | [] => false

/-- The configuration keeps the limits of the Stall objects table, and of R251, R254, R345 and R397. -/
def Dev.stallConfigOk (d : Dev) (s : Nat) : Bool :=
  let t := d.nat (Obj.stallTransport s)
  let mtu := d.nat (Obj.pubMtu s)
  let addr := d.bytes (Obj.destAddr s)
  if t = 0 then
    let r := d.nat (Obj.destPort s)
    decide (r < 64 ∧ 576 ≤ mtu ∧ mtu ≤ 65504 ∧ d.nat (Obj.launchMode s) = 0) && decide (mtu ≤ (d.ring r).slotSize)
  else
    decide (576 ≤ mtu ∧ mtu ≤ 8960 ∧ (addr.length = 4 ∨ addr.length = 16)) &&
      (! multicast addr || d.nat (Obj.creditMode s) == 0) &&
      decide (d.frameLen (t - 1) addr.length (mtu + d.tagLen s) ≤ d.nat (Obj.maxFrame (t - 1)))

/-- The transport port is up, or the ring set up, and its domain not draining (R248, R397, R440). -/
def Dev.stallTransportUp (d : Dev) (s : Nat) : Bool :=
  let t := d.nat (Obj.stallTransport s)
  if t = 0 then d.nat (Obj.domState pdPcie) == 2 && (d.ring (d.nat (Obj.destPort s))).enabled
  else d.portUp (t - 1) && d.nat (Obj.domState pdNet) == 2

/-- The join notice (R253). -/
def Dev.joinNotice (d : Dev) : Bytes :=
  (List.range 4).flatMap (fun v =>
    let lix := match d.viewLcg? v with | some g => d.curLix g | none => 0
    [0, 0, 0, 0] ++ natLE 4 (d.cls.released.getD v 1 % 2 ^ 32) ++ natLE 8 lix)

/-- Queue the history of the channels of a mask, oldest band first (R253). -/
def Dev.backfill (d : Dev) (s mask : Nat) : Dev :=
  if ! bit (d.nat (Obj.stallContent s)) 2 then d
  else ((List.range 64).filter (bit mask)).foldl (fun d c =>
    (keepLast (d.nat (Obj.lvHistory c)) (d.lvChan c).history).foldl (fun d b =>
      let (d, ts) := d.tiles c b true
      let d := d.hbmTraffic 6 2 0 c b.number b.bytes false
      ts.foldl (fun d t => d.offer s true t) d) d) d

/-- The key that an open fixes for a Stall that is not persistent, from the opening session's device-to-host key (R253). -/
def keyAtOpen (s : Nat) (d2h : Bytes) : Bytes := Config.kmac256 d2h (natLE 2 s) "STALL KEY" 256

/-- Open a Stall whose configuration and transport are good (R248, R253). -/
def Dev.openStall (d : Dev) (s owner : Nat) (d2h : Bytes) : Dev :=
  let d := (((d.clearStall s).clear (Obj.creditLimit s)).putN (Obj.stallState s) 2).putN (Obj.stallOwner s) owner
  let x : StallSt :=
    { StallSt.reset with tokens := 16 * d.nat (Obj.pubMtu s) * 1000000, tokenAt := d.now, key := keyAtOpen s d2h }
  let d := d.updPub (fun z => { z with stalls := Tbl.put z.stalls s x })
  let d := (d.log 0x07 sevInfo 0x0001 [.f s, .w owner, .f (d.nat (Obj.stallTransport s))]).noteStall s owner 2
  let notice : StallItem :=
    { kind := 4, view := 0, channel := 0, key := 0, compressed := false, object := d.joinNotice, stamp := none, epoch := 0,
      sent := 0, run := 0 }
  let d := (d.offer s true notice).backfill s (d.nat (Obj.lvMask s))
  let t := d.nat (Obj.stallTransport s)
  if t = 0 || ! d.drives then d else d.resolve (t - 1) (d.bytes (Obj.destAddr s))

/-- A write of StallOpen (R248). StallOwner stays the session that claimed the Stall, and is 0 for a persistent one (R256). -/
def Dev.stallOpenWrite (d : Dev) (ses s : Nat) : Dev × RCode :=
  if d.nat (Obj.stallState s) ≠ 1 then (d, .state)
  else if ! d.stallConfigOk s then (d, .range)
  else if ! d.stallTransportUp s then (d, .state)
  else
    let d2h := match Tbl.get? d.tol.sessions ses with | some x => x.d2h | none => []
    (d.openStall s (if d.flag (Obj.stallPersistent s) then 0 else d.nat (Obj.stallOwner s)) d2h, .ok)

/-- Close a Stall: what is queued is dropped, the Stall becomes free (R248). Cause 0 is a write, 1 a session's end. -/
def Dev.closeStall (d : Dev) (s cause : Nat) : Dev :=
  let d := if d.nat (Obj.stallState s) = 2 then
      let n := d.itemsInQueueOf s
      let d := d.bumpBy (Obj.itemsDropped s) n 64
      let d := d.updPub (fun x => { x with
        stalls := Tbl.del x.stalls s, launch := x.launch.map (fun (q : List LaunchItem) => q.filter (fun l => l.stall != s)) })
      d.log 0x07 sevInfo 0x0002 [.f s, .f cause, .w n]
    else d
  ((d.putN (Obj.stallState s) 0).putN (Obj.stallOwner s) 0).noteStall s 0 0

/-- A write of StallClose. -/
def Dev.stallCloseWrite (d : Dev) (s : Nat) : Dev × RCode :=
  (if d.nat (Obj.stallState s) = 0 then d else d.closeStall s 0, .ok)

/-- The Stalls of a session that ends close, unless they are persistent (R248). -/
def Dev.closeOwned (d : Dev) (id : Nat) : Dev :=
  (List.range 512).foldl (fun d s =>
    if id ≠ 0 ∧ d.nat (Obj.stallOwner s) = id ∧ ¬ d.flag (Obj.stallPersistent s) then d.closeStall s 1 else d) d

/-- Open the persistent Stalls whose transport has come up since a reset (R248). -/
def Dev.restoreStalls (d : Dev) : Dev :=
  d.pub.restore.foldl (fun d s =>
    if d.nat (Obj.stallState s) = 0 ∧ d.flag (Obj.stallPersistent s) ∧ d.stallConfigOk s ∧ d.stallTransportUp s then
      (d.noRestore s).openStall s 0 []
    else d) d

/-- The Stalls to restore at a reset (R248). -/
def Dev.armRestore (d : Dev) : Dev :=
  d.updPub (fun x => { x with restore := (List.range 512).filter (fun s => d.flag (Obj.stallPersistent s)) })

/-! ## Requests of the host (R242, R251) -/

/-- The CandSeq has been released in the present run (R186, R242): the numbers run from 1, and through 0 once they have wrapped. -/
def Dev.candReleased (d : Dev) (v seq : Nat) : Bool :=
  let next := d.cls.released.getD v 1
  decide (if seq = 0 then 2 ^ 32 < next else seq < next)

/-- A write of PatchFetch (R242). R242 does not speak of a Stall that is not open: the model's choice is STATE, after RANGE for reserved bits
and before RANGE for a candidate that is not released (log entry 74). -/
def Dev.patchFetch (d : Dev) (s value : Nat) : Dev × RCode :=
  let seq := field value 32 32
  let v := field value 0 2
  if field value 2 30 ≠ 0 then (d, .range)
  else if d.nat (Obj.stallState s) ≠ 2 then (d, .state)
  else if ! d.candReleased v seq then (d, .range)
  else match d.storedPatch v seq (d.sg v).run with
    | none => (d, .late)
    | some p => (d.offerPatch s true p, .ok)

/-- A write of CreditLimit (R251). -/
def Dev.writeCreditLimit (d : Dev) (s value : Nat) : Dev × RCode :=
  if value < d.nat (Obj.creditLimit s) then (d, .range) else ((d.putN (Obj.creditLimit s) value).pack s, .ok)

/-- FreeStallHint (R258). -/
def Dev.freeStall (d : Dev) : Nat := ((List.range 512).find? (fun s => d.nat (Obj.stallState s) == 0)).getD 0xFFFF

end Sys2Proof.Machine
end

