-- ==== Sys2Proof/Machine/Dma.lean ====
section
/-! DEFINITION. The DMA channels, compressors and decompressors (chapter 15). -/

namespace Sys2Proof.Machine

/-- The status codes of R373. -/
def stOk : Nat := 0
def stProtection : Nat := 1
def stFormat : Nat := 2
def stHostError : Nat := 3
def stMemoryError : Nat := 4
def stAborted : Nat := 5
def stPowerDown : Nat := 6
def stOutputLimit : Nat := 7
def stInputError : Nat := 8

/-! ## Descriptors (R367, R368) -/

/-- A descriptor from its 64 bytes (R367). -/
def parseDesc (addr : Nat) (hbm : Bool) (b : Bytes) : Desc :=
  let w := leAt b 0 8
  { addr := addr, hbm := hbm, next := leAt b 56 8, src := leAt b 48 8, dst := leAt b 40 8, rowBytes := leAt b 36 4, rows := leAt b 32 4,
    srcStride := toSigned 32 (leAt b 28 4), dstStride := toSigned 32 (leAt b 24 4), outLimit := leAt b 24 4,
    pattern := field w 46 2, op := field w 44 2, srcHbm := bit w 43, dstHbm := bit w 42, nextHbm := bit w 41, idxDst := bit w 40,
    engine := field w 32 2, endStream := bit w 7, irqFull := bit w 5, irqHalf := bit w 4, last := bit w 3, raw := b }

/-- A reserved field or encoding of the descriptor is not zero (R367, R368). -/
def Desc.reserved (x : Desc) : Bool :=
  let w := leAt x.raw 0 8
  leAt x.raw 8 2 != 0 || field w 48 16 != 0 || field w 34 6 != 0 || field w 8 24 != 0 || bit w 6 || field w 1 2 != 0 ||
    x.pattern == 3 || x.op == 3

/-- Refused at fetch with status Format (R368). -/
def Desc.badFormat (x : Desc) : Bool :=
  x.reserved || decide (x.addr % 64 ≠ 0) || (! x.last && decide (x.next % 64 ≠ 0)) ||
    (decide (x.pattern ≤ 1) && x.rowBytes == 0) ||
    (match x.pattern with
     | 0 => x.rows != 1
     | 1 => decide (x.rows = 0 ∨ 16777216 < x.rows)
     | _ => decide (x.rows = 0 ∨ 1048576 < x.rows)) ||
    (x.op == 1 && x.pattern == 2 && x.idxDst) || (x.op == 2 && x.pattern != 0) || (x.op != 0 && x.outLimit == 0)

/-- Whether a descriptor or the chain it heads uses a space (R378). -/
def Desc.uses (x : Desc) (hbm : Bool) : Bool :=
  x.hbm == hbm || x.srcHbm == hbm || x.dstHbm == hbm || (! x.last && x.nextHbm == hbm)

/-! ## Addresses and protection (R365, R366) -/

/-- An HBM address range lies in its region (R365). -/
def Dev.inRegion (d : Dev) (addr len : Nat) : Bool :=
  let r := addr / 2 ^ 36
  decide (r ≤ 6 ∧ addr % 2 ^ 36 + len ≤ d.regionBytes r)

/-- A write of an HBM range is permitted (R366). -/
def Dev.dmaWritable (d : Dev) (addr len : Nat) : Bool :=
  let r := addr / 2 ^ 36
  let a := addr % 2 ^ 36
  d.inRegion addr len && (match r with
    | 1 =>
      let k := a / 524288
      decide (k < 96 ∧ a % 524288 + len ≤ 524288) && ! d.bankUsed (k / 4) (k % 4)
    | 5 =>
      let m := a / 50331648
      decide (m < 2 ∧ a % 50331648 + len ≤ 50331648) && ! d.modelInUse m &&
        (List.range 2).all (fun k => d.nat (Obj.modelSlotState k) != 1)
    | 6 => true
    | _ => false)

/-- Write a range of HBM by DMA, with its effect (R366): a bank written becomes invalid. -/
def Dev.dmaWriteHbm (d : Dev) (addr : Nat) (bs : Bytes) : Dev :=
  let k := addr % 2 ^ 36 / 524288
  let d := if addr / 2 ^ 36 = 1 then d.setBankValid (k / 4) (k % 4) false else d
  (d.hbmWrite addr bs).memRequest 10 addr bs.length true

/-- The bytes of HBM as a DMA read finds them. The table banks, the patch store, the model store and the DMA apertures hold bytes; what the
device keeps elsewhere stands in a layout that the spec does not give. -/
def Dev.hbmSeen (d : Dev) (addr len : Nat) : Bytes :=
  if 4 ≤ addr / 2 ^ 36 || (addr / 2 ^ 36 == 1 && decide (addr % 2 ^ 36 + len ≤ placedFrom 1)) then d.hbmRead addr len
  else (List.range len).map (fun i => BitVec.ofNat 8 (Config.hbmShows (addr + i) d.now))

/-- Read `len` bytes of a side: the bytes and what is left of the host's data, or a status (R365, R366, R370). -/
def Dev.dmaRead (d : Dev) (hbm : Bool) (addr len : Nat) (host : Bytes) (bad : Bool) : Except Nat (Bytes × Bytes) :=
  if hbm then
    (if ! d.inRegion addr len then .error stProtection
     else if bad || d.hbmBad addr len then .error stMemoryError
     else .ok (d.hbmSeen addr len, host))
  else if host.length < len then .error stHostError else .ok (host.take len, host.drop len)

/-- Write one burst, or say why it may not be written. -/
def Dev.dmaPut (d : Dev) (hbm : Bool) (addr : Nat) (bs : Bytes) : Except Nat Dev :=
  if hbm then (if d.dmaWritable addr bs.length then .ok (d.dmaWriteHbm addr bs) else .error stProtection)
  else .ok (d.emit (.hostWrite (addr % 2 ^ 64) bs))

/-- Count destination bytes (R387). -/
def Dev.countBytes (d : Dev) (c n : Nat) : Dev := (d.bumpBy (Obj.chanBytes c) n 64).bumpBy Obj.dmaBytesTotal n 64

/-- Write bytes in bursts that end at 256-byte boundaries of the destination (R370): the status, which is not OK where a burst fails, and
the bytes that were not written. -/
def Dev.putBursts (d : Dev) (c : Nat) (hbm : Bool) : (fuel addr : Nat) → Bytes → Dev × Nat × Nat
  | 0, _, bs => (d, stOk, bs.length)
  | fuel + 1, addr, bs =>
    if bs = [] then (d, stOk, 0)
    else
      let n := min bs.length (256 - addr % 256)
      match d.dmaPut hbm addr (bs.take n) with
      | .error e => (d, e, bs.length)
      | .ok d => (d.countBytes c n).putBursts c hbm fuel (addr + n) (bs.drop n)

/-! ## Interrupts and the end of a chain (R371 to R377) -/

/-- Raise causes; a cause that goes from 0 to 1 sends the channel's message (R376). -/
def Dev.raiseCause (d : Dev) (c causes : Nat) : Dev :=
  let old := d.nat (Obj.chanIrqCause c)
  let new := old ||| causes
  let d := d.putN (Obj.chanIrqCause c) new
  if new = old then d else d.interrupt (d.nat (Obj.chanVector c))

/-- The drains of a channel end as it halts (R378). -/
def Dev.drained (d : Dev) (c : Nat) : Dev :=
  (d.chan c).drain.foldl (fun d e =>
    let ns := d.now - e.2
    (d.putMax Obj.powerDrainMax (min 0xFFFFFFFF ns)).logRep 0x0D sevInfo 0x0003 c (fun _ => [.f c, .f e.1, .w ns])) d

/-- The channel halts with a status other than OK (R373); `causes` are raised together with the error. -/
def Dev.haltChan (d : Dev) (c status : Nat) (causes : Nat := 0) : Dev :=
  let d := (d.putN (Obj.chanState c) 3).putN (Obj.chanLastStatus c) status
  let d := if status % 256 = stHostError then d.bump Obj.dmaHostErrors else d
  let d := (d.raiseCause c (4 + causes)).logRep 0x0D sevWarn 0x0001 c (fun _ => [.f c, .f status, .w (d.nat (Obj.chanCurDesc c))])
  (d.drained c).updChan c (fun x => { x with
    cur := none, fetching := false, started := false, kick := false, abort := false, stop := none, drain := [], table := none })

/-- A descriptor ends before its 64 bytes are there: nothing is written back, and the end counts as one with any status (R371, R374,
R387). -/
def Dev.endUnfetched (d : Dev) (c status : Nat) : Dev := ((d.bump (Obj.chanDescDone c) 64).haltChan c status).pace 2 c

/-- A domain that a space needs is off (R378). -/
def Dev.spaceOff (d : Dev) (hbm : Bool) : Bool := if hbm then ! d.domOn 7 || ! d.domOn 8 else ! d.domOn pdPcie

/-! ## Commands of the host (R372, R376, R377, R379) -/

/-- A write of ChanStart (R372, R378). -/
def Dev.chanStartWrite (d : Dev) (c : Nat) : Dev × RCode :=
  if d.chanState c = 1 ∨ d.chanState c = 2 ∨ d.flag (Obj.eocFlag c) then (d, .state)
  else
    let hbm := d.nat (Obj.chanDescSpace c) == 1
    let addr := d.nat (Obj.chanDescAddr c)
    let d := (d.putN (Obj.eventCredit c) 0).putN (Obj.chanState c) 1
    let d := if d.flag (Obj.eocMode c) then d.putN (Obj.eocRemaining c) (d.nat (Obj.eocCount c)) else d
    let d := d.updChan c (fun x => { x with
      cur := none, next := (addr, hbm), fetching := true, started := false, kick := false, abort := false, stop := none,
      startAt := d.now, ticks := 0, drain := [], table := none })
    if d.spaceOff hbm then ((d.putN (Obj.chanCurDesc c) addr).endUnfetched c stPowerDown, .ok) else (d, .ok)

/-- A write of ChanKick (R372). -/
def Dev.chanKickWrite (d : Dev) (c : Nat) : Dev × RCode :=
  if d.chanState c = 2 then ((d.putN (Obj.chanState c) 1).updChan c (fun x => { x with fetching := true }), .ok)
  else if d.chanState c = 1 then (d.updChan c (fun x => { x with kick := true }), .ok)
  else (d, .ok)

/-- A write of ChanAbort (R372): between bursts it takes effect at once. -/
def Dev.chanAbortWrite (d : Dev) (c : Nat) : Dev × RCode :=
  if d.chanState c ≠ 1 ∧ d.chanState c ≠ 2 then (d, .ok)
  else match (d.chan c).cur, (d.chan c).stop with
    | some _, none => (d.updChan c (fun x => { x with stop := some stAborted }), .ok)
    | some _, some _ => (d.updChan c (fun x => { x with abort := true }), .ok)
    | none, _ => (d.haltChan c stAborted, .ok)

/-- A write of ChanIrqAck (R376). -/
def Dev.chanIrqAckWrite (d : Dev) (c bits : Nat) : Dev × RCode :=
  let old := d.nat (Obj.chanIrqCause c)
  (d.putN (Obj.chanIrqCause c) (old - (old &&& bits)), .ok)

/-- A write of EocAck (R377). -/
def Dev.eocAckWrite (d : Dev) (c : Nat) : Dev × RCode :=
  ((d.putF (Obj.eocFlag c) false).putN (Obj.chanIrqCause c) (setBit (d.nat (Obj.chanIrqCause c)) 3 false), .ok)

/-! ## Fetch (R368, R372, R374) -/

/-- Where the index table of a descriptor stands: the space and the address (R369). -/
def Desc.tableAt (q : Desc) : Bool × Nat := if q.idxDst then (q.dstHbm, q.dst) else (q.srcHbm, q.src)

/-- The bytes that an index table in HBM lists; those of a table in host space are not known before it is read. -/
def Dev.listedBytes (d : Dev) (q : Desc) : Nat :=
  let (hbm, a) := q.tableAt
  if ! hbm ∨ 1048576 < q.rows then 0
  else sumN ((List.range q.rows).map (fun i => leNat (d.hbmSeen ((a + 16 * i + 8) % 2 ^ 64) 4)))

/-- DESCRIPTOR_FETCH: the 64 bytes of the next descriptor come in. -/
def Dev.descriptorFetch (d : Dev) (c : Nat) (hostOk : Bool) (hostData : Bytes) : Dev :=
  let x := d.chan c
  if d.chanState c ≠ 1 ∨ ! x.fetching ∨ x.drain ≠ [] then d
  else
    let (addr, hbm) := x.next
    let d := d.putN (Obj.chanCurDesc c) addr
    if d.spaceOff hbm then d.endUnfetched c stPowerDown
    else match d.dmaRead hbm addr 64 (if hostOk then hostData else []) false with
      | .error e => d.endUnfetched c e
      | .ok (b, _) =>
        let d := if hbm then d.memRequest 10 addr 64 false else d
        let q := parseDesc addr hbm b
        if ! bit (leAt b 0 1) 0 then
          (if x.kick then d.updChan c (fun x => { x with kick := false })
           else (d.putN (Obj.chanState c) 2).updChan c (fun x => { x with fetching := false }))
        else
          let stop := if q.badFormat then some stFormat
            else if (q.uses true && d.spaceOff true) || (q.uses false && d.spaceOff false) then some stPowerDown
            else none
          let total := if q.pattern = 0 then q.rowBytes else if q.pattern = 1 then q.rowBytes * q.rows else d.listedBytes q
          let size := if q.op = 1 then d.nat (Obj.cmpBlockSize q.engine) else 0
          let d := d.updChan c (fun x => { x with
            cur := some q, fetching := false, started := false, row := 0, off := 0, table := none, total := total, lin := 0,
            inDone := 0, outDone := 0, stop := stop, lastBlock := false, blockSize := size, half := false, halfDue := false,
            queued := d.host.order })
          (d.updHost (fun h => { h with order := h.order + 1 })).tryStart c

/-! ## The pattern (R369, R370) -/

/-- The entries of an index table (R369), with a status for those that cannot be read. -/
def Dev.readTable (d : Dev) (hbm : Bool) (addr : Nat) : (n : Nat) → Bytes → List (Nat × Nat × Nat) × Bytes
  | 0, host => ([], host)
  | n + 1, host => match d.dmaRead hbm (addr % 2 ^ 64) 16 host false with
    | .error e => ([(0, 0, e)], host)
    | .ok (b, host) =>
      let (t, host) := d.readTable hbm (addr + 16) n host
      ((leAt b 0 8, leAt b 8 4, stOk) :: t, host)

/-- Read the index table of a descriptor before its first burst. -/
def Dev.loadTable (d : Dev) (c : Nat) (q : Desc) (host : Bytes) : Dev × Bytes :=
  if q.pattern ≠ 2 ∨ (d.chan c).table.isSome then (d, host)
  else
    let (hbm, a) := q.tableAt
    let (t, host) := d.readTable hbm a q.rows host
    let d := if hbm && ! d.hbmBad a (16 * q.rows) then d.memRequest 10 a (16 * q.rows) false else d
    (d.updChan c (fun x => { x with table := some t, total := sumN (t.map (fun e => e.2.1)) }), host)

/-- The next piece of the pattern: source, destination, bytes to the end of the row or entry, or the status that ends the
descriptor (R369). -/
def DmaChan.piece (x : DmaChan) (q : Desc) : Except Nat (Nat × Nat × Nat) :=
  if q.pattern = 2 then
    match (x.table.getD []).dropWhile (fun e => e.2.1 == 0 && e.2.2 == 0) with
    | [] => .error stOk
    | (a, len, st) :: _ =>
      if st ≠ 0 then .error st
      else if q.idxDst then .ok ((q.src + x.lin) % 2 ^ 64, (a + x.off) % 2 ^ 64, len - x.off)
      else .ok ((a + x.off) % 2 ^ 64, (q.dst + x.lin) % 2 ^ 64, len - x.off)
  else if q.rows ≤ x.row then .error stOk
  else
    let at' (base : Nat) (stride : Int) : Nat := (((base : Int) + x.row * stride) % (2 ^ 64 : Nat)).toNat
    .ok ((at' q.src q.srcStride + x.off) % 2 ^ 64,
      (if q.op = 0 then at' q.dst q.dstStride + x.off else q.dst + x.lin) % 2 ^ 64, q.rowBytes - x.off)

/-- Advance the pattern by `n` bytes. -/
def DmaChan.advance (x : DmaChan) (q : Desc) (n : Nat) : DmaChan :=
  let x := { x with lin := x.lin + n }
  if q.pattern = 2 then
    match (x.table.getD []).dropWhile (fun e => e.2.1 == 0 && e.2.2 == 0) with
    | (a, len, st) :: t =>
      if x.off + n < len then { x with table := some ((a, len, st) :: t), off := x.off + n }
      else { x with table := some t, off := 0 }
    | [] => x
  else if x.off + n < q.rowBytes then { x with off := x.off + n } else { x with row := x.row + 1, off := 0 }

/-- Nothing is left of the pattern. -/
def DmaChan.patternDone (x : DmaChan) (q : Desc) : Bool :=
  match x.piece q with
  | .error e => e == stOk
  | .ok _ => false

/-! ## Rate and turn (R372, R375) -/

/-- The bucket of a channel in thousandths of a byte (R375). -/
def Dev.chanTokens (d : Dev) (c : Nat) : Nat :=
  let x := d.chan c
  min 65536000 (x.tokens + (d.now - x.tokenAt) * d.nat (Obj.chanRateLimit c))

/-- The bucket holds `n` bytes. -/
def Dev.rateAllows (d : Dev) (c n : Nat) : Bool := d.nat (Obj.chanRateLimit c) == 0 || decide (1000 * n ≤ d.chanTokens c)

/-- Take `n` bytes from the bucket. -/
def Dev.takeTokens (d : Dev) (c n : Nat) : Dev :=
  let left := if d.nat (Obj.chanRateLimit c) = 0 then 65536000 else d.chanTokens c - 1000 * n
  d.updChan c (fun x => { x with tokens := left, tokenAt := d.now })

/-- The bytes that the next burst or block takes from the bucket (R375): of a copy its destination bytes, of a compression its source
bytes, of a decompression its original bytes. None where host data decide it that have not come: a table in host space, the header
of a block in host space. -/
def Dev.nextBytes (d : Dev) (c : Nat) (q : Desc) : Option Nat :=
  let x := d.chan c
  if q.pattern = 2 ∧ x.table.isNone ∧ ! q.tableAt.1 then none
  else
    let x := (d.loadTable c q []).1.chan c
    if q.op = 0 then match x.piece q with
      | .error _ => some 0
      | .ok (_, dst, left) => some (min left (256 - dst % 256))
    else if q.op = 1 then some (min x.blockSize (x.total - x.inDone))
    else if ! q.srcHbm then none
    else match d.dmaRead true (q.src + x.inDone) 16 [] false with
      | .error _ => some 0
      | .ok (head, _) => match qpkHead head with
        | .error _ => some 0
        | .ok h => some h.orig

/-- ChanWaitCause (R387). -/
def Dev.waitCause (d : Dev) (c : Nat) : Nat :=
  match (d.chan c).cur with
  | some q =>
    if d.chanState c ≠ 1 then 0
    else if ! (d.chan c).started then d.startCause c q
    else if (d.nextBytes c q).any (fun n => ! d.rateAllows c n) then 2 else 0
  | none => 0

/-- A channel that has a burst or a block ready and waits for no host data (R372). -/
def Dev.burstReady (d : Dev) (c : Nat) : Bool :=
  let x := d.chan c
  d.chanState c == 1 && x.started && x.stop.isNone && x.drain == [] &&
    (match x.cur with
     | some q => q.srcHbm && (d.nextBytes c q).any (fun n => d.rateAllows c n)
     | none => false)

/-- It is the channel's turn: no ready channel has a higher priority, nor comes first in the round (R372). -/
def Dev.burstTurn (d : Dev) (c : Nat) : Bool :=
  pickStall (fun k => d.nat (Obj.chanPriority k)) (fun p => Tbl.get d.host.turn p 64) ((List.range 64).filter (fun k => k == c || d.burstReady k)) == some c

/-- The channel may carry on with its descriptor: it runs, has started, is not about to end, and it is its turn (R372, R378). -/
def Dev.mayMove (d : Dev) (c op : Nat) (q : Desc) : Bool :=
  let x := d.chan c
  d.chanState c == 1 && x.started && x.stop.isNone && x.drain == [] && q.op == op && d.burstTurn c

/-- The channel has been served in the round of its priority (R372). -/
def Dev.chanServed (d : Dev) (c : Nat) : Dev :=
  d.updHost (fun h => { h with turn := Tbl.put h.turn (d.nat (Obj.chanPriority c)) c })

/-- The descriptor ends with a status once it is written back. -/
def Dev.stopChan (d : Dev) (c status : Nat) : Dev := d.updChan c (fun x => { x with stop := some status })

/-- Count what a burst or block has moved, and raise the half-way interrupt when InputDone first reaches half (R376). -/
def Dev.moved (d : Dev) (c : Nat) (q : Desc) (inp out : Nat) : Dev :=
  let x := d.chan c
  let reached := decide (ceilDiv x.total 2 ≤ x.inDone + inp) && ! x.half
  let d := d.updChan c (fun x => { x with
    inDone := x.inDone + inp, outDone := x.outDone + out, half := x.half || reached,
    halfDue := reached && decide (x.total ≤ x.inDone + inp) })
  let ends := decide (x.total ≤ x.inDone + inp)
  -- with the last burst of a descriptor the half-way cause goes together with the full one (R376)
  if reached && q.irqHalf && ! d.flag (Obj.eocMode c) && ! ends then d.raiseCause c 1 else d

/-- BURST: one burst of a copy (R370). -/
def Dev.burst (d : Dev) (c : Nat) (hostOk : Bool) (hostData : Bytes) (eccBad : Bool) : Dev :=
  let d := d.tryStart c
  match (d.chan c).cur with
  | none => d
  | some q =>
    if ! d.mayMove c 0 q then d
    else
      let (d, host) := d.loadTable c q (if hostOk then hostData else [])
      match (d.chan c).piece q with
      | .error e => d.stopChan c e
      | .ok (src, dst, left) =>
        let n := min left (256 - dst % 256)
        if ! d.rateAllows c n then d
        else
          let d := d.chanServed c
          match d.dmaRead q.srcHbm src n host eccBad with
          | .error e => d.stopChan c e
          | .ok (bs, _) => match d.dmaPut q.dstHbm dst bs with
            | .error e => d.stopChan c e
            | .ok d =>
              let d := if q.srcHbm then d.memRequest 10 src n false else d
              let d := ((d.takeTokens c n).countBytes c n).updChan c (fun x => x.advance q n)
              let d := d.moved c q n n
              if (d.chan c).patternDone q then d.stopChan c stOk else d

/-! ## Compression (R383, R384) -/

/-- Gather up to `n` source bytes in pattern order; `reads` are the ranges read so far. -/
def Dev.gather (d : Dev) (q : Desc) :
    (fuel n : Nat) → DmaChan → (host acc : Bytes) → (reads : List (Nat × Nat)) → Except Nat (Bytes × DmaChan × List (Nat × Nat))
  | 0, _, x, _, acc, reads => .ok (acc, x, reads)
  | fuel + 1, n, x, host, acc, reads =>
    if n = 0 then .ok (acc, x, reads)
    else match x.piece q with
      | .error e => if e = stOk then .ok (acc, x, reads) else .error e
      | .ok (src, _, left) =>
        let k := min n left
        match d.dmaRead q.srcHbm src k host false with
        | .error e => .error e
        | .ok (bs, host) => d.gather q fuel (n - k) (x.advance q k) host (acc ++ bs) (reads ++ [(src, k)])

/-- A compressor's block counters (R388). -/
def Dev.countCmp (d : Dev) (e kind inp out : Nat) : Dev :=
  let d := (d.bumpBy (Obj.cmpBytesIn e) inp 64).bumpBy (Obj.cmpBytesOut e) out 64
  if kind = 0 then d.bump (Obj.cmpBlocksStored e) 64 else if kind = 2 then d.bump (Obj.cmpBlocksRun e) 64 else d

/-- COMPRESS_BLOCK: one block (R383, R384). -/
def Dev.compressStep (d : Dev) (c : Nat) (hostData : Bytes) : Dev :=
  let d := d.tryStart c
  match (d.chan c).cur with
  | none => d
  | some q =>
    if ! d.mayMove c 1 q then d
    else
      let (d, host) := d.loadTable c q hostData
      let x := d.chan c
      match d.gather q (x.blockSize + 1) x.blockSize x host [] [] with
      | .error e => d.stopChan c e
      | .ok (bs, x', reads) =>
        if bs = [] then d.stopChan c stOk
        else if ! d.rateAllows c bs.length then d
        else
          let d := d.chanServed c
          let d := if q.srcHbm then reads.foldl (fun d e => d.memRequest 10 e.1 e.2 false) d else d
          let ends := x'.patternDone q
          let (kind, block) := compressBlock (q.endStream && ends) bs
          if q.outLimit < x.outDone + block.length then d.stopChan c stOutputLimit
          else
            let (d, st, left) := d.putBursts c q.dstHbm (block.length + 1) (q.dst + x.outDone) block
            -- the source bytes of a block that fails count once one of its bursts is written (R375)
            if st ≠ stOk then (if left < block.length then d.takeTokens c bs.length else d).stopChan c st
            else
              let d := d.updChan c (fun x => { x with
                row := x'.row, off := x'.off, table := x'.table, lin := x'.lin })
              let d := (d.takeTokens c bs.length).countCmp q.engine kind bs.length block.length
              let d := d.moved c q bs.length block.length
              if ends then d.stopChan c stOk else d

/-! ## Decompression (R382, R385) -/

/-- An InputError with its detail (R373, R385). -/
def inputError (detail : Nat) : Nat := stInputError + 256 * detail

/-- DECOMPRESS_BLOCK: one block (R382, R385). -/
def Dev.decompressStep (d : Dev) (c : Nat) (hostData : Bytes) : Dev :=
  let d := d.tryStart c
  match (d.chan c).cur with
  | none => d
  | some q =>
    let x := d.chan c
    if ! d.mayMove c 2 q then d
    else
      let left := q.rowBytes - x.inDone
      if left = 0 then d.stopChan c (if q.endStream && ! x.lastBlock then inputError 10 else stOk)
      else if left < 16 then d.stopChan c (inputError 11)
      else match d.dmaRead q.srcHbm (q.src + x.inDone) 16 hostData false with
        | .error e => d.stopChan c e
        | .ok (hb, host) => match qpkHead hb with
          | .error e => d.stopChan c (inputError e)
          | .ok h =>
            if q.outLimit < x.outDone + h.orig then d.stopChan c stOutputLimit
            else if left < 16 + h.len then d.stopChan c (inputError 11)
            else if ! d.rateAllows c h.orig then d
            else match d.dmaRead q.srcHbm (q.src + x.inDone + 16) h.len host false with
              | .error e => d.stopChan c e
              | .ok (payload, _) =>
                let (out, err) := decodePayload h payload
                let d := d.chanServed c
                let d := if q.srcHbm then d.memRequest 10 (q.src + x.inDone) (16 + h.len) false else d
                let (d, st, unsent) := d.putBursts c q.dstHbm (out.length + 1) (q.dst + x.outDone) out
                let d := d.takeTokens c (out.length - unsent)
                if st ≠ stOk then d.stopChan c st
                else match err with
                  | some e => d.stopChan c (inputError e)
                  | none =>
                    let d := d.updChan c (fun x => { x with lastBlock := h.last })
                    let d := (d.bumpBy (Obj.dcmBytesIn q.engine) (16 + h.len) 64).bumpBy (Obj.dcmBytesOut q.engine) h.orig 64
                    let d := d.moved c q (16 + h.len) h.orig
                    if left = 16 + h.len then
                      d.stopChan c (if q.endStream && ! h.last then inputError 10 else stOk)
                    else d

/-! ## The end of a descriptor (R371, R373, R376, R377) -/

/-- Bytes 0 to 19 as written back (R371). -/
def Desc.writeBack (q : Desc) (status inDone outDone : Nat) : Bytes :=
  natLE 8 (setBit (leAt q.raw 0 8) 0 false) ++ slice q.raw 8 2 ++ natLE 2 status ++ natLE 4 outDone ++ natLE 4 inDone

/-- Counters and events of a decompressor or compressor whose descriptor ends (R388, R389). -/
def Dev.engineEnd (d : Dev) (q : Desc) (status inDone outDone : Nat) : Dev :=
  let code := status % 256
  let d :=
    if q.op = 2 ∧ code = stInputError then
      ((d.bump (Obj.dcmErrors q.engine)).putN (Obj.dcmLastError q.engine) status).logRep 0x0D sevWarn 0x0006 q.engine
        (fun _ => [.f q.engine, .f (status / 256), .w inDone])
    else if q.op = 2 ∧ code = stOutputLimit then d.bump (Obj.dcmLimitStops q.engine)
    else d
  if code = stOutputLimit then
    d.logRep 0x0D sevInfo 0x0007 (q.op * 16 + q.engine) (fun _ => [.f q.engine, .f q.op, .w outDone])
  else d

/-- The engine is free again, and the descriptor that has waited longest for it starts (R386). -/
def Dev.freeEngine (d : Dev) (c : Nat) : Dev :=
  if d.host.engines.contains (some c) then
    (List.range 64).foldl Dev.tryStart
      (d.updHost (fun h => { h with engines := h.engines.map (fun e => if e = some c then none else e) }))
  else d

/-- The channel after a descriptor that ended with OK (R372, R376, R377). One that a drain has reached goes no further (R378). -/
def Dev.chanGoOn (d : Dev) (c : Nat) (q : Desc) (half : Bool) : Dev :=
  let eoc := d.flag (Obj.eocMode c)
  let left := d.nat (Obj.eocRemaining c) - 1
  let d := if eoc then d.putN (Obj.eocRemaining c) left else d
  let ended := eoc && left == 0
  let causes := if eoc then (if ended then 8 else 0)
    else (if q.irqFull then 2 else 0) + (if q.irqHalf && half then 1 else 0)
  let d := if ended then (d.putF (Obj.eocFlag c) true).logRep 0x0D sevInfo 0x0005 c (fun _ => [.f c, .w (d.nat (Obj.chanDescDone c))]) else d
  let d := d.raiseCause c causes
  let x := d.chan c
  let aborted := x.abort
  let draining := x.drain != []
  let d := (d.drained c).updChan c (fun x => { x with
    cur := none, started := false, stop := none, table := none, abort := false, next := (q.next, q.nextHbm), fetching := false, drain := [] })
  if draining then (d.updChan c (fun x => { x with kick := false })).putN (Obj.chanState c) 3
  else if ended || q.last then d.putN (Obj.chanState c) 4
  else if aborted then (d.updChan c (fun x => { x with kick := false })).putN (Obj.chanState c) 3
  else d.updChan c (fun x => { x with fetching := true })

/-- A descriptor ends with a status: the write-back, then interrupts and the completion event (R371, R374). -/
def Dev.endDesc (d : Dev) (c : Nat) (q : Desc) (status : Nat) (writeBackOk : Bool) : Dev :=
    let x := d.chan c
    let half := x.halfDue && q.irqHalf && ! d.flag (Obj.eocMode c)
    let bytes := q.writeBack status x.inDone x.outDone
    let off := d.spaceOff q.hbm
    let ok := ! off && (if q.hbm then d.dmaWritable q.addr 20 else writeBackOk)
    let d := if ! ok then d else if q.hbm then d.dmaWriteHbm q.addr bytes else d.emit (.hostWrite q.addr bytes)
    let d := d.updChan c (fun x => { x with cur := none, started := false })
    let d := (((d.bump (Obj.chanDescDone c) 64).putN (Obj.chanLastStatus c) status).engineEnd q status x.inDone x.outDone).freeEngine c
    let d :=
      -- where the write-back fails, ChanLastStatus alone keeps the status
      if ! ok then (d.haltChan c (if q.hbm then stMemoryError else stHostError) (b2n half)).putN (Obj.chanLastStatus c) status
      else if status ≠ stOk then d.haltChan c status (b2n half)
      else d.chanGoOn c q x.halfDue
    d.pace 2 c

/-- DESCRIPTOR_END: a descriptor that has come to its end ends. -/
def Dev.descriptorEnd (d : Dev) (c : Nat) (writeBackOk : Bool) : Dev :=
  match (d.chan c).cur, (d.chan c).stop with
  | some q, some status => d.endDesc c q status writeBackOk
  | _, _ => d

/-! ## Pacing (R374) -/

/-- PACE_TIMER_TICK: every PaceArg µs from ChanStart. -/
def Dev.paceTick (d : Dev) (c : Nat) : Dev :=
  let x := d.chan c
  if d.nat (Obj.paceEvent c) ≠ 1 ∨ (d.chanState c ≠ 1 ∧ d.chanState c ≠ 2) ∨
      d.now < x.startAt + (x.ticks + 1) * d.nat (Obj.paceArg c) * 1000 then d
  else (d.updChan c (fun x => { x with ticks := x.ticks + 1 })).paceEvent c

/-! ## Power-down (R378, R399) -/

/-- A channel's chain or descriptor uses the space of a domain. -/
def Dev.chanUses (d : Dev) (c : Nat) (hbm : Bool) : Bool :=
  (d.chanState c == 1 || d.chanState c == 2) && (match (d.chan c).cur with
    | some q => q.uses hbm
    | none => (d.chan c).next.2 == hbm)

/-- Begin the drain of a domain (R378): descriptors end with PowerDown. -/
def Dev.drainChans (d : Dev) (dom : Nat) : Dev :=
  (List.range 64).foldl (fun d c =>
    if ! d.chanUses c (dom != pdPcie) then d
    else
      let d := d.updChan c (fun x => { x with drain := x.drain ++ [(dom, d.now)] })
      match (d.chan c).cur, (d.chan c).stop with
      | some _, none => d.stopChan c stPowerDown
      | some _, some _ => d
      | none, _ => d.haltChan c stPowerDown) d

/-- Some channel still drains for a domain. -/
def Dev.dmaDraining (d : Dev) (dom : Nat) : Bool :=
  (List.range 64).any (fun c => (d.chan c).drain.any (fun e => e.1 == dom))

/-- POWER_DRAIN_TIMEOUT: 100 µs after the request the drain is cut off, and the descriptor ends with HostError (R371, R378). -/
def Dev.drainTimeout (d : Dev) (dom : Nat) : Dev :=
  (List.range 64).foldl (fun d c =>
    if (d.chan c).drain.any (fun e => e.1 == dom && decide (e.2 + 100000 ≤ d.now)) then
      let d := d.logRep 0x0D sevFault 0x0004 c (fun _ => [.f c, .f dom])
      match (d.chan c).cur with
      | some q => d.endDesc c q stHostError true
      | none => d.endUnfetched c stHostError
    else d) d

/-- A function level reset ends the current descriptor of every channel that uses host space (R399). -/
def Dev.flrChans (d : Dev) : Dev :=
  (List.range 64).foldl (fun d c =>
    if ! d.chanUses c false then d
    else
      match (d.chan c).cur with
      | some q => d.endDesc c q stHostError false
      | none => d.haltChan c stHostError) d

/-- At takeover, and in roles 1 to 3, the channels are Idle (R379). -/
def Dev.idleChans (d : Dev) : Dev :=
  (List.range 64).foldl (fun d c => (d.putN (Obj.chanState c) 0).updChan c (fun x =>
    { DmaChan.reset with tokens := x.tokens, tokenAt := x.tokenAt })) (d.updHost (fun h => { h with engines := List.replicate 8 none }))

end Sys2Proof.Machine
end

