-- ==== Sys2Proof/Machine/Faults.lean ====
section
/-! DEFINITION. Faults (chapter 11): uncorrectable errors (R285), residue and parity errors (R286), and the deadline
monitors (R289, R290). The repair of engines and the audit stand in Repair.lean. -/

namespace Sys2Proof.Machine

/-! ## Uncorrectable errors (R285) -/

/-- The power domain that a buffer of R285 stands in. -/
def bufferDomain (code unit : Nat) : Nat :=
  match code with
  | 1 => portDomain unit
  | 2 => engineDomain unit
  | 3 => engineDomain unit
  | 4 => portDomain unit
  | 7 => pdCls
  | 8 => pdCls
  | _ => pdHub

/-- A line in the ingress buffer or in an engine's store is lost: it leaves as Missing with Cause 8, and no other line reads its
sites (codes 1 and 2). -/
def Dev.loseRaw (d : Dev) (p lix : Nat) : Dev :=
  (d.addRange (d.portLcg p) true scPort p 3 lix).updEp p (fun e => { e with
    bad := if e.bad.contains lix then e.bad else lix :: e.bad,
    window := e.window.map (fun w =>
      if w.lix = lix ∧ e.nextEmit.getD 0 ≤ lix then
        { w with raw := { w.raw with missing := true, cause := 8 }, streams := [], replaced := 0, mdLack := false }
      else w) })

/-- A corrected line in the Skew Buffer is discarded as SkewOverrun, with the overrun event (code 4; R157, R176). -/
def Dev.loseSkew (d : Dev) (p lix : Nat) : Dev :=
  ((d.addRange (d.portLcg p) true scPort p 3 lix).updSp p (fun s => { s with
    lines := s.lines.filter (fun c => c.lix != lix), hold := s.hold.filter (fun c => c.lix != lix) })).skewOverrun p lix

/-- The background state of a pixel starts afresh in every plane (code 5; R177). -/
def Dev.loseBackground (d : Dev) (v pixel : Nat) : Dev :=
  (d.updSg v (fun x => { x with bg := x.bg.map (fun pl => pl.modify pixel (fun _ => { s := 0, cnt := 0, gated := 0 })) })).addRange
    (d.viewLcg v) false scView v 3 ((d.sg v).lastLine.getD (d.nat (Obj.viewFirstLix v)))

/-- A blob closes and its record is emitted; the lines from its first to the line in work are suspect (code 6). -/
def Dev.loseBlob (d : Dev) (v serial : Nat) : Dev :=
  match (d.sg v).blobs.find? (fun b => b.serial == serial) with
  | none => d
  | some b =>
    let n := (d.sg v).lastLine.getD 0
    let d := d.updSg v (fun x => { x with
      blobs := x.blobs.filter (fun b => b.serial != serial), refs := x.refs.filter (fun r => r.blob != some serial) })
    let d := ((d.bump (Obj.blobsClosed v) 64).emitCand n (b.final v n)).bump (Obj.blobsEmitted v) 64
    let first := match b.piece.lines with | some (f, _) => f | none => n
    d.addRanges (d.viewLcg v) false scView v 3 first (n + 1 - first)

/-- An inference starts again from its patch; a second error clears Verified (code 8). `item` is View × 2^32 + CandSeq. -/
def Dev.rerunInference (d : Dev) (item : Nat) : Dev :=
  d.updCls (fun x => { x with running := x.running.map (fun n =>
      if n.req.cand.view * 2 ^ 32 + n.req.cand.candSeq = item then
        poolOn (d.image n.req.slot) 33
          { n with layer := 0, outs := [], done := [], tries := [], verified := n.verified && ! n.again, again := true }
      else n) })

/-- An item of a Stall's queue is dropped (code 9). -/
def Dev.dropItem (d : Dev) (s item : Nat) : Dev :=
  match d.stall? s with
  | none => d
  | some x =>
    if item < x.queue.length then
      (d.updStall s (fun x => { x with queue := x.queue.eraseIdx item })).countDrop s 1
    else d

/-- An entry of the event log reads as zero (code 10). -/
def Dev.loseEntry (d : Dev) (seq : Nat) : Dev :=
  d.updLogs (fun l => { l with entries := l.entries.map (fun e =>
    if e.seq = seq then
      { code := 0, seq := 0, time := 0, lix := 0, lcg := 0, lixValid := false, words := [], repeats := 0 }
    else e) })

/-- The LCG of a buffer's unit, if it has one. -/
def Dev.bufferLcg (d : Dev) (code unit : Nat) : Option Nat :=
  match code with
  | 1 => d.portLcg? unit
  | 4 => d.portLcg? unit
  | 2 => (d.portsOf unit).head?.bind d.portLcg?
  | 3 => (d.portsOf unit).head?.bind d.portLcg?
  | 5 => d.viewLcg? unit
  | 6 => d.viewLcg? unit
  | _ => none

/-- The LIX that the uncorrectable event carries (R303): that of the line hit, or of the line in work. -/
def Dev.bufferLix (d : Dev) (code unit item : Nat) : Nat :=
  match code with
  | 1 => item
  | 2 => item
  | 4 => item
  | 3 => ((d.portsOf unit).head?.bind (fun p => (d.ep p).nextEmit)).getD 0
  | 5 => (d.sg unit).lastLine.getD 0
  | 6 => (d.sg unit).lastLine.getD 0
  | _ => 0

/-- UNCORRECTABLE_ERROR: a word of buffer `code` fails; `item` is what it belongs to: a LIX (1, 2, 4), a pixel (5), a
serial (6), a bank (7), View × 2^32 + CandSeq (8), a place in the queue (9), a Seq (10) (R285). -/
def Dev.uncorrectable (d : Dev) (code unit item row : Nat) : Dev :=
  if ! d.domOn (bufferDomain code unit) then d
  else
    let flags := if code = 1 ∨ code = 2 ∨ code = 4 then 8 else if code = 5 ∨ code = 6 then 4 else 0
    let lix := d.bufferLix code unit item
    let lcg := d.bufferLcg code unit
    let d := d.bump Obj.uncorrectableErrors
    let d := (d.updLogs (fun l => { l with ueTime := some d.now })).rowError code unit row true
    let d := match code with
      | 1 => d.loseRaw unit item
      | 2 => ((d.portsOf unit).filter (fun p => (d.ep p).window.any (fun w => w.lix == item))).foldl (fun d p => d.loseRaw p item) d
      | 3 =>
        if (d.engine unit).state = 1 then d.engineRepair unit 3
        else if (d.engine unit).state = 2 ∨ (d.engine unit).state = 3 then d.retireSpare unit else d
      | 4 => d.loseSkew unit item
      | 5 => d.loseBackground unit item
      | 6 => d.loseBlob unit item
      | 7 => (d.programBank unit (item % 4)).blameArray unit ((Tbl.get? (d.arr unit).banks (item % 4)).elim 0 (fun k => k.tile))
      | 8 => d.rerunInference item
      | 9 => d.dropItem unit item
      | 10 => d.loseEntry item
      | _ => d
    d.logRep 0x09 sevFault 0x0005 (code * 1024 + unit) (fun _ => [.f code, .f unit, .w lix]) lcg flags

/-! ## Residue and parity errors (R286) -/

/-- The LIX of the line in work in the stitcher or the segmenter of a View. -/
def Dev.lineInWork (d : Dev) (block v : Nat) : Nat :=
  if block = 4 then (d.vw v).next
  else match (d.vw v).ready with
    | l :: _ => l.lix
    | [] => (d.sg v).lastLine.getD (d.vw v).next

/-- A residue error in the stitcher (block 4) or the segmenter (block 5) of a View (R286). -/
def Dev.webResidue (d : Dev) (block v : Nat) : Dev :=
  let lix := d.lineInWork block v
  let d := (d.addRange (d.viewLcg v) false scView v 4 lix).bump Obj.webPipeErrors
  let d := d.logRep 0x09 sevFault 0x0007 (block * 256 + v) (fun _ => [.f block, .f v, .w lix]) (d.viewLcg? v) 4
  let d := d.updFlt (fun f => { f with webPipe := (d.now :: f.webPipe.filter (fun t => decide (d.now ≤ t + 1000000000))).take 3 })
  if 3 ≤ d.flt.webPipe.length ∧ ! bit d.health 2 then
    (d.setHealth 2 true).log 0x09 sevFault 0x000B [.w (d.nat Obj.webPipeErrors)]
  else d

/-- RESIDUE_ERROR: `block` is the source code of R297: 3 engine, 4 stitcher, 5 segmenter. -/
def Dev.residueError (d : Dev) (block unit : Nat) : Dev :=
  match block with
  | 3 => if d.enginePowered unit then d.engineResidue unit else d
  | 4 => if unit < 4 ∧ d.domOn pdHub then d.webResidue 4 unit else d
  | 5 => if unit < 4 ∧ d.domOn pdHub then d.webResidue 5 unit else d
  | _ => d

/-- PARITY_ERROR: a register of `unit` of `block` is reloaded; with both copies bad, firmware takes 100 µs (R286). -/
def Dev.parityError (d : Dev) (block unit : Nat) (both : Bool) : Dev :=
  let d := d.logRep 0x09 sevWarn 0x0008 (block * 1024 + unit) (fun _ => [.f block, .f unit])
  if both then
    d.updFlt (fun f => { f with
      parity := f.parity.filter (fun e => decide (d.now < e.2.2)) ++ [(block, unit, d.now + 100000)] })
  else d

/-! ## Deadlines (R289, R290) -/

/-- The budget of monitor `m` for line `n`: lines and µs; monitor 1 takes the View's own (R289). -/
def Dev.dlBudget (d : Dev) (v m n : Nat) : Nat × Nat :=
  if m = 1 then (d.natAt (Obj.viewDeadline v) n, d.natAt (Obj.viewFloor v) n)
  else (d.natAt (Obj.dlLines v m) n, d.natAt (Obj.dlFloor v m) n)

/-- DlLines hits have followed the hit of line `n`, and DlFloor µs have passed since it (R289). -/
def Dev.dlPassed (d : Dev) (v m n : Nat) : Bool :=
  let g := d.viewLcg v
  let (lines, floor) := d.dlBudget v m n
  d.budgetPassed g n lines (floor * 1000)

/-- The item of line `n` under monitor `m` is complete (R289). -/
def Dev.dlDone (d : Dev) (v m n : Nat) : Bool :=
  let x := d.vw v
  let s := d.sg v
  match m with
  | 0 => (d.viewPorts v).all (fun p => d.nat (Obj.bindMode p) != 1 || (match (d.sp p).lastIn with
      | some l => decide (n ≤ l)
      | none => false))
  | 1 => decide (n < x.next) && ! x.nrLines.contains n
  | 2 => ! s.running || (match s.lastLine with | some l => decide (n ≤ l) | none => false)
  | _ =>
    (! s.running || (match s.lastLine with | some l => decide (n ≤ l) | none => false)) &&
      ! s.waiting.any (fun w => w.cand.line == n) && ! (d.flights v).any (fun f => f.cand.line == n) &&
      ! d.cls.toRelease.any (fun e => e.1.cand.view == v && e.1.cand.line == n)

/-- The lines of the View that can have an item: up to the last line if it stops, else to the current LIX. -/
def Dev.dlExists (d : Dev) (v n : Nat) : Bool :=
  let x := d.vw v
  if x.running then (match x.stopAt with | some s => decide (n ≤ s) | none => decide (0 ≤ lixDiff (d.curLix (d.viewLcg v)) n))
  else decide (n < x.next)

/-- What a late item does (R290). -/
def Dev.dlFault (d : Dev) (v m n : Nat) : Dev :=
  let d := (d.bump (Obj.dlFaults v m) 64).addRange (d.viewLcg v) false scView v 6 n
  let d := (d.updLogs (fun l => { l with dlTime := some d.now })).updFlt (fun f => { f with dlLate := (v, m, n) :: f.dlLate })
  d.logFirst 0x09 sevWarn 0x0009 (4 * v + m) [.w n] (fun _ first => [.f v, .f m] ++ first ++ [.w n]) (d.viewLcg? v) 4

/-- Judge the lines of a View under monitor `m` from line `n` on, each by its own budget; the second result is the oldest line
whose item is still waited for, `wait` being the oldest before `n`. -/
def Dev.dlScan (v m : Nat) : (fuel : Nat) → Dev → Nat → (wait : Option Nat) → Dev × Nat
  | 0, d, n, wait => (d, wait.getD n)
  | fuel + 1, d, n, wait =>
    if ! d.dlExists v n then (d, wait.getD n)
    else if d.dlDone v m n || d.flt.dlLate.contains (v, m, n) then Dev.dlScan v m fuel d (n + 1) wait
    else if d.dlPassed v m n then Dev.dlScan v m fuel (d.dlFault v m n) (n + 1) wait
    else Dev.dlScan v m fuel d (n + 1) (some (wait.getD n))

/-- DEADLINE_FAULT: monitor `m` of View `v` finds every late item (R289, R290). -/
def Dev.deadlineFault (d : Dev) (v m : Nat) : Dev :=
  let x := d.vw v
  if d.role = 2 ∨ (! x.running && x.ready.isEmpty && ! d.flag (Obj.viewEnable v) && m < 2) then d
  else
    let joined := if d.role = 0 then 0 else 256 * d.pair.since.getD (d.viewLcg v) 0
    let start := max joined (max (d.nat (Obj.viewFirstLix v)) ((d.flt.dlNext.getD v []).getD m 0))
    let fuel := (lixDiff (d.curLix (d.viewLcg v)) start).toNat + 1
    let (d, n) := Dev.dlScan v m fuel d start none
    let d := d.updFlt (fun f => { f with
      dlNext := f.dlNext.modify v (fun l => l.set m n),
      dlLate := f.dlLate.filter (fun e => e.1 != v || e.2.1 != m || decide (n ≤ e.2.2)) })
    if m = 1 then d.updVw v (fun x => { x with nrLines := x.nrLines.filter (fun k => decide (n ≤ k)) }) else d

end Sys2Proof.Machine
end

