-- ==== Sys2Proof/Machine/HostBus.lean ====
section
/-! DEFINITION. The PCI Express endpoint with mailbox, rings and MSI-X, and the two-wire buses (chapter 16). -/

namespace Sys2Proof.Machine

/-! ## The mailbox (R393, R394) -/

/-- A mailbox frame is discarded (R394, R410). -/
def Dev.mbxDiscard (d : Dev) (key : Nat) : Dev :=
  let d := d.bump key
  d.logRep 0x0E sevWarn 0x0004 0 (fun _ => [.w (d.nat Obj.mbxOverruns), .w (d.nat Obj.mbxDropped)])

/-- Write bytes into a mailbox buffer. -/
def bufPut (buf : Bytes) (off : Nat) (bs : Bytes) : Bytes :=
  (buf ++ List.replicate (off - buf.length) 0).take off ++ bs ++ buf.drop (off + bs.length)

/-- Put a frame into the device-to-host buffer, or let it wait there (R393, R394). -/
def Dev.mbxSend (d : Dev) (frame : Bytes) : Dev :=
  let m := d.host.mbx
  if ! d.domOn pdPcie then d
  else if m.d2h.isNone then
    let d := d.updHost (fun h => { h with mbx := { h.mbx with d2h := some frame, d2hBuf := bufPut h.mbx.d2hBuf 0 frame } })
    (d.emit (.tol 0 none frame)).interrupt (d.nat Obj.mbxVector)
  else if m.waiting.length < 16 then d.updHost (fun h => { h with mbx := { h.mbx with waiting := h.mbx.waiting ++ [frame] } })
  else d.mbxDiscard Obj.mbxDropped

/-- MBX_D2H_ACK: the buffer is free, and the next frame goes in (R393). -/
def Dev.mbxAck (d : Dev) : Dev :=
  let m := d.host.mbx
  if ! d.domOn pdPcie then d
  else
    let d := d.updHost (fun h => { h with mbx := { h.mbx with d2h := none, waiting := m.waiting.drop 1 } })
    match m.waiting with
    | f :: _ => d.mbxSend f
    | [] => d

/-- MbxStatus bit 2, Ready: TOL is served through the mailbox (R21, R424, R435). -/
def Dev.mbxReady (d : Dev) : Bool := d.boot.recovery || d.flag Obj.inspectionReady

/-- MbxStatus (R393). -/
def Dev.mbxStatus (d : Dev) : Nat := b2n d.host.mbx.h2dBusy + 2 * b2n d.host.mbx.d2h.isSome + 4 * b2n d.mbxReady

/-- A write into the host-to-device buffer; one while H2dBusy is 1 is discarded (R394). -/
def Dev.mbxH2dPut (d : Dev) (off : Nat) (bs : Bytes) : Dev :=
  if ! d.domOn pdPcie ∨ d.host.mbx.h2dBusy then d
  else d.updHost (fun h => { h with mbx := { h.mbx with h2dBuf := bufPut h.mbx.h2dBuf off bs } })

/-- A doorbell hands over the frame in the buffer (R21, R394), unless it is discarded and counted. The device takes the frame at once and
clears H2dBusy (log entry 57). One that comes before TOL is served is discarded and counted, too (log entry 75). -/
def Dev.mbxDoorbell (d : Dev) (length : Nat) : Dev × Option Bytes :=
  if ! d.domOn pdPcie then (d, none)
  else if length < 16 ∨ 4096 < length ∨ ! d.mbxReady ∨ d.host.mbx.h2dBusy then (d.mbxDiscard Obj.mbxOverruns, none)
  else (d.interrupt (d.nat Obj.mbxVector), some ((d.host.mbx.h2dBuf ++ List.replicate length 0).take length))

/-! ## Sessions that end (R45, R248) -/

/-- A session ends: its Stalls close, unless they are persistent, and its slot is free (R45, R248). -/
def Dev.endSession (d : Dev) (slot : Nat) : Dev :=
  match Tbl.get? d.tol.sessions slot with
  | none => d
  | some x =>
    let d := d.updTol (fun x => { x with sessions := Tbl.del x.sessions slot })
    d.closeOwned x.id

/-- The sessions of a transport end. -/
def Dev.endSessions (d : Dev) (p : Nat → Bool) : Dev :=
  (d.tol.sessions.filter (fun e => p e.2.transport)).foldl (fun d e => d.endSession e.1)
    (d.updTol (fun x => { x with handshakes := x.handshakes.filter (fun h => ! p h.transport) }))

/-! ## Host rings (R395 to R397) -/

def Dev.badAccess (d : Dev) : Dev := d.bump Obj.pcieBadAccess

/-- Every Stall on a ring closes (R397). -/
def Dev.closeRingStalls (d : Dev) (r : Nat) : Dev :=
  (d.stallsOpen.filter (fun s => d.nat (Obj.stallTransport s) == 0 && d.nat (Obj.destPort s) == r)).foldl
    (fun d s => d.closeStall s 0) d

/-- Enable of a ring is cleared (R397). -/
def Dev.disableRing (d : Dev) (r : Nat) : Dev :=
  if ! (d.ring r).enabled then d
  else (d.closeRingStalls r).updRing r (fun x => { x with ctl := setBit x.ctl 8 false })

/-- RING_HEAD: the host returns slots (R396). -/
def Dev.ringHead (d : Dev) (r value : Nat) : Dev :=
  if ! d.domOn pdPcie then d
  else
    let x := d.ring r
    let v := value % 2 ^ 32
    if x.slots < subMod (2 ^ 32) x.tail v then d.badAccess else d.updRing r (fun x => { x with head := v })

/-- The bytes of a register write, and its value. -/
def regBytes : RegWrite → Nat
  | .w32 _ => 4
  | .w64 _ => 8
def regValue : RegWrite → Nat
  | .w32 v => v % 2 ^ 32
  | .w64 v => v % 2 ^ 64

/-- A write of a 64-bit register whole, or of its lower or upper half. -/
def regMerge (old : Nat) (upper : Bool) : RegWrite → Nat
  | .w64 v => v % 2 ^ 64
  | .w32 v => if upper then v % 2 ^ 32 * 2 ^ 32 + old % 2 ^ 32 else old / 2 ^ 32 * 2 ^ 32 + v % 2 ^ 32

/-- A write of a ring's registers (R392, R395): at offset 0x00 RingBase, 0x08 RingTailAddr, 0x10 RingCtl, 0x18 RingHead. The rest of its
64 bytes takes no value. -/
def Dev.ringWrite (d : Dev) (r offset : Nat) (w : RegWrite) : Dev :=
  let x := d.ring r
  if ! d.domOn pdPcie then d
  else if offset % regBytes w ≠ 0 ∨ 64 ≤ offset then d.badAccess
  else if offset = 0x00 ∨ offset = 0x04 then
    let v := regMerge x.base (offset == 0x04) w / 4096 * 4096
    if x.enabled ∧ v ≠ x.base then d.badAccess else d.updRing r (fun x => { x with base := v })
  else if offset = 0x08 ∨ offset = 0x0C then
    let v := regMerge x.tailAddr (offset == 0x0C) w / 4 * 4
    if x.enabled ∧ v ≠ x.tailAddr then d.badAccess else d.updRing r (fun x => { x with tailAddr := v })
  else if offset = 0x10 then
    let v := regValue w % 2 ^ 32
    if bit v 7 ∨ field v 10 6 ≠ 0 ∨ v / 2 ^ 24 ≠ 0 ∨ 13 < field v 0 4 ∨ 6 < field v 4 3 then d.badAccess
    else if x.enabled ∧ field v 0 7 ≠ field x.ctl 0 7 then d.badAccess
    else
      let d := if x.enabled && ! bit v 8 then d.disableRing r else d
      let start := ! x.enabled && bit v 8
      let d := d.updRing r (fun x => { x with
        ctl := v, head := if start then 0 else x.head, tail := if start then 0 else x.tail })
      if start then d.restoreStalls else d
  else if offset = 0x18 then d.ringHead r (regValue w)
  else d

/-! ## MSI-X, BAR accesses, resets of the function (R391, R392, R398, R399) -/

/-- Send the message of a vector that is pending and no longer masked (R398). -/
def Dev.releaseVector (d : Dev) (v : Nat) : Dev :=
  if d.msix.enabled && ! d.msix.fmask && ! bit d.msix.masked v && bit d.msix.pending v then
    (d.updMsix (fun x => { x with pending := setBit x.pending v false })).sendMsix v
  else d

/-- MSIX_UNMASK (R398): a write of a mask, and the messages that are then no longer masked. -/
def Dev.msixUnmask (d : Dev) (w : MsixWrite) : Dev :=
  if ! d.domOn pdPcie then d
  else match w with
    | .vector v masked => (d.updMsix (fun x => { x with masked := setBit x.masked v masked })).releaseVector v
    | .control enable mask =>
      (List.range 256).foldl Dev.releaseVector (d.updMsix (fun x => { x with enabled := enable, fmask := mask }))

/-- BAR2_ACCESS (R391): byte `a` of BAR2 is byte `a` of region 6; a read that meets an uncorrectable error ends with an
error and gives no data (R335). The correctable errors found on the link with its packets are counted (R390, R408). -/
def Dev.bar2Access (d : Dev) (a : Nat) (write : Bool) (data : Bytes) (tlp : BarTlp) : Dev :=
  if ! d.domOn pdPcie then d
  else
    let d := d.bumpBy Obj.aerCorrectable tlp.corrected
    let n := if write then data.length else tlp.length
    let addr := 6 * 2 ^ 36 + a
    if d.regionBytes 6 < a + n ∨ d.spaceOff true then
      let d := d.bump Obj.pcieWinMisses
      if write then d else d.emit (.bar (List.replicate n 0xFF))
    else if write then (d.hbmWrite addr data).memRequest 10 addr n true
    else
      let d := d.memRequest 10 addr n false
      if d.hbmBad addr n then d.emit (.bar []) else d.emit (.bar (d.hbmRead addr n))

/-- An access of BAR0 that the map of R392 does not name. -/
def bar0Bad (a n : Nat) : Bool :=
  let within (lo size : Nat) : Bool := decide (lo ≤ a ∧ a + n ≤ lo + size)
  let register := (n == 4 || n == 8) && a % n == 0
  ! (((within 0 64 || within 0x10000 4096 || within 0x20000 4096 || within 0x21000 32) && register) ||
     within 0x1000 4096 || within 0x2000 4096)

/-- The bytes of a ring's registers, RingBase in the lowest (R395). -/
def Ring.bytes (x : Ring) : Bytes := packLE 32 [(x.tail, 32), (x.head, 32), (0, 32), (x.ctl, 32), (x.tailAddr, 64), (x.base, 64)]

/-- The 16 bytes of a vector's entry of the MSI-X table: address, data, vector control (R398). -/
def Msix.entry (x : Msix) (v : Nat) : Bytes :=
  let e := Tbl.get x.table v (0, 0)
  packLE 16 [(b2n (bit x.masked v), 32), (e.2, 32), (e.1, 64)]

/-- A byte of BAR0 as a read finds it (R392, R393, R395, R398). -/
def Dev.bar0Byte (d : Dev) (a : Nat) : Byte :=
  let m := d.host.mbx
  let open_ : Byte := BitVec.ofNat 8 (Config.bar0Free a)
  if a < 64 then
    if 4 ≤ a ∧ a < 8 then (natLE 4 d.mbxStatus).getD (a - 4) 0
    else if 8 ≤ a ∧ a < 12 then (natLE 4 ((m.d2h.map List.length).getD 0)).getD (a - 8) 0
    else open_
  else if a < 0x2000 then m.h2dBuf.getD (a - 0x1000) 0
  else if a < 0x3000 then m.d2hBuf.getD (a - 0x2000) 0
  else if a < 0x11000 then
    let i := a % 64
    if i < 0x20 ∧ ¬ (0x14 ≤ i ∧ i < 0x18) then (d.ring ((a - 0x10000) / 64)).bytes.getD i 0 else open_
  else if a < 0x21000 then (d.msix.entry ((a - 0x20000) / 16)).getD (a % 16) 0
  else (natLE 32 d.msix.pending).getD (a - 0x21000) 0

/-- A write of one 32-bit word of a vector's entry of the MSI-X table (R398). -/
def Dev.msixTableWord (d : Dev) (v word value : Nat) : Dev :=
  let put (f : Nat × Nat → Nat × Nat) : Dev := d.updMsix (fun x => { x with table := Tbl.put x.table v (f (Tbl.get x.table v (0, 0))) })
  match word with
  | 0 => put (fun e => (regMerge e.1 false (.w32 value), e.2))
  | 1 => put (fun e => (regMerge e.1 true (.w32 value), e.2))
  | 2 => put (fun e => (e.1, value))
  | _ => d.msixUnmask (.vector v (bit value 0))

/-- What a function level reset and a power-down of PD_PCIE have in common (R399). -/
def Dev.resetEndpoint (d : Dev) : Dev :=
  let d := d.endSessions (fun t => t == 0)
  let d := d.updHost (fun h => { h with mbx := Mailbox.reset })
  let d := (List.range 64).foldl Dev.disableRing d
  let d := d.updMsix (fun _ => Msix.reset)
  d.flrChans

/-- The identity that the endpoint shows (R390): its class code and its Device ID. -/
def Dev.pcieIdentity (d : Dev) : Nat × Nat := (0x118000, d.partCode)

/-- FUNCTION_LEVEL_RESET (R399). -/
def Dev.functionReset (d : Dev) : Dev :=
  if ! d.domOn pdPcie then d
  else
    let d := d.resetEndpoint.bump Obj.flrCount
    d.logRep 0x0E sevWarn 0x0003 0 (fun _ => [.w (d.nat Obj.flrCount)])

/-- PCIE_LINK_UP_DOWN: the link has trained to a speed and width, or is down (0, 0). -/
def Dev.pcieLink (d : Dev) (speed width : Nat) : Dev :=
  if ! d.domOn pdPcie then d
  else
    let up := decide (1 ≤ speed ∧ speed ≤ d.nat Obj.pcieMaxSpeed) && [1, 2, 4, 8, 16].contains width
    let s := if up then speed else 0
    let w := if up then width else 0
    ((d.putN Obj.pcieSpeed s).putN Obj.pcieWidth w).logRep 0x0E sevInfo 0x0001 0 (fun _ => [.f s, .f w])

/-- AER_UNCORRECTABLE_ERROR (R390). -/
def Dev.aerError (d : Dev) : Dev :=
  if ! d.domOn pdPcie then d
  else
    let d := d.bump Obj.aerUncorrectable
    d.logRep 0x0E sevFault 0x0002 0 (fun _ => [.w (d.nat Obj.aerUncorrectable)])

/-! ## Two-wire controllers (R400 to R404) -/

def Dev.twc (d : Dev) (k : Nat) : Option TwcTx := d.host.twc.getD k none
def Dev.setTwc (d : Dev) (k : Nat) (t : Option TwcTx) : Dev := d.updHost (fun h => { h with twc := h.twc.set k t })

/-- A transaction ends with a status (R401). -/
def Dev.twcEnd (d : Dev) (k status : Nat) : Dev :=
  let d := (d.setTwc k none).putN (Obj.twcStatus k) status
  if status = 4 then d.logRep 0x0E sevWarn 0x0005 k (fun _ => [.f k, .f (d.nat (Obj.twcLossDetail k))])
  else if status = 5 ∨ status = 6 then d.logRep 0x0E sevFault 0x0007 k (fun _ => [.f k, .f status])
  else d

/-- A loss of arbitration shows by a level that stood for TwcFilter samples; shorter pulses are ignored (R400). -/
def Dev.twcLoss (d : Dev) (k : Nat) (r : BusReply) : Option Nat :=
  if r.lossHeld < d.nat (Obj.twcFilter k) then none else r.loss

/-- One attempt at a transaction on a free bus, as the other parties answer (R401 to R403). -/
def Dev.twcAttempt (d : Dev) (k : Nat) (t : TwcTx) (r : BusReply) : Dev :=
  let d := d.emit (.twoWire k t.op t.addr t.tx t.rxLen)
  let all := r.addrAck && decide (t.tx.length ≤ r.dataAcks)
  match d.twcLoss k r with
  | some detail =>
    let d := (d.bump (Obj.twcArbLost k)).putN (Obj.twcLossDetail k) (min 3 detail)
    if detail = 1 ∧ t.op = 1 ∧ r.lossAtEnd ∧ all then (d.putN (Obj.twcBytesDone k) t.tx.length).twcEnd k 7
    else if t.retries = 0 then d.twcEnd k 4
    else d.setTwc k (some { t with retries := t.retries - 1 })
  | none =>
    let got := (r.rx ++ List.replicate t.rxLen 0xFF).take t.rxLen
    let read (d : Dev) : Dev := (d.putB (Obj.twcRxData k) got).putN (Obj.twcBytesDone k) ((if t.op = 2 then 0 else t.tx.length) + t.rxLen)
    if ! r.addrAck then (d.putN (Obj.twcBytesDone k) 0).twcEnd k 2
    else if t.op = 2 then (read d).twcEnd k 0
    else if ! all then (d.putN (Obj.twcBytesDone k) (min r.dataAcks t.tx.length)).twcEnd k 3
    else if t.op = 1 then (d.putN (Obj.twcBytesDone k) t.tx.length).twcEnd k 0
    else if ! r.readAck then (d.putN (Obj.twcBytesDone k) t.tx.length).twcEnd k 2
    else (read d).twcEnd k 0

/-- A write of TwcOp (R401): at once where the bus is free, else once it is. -/
def Dev.twcOp (d : Dev) (k op : Nat) (bus : Option BusReply) : Dev × RCode :=
  if d.nat (Obj.twcStatus k) = 1 then (d, .busy)
  else if ! d.flag (Obj.twcEnable k) then (d, .state)
  else
    let t : TwcTx := { op := op, addr := d.nat (Obj.twcAddr k), tx := d.bytes (Obj.twcTxData k), rxLen := d.nat (Obj.twcRxLen k),
                       retries := d.nat (Obj.twcRetries k) }
    let d := (d.setTwc k (some t)).putN (Obj.twcStatus k) 1
    (match bus with | some r => d.twcAttempt k t r | none => d, .ok)

/-- The transaction of a controller that runs; one that is stopped keeps it (R409; log entry 57). -/
def Dev.twcActive (d : Dev) (k : Nat) : Option TwcTx := if d.flag (Obj.twcEnable k) then d.twc k else none

/-- BUS_FREE: a transaction that waits, or is to be retried, starts (R401, R402). -/
def Dev.busFree (d : Dev) (k : Nat) (r : BusReply) : Dev :=
  match d.twcActive k with
  | some t => d.twcAttempt k t r
  | none => d

/-- BUS_CLEAR: SDA is released after `pulses` pulses of SCL, or (from 10 on) stays low after the ninth (R404). -/
def Dev.busClear (d : Dev) (k pulses : Nat) (r : BusReply) : Dev :=
  match d.twcActive k with
  | some t =>
    if pulses = 0 then d
    else if 9 < pulses then d.twcEnd k 5
    else
      let d := d.bump (Obj.twcBusClears k)
      (d.logRep 0x0E sevInfo 0x0006 k (fun _ => [.f k, .w (d.nat (Obj.twcBusClears k))])).twcAttempt k t r
  | none => d

/-- SCL_TIMEOUT (R401, R404). -/
def Dev.sclTimeout (d : Dev) (k : Nat) : Dev := if (d.twcActive k).isSome then d.twcEnd k 6 else d

/-! ## The two-wire target (R405 to R407) -/

/-- The status page (R407). -/
def Dev.statusPage (d : Dev) : Bytes :=
  let w := d.webAt d.now / 65536
  natLE 2 d.partCode ++ natLE 1 (d.nat Obj.siliconRevision) ++ natLE 1 d.role ++ natLE 4 d.healthNow ++
    natLE 4 (d.nat Obj.logSeq) ++ natLE 2 (ofSigned 16 (d.int Obj.clsTemp)) ++ [0, 0] ++ natLE 4 (w / 1000000000) ++
    natLE 4 (w % 1000000000) ++ natLE 8 (d.curLix 0) ++ List.replicate 32 0

/-- TwtScratch, 4,032 bytes. -/
def Dev.scratch (d : Dev) : Bytes := (d.bytes Obj.twtScratch ++ List.replicate 4032 0).take 4032

/-- One byte of the target space (R407). -/
def Dev.twtByte (d : Dev) (page : Bytes) (a : Nat) : Byte :=
  if a < 0x40 then page.getD a 0 else if a < 0x1000 then d.scratch.getD (a - 0x40) 0 else 0xFF

/-- TWT_ADDRESS (R405): a read returns `count` bytes from the pointer; a write waits for its commit. -/
def Dev.twtAddress (d : Dev) (address : Nat) (read : Bool) (count : Nat) : Dev :=
  if ! d.flag Obj.twtEnable ∨ address ≠ d.nat Obj.twtAddr then d
  else if read then
    let p := d.nat Obj.twtPointer
    let page := d.statusPage
    let bs := (List.range count).map (fun i => d.twtByte page ((p + i) % 65536))
    ((d.putN Obj.twtPointer ((p + count) % 65536)).updHost (fun h => { h with twtWrite := false })).emit (.twtData bs)
  else d.updHost (fun h => { h with twtWrite := true })

/-- Write one byte at the pointer, which advances within its page (R405, R407). -/
def Dev.twtPut (d : Dev) (x : Byte) : Dev :=
  let p := d.nat Obj.twtPointer
  let d := if p < 0x40 ∨ 0x1000 ≤ p then d.bump Obj.twtDiscarded
    else d.putB Obj.twtScratch (d.scratch.set (p - 0x40) x)
  d.putN Obj.twtPointer (p / 64 * 64 + (p % 64 + 1) % 64)

/-- TWT_COMMIT (R405, R406): the bytes of a write are committed; a byte broken off is discarded. A condition inside a byte shows by a level
that stood for so many samples, and is ignored below TwtFilter (R400). -/
def Dev.twtCommit (d : Dev) (bytes : Bytes) (broken : Option Nat) : Dev :=
  if ! d.flag Obj.twtEnable ∨ ! d.host.twtWrite ∨ broken.any (fun n => decide (n < d.nat Obj.twtFilter)) then d
  else
    let d := d.updHost (fun h => { h with twtWrite := false })
    let d := if broken.isSome then d.bump Obj.twtDiscarded else d
    match bytes with
    | hi :: lo :: rest =>
      let d := d.putN Obj.twtPointer (hi.toNat * 256 + lo.toNat)
      (rest.foldl Dev.twtPut d).bump Obj.twtCommits
    | _ => if bytes = [] then d else d.bump Obj.twtCommits

/-- TWT_TIMEOUT (R406): SDA is released and the uncommitted bytes are discarded. -/
def Dev.twtTimeoutEvent (d : Dev) (bytes : Nat) : Dev :=
  if ! d.flag Obj.twtEnable then d
  else
    let d := (d.updHost (fun h => { h with twtWrite := false })).bumpBy Obj.twtDiscarded bytes
    let d := d.bump Obj.twtTimeouts
    d.logRep 0x0E sevWarn 0x0008 0 (fun _ => [.w (d.nat Obj.twtTimeouts)])

end Sys2Proof.Machine
end

