-- ==== Sys2Proof/Machine/Network.lean ====
section
/-! DEFINITION. Network ports, the PTP domains and the WebTime servo (chapter 14). -/

namespace Sys2Proof.Machine

def Dev.dom (d : Dev) (k : Nat) : PtpDomain := d.net.domains.getD k PtpDomain.reset
def Dev.updDom (d : Dev) (k : Nat) (f : PtpDomain → PtpDomain) : Dev :=
  d.updNet (fun n => { n with domains := n.domains.modify k f })

/-- 2^k seconds in ns. -/
def secsLog (k : Int) : Nat := if 0 ≤ k then 1000000000 * 2 ^ k.toNat else 1000000000 / 2 ^ (-k).toNat

/-! ## Frames (R344, R346, R359) -/

/-- The VID of a received frame is that of the port (R344). -/
def Dev.vlanOk (d : Dev) (q : Nat) (vlan : Option Nat) : Bool :=
  vlan == (if d.nat (Obj.vlanId q) = 0 then none else some (d.nat (Obj.vlanId q)))

/-- A MAC address of a group of stations. -/
def groupMac (mac : Nat) : Bool := bit mac 40

/-- Whether a frame is for the service address (true) or for the local one (false); none where it is for neither (R346). A request for
a neighbour may come by a group address. -/
def Dev.addressed (d : Dev) (q : Nat) (f : EthFrame) : Option Bool :=
  let asked : Bool := f.kind == .neighbour && groupMac f.mac
  if d.serviceOn q && f.ip == d.bytes (Obj.serviceIp q) && (asked || f.mac == d.serviceMacOf q) then some true
  else if f.ip != [] && f.ip == d.localIp q && (asked || f.mac == portMac q) then some false
  else none

/-- A PTP domain hears a port (R363). -/
def Dev.domainHears (d : Dev) (k q : Nat) : Bool :=
  d.domOn pdNet && d.flag (Obj.domainEnable k) && bit (d.nat (Obj.domainPorts k)) q && d.portUp q

/-- The domain that a PTP message is for: one that hears the port, by its transport and domainNumber (R355, R363). -/
def Dev.domainFor (d : Dev) (q transport number : Nat) : Option Nat :=
  (List.range 2).find? (fun k =>
    d.domainHears k q && d.nat (Obj.ptpTransport k) == transport && d.nat (Obj.domainNumber k) == number)

/-- Some domain listens on a port by a transport. -/
def Dev.listens (d : Dev) (q transport : Nat) : Bool :=
  (List.range 2).any (fun k => d.domainHears k q && d.nat (Obj.ptpTransport k) == transport)

/-- The solicited-node group of an IPv6 address. -/
def solicitedNode (ip : Bytes) : Bytes :=
  natLE 16 0xff02000000000000000000000001ff000000 |>.reverse.take 13 |>.append (ip.drop 13)

/-- The groups that a port listens to, by address length (R344, R347): those of PTP for the transports of its domains (from IEEE 1588:
224.0.1.129 and 224.0.0.107, FF0E::181 and FF02::6B), and for IPv6 the solicited-node groups of its addresses (log entry 72). -/
def Dev.groups (d : Dev) (q len : Nat) : List Bytes :=
  if len = 4 then (if d.listens q 0 then [[224, 0, 1, 129], [224, 0, 0, 107]] else [])
  else
    (if d.listens q 1 then [(natLE 16 0xff0e0000000000000000000000000181).reverse, (natLE 16 0xff02000000000000000000000000006b).reverse]
     else []) ++
    ((d.localIp q :: (if d.serviceOn q then [d.bytes (Obj.serviceIp q)] else [])).filter (fun ip => ip.length == 16)).map solicitedNode

/-- Report the groups that a port listens to: IGMPv3 for IPv4, MLDv2 for IPv6 (R344). -/
def Dev.reportGroups (d : Dev) (q : Nat) : Dev :=
  let send (d : Dev) (len : Nat) (kind : FrameKind) : Dev :=
    let gs := d.groups q len
    if gs = [] then d
    else d.sendFrame q {
      prio := 2, len := d.rawLen q (max 64 (18 + 2 * len + 8 + gs.length * (4 + len))), out := .frame q kind (d.frameHead q false) gs.flatten,
      domain := none }
  send (send d 4 .igmpReport) 16 .mldReport

/-- The receive timestamp of a message that comes in now, `frac` into the nanosecond in 2^-16 ns (R348). -/
def Dev.rxStamp (d : Dev) (q frac : Nat) : Int := (d.webAt d.now : Int) + (frac : Int) - d.int (Obj.ingressLatency q)

/-- Answer a request that a port hears: ARP and NDP and echo requests, queries for groups, and Pdelay_Req with the peer-to-peer
mechanism, two-step (R344, R347). -/
def Dev.answer (d : Dev) (q : Nat) (f : EthFrame) (service : Bool) : Dev :=
  let reply (prio len : Nat) (kind : FrameKind) (data : Bytes) : TxFrame :=
    { prio := prio, len := len, out := .frame q kind (d.frameHead q service) data, domain := none }
  match f.kind with
  | .neighbour => d.sendFrame q (reply 1 (d.rawLen q 64) .neighbourReply f.payload)
  | .echo => d.sendFrame q (reply 2 f.length .echoReply f.payload)
  | .groupQuery => d.reportGroups q
  | .pdelayReq transport number => match d.domainFor q transport number with
    | some k =>
      if d.nat (Obj.delayMech k) = 1 then
        d.sendFrame q (reply 0 (d.rawLen q 90) .pdelayResp (natLE 16 (ofSigned 128 (d.rxStamp q f.frac)) ++ f.payload))
      else d
    | none => d
  | _ => d

/-- A frame that the table of R344 admits, to an address or a group of the port. -/
def Dev.admits (d : Dev) (q : Nat) (f : EthFrame) : Bool :=
  decide (f.length ≤ d.nat (Obj.maxFrame q)) && d.vlanOk q f.vlan && (match f.kind with
    | .pause | .other => false
    | .tol udp => udp == d.nat Obj.udpPort && (d.addressed q f).isSome
    | .echo | .neighbour => (d.addressed q f).isSome
    | .neighbourReply _ => f.mac == portMac q || (d.serviceOn q && f.mac == d.serviceMacOf q)
    | .ptpOther | .groupQuery => groupMac f.mac
    | .pdelayReq transport _ => groupMac f.mac && d.listens q transport)

/-- A neighbour that was asked for answers (R344). -/
def Dev.learn (d : Dev) (q : Nat) (ip : Bytes) (mac : Nat) : Dev :=
  d.updNet (fun n => { n with neigh := n.neigh.map (fun e => if e.1 = q ∧ e.2.1 = ip then (q, ip, some mac) else e) })

/-- ETHERNET_FRAME (R344): count and answer a frame; a TOL frame is passed on as (transport, service address, payload). -/
def Dev.ethernetRx (d : Dev) (q : Nat) (f : EthFrame) : Dev × Option (Nat × Bool × Bytes) :=
  if ! d.portUp q then (d, none)
  else if ! f.fcsOk then (d.bump (Obj.fcsErrors q), none)
  else if ! d.admits q f then (d.bump (Obj.rxDropped q), none)
  else
    let service := (d.addressed q f).getD false
    let d := d.bump (Obj.framesIn q) 64
    match f.kind with
    | .tol _ => (d, some (q + 1, service, f.payload))
    | .neighbourReply mac => (d.learn q f.ip mac, none)
    | .ptpOther => (d.bump (Obj.ptpIgnored q), none)
    | _ => (d.answer q f service, none)

/-- The link of a port comes up or goes down, with its event (R364). -/
def Dev.setLink (d : Dev) (q : Nat) (up : Bool) : Dev :=
  if up = d.flag (Obj.linkUp q) then d
  else (d.putF (Obj.linkUp q) up).logRep 0x0C sevInfo 0x0001 q (fun _ => [.f q, .f (b2n up)])

/-- A port whose link is lost forgets the frames that wait and its neighbours. -/
def Dev.clearPort (d : Dev) (q : Nat) : Dev :=
  d.updNet (fun n => { n with tx := n.tx.set q [], neigh := n.neigh.filter (fun e => e.1 != q) })

/-- LINK_UP_DOWN (R344). The frames that wait at a port whose link is lost are lost; one that comes up reports its groups. -/
def Dev.linkUpDown (d : Dev) (q : Nat) (up : Bool) : Dev :=
  if ! d.domOn pdNet ∨ ! d.flag (Obj.netEnable q) ∨ up = d.flag (Obj.linkUp q) then d
  else
    let d := d.setLink q up
    if up then ((d.reportGroups q).restoreStalls).resolveStalls q
    else d.clearPort q

/-- A write of NetEnable; a port that stops loses its link. -/
def Dev.writeNetEnable (d : Dev) (q : Nat) (on : Bool) : Dev :=
  let d := if on then d else d.linkUpDown q false
  d.putF (Obj.netEnable q) on

/-- Report the groups of every port whose service address is an IPv6 one: its solicited-node group is listened to, or no more (R344,
R346). -/
def Dev.reportService (d : Dev) : Dev :=
  ((List.range 6).filter (fun q => (d.bytes (Obj.serviceIp q)).length == 16)).foldl Dev.reportGroups d

/-- Announce the service addresses on every port that has one, report their groups, and ask for the neighbours of the Stalls (R312, R344,
R346). -/
def Dev.announceService (d : Dev) : Dev :=
  let d := d.updNet (fun n => { n with
    arp := ((List.range 6).filter (fun q => d.bytes (Obj.serviceIp q) != [])).map (fun q => (q, 3, d.now)) })
  (List.range 6).foldl Dev.resolveStalls d.reportService

/-- GRATUITOUS_ARP: the next announcement of a port (R346). -/
def Dev.gratuitousArp (d : Dev) (q : Nat) : Dev :=
  match d.net.arp.find? (fun e => e.1 == q) with
  | some (_, left, due) =>
    if ! d.portUp q ∨ ! d.drives ∨ d.now < due then d
    else
      let rest := d.net.arp.filter (fun e => e.1 != q)
      let d := d.updNet (fun n => { n with arp := if left ≤ 1 then rest else (q, left - 1, due + 1000000) :: rest })
      let ip := d.bytes (Obj.serviceIp q)
      let d := d.sendFrame q {
        prio := 1, len := d.rawLen q (if ip.length = 16 then 90 else 64), out := .frame q .announceAddress (d.frameHead q true) ip,
        domain := none }
      d.logRep 0x0C sevInfo 0x000A q (fun _ => [.f q, .w (leNat (ip.take 8)), .w (leNat (ip.drop 8))])
  | none => d

/-! ## WebTime (R350 to R354) -/

/-- Take the clock up to this moment at its present rate, then run at a new one. -/
def Dev.setFreq (d : Dev) (f : Int) : Dev :=
  let d := d.updClock (fun _ => { base := d.clock.at d.now, anchor := d.now, freq := f })
  d.putI Obj.freqApplied f

/-- A step of WebTime by `x` in 2^-16 ns starts a new epoch (R351, R353, R354): counted and logged. EpochCount never decrements, so it
saturates. Cause: 0 acquisition, 1 forward, 2 TimeStep. -/
def Dev.noteStep (d : Dev) (x : Int) (cause : Nat) (epoch : Nat → Nat) : Dev :=
  let d := ((d.putN Obj.epochCount (epoch (d.nat Obj.epochCount))).bump Obj.stepCount).updNet (fun n => { n with outliers := 0 })
  d.logRep 0x0C sevWarn 0x0005 0 (fun _ => [.i (x / 65536), .w (d.nat Obj.epochCount), .f cause])

/-- Step WebTime by `x` in 2^-16 ns. -/
def Dev.stepWebTime (d : Dev) (x : Int) (cause : Nat) : Dev :=
  let d := d.updClock (fun z => { z with base := ((z.at d.now : Int) + x).toNat, anchor := d.now })
  (d.noteStep x cause (fun e => min (2 ^ 32 - 1) (e + 1))).epochLaunches

/-- Mirror the clock as it stands after a correction, with the step made and its cause (R313, R357). -/
def Dev.mirrorTime (d : Dev) (step : Int) (cause : Nat) : Dev :=
  d.mirror (.webTime (d.int Obj.freqInt) (d.int Obj.freqApplied) step cause (d.nat Obj.epochCount) (d.clock.at d.now) d.now)

/-- Enter a state of the servo, with the slewing and holdover events (R352, R364). -/
def Dev.setServo (d : Dev) (s : Nat) : Dev :=
  let old := d.nat Obj.servoState
  let d := d.putN Obj.servoState s
  let d := if s ≠ old ∧ (s = 2 ∨ old = 2) then d.logRep 0x0C sevInfo 0x0006 0 (fun _ => [.i (d.int Obj.servoOffset)]) else d
  if s ≠ old ∧ (s = 3 ∨ old = 3) then d.logRep 0x0C sevWarn 0x0008 0 (fun _ => [.f (d.nat Obj.timeValid)]) else d

/-- The rest of a servo update once θ is taken: p, I and F (R351). θ in 2^-16 ns; p, I and F in 2^-4 ppb, floored. Whether p lies beyond
SlewMax is judged before it is floored. -/
def Dev.servoTune (d : Dev) (theta : Int) : Dev :=
  let raw : Int := (d.nat Obj.kp : Int) * theta
  let lim : Int := d.nat Obj.slewMax * 16
  let fl : Int := d.nat Obj.freqLimit * 16
  let dt : Int := match d.net.lastUpdate with | some t => (d.now : Int) - t | none => 0
  let i := d.int Obj.freqInt
  let d := (d.putF Obj.timeValid true).updNet (fun n => { n with holdSince := none })
  let slew := decide (d.nat Obj.slewMax * (4096 * 65536) < raw.natAbs)
  let p := clamp (raw * 16 / (4096 * 65536)) (-lim) lim
  let i := if slew then i else clamp (i - (d.nat Obj.ki : Int) * theta * dt * 16 / (4096 * 65536 * 1000000000)) (-fl) fl
  ((d.setServo (if slew then 2 else 1)).putI Obj.freqInt i).setFreq (i - p)

/-- A new θ of the selected domain feeds the servo (R351). -/
def Dev.servoUpdate (d : Dev) (k : Nat) (theta : Int) : Dev :=
  let before := d
  let acquiring := d.nat Obj.servoState = 0
  let d :=
    if acquiring then
      let d := (d.putI Obj.freqInt 0).setFreq 0
      let d := d.stepWebTime (-theta) 0
      (d.putF Obj.timeValid true).setServo 1
    else
      let n := if d.nat Obj.stepThreshold * 65536 < theta.natAbs then d.net.outliers + 1 else 0
      let d := d.updNet (fun x => { x with outliers := n })
      if 0 < n ∧ n < d.nat Obj.stepConfirm then
        let d := d.bump Obj.outlierCount
        d.logRep 0x0C sevInfo 0x0007 k (fun _ => [.f k, .w (d.nat Obj.outlierCount)])
      else if 0 < n ∧ theta < 0 ∧ d.flag Obj.stepForward then d.stepWebTime (-theta) 1
      else d.servoTune theta
  let d := d.updNet (fun n => { n with lastUpdate := some d.now })
  let step := (d.clock.at d.now : Int) - before.clock.at d.now
  d.mirrorTime step (if acquiring then 0 else 1)

/-! ## Domains (R347, R349, R355, R356) -/

/-- A PTP message that the device uses is received: counted by the port, and taken to the domain that it is for (R344, R355, R361). -/
def Dev.onPtp (d : Dev) (q : Nat) (h : PtpHead) (f : Dev → Nat → Dev) : Dev :=
  if ! d.portUp q then d
  else if ! d.vlanOk q h.vlan || ! d.listens q h.transport then d.bump (Obj.rxDropped q)
  else
    let counted := d.bump (Obj.framesIn q) 64
    match d.domainFor q h.transport h.number with
    | some k => f counted k
    | none => counted

/-- Enter a domain state, with the lost-or-recovered event. -/
def Dev.setDomainState (d : Dev) (k s : Nat) : Dev :=
  let old := d.nat (Obj.domainState k)
  let d := d.putN (Obj.domainState k) s
  if s ≠ old ∧ (s = 3 ∨ (old = 3 ∧ s = 2)) then d.logRep 0x0C sevWarn 0x0003 k (fun _ => [.f k, .f s]) else d

/-- Mpd: the mean over the exchanges kept (R349). -/
def meanDelay (l : List Int) : Int := if l = [] then 0 else sumI l / (l.length : Int)

/-- The delays whose mean is Mpd for a Sync on port `q`: of the exchanges with the master, or with the peer-to-peer mechanism of the
link of that port (R349). -/
def Dev.delays (d : Dev) (k q : Nat) : List Int :=
  if d.nat (Obj.delayMech k) = 1 then Tbl.get (d.dom k).links q [] else (d.dom k).mpds

/-- The timescale of the selected domain, as its master announces it, and its offset (R362). -/
def Dev.showSelected (d : Dev) : Dev :=
  let x := d.dom (d.nat Obj.selectedDomain)
  let d := d.putI Obj.servoOffset (d.int (Obj.domainOffset (d.nat Obj.selectedDomain)))
  match x.masters.find? (fun m => some m.msg.master == x.chosen) with
  | some m => (d.putI Obj.utcOffset (toSigned 16 (ofSigned 16 m.msg.utcOffset))).putF Obj.timescale m.msg.arb
  | none => d

/-- Switch the source of θ (R356). -/
def Dev.switchDomain (d : Dev) (k : Nat) : Dev :=
  let old := d.nat Obj.selectedDomain
  if old = k then d
  else
    ((d.putN Obj.selectedDomain k).logRep 0x0C sevWarn 0x0004 0 (fun _ => [.f old, .f k, .i (d.int (Obj.domainOffset k))])).showSelected

/-- The automatic switch: AutoSwitch is set, the selected domain is lost and the other is in state 2 (R356). -/
def Dev.autoSwitchDomain (d : Dev) : Dev :=
  let k := d.nat Obj.selectedDomain
  if d.flag Obj.autoSwitch ∧ d.nat (Obj.domainState k) = 3 ∧ d.nat (Obj.domainState (1 - k)) = 2 then
    (d.switchDomain (1 - k)).bump Obj.switchCount
  else d

/-- A domain has a new offset θ (R349, R355): the selected one shows it in Offset and, but on a standby, feeds the servo (R351, R357). -/
def Dev.domainTheta (d : Dev) (k : Nat) (theta : Int) : Dev :=
  let d := ((d.updDom k (fun x => { x with lastTheta := some d.now })).putI (Obj.domainOffset k) theta).setDomainState k 2
  if d.nat Obj.selectedDomain ≠ k then d.autoSwitchDomain
  else
    let d := d.putI Obj.servoOffset theta
    if 4 ≤ d.nat Obj.servoState then d else d.servoUpdate k theta

/-- SYNC: a Sync, with its Follow_Up, of the domain's master; t2 is its receive timestamp, t1 and the correction are in 2^-16 ns (R348,
R349). The command stands at the Sync's ball; log entry 72. -/
def Dev.syncMessage (d : Dev) (q : Nat) (h : PtpHead) (frac : Nat) (master : Bytes) (t1 correction logInterval : Int) : Dev :=
  d.onPtp q h (fun d k =>
    let x := d.dom k
    let early : Bool := match x.lastSync with | some t => decide (d.now < t + 7800000) | none => false
    if x.chosen ≠ some master ∨ early ∨ logInterval < -7 ∨ 4 < logInterval then d
    else
      let fwd := d.rxStamp q frac - t1 - correction
      let d := (d.bump (Obj.syncCount k)).updDom k (fun x => { x with
        lastSync := some d.now, logSync := logInterval, fwd := some fwd })
      if d.delays k q = [] then d
      else d.domainTheta k (fwd - meanDelay (d.delays k q) - d.int (Obj.delayAsymmetry q)))

/-- DELAY_RESP: the answer to the delay request that the port sent last. An exchange with the master completes, or with the peer-to-peer
mechanism a link delay is measured (R348, R349). An answer of the other mechanism does nothing. -/
def Dev.delayResp (d : Dev) (q : Nat) (h : PtpHead) (frac : Nat) (master : Bytes) (reply : DelayReply) (correction : Int) : Dev :=
  d.onPtp q h (fun d k =>
    match Tbl.get? (d.dom k).sent q with
    | none => d
    | some t3 =>
      let measured (f : PtpDomain → PtpDomain) : Dev :=
        let d := d.updDom k (fun x => { f x with sent := Tbl.del x.sent q })
        d.putI (Obj.meanPathDelay k) (meanDelay (d.delays k q))
      match reply, (d.dom k).fwd with
      | .peerToPeer turnaround, _ =>
        if d.nat (Obj.delayMech k) ≠ 1 then d
        else
          let link := (d.rxStamp q frac - t3 - turnaround - correction) / 2
          measured (fun x => { x with links := Tbl.put x.links q ((link :: Tbl.get x.links q []).take 8) })
      | .endToEnd t4, some fwd =>
        if d.nat (Obj.delayMech k) = 1 ∨ (d.dom k).chosen ≠ some master then d
        else
          let mpd := (fwd + (t4 - t3 - correction)) / 2
          measured (fun x => { x with mpds := (mpd :: x.mpds).take 8 })
      | .endToEnd _, none => d)

/-- Data sets compare in the order of their members (R347). -/
def betterDataset : List Nat → List Nat → Bool
  | [], _ => false
  | _ :: _, [] => true
  | x :: xs, y :: ys => if x < y then true else if y < x then false else betterDataset xs ys

def betterMaster (a b : Master) : Bool :=
  betterDataset (a.msg.dataset ++ [a.msg.stepsRemoved, leNat a.msg.master.reverse]) (b.msg.dataset ++ [b.msg.stepsRemoved, leNat b.msg.master.reverse])

/-- The best of the masters heard. -/
def bestMaster : List Master → Option Master
  | [] => none
  | m :: ms => match bestMaster ms with
    | none => some m
    | some b => if betterMaster b m then some b else some m

/-- A master whose announce receipt timeout has not expired (R356). -/
def Dev.heard (d : Dev) (k : Nat) (m : Master) : Bool :=
  decide (d.now < m.seen + d.nat (Obj.announceTimeout k) * secsLog m.msg.logInterval)

/-- Run the best master clock algorithm over the qualified masters (R347). -/
def Dev.chooseMaster (d : Dev) (k : Nat) : Dev :=
  match bestMaster ((d.dom k).masters.filter (fun m => m.qualified)) with
  | none => d.updDom k (fun x => { x with chosen := none })
  | some m =>
    let changed := (d.dom k).chosen ≠ some m.msg.master
    let d := if changed then d.updDom k (fun x => { x with
        chosen := some m.msg.master, chosenAt := d.now, lastSync := none, mpds := [], fwd := none }) else d
    let d := ((d.putN (Obj.grandmasterId k) (m.msg.grandmaster % 2 ^ 64)).putB (Obj.masterPort k) (m.msg.master.take 10)).putN
      (Obj.stepsRemoved k) (m.msg.stepsRemoved % 65536)
    let d := if d.nat Obj.selectedDomain = k then d.showSelected else d
    if changed then d.logRep 0x0C sevInfo 0x0002 k (fun _ => [.f k, .w (m.msg.grandmaster % 2 ^ 64)]) else d

/-- The Announce messages of a master qualify it: a second one within four announce intervals of the first, as IEEE 1588 has it; one that
is qualified stays so while it is heard (R347). -/
def Dev.qualifies (d : Dev) (k : Nat) (a : AnnounceMsg) : Bool :=
  (d.dom k).masters.any (fun m => m.msg.master == a.master && d.heard k m &&
    (m.qualified || decide (d.now ≤ m.seen + 4 * secsLog a.logInterval)))

/-- ANNOUNCE (R347). One whose stepsRemoved is 255 or more qualifies no master, as IEEE 1588 has it. -/
def Dev.announce (d : Dev) (a : AnnounceMsg) : Dev :=
  d.onPtp a.port a.head (fun d k =>
    if 255 ≤ a.stepsRemoved then d
    else
      let m : Master := { msg := a, seen := d.now, qualified := d.qualifies k a }
      (d.updDom k (fun x => { x with
        masters := x.masters.filter (fun e => e.msg.master != a.master && d.heard k e) ++ [m] })).chooseMaster k)

/-- DELAY_REQ: at its interval a delay measurement is sent, on each port by itself (R349): a Delay_Req once a master is chosen, a
Pdelay_Req with the peer-to-peer mechanism. -/
def Dev.delayReq (d : Dev) (k q : Nat) : Dev :=
  let p2p := d.nat (Obj.delayMech k) == 1
  if ! d.domainHears k q ∨ (! p2p ∧ (d.dom k).chosen.isNone) ∨ d.now < Tbl.get (d.dom k).nextReq q 0 then d
  else
    let d := d.updDom k (fun x => { x with
      nextReq := Tbl.put x.nextReq q (d.now + secsLog (d.int (Obj.logDelayReqInterval k))), sent := Tbl.del x.sent q })
    d.sendFrame q {
      prio := 0, len := d.rawLen q (if p2p then 104 else 90),
      out := .frame q (if p2p then .pdelayReq else .delayReq) (d.frameHead q false) [BitVec.ofNat 8 (d.nat (Obj.ptpTransport k)), BitVec.ofNat 8 (d.nat (Obj.domainNumber k))],
      domain := some k }

/-- DOMAIN_LOST (R356): the announce receipt timeout, or 4 Sync intervals without a Sync, since the last one or since the master was
chosen. -/
def Dev.domainLost (d : Dev) (k : Nat) : Dev :=
  if ! d.domOn pdNet ∨ ! d.flag (Obj.domainEnable k) then d
  else
    let d := d.updDom k (fun x => { x with masters := x.masters.filter (d.heard k) })
    let x := d.dom k
    let gone : Bool := match x.chosen with | some m => ! x.masters.any (fun e => e.msg.master == m) | none => false
    let silent : Bool := x.chosen.isSome && decide (x.lastSync.getD x.chosenAt + 4 * secsLog x.logSync ≤ d.now)
    let d := if gone then d.chooseMaster k else d
    if (! gone || (d.dom k).chosen.isSome) && ! silent || d.nat (Obj.domainState k) == 3 || d.nat (Obj.domainState k) == 0 then d
    else
      ((d.setDomainState k 3).bump (Obj.lossCount k)).autoSwitchDomain

/-- The time from which 4 Sync intervals without a θ of the selected domain are counted (R352): its last θ, and at the earliest the
moment from which it is to feed the servo. -/
def Dev.thetaSince (d : Dev) : Nat := max d.net.fedFrom ((d.dom (d.nat Obj.selectedDomain)).lastTheta.getD 0)

/-- HOLDOVER: no θ of the selected domain for 4 of its Sync intervals (R352). -/
def Dev.holdover (d : Dev) : Dev :=
  let x := d.dom (d.nat Obj.selectedDomain)
  if (d.nat Obj.servoState = 1 ∨ d.nat Obj.servoState = 2) ∧ d.thetaSince + 4 * secsLog x.logSync ≤ d.now then
    (((d.setFreq (d.int Obj.freqInt)).updNet (fun n => { n with holdSince := some d.now })).setServo 3).mirrorTime 0 0
  else d

/-- HOLDOVER_LIMIT (R352). -/
def Dev.holdoverLimitDue (d : Dev) : Dev :=
  match d.net.holdSince with
  | some t => if d.nat Obj.servoState = 3 ∧ t + d.nat Obj.holdoverLimit * 1000000000 ≤ d.now then d.putF Obj.timeValid false else d
  | none => d

/-- A write of TimeStep, in ns (R353). -/
def Dev.writeTimeStep (d : Dev) (ns : Int) : Dev × RCode :=
  if d.nat Obj.servoState = 0 ∨ d.nat Obj.servoState = 4 ∨ ! d.domOn pdNet then (d, .state)
  else if (d.clock.at d.now : Int) + ns * 65536 < 0 then (d, .range)
  else ((d.stepWebTime (ns * 65536) 2).mirrorTime (ns * 65536) 2, .ok)

/-- A write of SelectedDomain (R356). -/
def Dev.writeSelectedDomain (d : Dev) (k : Nat) : Dev × RCode :=
  if 1 < k then (d, .range) else if d.nat (Obj.domainState k) ≠ 2 then (d, .state) else (d.switchDomain k, .ok)

/-- A domain that is switched off forgets its masters and delays. Its last θ keeps its time, from which holdover counts 4 of its Sync
intervals (R352). -/
def PtpDomain.halted (x : PtpDomain) : PtpDomain := { PtpDomain.reset with lastTheta := x.lastTheta, logSync := x.logSync }

/-- DomainState follows DomainEnable (R363). -/
def Dev.followEnable (d : Dev) (k : Nat) : Dev :=
  if d.flag (Obj.domainEnable k) then (if d.nat (Obj.domainState k) = 0 ∧ d.domOn pdNet then d.setDomainState k 1 else d)
  else (d.updDom k PtpDomain.halted).putN (Obj.domainState k) 0

/-- The configuration that a join has brought takes effect: a port that it stops loses its link, the domains run or stop, and the
selected one shows its offset and timescale (R317, R361 to R363). -/
def Dev.joinNet (d : Dev) : Dev :=
  let d := ((List.range 6).filter (fun q => ! d.flag (Obj.netEnable q))).foldl (fun d q => (d.setLink q false).clearPort q) d
  ((List.range 2).foldl Dev.followEnable d).showSelected

/-- A write of DomainEnable (R363): the groups that its ports listen to change (R344). -/
def Dev.writeDomainEnable (d : Dev) (k : Nat) (on : Bool) : Dev :=
  let was := d.flag (Obj.domainEnable k)
  let d := d.putF (Obj.domainEnable k) on
  let d := d.followEnable k
  if was = on then d else ((List.range 6).filter (fun q => bit (d.nat (Obj.domainPorts k)) q)).foldl Dev.reportGroups d

/-- The two domains do not share a number on a port (R355). -/
def Dev.domainsOk (d : Dev) : Bool :=
  d.nat (Obj.domainNumber 0) != d.nat (Obj.domainNumber 1) || (d.nat (Obj.domainPorts 0) &&& d.nat (Obj.domainPorts 1)) == 0

/-- PD_NET as it comes up (R352): WebTime at zero, the servo acquiring, the domains listening. -/
def Dev.netPowerUp (d : Dev) : Dev :=
  let d := (d.updNet (fun _ => NetState.reset)).updClock (fun _ => { base := 0, anchor := d.now, freq := 0 })
  let d := [Obj.epochCount, Obj.freqInt, Obj.freqApplied, Obj.timeValid, Obj.servoOffset].foldl Dev.clear d
  let d := d.putN Obj.servoState (if d.role = 2 ∨ d.role = 3 then 5 else 0)
  (List.range 2).foldl (fun d k => d.putN (Obj.domainState k) (b2n (d.flag (Obj.domainEnable k)))) d

/-- PD_NET as it goes down (R344, R350): links and network sessions are lost, launch queues too, WebTime stops. -/
def Dev.netPowerDown (d : Dev) : Dev :=
  let d := d.endSessions (fun t => t != 0)
  let d := (List.range 6).foldl (fun d q => d.setLink q false) d
  let d := (List.range 6).foldl (fun d q => d.flushLaunch q true) d
  let d := (List.range 2).foldl (fun d k => d.putN (Obj.domainState k) 0) d
  (d.putF Obj.timeValid false).updNet (fun _ => NetState.reset)

/-- The servo is off while PD_NET is (R362); slewing and holdover end with their events (R364). -/
def Dev.servoOff (d : Dev) : Dev := d.setServo 4

end Sys2Proof.Machine
end

