-- ==== Sys2Proof/Machine/Pair.lean ====
section
/-! DEFINITION. Pair operation, second part (chapter 12): seeking, the link and the join, takeover and the fires of its gap,
the resumption of publishing, and what the mirror carries apart from writes and commits (those stand in HostWrite.lean). -/

namespace Sys2Proof.Machine

/-! ## Local objects (R306) -/

/-- An object that concerns only the device itself: never mirrored, and writable on a standby (R306). -/
def localKey (key : Nat) : Bool :=
  let i := key / 256
  decide (0x4000 ≤ i ∧ i ≤ 0x41FF) || decide (0x4400 ≤ i ∧ i ≤ 0x47FF) || decide (0x6000 ≤ i ∧ i ≤ 0x6FFF) ||
    [Obj.logReadSeq, Obj.logMinSeverity, Obj.rangeReadSeq, Obj.engineRetire].contains key ||
    (decide (0x3840 ≤ i ∧ i < 0x3840 + 72) && key == Obj.arrayRetire (i - 0x3840))

/-- Read-only objects that the transfer of a join carries (R58, R317): LIX fixed by a write, valid table banks, and the commits that
the STAGED values in force come from. -/
def carriedKey (key : Nat) : Bool :=
  let i := key / 256
  (decide (0x3500 ≤ i ∧ i < 0x3504) && key == Obj.viewFirstLix (i - 0x3500)) ||
  (decide (0x3C00 ≤ i ∧ i < 0x3C40) && key == Obj.lvFirstLix (i - 0x3C00)) ||
  (decide (0x3080 ≤ i ∧ i < 0x3098) && key == Obj.tableValid (i - 0x3080)) ||
  (decide (0x5410 ≤ i ∧ i < 0x5415) && key == Obj.handedCsn (i - 0x5410))

/-- An object whose value in force the transfer carries. -/
def transferred (key : Nat) : Bool :=
  ! localKey key && (carriedKey key || (match rowOf key with
    | some (r, _) => r.acc == .rw || r.acc == .rwc
    | none => false))

/-- The bytes of an object's value. -/
def valBytes (key : Nat) (v : Val) : Bytes := match rowOf key with | some (r, _) => encodeVal r.ty v | none => v.bytes

/-- The value that bytes give an object. -/
def bytesVal (key : Nat) (bs : Bytes) : Val :=
  match rowOf key with
  | some (r, _) => if r.ty.size.isNone then .b bs else .n ((decodeNum r.ty bs).getD 0)
  | none => .b bs

/-! ## Changes of role -/

/-- Sessions on the service address as they are mirrored (R313). -/
def Session.copy (s : Session) : SessionCopy :=
  { id := s.id, level := s.level, transport := s.transport, nextSeq := s.nextSeq, enrol := s.enrol, h2d := s.h2d, d2h := s.d2h,
    kept := s.kept }

def SessionCopy.session (s : SessionCopy) (now : Nat) : Session :=
  { id := s.id, level := s.level, transport := s.transport, nextSeq := s.nextSeq, enrol := s.enrol, service := true,
    h2d := s.h2d, d2h := s.d2h, lastFrame := now, held := [], kept := s.kept }

/-- The mirrored sessions are taken over with their keys and kept responses (R312). -/
def Dev.takeSessions (d : Dev) : Dev :=
  let d := d.pair.mirrored.foldl (fun d e =>
    let slot := if (Tbl.get? d.tol.sessions e.1).isNone then some e.1
      else (List.range 32).find? (fun k => (Tbl.get? d.tol.sessions k).isNone)
    match slot with
    | some k => d.updTol (fun x => { x with sessions := Tbl.put x.sessions k (e.2.session d.now) })
    | none => d) d
  d.updPair (fun x => { x with mirrored := [] })

/-- A device that stops driving: it stops answering the service addresses and sends no more from them, and its channels are Idle (R346,
R379). -/
def Dev.leaveActive (d : Dev) : Dev :=
  let mine := d.tol.sessions.filter (fun e => e.2.service)
  let d := d.updTol (fun x => { x with sessions := x.sessions.filter (fun e => ! e.2.service) })
  let service (i : Nat × TxFrame) : Bool :=
    d.bytes (Obj.serviceIp i.1) != [] && i.2.out.source == some (d.bytes (Obj.serviceIp i.1))
  let d := (d.updPair (fun x => { x with mirrored := mine.map (fun e => (e.1, e.2.copy)) })).updNet (fun n => { n with
    arp := [], tx := (n.tx.zip (List.range 6)).map (fun e => e.1.filter (fun f => ! service (e.2, f))) })
  d.reportService.idleChans

/-- What follows from a change of role: the end of driving, and the servo of a standby (R357, R379). The servo of a joiner that falls back
to Seeking before any correction reached it, and that had none of its own, acquires (log entry 72). -/
def Dev.roleEffects (d : Dev) (old : Nat) : Dev :=
  let follows (r : Nat) : Bool := r == 2 || r == 3
  let d := if ! (old == 1 || follows old) && d.standby then d.leaveActive else d
  if follows d.role && ! follows old && d.domOn pdNet then (d.setServo 5).updNet (fun n => { n with holdSince := none })
  else if follows old && ! follows d.role && d.nat Obj.servoState = 5 then
    -- locked on the mirrored I and F; its own θ feeds the servo from now on (R352, R357)
    let d := d.updNet (fun n => { n with fedFrom := d.now })
    if d.drives || d.net.lastUpdate.isSome then (d.setServo 1).putF Obj.timeValid true else d.setServo 0
  else d

/-! ## Enabling, seeking (R306, R307) -/

/-- A write of PairEnable (R306, R319). -/
def Dev.writePairEnable (d : Dev) (on : Bool) : Dev :=
  if on = d.flag Obj.pairEnable then d
  else
    let before := d
    let d := d.putF Obj.pairEnable on
    if on then (d.setRole 1).emitAct before
    else ((d.setPins false false).setRole 0).updPair (fun x => { x with gap := none, hold := false, resume := none, retryAt := none }) |>.emitAct before

/-- SEEK_ACTIVATE (R307). -/
def Dev.seekActivate (d : Dev) : Dev :=
  let b := d.nat Obj.pairPosition == 1
  let wait := d.nat Obj.joinWait * 1000000
  let long := decide (d.pair.peerAt + wait ≤ d.now ∧ d.pair.linkDown + wait ≤ d.now) && d.nat Obj.linkState == 0
  if d.role ≠ 1 ∨ d.pair.peer ∨ (b ∧ ¬ long) then d
  else
    let before := d
    let d := (((d.setPins true false).updPair (fun x => { x with actAt := some d.now })).setRole 5).emitAct before
    d.takeSessions.announceService

/-- PEER_RESAMPLE, 200 ns after PAIR_ACT was raised (R307). -/
def Dev.peerResample (d : Dev) (high : Bool) : Dev :=
  match d.pair.actAt with
  | some t =>
    if d.now < t + 200 ∨ (d.role ≠ 4 ∧ d.role ≠ 5) then d
    else
      let d := (d.setPeer high).updPair (fun x => { x with actAt := none })
      if ! high then d
      else
        let d := d.logRep 0x0A sevWarn 0x000B 0 (fun _ => [.f (d.nat Obj.pairPosition)])
        if d.nat Obj.pairPosition = 1 then
          let before := d
          ((d.setPins false false).setRole 1).emitAct before
        else d
  | none => d

/-! ## The link and the join (R305, R317) -/

/-- Return what a joiner takes from the active to its defaults (R317, R318). -/
def Dev.joinClear (d : Dev) : Dev :=
  { d with
    objs := d.objs.filter (fun e => ! transferred e.1), cfgLog := [], pos := { d.pos with eyelets := [] },
    tol := { d.tol with groups := List.replicate 5 Group.reset } }

/-- Step 1 of a join with a partner whose identity is proved: the refusals of R317, else Joining. The ports are stopped first, so
that every line fired so far leaves ingress and the books of R108 stay in balance (log entry 48). -/
def Dev.tryJoin (d : Dev) (p : PartnerHello) : Dev :=
  if p.partCode ≠ d.partCode ∨ p.fwMajor ≠ field (d.nat Obj.fwVersionRun) 24 8 ∨
      p.linkVersion ≠ Config.linkVersion then d.joinRefused .range
  else if p.role ≠ 4 ∧ p.role ≠ 5 then d.joinRefused .state
  else if p.hasStandby then d.joinRefused .busy
  else
    let d := (List.range 24).foldl Dev.disablePort d
    let d := ((List.range 24).foldl Dev.repolarise d.joinClear).setRole 2
    d.updPair (fun x => { x with
      phase := 1, retryAt := none, sync := [none, none, none, none], installed := List.replicate 4 false, mirrored := [], loads := [] })

/-- The partner proves its identity, or the link is refused (R305, R317). -/
def Dev.linkUp (d : Dev) (p : PartnerHello) : Dev :=
  let bad : Option RCode :=
    if p.publicKey ≠ d.bytes Obj.pairPartnerKey then some .access else if ! p.proofOk then some .integrity else none
  match bad with
  | some code =>
    let d := d.putN Obj.linkState 0
    if d.role = 1 then d.joinRefused code else d
  | none =>
    let d := (d.putN Obj.linkState 2).logRep 0x0A sevWarn 0x0002 2 (fun _ => [.f 2, .w (d.nat Obj.linkErrors)])
    let d := ((d.putN Obj.partnerRole p.role).setPeer (p.role == 4 || p.role == 5)).updPair (fun x => { x with
      linkAt := d.now, partner := some p })
    if d.role = 1 then d.tryJoin p else d

/-- KARYLVO_LINK_UP (R305). -/
def Dev.karylvoLinkUp (d : Dev) (p : PartnerHello) : Dev :=
  if d.role = 0 ∨ d.nat Obj.linkState = 2 then d else d.linkUp p

/-- JOIN_RETRY, 1 s after a refusal (R317). -/
def Dev.joinRetry (d : Dev) (p : PartnerHello) : Dev :=
  match d.pair.retryAt with
  | some t =>
    if d.now < t ∨ d.role ≠ 1 then d
    else
      let d := d.updPair (fun x => { x with retryAt := none })
      if d.nat Obj.linkState = 2 then d.tryJoin p else d.linkUp p
  | none => d

/-- The link is down. -/
def Dev.linkDown (d : Dev) : Dev :=
  if d.nat Obj.linkState = 0 then d
  else
    let d := ((d.putN Obj.linkState 0).putN Obj.partnerRole 0xFF).updPair (fun x => { x with linkDown := d.now, partner := none, news := [] })
    d.logRep 0x0A sevWarn 0x0002 0 (fun _ => [.f 0, .w (d.nat Obj.linkErrors)])

/-- KARYLVO_LINK_LOST (R306). -/
def Dev.karylvoLinkLost (d : Dev) : Dev :=
  let d := d.linkDown
  if d.role = 2 then d.setRole 1 else if d.role = 4 then d.setRole 5 else d

/-- Step 2 on the active: everything a joiner takes from it, in order (R317). -/
def Dev.configItems (d : Dev) : List MirrorItem :=
  let value (key : Nat) (v : Val) : MirrorItem := .value (key / 256) (key % 256) (valBytes key v)
  let selects (e : Nat × Val) : Bool := (List.range 4).any (fun v => e.1 == Obj.modelSel v)
  let values := ((d.objs.filter (fun e => transferred e.1 && ! selects e)).map (fun e => value e.1 e.2)) ++
    (d.objs.filter selects).map (fun e => value e.1 e.2)
  let keys := d.pub.keys.map (fun e => MirrorItem.value (Obj.stallKey e.1 / 256) (Obj.stallKey e.1 % 256) e.2)
  let banks := (List.range 24).flatMap (fun p => (List.range 4).map (fun b =>
    MirrorItem.bank p b ((d.ep p).bankLen.getD b 0)
      (d.hbm.filter (fun e => decide (bankAddr p b ≤ e.1 ∧ e.1 < bankAddr p b + 524288)))))
  let models := (List.range 2).flatMap (fun m =>
    if d.nat (Obj.modelSlotState m) = 2 then [MirrorItem.model m (d.slot m).image] else [])
  let psets := ((List.range 24).filter (fun p => d.flag (Obj.portEnable p))).map (fun p =>
    let e := d.ep p
    MirrorItem.psets p { pset := e.pset, table := e.table, armed := e.armed, switches := e.switches, uncertain := e.uncertain })
  let writes (t : List (Nat × Val)) : List MirrorItem :=
    t.map (fun e => .write (e.1 / 256) (e.1 % 256) 0 (valBytes e.1 e.2) none)
  let groups := (List.range 5).flatMap (fun g =>
    (d.group g).pend.flatMap (fun c => writes c.entries ++ [.commit c.csn g (if g < 4 then some (c.targetAt (d.nat (Obj.nextLix g))) else none)]) ++ writes (d.group g).shadow)
  let sessions := (d.tol.sessions.filter (fun e => e.2.service)).map (fun e => MirrorItem.session e.1 (some e.2.copy))
  let stalls := ((List.range 512).filter (fun s => d.nat (Obj.stallState s) != 0)).map (fun s =>
    MirrorItem.stall s (d.nat (Obj.stallOwner s)) (d.nat (Obj.stallState s)))
  values ++ keys ++ banks ++ models ++ psets ++ groups ++ sessions ++ stalls

/-- The sync line of LCG `g`: the first strip boundary at least SyncLead lines ahead (R317, step 3). -/
def Dev.syncLine (d : Dev) (g : Nat) : Option Nat :=
  if (List.range 4).any (fun v => (d.vw v).running && d.viewLcg v == g) then
    some (ceilDiv ((d.curLix g + d.nat Obj.syncLead) % 2 ^ 64) 256 * 256)
  else none

/-- SyncLix as read (R319). -/
def syncBytes (l : List (Option Nat)) : Bytes := l.flatMap (fun c => natLE 8 (c.getD 0))

/-- At C the noise and history state of every port of the LCG becomes invalid (R317, step 4). -/
def Dev.armSync (d : Dev) (lines : List (Option Nat)) : Dev :=
  let d := (d.putB Obj.syncLix (syncBytes lines)).updPair (fun x => { x with sync := lines })
  (List.range 24).foldl (fun d p =>
    match lines.getD (d.portLcg p) none with
    | some c => d.updEp p (fun e => { e with invalidAt := some c })
    | none => d) d

/-- The active serves a joiner (R317, steps 2 and 3). -/
def Dev.serveJoin (d : Dev) : Dev :=
  let lines := (List.range 4).map d.syncLine
  let d := (d.configItems.foldl (fun d i => d.mirror i) d).updPair (fun x => { x with news := [] })
  let d := d.mirrorTime 0 0
  (d.armSync lines).mirror (.syncLines lines)

/-- The joiner enters Standby; `strips` are the first strips whose digests are compared (R317, step 6). -/
def Dev.enterStandby (d : Dev) (strips : List Nat) : Dev :=
  let low : Nat := ((List.range 4).find? (fun g => (d.pair.sync.getD g none).isSome)).getD 0
  let d := (d.setRole 3).putN Obj.joinResult 0
  let d := d.updPair (fun x => { x with phase := 0, since := strips, linkAt := d.now, digests := [], unexplained := [], results := [] })
  let d := d.logRep 0x0A sevInfo 0x0004 0 (fun _ => [.w ((d.pair.sync.getD low none).getD 0), .w (strips.getD low 0)])
  d.emit (.mirror (.standbyReached (strips.getD low 0)))

/-- The strips that begin next. -/
def Dev.nextStrips (d : Dev) : List Nat := (List.range 4).map (fun g => (stripOf (d.curLix g) + 1) % 2 ^ 56)

/-- A joiner whose segmenters have all reached the current line waits for the next strip boundary (R317, step 6). -/
def Dev.joinCheck (d : Dev) : Dev :=
  if d.role ≠ 2 ∨ d.pair.phase ≠ 2 then d
  else
    let views := (List.range 4).filter (fun v => d.flag (Obj.viewEnable v) && (d.pair.sync.getD (d.viewLcg v) none).isSome)
    if views.all (fun v => d.pair.installed.getD v false && (d.vw v).ready.isEmpty) then
      if views.isEmpty then d.enterStandby d.nextStrips else d.updPair (fun x => { x with phase := 3 })
    else d

/-- A hit of LCG `g` at LIX `n` may be the strip boundary at which the joiner enters Standby. -/
def Dev.joinBoundary (d : Dev) (g n : Nat) : Dev :=
  let low := (List.range 4).find? (fun k => (d.pair.sync.getD k none).isSome)
  if d.role = 2 ∧ d.pair.phase = 3 ∧ low = some g ∧ n % 256 = 0 then d.enterStandby ((d.nextStrips).set g (stripOf n)) else d

/-- The bytes of a stitched line in the sync buffer: its tag and its samples (R169, R317). -/
def StitchLine.heldBytes (l : StitchLine) : Nat := 224 + 2 * l.planes.length * l.width

/-- A line that a joiner stitches waits in the sync buffer, on port 7 (R317, R327). One that falls on lost blocks cannot be kept: the
join is refused as where the buffer cannot be read (R335, R338). -/
def Dev.keepSynced (d : Dev) (v n : Nat) : Dev :=
  if ! d.joinHolds v then d
  else
    let len := match (d.vw v).ready.getLast? with | some l => l.heldBytes | none => 0
    let d := d.hbmTraffic 7 3 0 v n len true
    if d.landsLost 3 (192 + v) n 0 then d.joinRefused .busy else d

/-- The bytes of the stitched lines that a joiner holds in region 3 (R317, R331). -/
def Dev.syncBytes (d : Dev) : Nat :=
  sumN (((List.range 4).filter d.joinHolds).map (fun v => sumN ((d.vw v).ready.map StitchLine.heldBytes)))

/-- The sync buffer is full, by lines or by the bytes of its region: the join is refused with BUSY (R317, R331). -/
def Dev.syncBufferCheck (d : Dev) (v : Nat) : Dev :=
  if d.joinHolds v && decide (d.nat Obj.syncBufferLines ≤ (d.vw v).ready.length ∨ d.regionBytes 3 < d.syncBytes) then
    d.joinRefused .busy
  else d

/-- A joiner starts a port that runs on the active, with the PSETs that the active has in force, armed and to come (R317). -/
def Dev.joinPort (d : Dev) (p : Nat) : Dev :=
  let x := d.ep p
  let (d, _) := (d.putF (Obj.portEnable p) false).enablePort p
  let d := d.updEp p (fun e => { e with pset := x.pset, table := x.table, switches := x.switches, uncertain := x.uncertain })
  (d.nat (Obj.psetInitial p) :: d.heldPsets p).foldl (fun d q => d.showPset p q) d

/-- The transfer has ended: the joiner starts its ports and Views (R317, steps 2 and 3). A View takes over ViewFirstLix, so LinesOut
takes over the lines that the partner formed before line C, and the books balance (R294, R295; log entry 68). -/
def Dev.joinStart (d : Dev) (lines : List (Option Nat)) : Dev :=
  if d.role ≠ 2 ∨ d.pair.phase ≠ 1 then d
  else
    let d := (List.range 24).foldl (fun d p =>
      if d.flag (Obj.portEnable p) then d.joinPort p else d) d
    let d := d.armSync lines
    let d := (List.range 4).foldl (fun d v =>
      match lines.getD (d.viewLcg v) none with
      | some c =>
        if d.flag (Obj.viewEnable v) then
          let before := (lixDiff c (d.nat (Obj.viewFirstLix v))).toNat
          ((d.putN (Obj.viewLinesOut v) before).updPair (fun x => { x with accs := x.accs.set v { DigestAcc.reset with base := x.badArrays } })).updVw v (fun x => { x with running := true, stopAt := none, next := c, due := none, ready := [], nrLines := [] })
        else d
      | none => d) d
    (d.joinNet.updPair (fun x => { x with phase := 2 })).joinCheck

/-- CAPTURED_STATE_INSTALL: the state is installed and the held lines are segmented (R317, step 5). -/
def Dev.installCaptured (d : Dev) (v : Nat) (c : Captured) : Dev :=
  if d.role ≠ 2 ∨ d.pair.phase ≠ 2 ∨ d.pair.installed.getD v false then d
  else
    let on := d.flag (Obj.segEnable v)
    let last := ((d.pair.sync.getD (d.viewLcg v) none).getD 0) - 1
    let d := d.updVw v (fun x => { x with gains := c.gains, targets := c.targets, newTargets := c.newTargets })
    let seams := c.seams.foldl (fun t e => Tbl.put t e.1 e.2) d.stitch.seams
    let sums := c.sums.foldl (fun t e => Tbl.put t e.1 e.2) d.stitch.sums
    let d := d.updStitch (fun x => { x with seams := seams, sums := sums })
    let d := d.updSg v (fun x => { x with
      running := on, bg := c.bg, bgReset := false, geometry := d.segGeometry v, refs := c.refs, blobs := c.blobs, satBright := c.satBright,
      satDark := c.satDark, nextCand := c.nextCand, ring := [], lastLine := some last, viewFirst := d.nat (Obj.viewFirstLix v) })
    -- the blobs taken over count as opened, so that R195 holds from here on (log entry 68)
    let d := d.putN (Obj.blobsOpened v) (d.nat (Obj.blobsMerged v) + d.nat (Obj.blobsClosed v) + c.blobs.length)
    let d := (d.putN (Obj.nextSerial v) c.nextSerial).updPair (fun x => { x with installed := x.installed.set v true })
    let d := (d.vw v).ready.foldl (fun d l => d.hbmTraffic 7 3 0 v l.lix l.heldBytes false) d
    (d.segmentAll v (d.vw v).ready.length).joinCheck

/-! ## Heartbeats and takeover (R305, R310 to R312) -/

/-- HEARTBEAT_SEND (R305, R313). -/
def Dev.heartbeatSend (d : Dev) : Dev :=
  if d.role = 0 ∨ d.nat Obj.linkState ≠ 2 then d
  else
    let stalls := d.stallsOpen.map (fun s => (s, (match d.stall? s with | some x => x.last | none => 0), d.nat (Obj.datagramSeq s)))
    (d.updPair (fun x => { x with news := [] })).emit (.mirror (.heartbeat d.role d.healthNow ((List.range 4).map d.curLix) d.pair.news stalls))

/-- The standby takes over the progress that the active reports of a Stall (R312, R313). -/
def Dev.stallProgress (d : Dev) (s last seq : Nat) : Dev :=
  match d.stall? s with
  | none => d
  | some x =>
    let d := d.putN (Obj.datagramSeq s) seq
    match x.queue.findIdx? (fun i => i.ident == last) with
    | some i => (d.updStall s (fun x => { x with queue := x.queue.drop (i + 1), last := last })).bumpBy (Obj.itemsSent s) (i + 1) 64
    | none => d

/-- A device in Seeking whose link is up joins a partner that its heartbeat shows in role 4 or 5 (R306). A pair has two devices, so
that partner has no Standby (log entry 48). -/
def Dev.seekJoin (d : Dev) (role : Nat) : Dev :=
  match d.pair.partner with
  | some p =>
    if d.role = 1 ∧ (role = 4 ∨ role = 5) ∧ d.pair.retryAt.isNone then d.tryJoin { p with role := role, hasStandby := false } else d
  | none => d

/-- A state of a Stall on the active: 1 claimed, 2 open, 0 free (R313). -/
def Dev.mirroredStall (d : Dev) (s owner state : Nat) : Dev :=
  match state with
  | 0 => if d.nat (Obj.stallState s) = 0 then d else d.closeStall s 0
  | 1 => ((d.clearStall s).putN (Obj.stallState s) 1).putN (Obj.stallOwner s) owner
  | _ =>
    if d.nat (Obj.stallState s) = 2 then d
    else
      let key := match d.pair.mirrored.find? (fun e => e.2.id == owner) with | some e => e.2.d2h | none => []
      d.openStall s owner key

/-- A heartbeat from the partner (R305, R306, R313). -/
def Dev.heartbeat (d : Dev) (role : Nat) (news stalls : List (Nat × Nat × Nat)) : Dev :=
  let was := d.nat Obj.partnerRole
  let d := (d.putN Obj.partnerRole role).setPeer (role == 4 || role == 5)
  let d := if d.role = 2 ∨ d.role = 3 then
      (news.filter (fun e => decide (e.1 < 512))).foldl (fun d e => d.mirroredStall e.1 e.2.1 e.2.2) d
    else d
  let d := if d.role = 2 ∨ d.role = 3 then stalls.foldl (fun d e => d.stallProgress e.1 e.2.1 e.2.2) d else d
  let d := if d.role = 4 ∧ role ≠ 3 then d.setRole 5 else d
  if d.role = 5 ∧ role = 3 then d.setRole 4
  else if d.role = 5 ∧ role = 2 ∧ was ≠ 2 then d.serveJoin
  else d.seekJoin role

/-- HB_TIMEOUT: no valid link frame for HbTimeout; the standby asserts PAIR_TAKE (R310). -/
def Dev.hbTimeoutDue (d : Dev) : Dev :=
  if d.role ≠ 3 ∨ d.pair.take ∨ d.now < d.pair.linkAt + d.nat Obj.hbTimeout then d
  else (d.setPins d.pair.act true).updPair (fun x => { x with takeAt := some d.now })

/-- LINK_JUDGED_DOWN: PAIR_PEER has not fallen 1,000 ns after PAIR_TAKE (R310). -/
def Dev.linkJudgedDown (d : Dev) : Dev :=
  match d.pair.takeAt with
  | some t =>
    if d.role ≠ 3 ∨ d.now < t + 1000 then d
    else (((d.setPins d.pair.act false).updPair (fun x => { x with takeAt := none })).linkDown).setRole 1
  | none => d

/-- The trigger packets of a fire are no longer waited for. -/
def Dev.forgetPacket (d : Dev) (p lix : Nat) : Dev :=
  d.updPort p (fun x => { x with packets := x.packets.filter (fun k => k.lix != lix), falling := x.falling.filter (fun k => k.2 != lix) })

/-- A fire of the position unit that ingress does not get: a standby's own, or one within the gap of a takeover. A standby whose
ports trigger by packets waits for the acknowledges of the active's packets from then on, as the mirrored fire may never come (R311). -/
def Dev.noteFire (d : Dev) (p lix t : Nat) (suspect : Bool) : Dev :=
  let d := d.updPair (fun x => { x with
    fires := x.fires.filter (fun e => decide (t < e.2.2.1 + 100000)) ++ [(p, lix, t, suspect)] })
  let mode := d.nat (Obj.trigMode p)
  if d.role = 3 ∧ (mode = 1 ∨ mode = 3) then d.updPort p (fun x => x.expect lix t (d.fallTime p t)) else d

/-- PAIR_PEER_FALL: the standby takes over (R310). -/
def Dev.pairPeerFall (d : Dev) : Dev :=
  let d := d.setPeer false
  if d.role ≠ 3 then d
  else
    let before := d
    let frame : Option Nat := match d.pair.yieldAt with
      | some (t, c) => if d.now ≤ t + 1000 then some c else none
      | none => none
    let kind := match frame with | some c => c | none => if d.pair.take then 3 else 4
    let start := if kind = 4 then d.now - 1000 else d.now
    let d := (d.setPins true false).setRole (if frame = some 0 then 4 else 5)
    let d := ((d.bump Obj.failovers).putN Obj.lastFailoverKind kind).putN Obj.lastFailoverTime d.stamp
    let d := d.logRep 0x0A sevFault 0x0005 kind (fun _ => [.f kind, .w (d.nat Obj.pairInterruption)])
    let d := d.updPair (fun x => { x with
      actAt := some d.now, takeAt := none, yieldAt := none, gap := some (start, kind != 4), resume := some x.linkAt, hold := true,
      digests := [], results := [] })
    d.idleChans.emitAct before

/-- The gap window of a takeover has ended: the selectors have switched, 50 ns after PAIR_ACT rose (R305, R311). -/
def Dev.gapEnd (d : Dev) : Option Nat :=
  match d.pair.gap with
  | some _ => some ((d.pair.actAt.getD d.now) + 50)
  | none => none

/-- The ledger entry of a fire of the gap window, if the active has not mirrored it (R109, R154). Whether the fire is dropped is
judged by its own time (R104; log entry 48). -/
def Dev.gapEntry (d : Dev) (p lix f : Nat) (suspect : Bool) : Dev :=
  if (d.port p).ledger.any (fun e => e.lix == lix) then d
  else
    let d := d.updStitch (fun x => { x with ports := x.ports.modify p (fun s =>
      { s with fires := ((lix, f) :: s.fires).take 16384 }) })
    ((d.ledgerRoom p).openEntry p lix f suspect false).portTally p lix

/-- Fire `lix` of a port is issued again at `r`; its entry takes that time, or keeps its own where the camera may already
have been fired (R311). A fire dropped as OverRate is not sent (R104). -/
def Dev.refire (d : Dev) (p lix f r : Nat) (suspect keep : Bool) : Dev :=
  let late := decide (d.nat (Obj.lateHitLimit (d.portLcg p)) < r - f)
  let d := d.bump (Obj.portLateCount p)
  let d := if late then d.addRange (d.portLcg p) false scPort p 8 lix else d
  let d := d.gapEntry p lix f suspect
  let d := d.updEntry p lix (fun e => { e with
    fire := if keep then e.fire else r, suspect := e.suspect || suspect || late })
  let d := d.forgetPacket p lix
  let d := if d.droppedFire p lix then d else d.sendTrigger p lix r
  d.updTrig p (fun t => { t with lastFire := some r })

/-- The camera acknowledged the rising-edge packet of a fire before the end `stop` of the gap window (R311). -/
def Dev.ackedBefore (d : Dev) (p lix stop : Nat) : Bool :=
  (d.port p).packets.any (fun k => k.lix == lix && k.rising &&
    (match k.answered with | some t => decide (t < stop) | none => false))

/-- The fires of one port, in order, from time `r` on (R311); with them the LIX issued again. One that the camera acknowledged
before the end `stop` of the gap window keeps its time. -/
def Dev.refirePort (p stop : Nat) (signalled : Bool) : List (Nat × Nat × Bool) → (r : Nat) → Dev → (done : List Nat) → Dev × List Nat
  | [], _, d, done => (d, done)
  | (lix, f, suspect) :: rest, r, d, done =>
    let mode := d.nat (Obj.trigMode p)
    let acked := ! signalled && (mode == 1 || mode == 3) && d.ackedBefore p lix stop
    if acked then Dev.refirePort p stop signalled rest r (d.gapEntry p lix f suspect) done
    else Dev.refirePort p stop signalled rest (r + 1000) (d.refire p lix f r suspect (! signalled && mode == 2)) (done ++ [lix])

/-- A trigger packet that starts at `sent` is cut short by a switch at `t`, or not yet begun then (R311): the length of a packet is
that of the CoaXPress standard. -/
def Dev.cutShort (d : Dev) (p sent t : Nat) : Bool := decide (t < sent + Config.triggerPacketNs (d.nat (Obj.linkSpeed p)))

/-- The fires before the gap window whose rising-edge packet the switch cut short (R311). -/
def Dev.cutFire (d : Dev) (start : Nat) (e : Nat × Nat × Nat × Bool) : Bool :=
  let mode := d.nat (Obj.trigMode e.1)
  (mode == 1 || mode == 3) && decide (e.2.2.1 < start) &&
    (d.port e.1).packets.any (fun k => k.lix == e.2.1 && k.rising && k.answered.isNone && d.cutShort e.1 k.sent start)

/-- The falling-edge packets of a port that the switch cut short, of fires that are not issued again: they are sent again from
time `r` on, 1,000 ns apart (R311). -/
def Dev.resendFalling (d : Dev) (p start stop r : Nat) (done : List Nat) : Dev :=
  let cut := (d.port p).packets.filter (fun k =>
    ! k.rising && k.answered.isNone && ! done.contains k.lix && decide (k.sent ≤ stop) && d.cutShort p k.sent start)
  (cut.zip (List.range cut.length)).foldl (fun d e =>
    (d.updPort p (fun x => { x with
      packets := insertPacket { e.1 with sent := r + 1000 * e.2 + 15 } (x.packets.erase e.1) })).emit (.trigger p e.1.lix false 15)) d

/-- GAP_REFIRE (R311). -/
def Dev.gapRefire (d : Dev) : Dev :=
  match d.pair.gap, d.gapEnd with
  | some (start, signalled), some stop =>
    if d.now < stop then d
    else
      let fires := d.pair.fires.filter (fun e => decide (start ≤ e.2.2.1 ∧ e.2.2.1 ≤ stop) || d.cutFire start e)
      let d := d.updPair (fun x => { x with gap := none, fires := [] })
      (List.range 24).foldl (fun d p =>
        let mine := (fires.filter (fun e => e.1 == p)).map (fun e => e.2)
        match Dev.refirePort p stop signalled mine stop d [] with
        | (d, lix :: more) =>
          (d.resendFalling p start stop (stop + 1000 * (more.length + 1)) (lix :: more)).logRep 0x0A sevWarn 0x0006 p
            (fun _ => [.f p, .w lix, .w ((lix :: more).getLastD lix)]) (d.portLcg? p)
        | (d, []) => d.resendFalling p start stop stop []) d
  | _, _ => d

/-- PUBLISHING_RESUME (R312). -/
def Dev.publishingResume (d : Dev) : Dev :=
  if ! d.pair.hold || d.standby then d
  else
    let d := (d.updPair (fun x => { x with hold := false })).announceService.takeSessions
    d.stallsOpen.foldl (fun d s => d.pack s) d

/-- The taker's first datagram ends the interruption (R312). -/
def Dev.noteResumed (d : Dev) : Dev :=
  let sent := d.out.any (fun o => match o with | .datagram _ _ _ => true | .hostWrite _ _ => true | _ => false)
  match d.pair.resume with
  | some t =>
    if sent && d.publishes then (d.putN Obj.pairInterruption (d.now - t)).updPair (fun x => { x with resume := none }) else d
  | none => d

/-! ## Yields that the host or the pins ask for (R308, R309) -/

/-- A verdict against the partner that is in hand but not yet reached (R308, R315). -/
def Dev.verdictPending (d : Dev) : Bool :=
  d.pair.digests.any (fun e => match e.own, e.partner with
    | some own, some theirs =>
      digestBody own != digestBody theirs && slice own 16 8 == slice theirs 16 8 && leAt own 0 4 == 0 && leAt theirs 0 4 != 0
    | _, _ => false)

/-- A write of PairSwitch (R306, R308). -/
def Dev.writePairSwitch (d : Dev) (on : Bool) : Dev × RCode :=
  if ! d.flag Obj.pairEnable then (d, .notPaired)
  else if ! on then (d, .ok)
  else if d.role ≠ 4 ∨ d.nat Obj.partnerRole ≠ 3 ∨ d.verdictPending then (d, .state)
  else (d.yieldRole 0, .ok)

/-- PAIR_YIELD: PD_POS yields by itself (R309). The row is the event that the pin is high and the Hub die has sent no internal
heartbeat for 2,000 ns: of a Hub die that hangs the row alone tells it, of one that is off the time since it went (log entry 49). -/
def Dev.pairYieldPin (d : Dev) : Dev :=
  if (d.role ≠ 4 ∧ d.role ≠ 5) ∨ (! d.domOn pdHub ∧ d.now < d.boot.restartFrom + 2000) then d
  else
    let before := d
    ((d.setPins false d.pair.take).setRole 1).emitAct before

/-! ## What the mirror carries (R313) -/

/-- A hit of the active: the own hit at that position takes that LIX (R313). -/
def Dev.mirroredHit (d : Dev) (g n : Nat) (pos : Int) : Dev :=
  let l := d.lcg g
  match l.hits.find? (fun h => h.pos == pos) with
  | some h =>
    let d := d.putMax Obj.mirrorLagMax (d.now - h.time)
    if h.lix = n then d
    else
      let move (x : Nat) : Nat := subMod (2 ^ 64) (x + n) h.lix
      let hits := l.hits.map (fun (k : Hit) => if h.time ≤ k.time then { k with lix := move k.lix } else k)
      (d.putN (Obj.nextLix g) (move (d.nat (Obj.nextLix g)))).updLcg g (fun l => { l with hits := hits })
  | none =>
    let d := if d.flag (Obj.lcgRun g) then d else d.putF (Obj.lcgRun g) true
    let trail := if l.trail.isEmpty then
        [{ t := d.now, pos := d.lcgPos g, fwd := d.lcgFwd g, p := 0, sv := false, u := (d.lcgUnit g).natAbs, jump := false }]
      else l.trail
    (d.putN (Obj.nextLix g) n).updLcg g (fun l => { l with
      compare := pos, since := match l.lastHit with | some t => t | none => d.now, reached := none, waitStart := false, stopAt := none,
      trail := trail })

/-- A fire of the active: the ledger entry under R109, and h of R154. A joiner whose ports have not yet started takes none (R108,
R317). Its Tally point is the fire of the strip's last LIX (R294). The packet that it had entered for a fire that the active
dropped is forgotten (R104, R311). -/
def Dev.mirroredFire (d : Dev) (p lix t : Nat) : Dev :=
  if ! d.flag (Obj.portEnable p) ∨ (d.role = 2 ∧ d.pair.phase = 1) then d
  else
    let suspect := d.pair.fires.any (fun e => e.1 == p && e.2.1 == lix && e.2.2.2)
    let d := d.putMax Obj.mirrorLagMax (d.now - t)
    let d := d.updStitch (fun x => { x with ports := x.ports.modify p (fun s =>
      { s with fires := ((lix, t) :: s.fires).take 16384 }) })
    let d := (d.ledgerRoom p).openEntry p lix t suspect true
    let d := if d.droppedFire p lix then d.forgetPacket p lix else d
    (d.releaseHeld p).portTally p lix

/-- A PSET outcome of the active: the switch takes place at the mirrored line (R313). -/
def Dev.mirroredPset (d : Dev) (p issue s result : Nat) : Dev :=
  match (d.ep p).armed with
  | none => d
  | some a =>
    let a := { a with issued := some issue }
    let d := d.putN (Obj.psetIssueLix p) issue
    if result = 5 then d.psetFail p a else (d.psetSwitch p a s).putN (Obj.psetResult p) result

/-- A correction of the active's servo, applied at its link time (R313, R357): from then on WebTime runs from the active's value at the
active's rate, and EpochCount is the active's. -/
def Dev.mirroredWebTime (d : Dev) (freqInt freqApplied step : Int) (cause epoch web at_ : Nat) : Dev :=
  let d := d.putMax Obj.mirrorLagMax (d.now - at_)
  if ! d.domOn pdNet then d
  else
    let d := ((d.putI Obj.freqInt freqInt).putI Obj.freqApplied freqApplied).updClock (fun _ =>
      { base := web, anchor := at_, freq := freqApplied })
    -- Δt of the taker's first update counts from the last one of the active, and n from its own offsets (R351)
    let d := d.updNet (fun x => { x with lastUpdate := some at_, outliers := 0 })
    if step ≠ 0 then (d.noteStep step cause (fun _ => epoch)).epochLaunches
    else if epoch ≠ d.nat Obj.epochCount then (d.putN Obj.epochCount epoch).epochLaunches
    else d

/-- An object's value in force at the active, as a join transfers it (R317). -/
def Dev.joinValue (d : Dev) (index sub : Nat) (data : Bytes) : Dev :=
  let key := 256 * index + sub
  let v := bytesVal key data
  if d.role ≠ 2 ∨ localKey key then d
  else if decide (0x3A00 ≤ index ∧ index < 0x3C00) && key == Obj.stallKey (index - 0x3A00) then
    d.updPub (fun x => { x with keys := Tbl.put x.keys (index - 0x3A00) data })
  else if ! transferred key then d
  else if decide (0x2100 ≤ index ∧ index < 0x2104) && key == Obj.lcgRun (index - 0x2100) then d
  else if decide (0x2000 ≤ index ∧ index < 0x2004) && key == Obj.axisEnable (index - 0x2000) then
    let a := index - 0x2000
    if v.int ≠ 0 ∧ ¬ d.flag key then (d.put key v).enableAxis a else d.put key v
  else if decide (0x2200 ≤ index ∧ index < 0x2300) && key == Obj.eyArm (index - 0x2200) then
    if v.int ≠ 0 then d.eyWatch (index - 0x2200) else d
  else if decide (0x2400 ≤ index ∧ index < 0x2418) && key == Obj.trigPolarity (index - 0x2400) then
    (d.put key v).repolarise (index - 0x2400)
  else d.put key v

/-- The PSETs of a port that runs on the active, until the joiner starts it (R317). -/
def Dev.joinPsets (d : Dev) (p : Nat) (x : PortPsets) : Dev :=
  (d.updEp p (fun e => { e with
    pset := x.pset, table := x.table, armed := x.armed, switches := x.switches, uncertain := x.uncertain })).putN (Obj.psetArmed p)
      (match x.armed with | some a => a.pset | none => 0xFF)

/-- MIRROR_FRAME for everything but writes and commits (R305, R313, R317). -/
def Dev.mirrorItem (d : Dev) (i : MirrorItem) : Dev :=
  let follows := d.role = 2 ∨ d.role = 3
  match i with
  | .badFrame => d.bump Obj.linkErrors
  | .heartbeat role _ _ news stalls => d.heartbeat role news stalls
  | .hit g n pos => if follows ∧ g < 4 then d.mirroredHit g n pos else d
  | .fire p lix t => if follows ∧ p < 24 then d.mirroredFire p lix t else d
  | .pset p issue s result => if follows ∧ p < 24 then d.mirroredPset p issue s result else d
  | .session slot copy =>
    if follows then
      d.updPair (fun x => { x with mirrored := match copy with
        | some c => Tbl.put x.mirrored slot c
        | none => Tbl.del x.mirrored slot })
    else d
  | .stall s owner state => if follows ∧ s < 512 then d.mirroredStall s owner state else d
  | .webTime fi fa step cause epoch web t => if follows then d.mirroredWebTime fi fa step cause epoch web t else d
  | .result v seq bits =>
    if d.role = 3 then
      (d.updPair (fun x => { x with results := Tbl.upd x.results (v * 2 ^ 32 + seq) (none, none) (fun e => (e.1, some bits)) })).compareResults v seq
    else d
  | .digest v k bytes =>
    if d.role = 4 ∨ d.role = 5 ∨ (d.role = 3 ∧ d.pair.since.getD (d.viewLcg v) 0 ≤ k) then d.noteDigest v k false bytes else d
  | .yieldFrame cause => d.updPair (fun x => { x with yieldAt := some (d.now, cause) })
  | .standbyReached _ =>
    let d := d.putN Obj.partnerRole 3
    if d.role = 5 then d.setRole 4 else d
  | .value index sub data => d.joinValue index sub data
  | .model m image =>
    if d.role = 2 ∧ m < 2 then
      (((d.hbmWrite (modelBase m) image).memRequest 9 (modelBase m) image.length true).updSlot m (fun x =>
        { x with dataLen := image.length })).queueLoad m
    else d
  | .psets p x => if d.role = 2 ∧ d.pair.phase = 1 ∧ p < 24 then d.joinPsets p x else d
  | .bank p b len cells =>
    if d.role = 2 ∧ p < 24 ∧ b < 4 then
      (d.hbmWrite (bankAddr p b) (Tbl.getBytes 0 cells (bankAddr p b) 524288)).updEp p (fun e => { e with bankLen := setAt e.bankLen b len })
    else d
  | .syncLines lines => d.joinStart lines
  | .captured v c => if v < 4 then d.installCaptured v c else d
  | .write _ _ _ _ _ => d
  | .commit _ _ _ => d
  | .abort _ _ => d

end Sys2Proof.Machine
end

