-- ==== Sys2Proof/Machine/Firmware.lean ====
section
/-! DEFINITION. Firmware images, the boot records and the loader, the settings store, attestation (chapter 17). -/

namespace Sys2Proof.Machine


/-! ## Images (R411 to R414) -/

/-- The bytes of an image, those of the image shipped where none was written. -/
def imageBytes (kind : Nat) (i : Option Bytes) : Bytes := i.getD (Config.shippedImage kind)

/-- An image of Run as it is kept: the one shipped is not written out. -/
def asStored (b : Bytes) : Option Bytes := if b = Config.shippedImage 0 then none else some b

/-- The Version of a firmware image (R413). -/
def imageVersion (i : Option Bytes) : Nat := leAt (imageBytes 0 i) 28 4
def imageSecurity (kind : Nat) (i : Option Bytes) : Nat := leAt (imageBytes kind i) 34 2
def imageSchema (i : Option Bytes) : Nat := leAt (imageBytes 0 i) 32 1
def imageSchemaMin (i : Option Bytes) : Nat := leAt (imageBytes 0 i) 33 1

/-- The signature of an image (R413). -/
def imageSigOk (b : Bytes) : Bool :=
  let n := leAt b 36 4
  match Config.firmwareKey (leAt b 40 8) with
  | some key => decide (64 + 3309 ≤ n ∧ n ≤ b.length) &&
      Config.mlDsaVerify key (Config.shake256 (b.take (n - 3309)) 64) (slice b (n - 3309) 3309)
  | none => false

/-- The check of R417 on a Download image. One too short to hold a signature fails as a signature does. -/
def imageCheck (b : Bytes) (minSecurity : Nat) : RCode :=
  if leAt b 0 4 ≠ 0x57465152 ∨ (Config.firmwareKey (leAt b 40 8)).isNone ∨ leAt b 34 2 < minSecurity ∨ b.length < 64 + 3309 then .integrity
  else if leAt b 36 4 ≠ b.length then .range
  else if ! imageSigOk b then .integrity
  else if leAt b 4 2 ≠ 1 ∨ 1 < leAt b 27 1 ∨ (slice b 6 21).any (fun x => x != 0) ∨ (slice b 48 16).any (fun x => x != 0) then .range
  else .ok

/-- An image of Run or of the Keep may be started under MinSecurity `m` (R413, R414): its check passes. The image shipped carries a good
header and signature, as every image that the device executes does (PRESUMED, log entry 15); its rollback level is judged. -/
def storedOk (i : Option Bytes) (m : Nat) : Bool :=
  match i with
  | none => decide (m = 0 ∨ m ≤ imageSecurity 0 none)
  | some b => imageCheck b m == .ok

/-- A copy of the loader passes its signature check (R424, R435). -/
def loaderOk (i : Option Bytes) : Bool :=
  match i with
  | none => true
  | some b => imageSigOk b

/-! ## The flash (R411, R419, R423) -/

/-- The areas of the flash that hold something: offset, size and contents (R411, R412). -/
def Dev.flashAreas (d : Dev) : List (Nat × Nat × Bytes) :=
  let b := d.boot
  [(0, 0x8000, b.slots.getD 0 []), (0x8000, 0x8000, b.slots.getD 1 []), (0x10000, 0x1800000, imageBytes 0 b.run),
   (0x1810000, 0x1000000, b.keep), (0x2810000, 0x1000000, b.download),
   (0x3810000, 0x200000, b.banks.getD 0 []), (0x3A10000, 0x200000, b.banks.getD 1 []),
   (0x3C10000, 0x100000, imageBytes 1 (b.loaders.getD 0 none)), (0x3D10000, 0x100000, imageBytes 1 (b.loaders.getD 1 none))]

/-- A byte of the flash: what no area holds, and the rest of each, is erased. -/
def Dev.flashByte (d : Dev) (a : Nat) : Byte :=
  match d.flashAreas.find? (fun e => decide (e.1 ≤ a ∧ a < e.1 + e.2.1)) with
  | some e => e.2.2.getD (a - e.1) 0xFF
  | none => 0xFF

/-- What a write of `new` over `old` leaves where it is cut off after `n` bytes: the 64 KiB block under way is erased beyond them. -/
def flashCut (new old : Bytes) (n : Nat) : Bytes :=
  let edge := 65536 * ceilDiv n 65536
  if new.length ≤ n then new else new.take n ++ (List.replicate (edge - n) 0xFF ++ old.drop edge)

/-- What the `n`-th write of bytes at a place leaves (R276, R419): the bytes, unless it fails. Places: 0 and 1 the boot records, 2 Run,
3 the Keep, 4 and 5 the loader copies, 6 and 7 the settings banks. -/
def Dev.flashed (d : Dev) (place n : Nat) (b : Bytes) : Bytes :=
  if Config.flashFails place d.now n then Config.firstBytes b.length (Config.flashSpoiled place d.now n) else b

/-- When a write at a place that starts now ends, at most `most` ns from now; 0 for no bound. -/
def Dev.flashDue (d : Dev) (place most : Nat) : Nat :=
  let ns := Config.flashNs place d.now
  d.now + 1 + (if most = 0 then ns else ns % most)

/-- How many bytes of a write at a place are done where it is cut off now, in pages of 256. -/
def Dev.flashSoFar (d : Dev) (place size : Nat) : Nat := 256 * (Config.flashPages place d.now % (ceilDiv size 256 + 1))

/-! ## Boot records (R412) -/

/-- The bytes of a boot record before its CheckWord. -/
def BootRec.body (r : BootRec) : Bytes :=
  natLE 4 0x54434252 ++ (natLE 4 0 ++ (natLE 4 r.keepVersion ++ (natLE 4 r.runVersion ++ (Config.firstBytes 32 r.runDigest ++
    (BitVec.ofNat 8 (128 * b2n r.keepValid + 64 * b2n r.confirmed) :: 0 :: BitVec.ofNat 8 r.trial :: BitVec.ofNat 8 r.stage ::
      natLE 8 r.seq)))))

/-- The 64 bytes of a boot record. -/
def BootRec.bytes (r : BootRec) : Bytes := r.body ++ natLE 4 (crc32c (r.body ++ [0, 0, 0, 0]))

/-- The record that 64 bytes hold, where it is valid: its Magic is right and its CheckWord verifies (R274, R277, R412). -/
def bootRecOf (b : Bytes) : Option BootRec :=
  if leAt b 0 4 ≠ 0x54434252 ∨ b.length ≠ 64 then none
  else if leAt b 60 4 ≠ crc32c (b.take 60 ++ [0, 0, 0, 0]) then none
  else some {
    seq := leAt b 52 8, stage := leAt b 51 1, trial := leAt b 50 1, keepValid := bit (leAt b 48 1) 7, confirmed := bit (leAt b 48 1) 6,
    runDigest := slice b 16 32, runVersion := leAt b 12 4, keepVersion := leAt b 8 4 }

/-- The newest valid boot record and its slot (R277). -/
def Dev.newestRec (d : Dev) : Option (Nat × BootRec) :=
  match bootRecOf (d.boot.slots.getD 0 []), bootRecOf (d.boot.slots.getD 1 []) with
  | some a, some b => if a.seq < b.seq then some (1, b) else some (0, a)
  | some a, none => some (0, a)
  | none, some b => some (1, b)
  | none, none => none

/-- What the loader takes where no record is valid (R412). -/
def Dev.record0 (d : Dev) : BootRec :=
  match d.newestRec with
  | some e => e.2
  | none =>
    { seq := 0, stage := 0, trial := 0, keepValid := false, confirmed := true,
      runDigest := Config.shake256 (imageBytes 0 d.boot.run) 32, runVersion := imageVersion d.boot.run, keepVersion := 0 }

/-- The objects that report the newest record and the security root (R429). -/
def Dev.showFirmware (d : Dev) : Dev :=
  let r := d.record0
  ((((d.putN Obj.fwVersionRun (imageVersion d.boot.run)).putN Obj.fwVersionKeep (if r.keepValid then r.keepVersion else 0)).putF
    Obj.keepValid r.keepValid).putN Obj.trialCount r.trial).putN Obj.minSecurity d.boot.minSecurity

/-- Write a boot record into the slot that does not hold the newest valid one, and read it back (R276, R412): one that does not verify is
written once more. -/
def Dev.writeBootRec (d : Dev) (f : BootRec → BootRec) : Dev :=
  let slot := match d.newestRec with
    | some (0, _) => 1
    | _ => 0
  let b := BootRec.bytes { f d.record0 with seq := d.record0.seq + 1 }
  let once := d.flashed slot 0 b
  let stored := if (bootRecOf once).isSome then once else d.flashed slot 1 b
  (d.updBoot (fun x => { x with
    slots := x.slots.set slot stored, recorded := some (slot, d.flashDue slot 1000000000) })).showFirmware

/-! ## The loader (R419 to R424) -/

/-- Leave an event for the log, which the firmware writes once it runs (R430). -/
def Dev.bootNote (d : Dev) (detail word : Nat) (f : Option Nat) : Dev :=
  d.updBoot (fun x => { x with notes := x.notes ++ [(detail, word, f)] })

/-- The boot ROM enters recovery (R424). -/
def Dev.enterRecovery (d : Dev) (cause : Nat) : Dev :=
  ((d.updBoot (fun x => { x with recovery := true, waitCopy := false })).showFirmware).log 0x0F sevFault 0x0009 [.f cause]

/-- The image that the Keep holds as one QPK stream (R411, R422), none where it does not decompress. -/
def Dev.keepImage (d : Dev) : Option Bytes := qpkUnpack (d.boot.keep.length + 1) d.boot.keep

/-- The Keep is usable: it decompresses to an image that may be started (R422, R424). -/
def Dev.keepUsable (d : Dev) : Bool :=
  match d.keepImage with
  | some b => storedOk (asStored b) d.boot.minSecurity
  | none => false

/-- The first 64 KiB block in which Run differs from Download (R423). -/
def Dev.firstBlock (d : Dev) : Nat :=
  let a := imageBytes 0 d.boot.run
  let b := d.boot.download
  ((List.range (ceilDiv b.length 65536)).find? (fun k => slice a (65536 * k) 65536 != slice b (65536 * k) 65536)).getD
    (ceilDiv b.length 65536)

/-- Begin a revert at the loader: Keep is to be decompressed into Run (R422). Without a usable Keep a Run that is good is started, with its
record settled; without either, recovery (R424). -/
def Dev.loaderRevert (d : Dev) (cause : Nat) : Dev :=
  if ! d.keepUsable then
    if storedOk d.boot.run d.boot.minSecurity then
      (d.writeBootRec (fun r => { r with stage := 0, trial := 0, keepValid := false })).putN Obj.fwState 0
    else d.enterRecovery 2
  else
    let d := if d.record0.stage = 4 then d else d.writeBootRec (fun r => { r with stage := 4 })
    d.updBoot (fun x => { x with waitCopy := true, revertCause := cause })

/-- Start Run (R420, R423): a trial boot where the record says so. -/
def Dev.loaderStart (d : Dev) : Dev :=
  let r := d.record0
  if r.stage = 3 then
    if r.trial = 3 then d.loaderRevert 1
    else
      let d := (d.writeBootRec (fun r => { r with trial := r.trial + 1 })).putN Obj.fwState 4
      d.bootNote 0x0005 (imageVersion d.boot.run) (some (r.trial + 1))
  else if storedOk d.boot.run d.boot.minSecurity then d
  else if r.keepValid then d.loaderRevert 3
  else d.enterRecovery 2

/-- What the loader does with the newest record (R420, R423). `power` tells a power-on from a Hub restart. -/
def Dev.loader (d : Dev) (power : Bool) : Dev :=
  let r := d.record0
  let d := (d.putN Obj.bootPhase 5).showFirmware
  match r.stage with
  | 1 =>
    let good := imageCheck d.boot.download d.boot.minSecurity == .ok
    let d := d.updBoot (fun x => { x with verified := good })
    let d := if good then
        ((d.putN Obj.fwState 2).putN Obj.fwVersionDownload (leAt d.boot.download 28 4)).putN Obj.fwDownloadKind (leAt d.boot.download 27 1)
      else d
    d.loaderStart
  | 2 =>
    if imageCheck d.boot.download d.boot.minSecurity ≠ .ok then d.loaderRevert 3
    else
      let d := (d.putN Obj.fwState 3).updBoot (fun x => { x with waitCopy := true })
      if power then d.bootNote 0x0004 d.firstBlock none else d
  | 4 => d.loaderRevert d.boot.revertCause
  | _ => (d.updBoot (fun x => { x with verified := false })).loaderStart

/-- The loader finishes the copy (R419, steps 5 to 7) or the revert (R422) that the boot waits for. A Run that does not read back with the
digest of the record is given up for the Keep (log entry 58). -/
def Dev.loaderFinish (d : Dev) : Dev :=
  let d := d.updBoot (fun x => { x with waitCopy := false })
  if d.record0.stage = 2 then
    let d := d.updBoot (fun x => { x with run := some (d.flashed 2 0 x.download) })
    if Config.shake256 (imageBytes 0 d.boot.run) 32 ≠ d.record0.runDigest then d.loaderRevert 3
    else
      let d := d.writeBootRec (fun r => { r with stage := 3, trial := 0, confirmed := false })
      (d.updBoot (fun x => { x with trialBank := none })).loaderStart
  else
    let keep := asStored (d.keepImage.getD [])
    let d := d.updBoot (fun x => { x with run := keep, trialBank := none })
    let d := d.writeBootRec (fun r => { r with
      stage := 0, trial := 0, confirmed := true, keepValid := false, runDigest := Config.shake256 (imageBytes 0 keep) 32,
      runVersion := imageVersion keep })
    let d := d.putN Obj.fwState 0
    (d.bootNote 0x0007 (imageVersion keep) (some d.boot.revertCause)).updBoot (fun x => { x with revertCause := 2 })

/-- HOLDUP_OK as the device takes it: high once it has stayed so for 10 ms (R452). -/
def Dev.holdupHigh (d : Dev) : Bool := d.boot.holdup && decide (d.boot.holdupAt + 10000000 ≤ d.now)

/-- What the loader's copy into Run comes from: Download (R419) or the Keep (R422). -/
def Dev.copySource (d : Dev) : Bytes := if d.record0.stage = 2 then d.boot.download else d.keepImage.getD []

/-- The loader's copy is cut off, on a page: the first block that differs from its source was being written (R419, R423). -/
def Dev.copyCut (d : Dev) : Dev :=
  if ! d.boot.waitCopy || ! d.holdupHigh then d
  else
    let new := d.copySource
    let n := max (if d.record0.stage = 2 then 65536 * d.firstBlock else 0) (d.flashSoFar 2 new.length)
    d.updBoot (fun x => { x with run := some (flashCut new (imageBytes 0 x.run) n) })

/-- HOLDUP_OK (R419, R423, R452): a fall during the loader's copy stops it after a number of pages that the spec leaves to the speed of the
flash. -/
def Dev.holdupChange (d : Dev) (high : Bool) : Dev :=
  let d := if high then d else d.copyCut
  d.updBoot (fun x => { x with holdup := high, holdupAt := if high && ! x.holdup then d.now else x.holdupAt })

/-- What the firmware and the loader were writing is cut off (R423): the Keep, a copy of the loader, Run, a settings bank. -/
def Dev.workCut (d : Dev) : Dev :=
  let d := d.copyCut
  let d := d.updBoot (fun x => match x.work with
    | some (.keep, _) => { x with work := none, keep := flashCut (qpkStream (imageBytes 0 x.run)) x.keep (d.flashSoFar 3 16777216) }
    | some (.loader c _ _, _) => { x with
        work := none
        loaders := x.loaders.set c (some (flashCut (x.download.take 1048576) (imageBytes 1 (x.loaders.getD c none)) (d.flashSoFar (4 + c) 1048576))) }
    | some (.run, _) => { x with work := none, run := some (flashCut x.download (imageBytes 0 x.run) (d.flashSoFar 2 16777216)) }
    | none => x)
  match d.boot.saving with
  | some s => d.updBoot (fun x => { x with
      saving := none, banks := x.banks.set s.place (flashCut s.bytes (x.banks.getD s.place []) (d.flashSoFar (6 + s.place) 2097152)) })
  | none => d

/-- The boot record that was being written when the power was lost is not whole (R412, R423). -/
def Dev.recordCut (d : Dev) : Dev :=
  match d.boot.recorded with
  | some (slot, due) =>
    if due ≤ d.now then d
    else d.updBoot (fun x => { x with recorded := none, slots := x.slots.set slot ((x.slots.getD slot []).take (Config.flashPages slot d.now % 64)) })
  | none => d

/-! ## Downloading and verifying (R416, R417) -/

/-- A write of FwData (R41, R416). -/
def Dev.writeFwData (d : Dev) (off : Nat) (data : Bytes) : Dev × RCode :=
  let st := d.nat Obj.fwState
  if st = 3 ∨ st = 4 ∨ st = 5 then (d, .state)
  else if off ≠ 0 ∧ off ≠ d.boot.download.length then (d, .range)
  else if 16777216 < off + data.length then (d, .range)
  else if off = 0 then
    ((((d.updBoot (fun x => { x with download := data, verified := false })).putN Obj.fwState 1).clear Obj.fwVersionDownload).clear
      Obj.fwDownloadKind, .ok)
  else (d.updBoot (fun x => { x with download := x.download ++ data, verified := false }), .ok)

/-- A write of FwVerify = 1 (R417). FwState 3, 4 and 5 stay while an activation or a trial goes on (R419 to R421; DEDUCED, log entry 58). -/
def Dev.writeFwVerify (d : Dev) : Dev × RCode :=
  let st := d.nat Obj.fwState
  let busy := st == 3 || st == 4 || st == 5
  let b := d.boot.download
  let c := imageCheck b d.boot.minSecurity
  let d := (d.putN Obj.fwLastResult c.toNat).updBoot (fun x => { x with verified := decide (c = .ok) })
  let d := if c = .ok then (d.putN Obj.fwVersionDownload (leAt b 28 4)).putN Obj.fwDownloadKind (leAt b 27 1) else d
  let d := if busy then d else d.putN Obj.fwState (if c = .ok then 2 else 1)
  (d.log 0x0F sevInfo 0x0001 [.w (leAt b 28 4), .f c.toNat], .ok)

/-! ## Conditions of activation and revert (R418, R421, R422) -/

/-- The web-moving condition of R418. -/
def Dev.webMoving (d : Dev) : Bool :=
  (d.role == 0 || d.role == 4 || d.role == 5) &&
    (List.range 4).any (fun g => d.flag (Obj.lcgRun g) && ! d.standsStill (d.activeAxis g))

/-- The size of Run as a QPK stream with CmpBlockSize 65,536 (R418). -/
def Dev.keepSize (d : Dev) : Nat := (qpkStream (imageBytes 0 d.boot.run)).length

/-- The cases of R418 as result and FwRefuseCause; `revert` leaves out those that R422 does not take over. -/
def Dev.activateCase (d : Dev) (revert : Bool) : Option (RCode × Nat) :=
  let firmware := revert || d.nat Obj.fwDownloadKind == 0
  let lock := d.flag Obj.fwLock && ! d.boot.recovery
  if ! revert && d.nat Obj.fwState != 2 then some (.state, 5)
  else if lock then some (.locked, 3)
  else if d.role = 4 then some (.state, 4)
  else if firmware && d.webMoving then some (.state, 1)
  else if ! d.holdupHigh then some (.busy, 2)
  else if ! revert && firmware && ! d.boot.recovery && decide (16777216 < d.keepSize) then some (.range, 6)
  else none

/-- A refusal under R418 is recorded. -/
def Dev.refuseActivation (d : Dev) (cause : Nat) (log : Bool) : Dev :=
  let d := d.putN Obj.fwRefuseCause cause
  if log then d.log 0x0F sevWarn 0x0002 [.f cause] else d

/-- Step 1 of R419, and the start of step 2: the Keep is being written. -/
def Dev.keepRun (d : Dev) : Dev :=
  let old := d.boot.run
  let d := d.putN Obj.fwState 3
  let d := d.writeBootRec (fun r => { r with stage := 1, keepValid := false, runDigest := Config.shake256 (imageBytes 0 old) 32 })
  d.updBoot (fun x => { x with work := some (.keep, d.flashDue 3 0) })

/-- Steps 2 and 3 of R419: Run stands in the Keep as one QPK stream, is read back, decompressed and checked, and the record names Download.
The flag tells that the Hub is to be restarted; a Keep that does not check ends the activation (log entry 58). -/
def Dev.keepDone (d : Dev) : Dev × Bool :=
  let old := d.boot.run
  let b := d.boot.download
  let d := d.updBoot (fun x => { x with work := none, keep := (d.flashed 3 0 (qpkStream (imageBytes 0 old))).take 16777216 })
  if ! (match d.keepImage with | some k => loaderOk (asStored k) | none => false) then
    ((d.putN Obj.fwState 2).putN Obj.fwLastResult RCode.integrity.toNat, false)
  else
    (d.writeBootRec (fun r => { r with
      stage := 2, keepValid := true, keepVersion := imageVersion old, runDigest := Config.shake256 b 32, runVersion := leAt b 28 4 }), true)

/-- The installation of a loader image begins (R419): the copy not in use is overwritten first. -/
def Dev.installLoader (d : Dev) : Dev :=
  let c := 1 - d.boot.copy
  (d.putN Obj.fwState 3).updBoot (fun x => { x with work := some (.loader c false false, d.flashDue (4 + c) 0) })

/-- A copy of the loader has been overwritten and is read back (R419): it is written once more where its check fails, then the other copy
is, and a second failure ends the installation with the other copy untouched. The flag tells that both copies are written. -/
def Dev.loaderDone (d : Dev) (c : Nat) (second again : Bool) : Dev × Bool :=
  let stored := (d.flashed (4 + c) (b2n again) d.boot.download).take 1048576
  let d := d.updBoot (fun x => { x with work := none, loaders := x.loaders.set c (some stored) })
  let next (c : Nat) (second again : Bool) : Dev :=
    d.updBoot (fun x => { x with work := some (.loader c second again, d.flashDue (4 + c) 0) })
  if ! imageSigOk stored then
    (if again then (d.putN Obj.fwState 2).putN Obj.fwLastResult RCode.integrity.toNat else next c second true, false)
  else if second then ((d.putN Obj.fwState 0).putN Obj.fwLastResult 0, true)
  else (next (1 - c) true false, false)

/-- A write of FwConfirm = 1 (R414, R420, R421). -/
def Dev.writeFwConfirm (d : Dev) : Dev × RCode :=
  let st := d.nat Obj.fwState
  if st ≠ 4 ∧ st ≠ 5 then (d, .state)
  else
    let sec := min 1023 (max d.boot.minSecurity (imageSecurity 0 d.boot.run))
    let d := d.updBoot (fun x => { x with minSecurity := sec, trialEnd := none, trialBank := none })
    let d := (d.writeBootRec (fun r => { r with stage := 0, confirmed := true })).putN Obj.fwState 0
    (d.log 0x0F sevInfo 0x0006 [.w (imageVersion d.boot.run), .f sec], .ok)

/-- FwTrialLeft in seconds (R420). -/
def Dev.trialLeft (d : Dev) : Nat :=
  match d.boot.trialEnd with
  | some t => ceilDiv (t - d.now) 1000000000
  | none => if d.nat Obj.fwState = 4 then d.nat Obj.fwConfirmWindow else 0

/-! ## Settings (R425, R426) -/

/-- An object is Saved (R32). -/
def savedKey (key : Nat) : Bool :=
  match rowOf key with
  | some (r, _) => r.pers == .saved
  | none => false

/-- The Stall whose key an object is. -/
def stallOfKey (key : Nat) : Option Nat :=
  let i := key / 256
  if 0x3A00 ≤ i ∧ i < 0x3C00 ∧ key = Obj.stallKey (i - 0x3A00) then some (i - 0x3A00) else none

/-- The Saved objects, in ascending order (R32). -/
def savedKeys : List Nat :=
  dictBlocks.flatMap (fun b => (List.range b.units).flatMap (fun u =>
    (b.rows.filter (fun r => r.pers == .saved)).map (fun r => 256 * (b.base + u) + r.sub)))

/-- The values of all Saved objects, as bytes (R425): of one that is held for a domain that is off, the value held (R436). -/
def Dev.savedValues (d : Dev) : Tbl Bytes :=
  savedKeys.map (fun k => (k, match Tbl.get? d.boot.held k with
    | some bs => bs
    | none => match stallOfKey k with
      | some s => Tbl.get d.pub.keys s []
      | none => valBytes k (d.val k)))

/-- An entry of a bank (R425). -/
def bankEntry (e : Nat × Bytes) : Bytes :=
  natLE 2 (e.1 / 256) ++ ([BitVec.ofNat 8 e.1, 0] ++ (natLE 4 e.2.length ++ padTo 4 e.2))

/-- The bytes of a settings bank (R425). -/
def SettingsBank.bytes (b : SettingsBank) : Bytes :=
  let body := b.entries.flatMap bankEntry
  let head (check : Nat) : Bytes :=
    packLE 64 [(check, 32), (b.seq, 64), (0, 144), (64 + body.length, 32), (b.schema, 8), (0, 200), (0x54534252, 32)]
  head (crc32c (head 0 ++ body)) ++ body

/-- The entries that follow the header of a bank. -/
def bankEntries : (fuel : Nat) → Bytes → Tbl Bytes
  | 0, _ => []
  | fuel + 1, bs =>
    if bs.length < 8 then []
    else
      let n := leAt bs 4 4
      (256 * leAt bs 0 2 + leAt bs 2 1, slice bs 8 n) :: bankEntries fuel (bs.drop (8 + 4 * ceilDiv n 4))

/-- The bank that bytes hold, where it is valid: Magic, RecordLength and CheckWord (R274, R425). -/
def settingsOf (b : Bytes) : Option SettingsBank :=
  let n := leAt b 30 4
  if leAt b 0 4 ≠ 0x54534252 ∨ n < 64 ∨ b.length < n then none
  else if leAt b 60 4 ≠ crc32c (b.take 60 ++ ([0, 0, 0, 0] ++ slice b 64 (n - 64))) then none
  else some { seq := leAt b 52 8, schema := leAt b 29 1, entries := bankEntries n (slice b 64 (n - 64)) }

/-- The valid banks. -/
def Dev.bank? (d : Dev) (k : Nat) : Option SettingsBank := settingsOf (d.boot.banks.getD k [])

/-- The newest valid bank: its place. -/
def Dev.newestBank (d : Dev) : Option Nat :=
  match d.bank? 0, d.bank? 1 with
  | some a, some b => some (if a.seq < b.seq then 1 else 0)
  | some _, none => some 0
  | none, some _ => some 1
  | none, none => none

/-- The largest Sequence of a valid bank. -/
def Dev.bankSeq (d : Dev) : Nat := maxN ([0, 1].map (fun k => match d.bank? k with | some b => b.seq | none => 0))

/-- The place that a save takes (R425): the bank that does not hold the newest valid one; during a trial that of the trial, and never
that of the image before. -/
def Dev.savePlace (d : Dev) : Nat :=
  let other := match d.newestBank with | some k => 1 - k | none => 0
  if d.nat Obj.fwState = 4 ∨ d.nat Obj.fwState = 5 then d.boot.trialBank.getD other else other

/-- A write of SettingsSave = 1 (R425): the values are those of the moment of the write; the save ends within 2 s. -/
def Dev.writeSettingsSave (d : Dev) : Dev × RCode :=
  if d.boot.saving.isSome then (d, .busy)
  else
    let place := d.savePlace
    let seq := d.bankSeq + 1
    let bank : SettingsBank := { seq := seq, schema := imageSchema d.boot.run, entries := d.savedValues }
    (d.updBoot (fun x => { x with
      saving := some { place := place, seq := seq, bytes := bank.bytes.take 2097152, due := d.flashDue (6 + place) 2000000000 } }), .ok)

/-- The save that is due ends (R425). -/
def Dev.saveDone (d : Dev) : Dev :=
  match d.boot.saving with
  | none => d
  | some s =>
    if d.now < s.due then d
    else
      let trial := d.nat Obj.fwState == 4 || d.nat Obj.fwState == 5
      let d := d.updBoot (fun x => { x with
        saving := none, banks := x.banks.set s.place (d.flashed (6 + s.place) 0 s.bytes),
        trialBank := if trial then some s.place else x.trialBank })
      (d.putN Obj.settingsSeq s.seq).bump Obj.settingsSaves

/-- A bank that the running image reads: its schema lies from SchemaMin to SchemaVersion (R426). -/
def Dev.bankReads (d : Dev) (b : SettingsBank) : Bool :=
  decide (imageSchemaMin d.boot.run ≤ b.schema ∧ b.schema ≤ imageSchema d.boot.run)

/-- The values of a bank under the running image's schema (R426): those of an older one are converted. -/
def Dev.bankValues (d : Dev) (b : SettingsBank) : Tbl Bytes :=
  if b.schema = imageSchema d.boot.run then b.entries
  else b.entries.map (fun e => (e.1, Config.convertSetting b.schema e.1 e.2))

/-- The settings loaded at boot (R426). -/
def Dev.loadSettings (d : Dev) : Dev :=
  let newest := d.newestBank
  let at' (k : Nat) : Option SettingsBank := (d.bank? k).filter d.bankReads
  let first := match newest with | some k => at' k | none => none
  let second := match newest with | some k => at' (1 - k) | none => none
  let take (d : Dev) (source : Nat) (b : SettingsBank) : Dev :=
    (((d.updBoot (fun x => { x with saved := d.bankValues b })).putN Obj.settingsSource source).putN Obj.settingsLoaded b.schema).putN
      Obj.settingsSeq b.seq
  let d := match first, second with
    | some b, _ => take d 0 b
    | none, some b => take d 1 b
    | none, none => (d.updBoot (fun x => { x with saved := [] })).putN Obj.settingsSource 2
  if d.nat Obj.settingsSource = 0 then d
  else d.log 0x0F sevWarn 0x0008 [.f (d.nat Obj.settingsSource), .f (d.nat Obj.settingsLoaded)]

/-! ## Attestation (R427) -/

/-- A write of AttestNonce (R427, R428). -/
def Dev.writeAttestNonce (d : Dev) (nonce : Bytes) : Dev × RCode :=
  if nonce.length ≠ 32 then (d, .range)
  else
    let lock := b2n (d.flag Obj.fwLock) + 2 * b2n (d.flag Obj.vendorAccess)
    let body := packLE 128
      [(leNat nonce, 256), (leNat (Config.shake256 (imageBytes 0 d.boot.run) 32), 256),
       (leNat (Config.shake256 (imageBytes 1 d.boot.loader) 16), 128), (Config.deviceSerial, 64), (imageVersion d.boot.run, 32),
       (if d.record0.keepValid then d.record0.keepVersion else 0, 32), (d.partCode, 16), (d.nat Obj.siliconRevision, 8),
       (d.nat Obj.fwState, 8), (d.boot.minSecurity, 16), (imageSchema d.boot.run, 8), (d.role, 8), (lock, 32), (d.stamp, 80),
       (0, 80)]
    (d.putB Obj.attestReport (body ++ (Config.identitySign body "RB ATTEST" ++ List.replicate 3309 0).take 3309), .ok)

end Sys2Proof.Machine
end

