-- ==== Sys2Proof/Machine/Memory.lean ====
section
/-! DEFINITION. The HBM controller (chapter 13): refresh, pages and command slots, training, errors, fences. -/

namespace Sys2Proof.Machine

def Dev.realTime (d : Dev) (n : Nat) : Bool := d.nat (Obj.pcClass n) == 0

def bankOf (off : Nat) : Nat := off / 1024 % 48
def rowOfOff (off : Nat) : Nat := off / 1024 / 48

def bankReset : Bank := { debt := 0, row := none, last := 0, busy := 0 }
def Pc.bank (x : Pc) (b : Nat) : Bank := Tbl.get x.banks b bankReset
def Pc.setBank (x : Pc) (b : Nat) (k : Bank) : Pc := { x with banks := Tbl.put x.banks b k }

/-! ## Refresh (R324, R325) -/

/-- RefInterval of a pseudo-channel in ns: 3,900 up to 85 °C of its stack, 1,950 above (R324). -/
def Dev.refInterval (d : Dev) (n : Nat) : Nat := if d.mem.doubled.getD (stackOf n) false then 1950 else 3900

/-- How many of the times `b` × R / 48 + j × R at which bank `b` gains debt lie up to time `t` (R324); b is 0 for a bulk
pseudo-channel, whose R325 gives no phase (log entry 70). -/
def debtTicks (r b t : Nat) : Nat := (48 * t + 48 * r - b * r) / (48 * r)

/-- REFRESH_DEBT: a bank, or a bulk pseudo-channel, gains one unit of debt, once such a time has come since the last. -/
def Dev.refreshDebt (d : Dev) (n b : Nat) : Dev :=
  let r := d.refInterval n
  let due (b last : Nat) : Bool := decide (debtTicks r b last < debtTicks r b d.now)
  if d.pcState n ≠ 2 ∧ d.pcState n ≠ 3 then d
  else if d.realTime n then
    let k := (d.pc n).bank b
    if due b k.tick then d.updPc n (fun x => x.setBank b { k with debt := min 8 (k.debt + 1), tick := d.now }) else d
  else if due 0 (d.pc n).tick then d.updPc n (fun x => { x with debt := min 8 (x.debt + 1), tick := d.now })
  else d

/-- Refresh one bank: its row closes and its debt falls by one; it takes 200 ns, and 15 ns to close an open row (R324). -/
def Pc.refreshBank (x : Pc) (b now : Nat) : Pc :=
  let k := x.bank b
  x.setBank b { k with debt := k.debt - 1, row := none, busy := now + (if k.row.isSome then 215 else 200) }

/-- An all-bank refresh: every row closes and the debt falls by one; it takes 15 ns and 350 ns (R325). -/
def Pc.refreshAll (x : Pc) (now : Nat) : Pc :=
  { x with debt := x.debt - 1, busy := now + 365, banks := x.banks.map (fun e => (e.1, { e.2 with row := none })) }

/-- A forced refresh is counted and logged (R324, R343). -/
def Dev.forcedRefresh (d : Dev) (n b : Nat) : Dev :=
  (d.bump Obj.forcedRefreshes 64).logRep 0x0B sevInfo 0x0007 n (fun _ => [.f n, .f b])

/-! ## Command slots (R326 to R328) -/

/-- The urgency of a request (R327). -/
def Dev.urgency (d : Dev) (q : MemReq) : Nat :=
  let t := d.nat (Obj.latTarget q.port)
  let age := d.now - q.arrival
  if 2 * age < t then 0 else if age < t then 1 else if age < 2 * t then 2 else 3

/-- Request `a` goes before `b` under rules 2 to 5 of R328. -/
def Dev.goesBefore (d : Dev) (x : Pc) (a b : MemReq) : Bool :=
  let opened (q : MemReq) : Nat := b2n ((x.bank (bankOf q.offset)).row == some (rowOfOff q.offset))
  let key (q : MemReq) : Nat × Nat := (d.urgency q, opened q)
  if (key a).1 ≠ (key b).1 then decide ((key b).1 < (key a).1)
  else if (key a).2 ≠ (key b).2 then decide ((key b).2 < (key a).2)
  else if a.arrival ≠ b.arrival then decide (a.arrival < b.arrival)
  else decide (a.port < b.port)

/-- The request chosen for a slot, the earlier in the queue among equals (R328). -/
def Dev.chooseReq (d : Dev) (x : Pc) : List MemReq → Option MemReq
  | [] => none
  | q :: qs => match d.chooseReq x qs with
    | none => some q
    | some r => if d.goesBefore x r q then some r else some q

/-- PageIdle of a pseudo-channel's class. -/
def Dev.pageIdleOf (d : Dev) (n : Nat) : Nat := if d.realTime n then d.nat Obj.pageIdleRt else d.nat Obj.pageIdleBulk

/-- Serve a request: the row it leaves open, its latency and the bytes of its port (R326, R327). -/
def Dev.serveReq (d : Dev) (n : Nat) (q : MemReq) : Dev :=
  let age := d.now - q.arrival
  let row := if d.pageIdleOf n = 0 then none else some (rowOfOff q.offset)
  let d := d.updPc n (fun x =>
    let x := { x with queue := x.queue.erase q }
    x.setBank (bankOf q.offset) { x.bank (bankOf q.offset) with row := row, last := d.now })
  let d := (d.portCount q.port 64).putMax (Obj.latMax q.port) (min 0xFFFFFFFF age)
  if d.nat (Obj.latTarget q.port) ≤ age then
    (d.bump (Obj.latMisses q.port) 64).logRep 0x0B sevWarn 0x0008 q.port (fun _ => [.f q.port, .w (d.nat (Obj.latMax q.port))])
  else d

/-- A request is queued to bank `b`. -/
def Pc.wanted (x : Pc) (b : Nat) : Bool := x.queue.any (fun q => bankOf q.offset == b)

/-- The requests that could take a slot at time `now`: none waits for a refresh of its bank, or of all banks (R324, R325). -/
def Pc.ready (x : Pc) (now : Nat) : List MemReq :=
  if now < x.busy then [] else x.queue.filter (fun q => decide ((x.bank (bankOf q.offset)).busy ≤ now))

/-- The idle bank that an unforced refresh takes (R324): one of debt 1 or more with no request to it; while no request is queued
at all, also ahead down to −4. The bank of the largest debt is taken first. -/
def Pc.refreshTarget (x : Pc) (now : Nat) : Option Nat :=
  let least : Int := if x.queue = [] then -4 else 0
  let debts := (List.range 48).filter (fun b =>
    (x.bank b).row.isNone && decide (least < (x.bank b).debt) && ! x.wanted b && decide ((x.bank b).busy ≤ now))
  debts.foldl (fun best b => match best with
    | none => some b
    | some c => if (x.bank c).debt < (x.bank b).debt then some b else some c) none

/-- A pseudo-channel takes requests and refreshes: in service, and in retraining but for its steps, of 400 ns each (R330). -/
def Dev.takesSlots (d : Dev) (n : Nat) : Bool :=
  d.pcState n == 2 || (d.pcState n == 3 && (decide ((d.pc n).steps = 0) || decide ((d.pc n).stepAt + 400 ≤ d.now)))

/-- A bulk pseudo-channel owes a refresh that no request holds up: none of urgency 2 or higher is queued (R325). -/
def Dev.bulkRefreshes (d : Dev) (x : Pc) : Bool := decide (1 ≤ x.debt) && x.queue.all (fun q => decide (d.urgency q < 2))

/-- COMMAND_SLOT: a forced refresh, else a request, else a refresh (R324, R328). In a bulk pseudo-channel only a request of urgency
2 or higher wants a slot that an owed refresh takes (R325; DEDUCED, log entry 70). -/
def Dev.commandSlot (d : Dev) (n : Nat) : Dev :=
  let x := d.pc n
  if ! d.takesSlots n then d
  else if d.realTime n then
    match (List.range 48).find? (fun b => decide (8 ≤ (x.bank b).debt) && decide ((x.bank b).busy ≤ d.now)) with
    | some b => (d.updPc n (fun x => x.refreshBank b d.now)).forcedRefresh n b
    | none => match d.chooseReq x (x.ready d.now) with
      | some q => d.serveReq n q
      | none => match x.refreshTarget d.now with
        | some b => d.updPc n (fun x => x.refreshBank b d.now)
        | none => d
  else if d.now < x.busy then d
  else if 8 ≤ x.debt then (d.updPc n (fun x => x.refreshAll d.now)).forcedRefresh n 0xFF
  else if d.bulkRefreshes x then d.updPc n (fun x => x.refreshAll d.now)
  else match d.chooseReq x (x.ready d.now) with
    | some q => d.serveReq n q
    | none => d

/-- PAGE_IDLE: a row closes PageIdle ns after its last access, unless requests to it are queued (R326). -/
def Dev.pageIdle (d : Dev) (n b : Nat) : Dev :=
  let k := (d.pc n).bank b
  match k.row with
  | some r =>
    if k.last + d.pageIdleOf n ≤ d.now ∧ ! (d.pc n).queue.any (fun q => bankOf q.offset == b && rowOfOff q.offset == r) then
      d.updPc n (fun x => x.setBank b { k with row := none })
    else d
  | none => d

/-! ## Fences (R336 to R338) -/

/-- The region whose share holds an offset below AllocTop (R332), and the byte of the region. -/
def Dev.regionAt (d : Dev) (n off : Nat) : Option (Nat × Nat) :=
  let c := d.nat (Obj.pcClass n)
  let l := d.classList c
  match l.findIdx? (fun k => k == n), (classRegions c).find? (fun r =>
      decide (d.regionStart r ≤ off ∧ off < d.regionStart r + d.regionShare r)) with
  | some i, some r =>
    let rel := off - d.regionStart r
    some (r, (rel / 256 * l.length + i) * 256 + rel % 256)
  | _, _ => none

/-- The fenced place that a fence has moved to this one (R337). -/
def Fence.unmap (f : Fence) (reserveBase n off : Nat) : Option Nat :=
  match f.s.findIdx? (fun k => k == n) with
  | none => none
  | some i =>
    let base := f.base.getD i 0
    if off < base then none
    else
      let k := (off - base) / 256 * f.s.length + i
      let o := k * 256
      some ((if o < f.allocTop then o else reserveBase + o - f.allocTop) + off % 256)

/-- The region and byte of a place on a pseudo-channel, followed back through the fences (R332, R337). -/
def Dev.placeOf (d : Dev) (n off : Nat) : Option (Nat × Nat) :=
  let c := d.nat (Obj.pcClass n)
  let top := d.allocTop c
  let rb := d.reserveBase c
  let back := d.mem.fences.reverse.foldl (fun (e : Nat × Nat) f =>
    if e.2 < top then e
    else match f.s.findIdx? (fun k => k == e.1) with
      | some i => if f.base.getD i 0 ≤ e.2 then ((f.unmap rb e.1 e.2).map (fun o => (f.pc, o))).getD e else e
      | none => e) (n, off)
  if back.2 < top then d.regionAt back.1 back.2 else none

/-- MemSustained in units of 10^6 B/s (R321, R339), over the pseudo-channels of `l` in service. -/
def Dev.sustained (d : Dev) (l : List Nat) : Nat :=
  (l.filter (fun n => d.pcState n == 2 || d.pcState n == 3)).length * 171875 * d.nat Obj.memSpeed / (64 * 10)

/-- RtAdmitted in bytes per second (R334). -/
def Dev.rtAdmittedBytes (d : Dev) : Nat :=
  let views := (List.range 4).filter (fun v => d.flag (Obj.viewEnable v))
  let rate (v : Nat) : Nat := maxN ((d.viewPorts v).map (fun p => d.nat (Obj.maxLineRate p)))
  let ring := sumN (views.map (fun v => 4 * d.nat (Obj.viewWidth v) * d.nat (Obj.viewOutPlanes v) * rate v))
  let mp := sumN (((List.range 24).filter (fun p => d.nat (Obj.bindMode p) == 2)).map (fun p =>
    2 * d.linePayload p * d.nat (Obj.maxLineRate p)))
  let held := (List.range 24).filter (fun p => views.any (fun v => d.deferred v && (d.viewPorts v).contains p))
  ring + mp + sumN (held.map (fun p => 4 * popcount (d.nat (Obj.storePlanes p)) 4 * d.portWidth p * d.nat (Obj.maxLineRate p)))

/-- RtBudget % of the sustained rate of the real-time pseudo-channels in service (R334), in 10^-2 bytes per second. -/
def Dev.rtLimit (d : Dev) : Nat := d.nat Obj.rtBudget * d.sustained (d.classList 0) * 1000000

/-- RtAdmitted lies within the budget (R334). -/
def Dev.rtFits (d : Dev) : Bool := decide (d.rtAdmittedBytes * 100 ≤ d.rtLimit)

/-- Lines in memory-path slots and hold slots that a block or pseudo-channel (`key`) holds are lost (R335). -/
def Dev.loseLines (d : Dev) (key : Nat) : Dev :=
  (List.range 24).foldl (fun d p =>
    let slotLines := ((d.ep p).slots.flatMap (fun s => if s.real then s.lines else [])).map (fun l => l.lix)
    let d := (slotLines.filter (fun n => Config.hbmHolds key p n 0 != 0)).foldl (fun d n => d.loseLine p n) d
    let lost := ((d.sp p).hold.map (fun l => l.lix)).filter (fun n => Config.hbmHolds key (64 + p) n 0 != 0)
    lost.foldl (fun d n => d.loseHold p n) d) d

/-- Pixels of the live-view history that a block or pseudo-channel holds take LvNoData (R335). -/
def Dev.loseBands (d : Dev) (key : Nat) : Dev :=
  d.updPub (fun x => { x with lv := x.lv.map (fun e => (e.1, { e.2 with history := e.2.history.map (fun b =>
    d.losePixels e.1 b (fun px => Config.hbmHolds key (128 + e.1) b.number px != 0)) })) })

/-- Stored patches that meet a bad block are evicted (R335). -/
def Dev.losePatches (d : Dev) (bad : StoredPatch → Bool) : Dev := (d.pub.store.filter bad).foldl Dev.evictPatch d

/-- The writes queued at a pseudo-channel that is fenced go to their remapped places (R336). -/
def Dev.moveWrites (d : Dev) (f : Fence) (reserveBase : Nat) (qs : List MemReq) : Dev :=
  (qs.filter (fun q => q.write)).foldl (fun d q =>
    let place := f.remap reserveBase q.offset
    if pcBytes ≤ place.2 then d
    else
      let d := d.queueReq place.1 { q with offset := place.2 }
      -- the block holds what was written before the fence
      match d.placeOf f.pc q.offset with
      | some (r, a) => d.updMem (fun m => { m with written := Tbl.put m.written ((r * 2 ^ 36 + a) / 256) m.fences.length })
      | none => d) d

/-- A block in which an error was found fails every read until it is written again (R335); of a table bank or model slot the other
copy is used. -/
def Dev.markBad (d : Dev) (addr : Nat) : Dev :=
  let key := addr / 256
  if hasCopies addr then d else d.updMem (fun m => { m with bad := if m.bad.contains key then m.bad else m.bad ++ [key] })

/-- The effect of an uncorrectable error on the region it lies in (R335). -/
def Dev.regionError (d : Dev) (r a : Nat) : Dev :=
  let addr := r * 2 ^ 36 + a
  let key := addr / 256
  match r with
  | 0 =>
    let v := a / 2 ^ 30
    let hit (l : RingLine) : Bool := (List.range l.valid.length).any (fun x => Config.hbmHolds key v l.lix x != 0)
    let lines := ((d.sg v).ring.filter hit).map (fun l => l.lix)
    let d := d.updSg v (fun s => { s with ring := s.ring.map (fun l =>
      { l with valid := (l.valid.zip (List.range l.valid.length)).map (fun e =>
          e.1 && Config.hbmHolds key v l.lix e.2 == 0) }) })
    lines.foldl (fun d n => d.addRange (d.viewLcg v) false scView v 10 n) d
  | 1 => if a < 100663296 then d else d.loseLines key
  | 2 => d.loseBands key
  | 3 => if d.role = 2 ∧ d.pair.phase = 2 then d.joinRefused .busy else d
  | 4 => d.losePatches (fun p => rangesMeet p.off p.len (a / 64 * 64) 64)
  | _ => d

/-- A joiner's sync buffer has a line on a pseudo-channel that is fenced (R335, R336): the join is refused. -/
def Dev.loseSync (d : Dev) (key : Nat) : Dev :=
  if d.role = 2 ∧ d.pair.phase = 2 ∧ (List.range 4).any (fun v =>
      (d.vw v).ready.any (fun l => Config.hbmHolds key (192 + v) l.lix 0 != 0)) then d.joinRefused .busy
  else d

/-- The table banks and images that HBM holds: where they start and how long they are. -/
def Dev.copiedObjects (d : Dev) : List (Nat × Nat) :=
  (List.range 24).flatMap (fun p => ((List.range 4).filter (d.bankValid p)).map (fun b => (bankAddr p b, d.bankSize p))) ++
    ((List.range 2).filter (fun m => 0 < (d.slot m).dataLen)).map (fun m => (modelBase m, (d.slot m).dataLen))

/-- The copies that lay on a pseudo-channel are written again from the good ones through port 11 (R333); `before` is the device
before its fence. A table bank of which both copies of a block are lost is lost. -/
def Dev.mendCopies (d before : Dev) (n : Nat) : Dev :=
  let d := d.copiedObjects.foldl (fun d o => (blocksOf o.1 o.2).foldl (fun d b =>
    -- from `p` on the fenced pseudo-channel to `q`, out of the good copy at `g`
    let again (p q g : Nat × Nat × Nat) (d : Dev) : Dev :=
      if p.1 = n ∧ q.2.1 < pcBytes ∧ g.2.1 < pcBytes then
        (List.range 4).foldl (fun d i =>
          (d.queueReq g.1 { port := 11, offset := g.2.1 + 64 * i, arrival := d.now, write := false }).queueReq q.1
            { port := 11, offset := q.2.1 + 64 * i, arrival := d.now, write := true }) d
      else d
    let one := d.translate (256 * b)
    let two := d.copyPlace (256 * b)
    again (before.copyPlace (256 * b)) two one (again (before.translate (256 * b)) one two d)) d) d
  (List.range 24).foldl (fun d p => (List.range 4).foldl (fun d b =>
    if d.bankValid p b && (blocksOf (bankAddr p b) (d.bankSize p)).any (fun k => d.blockLost (256 * k)) then
      d.setBankValid p b false
    else d) d) d

/-- PC_FENCE and every other fence (R336): cause 0 training, 1 retraining, 2 errors, 3 a write. A queued read acts as an uncorrectable
error; whether later reads of its block do is judged by what has been written since (`Dev.blockBad`). -/
def Dev.fence (d : Dev) (n cause : Nat) : Dev :=
  if d.pcState n = 4 then d
  else
    let c := d.nat (Obj.pcClass n)
    let rb := d.reserveBase c
    let s := (d.classList c).filter (fun k => k != n && (d.pcState k == 2 || d.pcState k == 3))
    let f : Fence := {
      pc := n, s := s, base := s.map (fun k => rb + d.nat (Obj.rsvUsed k)), allocTop := d.allocTop c,
      grow := if s = [] then 0 else ceilDiv (d.allocTop c + d.nat (Obj.rsvUsed n)) (256 * s.length) * 256 }
    let u := f.allocTop + d.nat (Obj.rsvUsed n)
    let grow := f.grow
    let before := d
    -- blocks that find no place below 768 MiB are lost (R338)
    let noPlace := s = [] || f.base.any (fun b => decide (pcBytes < b + grow))
    let lost := if noPlace then
        ((List.range (u / 256)).map (fun k =>
          if k * 256 < f.allocTop then k * 256 else rb + k * 256 - f.allocTop)).filter (fun o =>
          decide (o < pcBytes ∧ pcBytes ≤ (f.remap rb o).2))
      else []
    let homes := lost.filterMap (fun o => (d.placeOf n o).map (fun e => e.1))
    let queued := (d.pc n).queue
    let reads := (queued.filter (fun q => ! q.write)).filterMap (fun q => d.placeOf n q.offset)
    let d := ((d.putN (Obj.pcState n) 4).updPc n (fun x => { x with queue := [], want := false })).updMem (fun m => { m with
      fences := m.fences ++ [f] })
    let d := d.moveWrites f rb queued
    let d := s.foldl (fun d k => d.putN (Obj.rsvUsed k) (d.nat (Obj.rsvUsed k) + grow)) d
    let short := (List.range 7).filter (fun r => homes.contains r)
    let d := short.foldl (fun d r =>
      (d.putN (Obj.regionState r) 2).bumpBy (Obj.regionBytesLost r) (256 * (homes.filter (fun h => h == r)).length) 64) d
    let d := if homes = [] then d
      else d.logRep 0x0B sevFault 0x0004 c (fun _ => [.f c, .f (sumN (short.map (fun r => 2 ^ r)))])
    let d := (((d.setHealth 7 true).bump Obj.repairsDone).putN Obj.lastRepairTime d.stamp).log 0x0B sevFault 0x0003 [.f n, .f cause] none 2
    let d := (List.range 4).foldl (fun d v => d.updSg v (fun x => { x with ring := [] })) d
    let d := (List.range 4).foldl (fun d g =>
      if (List.range 4).any (fun v => (d.vw v).running && d.viewLcg v == g) then
        let k := d.curLix g
        d.addRanges g false scPc n 10 k (256 - k % 256)
      else d) d
    let d := if c = 0 then ((d.loseLines (2 ^ 40 + n)).loseBands (2 ^ 40 + n)).loseSync (2 ^ 40 + n) else d
    let d := if c = 1 then d.losePatches (fun p => d.hbmBad (storeAddr p.off) p.len) else d
    let d := (reads.foldl (fun d e => d.regionError e.1 e.2) d).mendCopies before n
    if before.rtFits && ! d.rtFits then
      d.logRep 0x0B sevWarn 0x0009 0 (fun _ => [.w (d.rtAdmittedBytes / 1000000), .w (d.sustained (List.range 64))])
    else d

/-- A write of PcFence (R336). -/
def Dev.writePcFence (d : Dev) (n : Nat) : Dev × RCode :=
  if d.pcState n = 4 ∨ d.pcState n = 0 then (d, .state) else (d.fence n 3, .ok)

/-! ## Training (R329, R330) -/

/-- A setting is adopted when the smaller margin reaches MinMargin (R329). -/
def Dev.marginOk (d : Dev) (h v : Nat) : Bool := decide (d.nat Obj.minMargin ≤ min h v)

/-- What a training found, and when (R342). -/
def Dev.noteMargins (d : Dev) (n h v : Nat) : Dev :=
  ((d.putN (Obj.marginH n) h).putN (Obj.marginV n) v).putN (Obj.lastTrainTime n) d.stamp

/-- Take over a training result. -/
def Dev.adoptTraining (d : Dev) (n h v : Nat) : Dev :=
  let d := d.noteMargins n h v
  (d.putN (Obj.pcState n) 2).updPc n (fun x => { x with
    trainAt := d.now, trainTemp := d.mem.temps.getD (stackOf n) 0, ces := [], want := false, steps := 0 })

/-- TRAINING_COMPLETE: the margins found for the pseudo-channels of a stack in training (R329). -/
def Dev.trainingComplete (d : Dev) (k : Nat) (margins : List (Nat × Nat)) : Dev :=
  let pcs := (List.range 64).filter (fun n => stackOf n == k && d.pcState n == 1)
  if pcs = [] then d
  else
    let m (n : Nat) : Nat × Nat := margins.getD (n % 32) (0, 0)
    let good := pcs.filter (fun n => d.marginOk (m n).1 (m n).2)
    let d := good.foldl (fun d n => d.adoptTraining n (m n).1 (m n).2) d
    let d := (pcs.filter (fun n => ! d.marginOk (m n).1 (m n).2)).foldl (fun d n =>
      (d.noteMargins n (m n).1 (m n).2).fence n 0) d
    d.log 0x0B sevInfo 0x0001 [.f k, .w good.length]

/-- A retraining is due (R330). -/
def Dev.retrainDue (d : Dev) (n : Nat) : Bool :=
  let x := d.pc n
  x.want || decide (x.trainAt + d.nat Obj.retrainInterval * 1000000000 ≤ d.now) ||
    decide (10 * d.nat Obj.retrainTempDelta < (d.mem.temps.getD (stackOf n) 0 - x.trainTemp).natAbs)

/-- RETRAIN: one pseudo-channel of each class at a time (R330). -/
def Dev.retrain (d : Dev) (n : Nat) : Dev :=
  let busy := (d.classList (d.nat (Obj.pcClass n))).any (fun k => d.pcState k == 3)
  if d.pcState n ≠ 2 || busy || ! d.retrainDue n then d
  else (d.putN (Obj.pcState n) 3).updPc n (fun x => { x with steps := 0, stepAt := 0 })

/-- RETRAIN_STEP: a step without a setting (margins 0) goes on, the 64th or one with a setting is the last (R330). -/
def Dev.retrainStep (d : Dev) (n h v : Nat) : Dev :=
  let x := d.pc n
  let debt := if d.realTime n then (List.range 48).any (fun b => decide (6 ≤ (x.bank b).debt)) else decide (6 ≤ x.debt)
  if d.pcState n ≠ 3 ∨ debt ∨ (0 < x.steps ∧ d.now < x.stepAt + 10000) then d
  else
    let d := d.updPc n (fun x => { x with steps := x.steps + 1, stepAt := d.now })
    if h = 0 ∧ v = 0 ∧ x.steps + 1 < 64 then d
    else if d.marginOk h v then
      ((d.adoptTraining n h v).updPc n (fun x =>
        { x with retrained := some d.now, ueBefore := x.ueAfter, ueAfter := 0 })).logRep 0x0B sevInfo 0x0002 n
        (fun _ => [.f n, .f h, .f v])
    else (d.noteMargins n h v).fence n 1

/-! ## Errors (R322, R330, R335) -/

/-- A copy that an error hit is read from the good one and written again from it, through memory port 11 (R333). -/
def Dev.mendPlace (d : Dev) (addr n off : Nat) : Dev :=
  if hasCopies addr then
    let good := d.otherCopy addr
    let d := if good.2.1 < pcBytes then
        d.queueReq good.1 { port := 11, offset := good.2.1 / 64 * 64, arrival := d.now, write := false }
      else d
    d.queueReq n { port := 11, offset := off / 64 * 64, arrival := d.now, write := true }
  else d

/-- HBM_ECC_ERROR: a read finds an error at an offset of a pseudo-channel (R322, R330, R335). R330 fences at a second uncorrectable
error within 1 s after a retraining: the first is one since that retraining, or one that led to it (DEDUCED, log entry 70). -/
def Dev.hbmEccError (d : Dev) (n off : Nat) (corrected : Bool) : Dev :=
  if d.pcState n ≠ 2 ∧ d.pcState n ≠ 3 then d
  else if corrected then
    let d := d.bump (Obj.ceCount n)
    let d := d.updPc n (fun x => { x with ces := d.now :: x.ces.filter (fun t => decide (d.now ≤ t + 1000000000)) })
    let d := if d.nat Obj.ceRetrain ≤ (d.pc n).ces.length then d.updPc n (fun x => { x with want := true }) else d
    if (d.pc n).ces.length = d.nat Obj.ceRetrain then
      d.logRep 0x0B sevWarn 0x0006 n (fun _ => [.f n, .w (d.nat (Obj.ceCount n))])
    else d
  else
    let place := d.placeOf n off
    let d := (d.bump (Obj.ueCount n)).logRep 0x0B sevFault 0x0005 n (fun _ =>
      [.f n, .f ((place.map (fun e => e.1)).getD 0xFFFF), .w off])
    let d := d.updLogs (fun l => { l with ueTime := some d.now })
    let d := match place with | some (r, a) => ((d.markBad (r * 2 ^ 36 + a)).regionError r a).mendPlace (r * 2 ^ 36 + a) n off | none => d
    let again : Bool := match (d.pc n).retrained with | some t => decide (d.now ≤ t + 1000000000) | none => false
    let d := d.updPc n (fun x => { x with want := true, ueAfter := x.ueAfter + 1 })
    let count : Nat := (d.pc n).ueBefore + (d.pc n).ueAfter
    if again && Nat.ble 2 count then d.fence n 2 else d

/-- PATROL_SCRUB: the next allocated block of a pseudo-channel is read through memory port 11 (R322). -/
def Dev.patrolScrub (d : Dev) (n : Nat) : Dev :=
  if d.pcState n ≠ 2 then d
  else
    let c := d.nat (Obj.pcClass n)
    let top := d.allocTop c
    let rb := d.reserveBase c
    -- the reserve holds blocks up to the end of the pseudo-channel (R338)
    let blocks := (top + min (d.nat (Obj.rsvUsed n)) (pcBytes - rb)) / 64
    if blocks = 0 then d
    else
      let k := d.mem.scrub.getD n 0 % blocks
      let off := if 64 * k < top then 64 * k else rb + 64 * k - top
      let d := d.updMem (fun m => { m with scrub := m.scrub.set n ((k + 1) % blocks) })
      d.queueReq n { port := 11, offset := off, arrival := d.now, write := false }

/-- REFRESH_RATE_CHANGE: the temperature of a stack, in 0.1 °C; above 85 °C RefInterval is halved (R324). -/
def Dev.refreshRate (d : Dev) (k : Nat) (tenths : Int) : Dev :=
  let hot := decide (850 < tenths)
  let was := d.mem.doubled.getD k false
  let d := d.updMem (fun m => { m with temps := m.temps.set k tenths, doubled := m.doubled.set k hot })
  if hot = was then d else d.logRep 0x0B sevInfo 0x000A k (fun _ => [.f k, .i tenths])

/-! ## Power of a stack -/

/-- RsvUsed of a pseudo-channel by the fences in force: what their blocks reach up to in its reserve (R337, R342). -/
def Dev.reserveTop (d : Dev) (n : Nat) : Nat :=
  maxN (d.mem.fences.map (fun f => match f.s.findIdx? (fun k => k == n) with
    | some i => f.base.getD i 0 + f.grow - d.reserveBase (d.nat (Obj.pcClass n))
    | none => 0))

/-- A stack comes up: its pseudo-channels train afresh, and what was fenced is in use again (R329, R336). With no fence left
every region is whole again (R338). The spec does not say what RsvUsed becomes: it holds what the fences left still use (log entry
70). -/
def Dev.stackUp (d : Dev) (k : Nat) : Dev :=
  let pcs := (List.range 64).filter (fun n => stackOf n == k)
  let d := d.updMem (fun m => { m with fences := m.fences.filter (fun f => stackOf f.pc != k), written := [] })
  let d := if d.mem.fences = [] then
      (List.range 7).foldl (fun d r => (d.putN (Obj.regionState r) 1).putN (Obj.regionBytesLost r) 0) d
    else d
  let d := (List.range 64).foldl (fun d n => d.putN (Obj.rsvUsed n) (d.reserveTop n)) d
  pcs.foldl (fun d n => (d.putN (Obj.pcState n) 1).updPc n (fun _ => Pc.reset)) d

/-- The contents of HBM are lost (R440): regions, patch store and table banks. -/
def Dev.stackDown (d : Dev) (k : Nat) : Dev :=
  let pcs := (List.range 64).filter (fun n => stackOf n == k)
  let d := pcs.foldl (fun d n => (d.putN (Obj.pcState n) 0).updPc n (fun _ => Pc.reset)) d
  let d := d.losePatches (fun _ => true)
  let d := (List.range 24).foldl (fun d p => (d.putN (Obj.tableValid p) 0).updEp p (fun e => { e with bankLen := [0, 0, 0, 0] })) d
  let d := (List.range 4).foldl (fun d v => d.updSg v (fun x => { x with ring := [] })) d
  (d.updHbm (fun _ => [])).updMem (fun m => { m with bad := [] }) |>.updPub (fun x => { x with lv := x.lv.map (fun e => (e.1, { e.2 with history := [] })), storePos := 0 })

end Sys2Proof.Machine
end

