-- ==== Sys2Proof/Machine/Power.lean ====
section
/-! DEFINITION. Reset, boot and Hub restart, supplies, clocks and temperature, the power domains, and the firmware commands
that restart the device (chapters 17 to 19). -/

namespace Sys2Proof.Machine

/-! ## What stands in which domain (R18, R20) -/

/-- The power domain of the block that owns an object (R20). -/
def objDomain (key : Nat) : Nat :=
  let i := key / 256
  if i < 0x1100 ∨ (0x1400 ≤ i ∧ i < 0x1500) ∨ 0x6000 ≤ i then 0
  else if i < 0x2000 then pdHub
  else if i < 0x2400 then pdPos
  else if i < 0x2500 then (if i - 0x2400 < 12 then 3 else 4)
  else if i < 0x3000 then (if i - 0x2500 < 96 then 3 else 4)
  else if i < 0x3080 then (if i % 2 = 0 then 3 else 4)
  else if i < 0x3100 then (if i - 0x3080 < 12 then 3 else 4)
  else if 0x3800 ≤ i ∧ i < 0x3900 then pdCls
  else if 0x4840 ≤ i ∧ i < 0x4880 then (if i - 0x4840 < 32 then 7 else 8)
  else if 0x5000 ≤ i ∧ i < 0x5400 then pdNet
  else if 0x5C00 ≤ i ∧ i < 0x5D00 then pdPcie
  else pdHub

/-- LvEnable of some channel: it uses both stacks (R440). -/
def isLvEnable (key : Nat) : Bool :=
  decide (0x3C00 ≤ key / 256 ∧ key / 256 < 0x3C40) && key == Obj.lvEnable (key / 256 - 0x3C00)

/-- A saved value may be applied: the domain of its block is on, and for LvEnable the stacks are (R436). -/
def Dev.objOn (d : Dev) (key : Nat) : Bool :=
  d.domOn (objDomain key) && (! isLvEnable key || (d.domOn 7 && d.domOn 8))

/-- The Saved enables that read 0 while their domain is off, or after it comes up (R436, R439). -/
def isEnable (key : Nat) : Bool :=
  let i := key / 256
  let s := key % 256
  s == 1 && (decide (0x2000 ≤ i ∧ i < 0x2004) || decide (0x2008 ≤ i ∧ i < 0x200A) || decide (0x2010 ≤ i ∧ i < 0x2018) ||
    i == 0x3800 || decide (0x3C00 ≤ i ∧ i < 0x3C40) || decide (0x5010 ≤ i ∧ i < 0x5016) || decide (0x5110 ≤ i ∧ i < 0x5112))

/-- The counters of the blocks that a power-down stops, by blocks and subindices: they return to zero only at reset (R117, R202,
R233, R361), and the persistence flags of R32 are those of writable objects. -/
def counterRows : List (Nat × Nat × List Nat) :=
  [(0x2000, 0x2004, [0x0E]), (0x2008, 0x200A, [0x08]), (0x2010, 0x2018, [0x07, 0x0B]), (0x2100, 0x2104, [0x10, 0x11, 0x14]),
   (0x2140, 0x2158, [0x05]), (0x2300, 0x2301, [0x02, 0x03, 0x04]),
   (0x2400, 0x2418, [0x12, 0x13, 0x14, 0x16, 0x17, 0x18, 0x19, 0x1A, 0x1B, 0x1C, 0x1D]), (0x2500, 0x25C0, [0x05, 0x06, 0x07]),
   (0x3000, 0x300E, [0x05, 0x06, 0x07, 0x08, 0x09, 0x0A]), (0x3080, 0x3098, [0x20]),
   (0x3800, 0x3801, [0x09, 0x0A, 0x0B, 0x0C, 0x0D, 0x0E, 0x10, 0x11, 0x12, 0x15, 0x16]), (0x3810, 0x3814, [0x03, 0x04]),
   (0x3840, 0x3888, [0x03, 0x04, 0x05, 0x07]), (0x4840, 0x4880, [0x03, 0x04]),
   (0x5010, 0x5016, [0x11, 0x12, 0x13, 0x14, 0x16, 0x17]), (0x5100, 0x5101, [0x12, 0x13, 0x14]), (0x5110, 0x5112, [0x0E, 0x0F]),
   (0x5C00, 0x5C01, [0x06, 0x07, 0x08, 0x09, 0x0A, 0x0B, 0x0C]), (0x5C40, 0x5C80, [0x03])]

/-- An object that counts, and so goes on from where it stood. -/
def isCounter (key : Nat) : Bool :=
  counterRows.any (fun r => decide (r.1 ≤ key / 256 ∧ key / 256 < r.2.1) && r.2.2.contains (key % 256))

/-- The blocks of a domain stop and lose what is volatile (R439). The validity of the table banks goes with HBM (R440). The enable of PTP
domain A, whose default is 1, reads 0 like the others. -/
def Dev.clearDomain (d : Dev) (k : Nat) : Dev :=
  let d := if k = pdNet then d.putF (Obj.domainEnable 0) false else d
  let table (key : Nat) : Bool := decide (0x3080 ≤ key / 256 ∧ key / 256 < 0x3098) && key == Obj.tableValid (key / 256 - 0x3080)
  { d with
    objs := d.objs.filter (fun e => objDomain e.1 != k || (savedKey e.1 && ! isEnable e.1) || table e.1 || isCounter e.1 ||
      e.1 == Obj.domainEnable 0)
    cfgLog := d.cfgLog.filter (fun e => objDomain e.1 != k) }

/-! ## The loss of a domain (R437, R440) -/

/-- The position unit as it starts, with the levels at its inputs. -/
def PosState.restart (x : PosState) : PosState :=
  { PosState.reset with
    axes := x.axes.map (fun a => { Axis.reset with a := a.a, b := a.b, z := a.z, lossA := a.lossA, lossB := a.lossB, lossZ := a.lossZ }),
    evLevel := x.evLevel }

/-- The engines of a Strip die go off: the jobs under way and the repairs that use such an engine end, and EngineState becomes 0
(R143, R151). An engine that had the Audit duty is Spare when its die comes back, unless the duty is given to it again (R287). -/
def Dev.enginesDown (d : Dev) (k : Nat) : Dev :=
  let es := (List.range 14).filter (fun e => engineDomain e == k)
  let mine (r : Repair) : Bool := es.contains r.engine || (match r.replacement with | some s => es.contains s | none => false)
  let d := (d.eng.repairs.filter mine).foldl (fun d r => match r.inline with
    | some p => d.updEp p (fun x => { x with creditsHeld := false })
    | none => d) d
  let d := d.updEng (fun x => { x with repairs := x.repairs.filter (fun r => ! mine r) })
  es.foldl (fun d e =>
    let old := (d.engine e).state
    (d.updEngine e (fun x => { state := if x.state = 3 then 2 else x.state, job := none })).log 0x03 sevInfo 0x0008 [.f e, .f old, .f 0]) d

/-- The engines of a Strip die come up (R151). -/
def Dev.enginesUp (d : Dev) (k : Nat) : Dev :=
  ((List.range 14).filter (fun e => engineDomain e == k)).foldl (fun d e =>
    d.log 0x03 sevInfo 0x0008 [.f e, .f 0, .f (d.engine e).state]) d

/-- The lines that a port's ingress and engine hold are lost with their die: each is counted as a Missing line, delivered and
corrected, so that the books stay in balance (R295; log entry 65). -/
def Dev.countLostLines (d : Dev) (p : Nat) : Dev :=
  let out := (d.port p).ledger.length
  (d.bumpBy (Obj.missingCount p) out 64).bumpBy (Obj.portCorrected p) (out + d.inFlight p) 64

/-- PD_S0 or PD_S1 is lost: ingress, engines and half of the Skew Buffer. -/
def Dev.stripDown (d : Dev) (k : Nat) : Dev :=
  let ports := (List.range 24).filter (fun p => portDomain p == k)
  let d := ports.foldl (fun d p =>
    let held := d.heldPsets p
    let d := ((d.countLostLines p).idleLvds p).updTrig p (fun t => { t with lvds := none })
    let d := (d.updPort p (fun _ => Port.reset)).updEp p (fun e => { EngPort.reset with bankLen := e.bankLen })
    let d := held.foldl (fun d q => d.clear (Obj.psetState q)) d
    d.updStitch (fun x => { x with ports := x.ports.set p SkewPort.reset })) d
  d.enginesDown k

/-- PD_CLS is lost: inferences, loaded weights, slots (R234). A record whose inference is lost leaves as not classified, with the
reason of a classifier that is off (R227; DESIGN CHOICE, log entry 67). -/
def Dev.clsDown (d : Dev) : Dev :=
  let d := d.updCls (fun c => { c with
    queue := [], running := [], slots := List.replicate 2 ModelSlot.reset,
    flights := c.flights.map (fun l => l.map (fun f => if f.result.isNone then { f with result := some (noResult f.cand 5) } else f)),
    arrays := c.arrays.map (fun (x : ArrayUnit) => { x with banks := [], state := if x.state = 3 then 1 else x.state }) })
  d.updCal (fun x => { x with queue := [], current := [], cycle := [], boot := [] })

/-- No live view runs without both stacks: LvEnable of every channel reads 0 (R436, R440). -/
def Dev.liveViewsDown (d : Dev) : Dev := { d with objs := d.objs.filter (fun e => ! isLvEnable e.1) }

/-- What a domain holds is lost. -/
def Dev.loseDomain (d : Dev) (k : Nat) : Dev :=
  let d := match k with
    | 1 => d.updPos PosState.restart
    | 3 => d.stripDown 3
    | 4 => d.stripDown 4
    | 5 => d.clsDown
    | 7 => (d.stackDown 0).liveViewsDown
    | 8 => (d.stackDown 1).liveViewsDown
    | 9 => d.netPowerDown
    | 10 => (d.resetEndpoint).updHost (fun h => { h with rings := (List.range 64).map Ring.reset })
    | _ => d
  let d := d.clearDomain k
  if k = 9 then d.servoOff else d

/-- The record of a power-down: DomState, DomCycles and the time spent draining (R443). -/
def Dev.countOff (d : Dev) (k : Nat) : Dev :=
  let t := Tbl.get? d.boot.drains k
  let d := (d.putN (Obj.domState k) 0).bump (Obj.domCycles k)
  let d := d.putN (Obj.domLastDrain k) (match t with | some t => (d.now - t) / 1000 | none => 0)
  d.updBoot (fun x => { x with drains := Tbl.del x.drains k, powering := Tbl.del x.powering k })

/-- A domain is off. -/
def Dev.domainOff (d : Dev) (k : Nat) : Dev :=
  let d := ((d.loseDomain k).countOff k).log 0x10 sevInfo 0x0006 [.f k, .f 0]
  if k = 3 ∨ k = 4 then d.auditDuty.repairStart else d

/-- The domains that a group 3 rail feeds, with those that depend on them; rails 1 to 12 in the order of R448. The rails feed
the dies that they are named after (R431). -/
def railDomains (rail : Nat) : List Nat :=
  match rail with
  | 1 => [3, 4, 9, 10]
  | 2 => [3, 4]
  | 3 => [2, 3, 4, 5, 7, 8, 9, 10]
  | 4 => [5]
  | 5 => [5]
  | 6 => [7, 8]
  | 7 => [7, 8]
  | 12 => [2, 3, 4, 5, 7, 8, 9, 10]
  | _ => []

/-- All group 3 domains (R431, R454). -/
def group3 : List Nat := [2, 3, 4, 5, 7, 8, 9, 10]

/-- A domain may have power: no rail that feeds it is out of regulation, and no thermal trip holds it off (R432, R454). -/
def Dev.fed (d : Dev) (k : Nat) : Bool :=
  ! d.boot.railsDown.any (fun r => (railDomains r).contains k) && ! (d.boot.tripped && group3.contains k)

/-- A domain begins to come up, where it is fed; a stack trains (R329, R439). -/
def Dev.domainStart (d : Dev) (k : Nat) : Dev :=
  if ! d.fed k then d
  else
  let d := (d.putN (Obj.domState k) 1).updBoot (fun x => { x with powering := Tbl.put x.powering k d.now })
  if k = 7 ∨ k = 8 then d.stackUp (k - 7) else d

/-! ## Saved settings in force (R32, R435, R436) -/

/-- A new StreamPlanes, LineWidth or MosaicRows changes the layout of the port's table banks, which become invalid (R133); a new
TrigPolarity the level of its idle LVDS output (R115). -/
def Dev.reshaped (d : Dev) (key : Nat) : Dev :=
  match (List.range 24).find? (fun p =>
      [Obj.streamPlanes p, Obj.lineWidth p, Obj.mosaicRows p, Obj.trigPolarity p].contains key) with
  | some p => if key = Obj.trigPolarity p then d.repolarise p else d.invalidateBanks p
  | none => d

/-- Bring a saved value into force, with what its owner does. -/
def Dev.applySaved (d : Dev) (key : Nat) (bs : Bytes) : Dev :=
  let v := bytesVal key bs
  let i := key / 256
  let on := v.int != 0
  match stallOfKey key with
  | some s => if bs = [] then d else d.updPub (fun x => { x with keys := Tbl.put x.keys s bs })
  | none =>
    if ! savedKey key || decide (d.val key = v) then d
    else if 0x2000 ≤ i ∧ i < 0x2004 ∧ key = Obj.axisEnable (i - 0x2000) then
      (if on && ! d.flag key then (d.put key v).enableAxis (i - 0x2000) else d.put key v)
    else if 0x5010 ≤ i ∧ i < 0x5016 ∧ key = Obj.netEnable (i - 0x5010) then d.writeNetEnable (i - 0x5010) on
    else if 0x5110 ≤ i ∧ i < 0x5112 ∧ key = Obj.domainEnable (i - 0x5110) then d.writeDomainEnable (i - 0x5110) on
    else if 0x3C00 ≤ i ∧ i < 0x3C40 ∧ key = Obj.lvEnable (i - 0x3C00) then (d.writeLvEnable (i - 0x3C00) on).1
    else if key = Obj.pairEnable then d.writePairEnable on
    else if key = Obj.auditEnable then (d.put key v).auditDuty
    else (d.put key v).reshaped key

/-- Step 9 of R435: values whose domain is off are held back, and its enables read 0 (R436). Enables come last, after what they check. -/
def Dev.applySettings (d : Dev) (keep : Nat → Bool) : Dev :=
  let all := d.boot.saved.filter (fun e => ! keep e.1)
  let (now, held) := all.partition (fun e => d.objOn e.1)
  let enable (e : Nat × Bytes) : Bool := isEnable e.1 || e.1 == Obj.pairEnable
  let (later, first) := now.partition enable
  let d := first.foldl (fun d e => d.applySaved e.1 e.2) d
  let d := later.foldl (fun d e => d.applySaved e.1 e.2) d
  let d := (held.filter (fun e => isEnable e.1)).foldl (fun d e => d.putN e.1 0) d
  let d := d.updBoot (fun x => { x with saved := [], held := held })
  if held = [] then d else d.log 0x10 sevWarn 0x0008 [.w held.length]

/-- A domain that comes up later takes its held values; its enables stay 0 (R439). -/
def Dev.applyHeld (d : Dev) (k : Nat) : Dev :=
  let (mine, rest) := d.boot.held.partition (fun e => objDomain e.1 == k && ! isEnable e.1)
  mine.foldl (fun d e => d.applySaved e.1 e.2) (d.updBoot (fun x => { x with held := rest }))

/-! ## Boot (R435) -/

/-- The objects of PD_AON that are Saved, which every boot takes from the bank or from their defaults (R426, R437). -/
def firstSettings : List Nat := (List.range 11).map Obj.domPower ++ [Obj.watchdogTime]

/-- Step 8: the domains with DomPower 1 begin to come up together; PD_CLS does once PD_CAL has settled (R435). -/
def Dev.startDomains8 (d : Dev) : Dev :=
  let ready (d : Dev) (k : Nat) : Bool := d.flag (Obj.domPower k) && d.nat (Obj.domState k) == 0 && (k != pdCls || d.domOn pdCal)
  [1, 3, 4, 5, 6, 7, 8, 9, 10].foldl (fun d k => if ready d k then d.domainStart k else d) d

/-- Steps 6 to 8: PD_HUB is up, the events of the loader and of the domains that went off with the Hub are logged, the settings bank is
read, and the domains with DomPower 1 begin to come up. Those that run, as PD_POS and PD_CAL do in a Hub restart, stay on. -/
def Dev.hubUp (d : Dev) : Dev :=
  if ! d.fed pdHub then d
  else
  let d := (((d.putN Obj.bootPhase 6).putN (Obj.domState pdHub) 2).putN Obj.bootPhase 7).log 0x10 sevInfo 0x0006 [.f pdHub, .f 2]
  let d := d.boot.offs.foldl (fun d k => d.log 0x10 sevInfo 0x0006 [.f k, .f 0]) d
  let d := if d.domOn pdPcie then d.log 0x10 sevInfo 0x0006 [.f pdPcie, .f 2] else d
  let d := d.updBoot (fun x => { x with offs := [] })
  let notes := d.boot.notes
  let d := notes.foldl (fun d e =>
    d.log 0x0F (if e.1 = 7 then sevFault else sevWarn) e.1 (match e.2.2 with | some f => [.w e.2.1, .f f] | none => [.w e.2.1]))
    (d.updBoot (fun x => { x with notes := [] }))
  let d := d.loadSettings.calBoot
  let d := firstSettings.foldl (fun d k => match Tbl.get? d.boot.saved k with
    | some bs => d.put k (bytesVal k bs)
    | none => d.clear k) d
  let d := d.startDomains8
  let d := if ! d.flag (Obj.domPower pdPcie) && d.domOn pdPcie then d.domainOff pdPcie else d
  d.putN Obj.bootPhase 8

/-- In recovery only PD_AON and PD_PCIE are powered (R424). -/
def Dev.recoveryOnly (d : Dev) : Dev :=
  (List.range 11).foldl (fun d k => if k = 0 ∨ k = pdPcie then d else d.putN (Obj.domState k) 0) d

/-- Step 4, as far as the loader is good: its first copy, or the second where the first fails its check; where neither passes, recovery
(R424, R435). `loaderGood` is the outside's word that the flash gives the loader at all (log entry 55). -/
def Dev.loaderValid (d : Dev) : Bool :=
  d.boot.straps.loaderGood && (loaderOk (d.boot.loaders.getD 0 none) || loaderOk (d.boot.loaders.getD 1 none))

/-- Steps 4 to 8 as far as the boot goes on without the loader's copy. Steps that no command ends take no time (log entry 62). -/
def Dev.bootRun (d : Dev) (power : Bool) : Dev :=
  let d := d.putN Obj.bootPhase 4
  if ! d.loaderValid then (d.enterRecovery 1).recoveryOnly
  else
    let c := if loaderOk (d.boot.loaders.getD 0 none) then 0 else 1
    let d := (d.updBoot (fun x => { x with copy := c, loader := x.loaders.getD c none })).loader power
    if d.boot.recovery then d.recoveryOnly
    else if d.boot.waitCopy then d
    else d.hubUp

/-- The boot goes on once the loader's copy is done, which takes HOLDUP_OK (R419). -/
def Dev.bootOn (d : Dev) : Dev :=
  if ! d.boot.waitCopy || ! d.holdupHigh then d
  else
    let d := d.loaderFinish
    if d.boot.recovery then d.recoveryOnly
    else if d.boot.waitCopy then d
    else d.hubUp

/-- All that a power-on reset leaves: flash, the MRAM store, the fuses, the levels at the inputs (R433), and the cause of a revert under
way, which the record does not hold (log entry 58). What was being written to the flash is cut off (R423). -/
def Dev.porState (d : Dev) : Dev :=
  let d := d.workCut.recordCut
  let b := d.boot
  { Dev.reset with
    now := d.now, rb9212 := d.rb9212, pos := d.pos.restart, cal := { CalState.reset with mram := d.cal.mram },
    pair := { PairState.reset with peer := d.pair.peer, peerAt := d.pair.peerAt },
    tol := { TolState.reset with draws := d.tol.draws },
    boot := { BootState.reset with
      slots := b.slots, run := b.run, keep := b.keep, download := b.download, loaders := b.loaders, banks := b.banks,
      trialBank := b.trialBank, minSecurity := b.minSecurity, revertCause := b.revertCause, straps := b.straps, cold := b.cold,
      heldIn := b.heldIn, refLost := b.refLost, railsDown := b.railsDown, tripped := b.tripped, holdup := b.holdup,
      holdupAt := b.holdupAt } }

/-- The device is held in power-on reset: by RST_POR_N (1), a rail (2) or CLK_REF (3). -/
def Dev.holdReset (d : Dev) (why : Nat) : Dev :=
  (d.updBoot (fun x => { x with heldIn := why, cold := x.cold && why != 1 })).porState

/-- A rail whose loss holds the whole device in reset: VDD_AON or one of group 1 (R431, R432). -/
def aonRail (rail : Nat) : Bool := decide (8 ≤ rail ∧ rail ≤ 11)

/-- What still holds the device once one cause of its reset has gone: a rail (2), CLK_REF (3), nothing (0). -/
def Dev.stillHeld (d : Dev) : Nat := if d.boot.railsDown.any aonRail then 2 else if d.boot.refLost then 3 else 0

/-- A power-on reset is released (R433, R435), unless something else still holds the device. Steps 1 to 3: PD_AON and PD_PCIE are on, and
the flash is found; steps that no command ends take no time (log entry 62). A Hub that a rail leaves without power comes with the rail. -/
def Dev.release (d : Dev) (cause : Nat) : Dev :=
  let d := d.updBoot (fun x => { x with heldIn := d.stillHeld })
  if d.boot.heldIn ≠ 0 then d
  else
    let straps := d.boot.straps
    let d := d.updBoot (fun x => { x with cold := false, restartFrom := d.now })
    let d := ((d.putN (Obj.domState 0) 2).putN Obj.bootPhase 1).putN Obj.resetCause cause
    let d := (d.putF Obj.pcieSris straps.pcieSris).putF Obj.pairPosition straps.pairPosB
    let d := if d.fed pdPcie then (d.putN Obj.bootPhase 2).putN (Obj.domState pdPcie) 2 else d
    let d := d.putN Obj.bootPhase 3
    if straps.recovery then (d.enterRecovery 0).recoveryOnly else d.bootRun true

/-- POWER_ON_RESET: RST_POR_N is released, and the straps are sampled (R433, R435). -/
def Dev.powerOnReset (d : Dev) (straps : BootStraps) : Dev :=
  if d.boot.heldIn ≠ 1 then d else (d.updBoot (fun x => { x with straps := straps })).release (if d.boot.cold then 0 else 1)

/-- RST_POR_N_LOW (R433). -/
def Dev.rstPorNLow (d : Dev) : Dev := (d.updBoot (fun x => { x with cold := false })).holdReset 1

/-! ## Inspection-ready (R435) -/

/-- Everything that inspection-ready asks for. -/
def Dev.readyToInspect (d : Dev) : Bool :=
  d.nat Obj.bootPhase == 8 && ! d.boot.waitCopy && ! d.boot.recovery &&
    (List.range 11).all (fun k => ! d.flag (Obj.domPower k) || d.nat (Obj.domState k) == 2) && d.cal.boot.isEmpty

/-- The records of a Hub restart (R437). -/
def Dev.recordDown (d : Dev) : Dev :=
  let hit := d.pos.down.filterMap (fun e => e.2.map (fun r => (e.1, r)))
  let cause := d.nat Obj.resetCause
  let d := hit.foldl (fun d e =>
    let d := d.writeRange e.2.1 e.2.2 e.1 true scLcg e.1 11 (lixSub e.2.2 e.2.1 + 1) 0
    d.log 0x10 sevFault 0x0002 [.f cause, .f e.1, .w e.2.1, .w e.2.2] (some e.1)) d
  if hit = [] then d.log 0x10 sevFault 0x0002 [.f cause, .f 0xFF, .w 0, .w 0] else d

/-- The ports that a Hub restart has stopped drive their LVDS outputs no longer, and idle outputs take the level of the polarity in force
(R115, R437, R458). -/
def Dev.lvdsStop (d : Dev) : Dev :=
  (List.range 24).foldl (fun d p =>
    if d.flag (Obj.portEnable p) then d else ((d.idleLvds p).updTrig p (fun t => { t with lvds := none })).repolarise p) d

/-- INSPECTION_READY: the end of step 9 (R420, R435 to R437). -/
def Dev.inspectionReady (d : Dev) : Dev :=
  let d := d.bootOn
  if ! d.readyToInspect then d
  else
    let restarted := d.boot.restarting
    let d := d.putN Obj.bootPhase 9
    let d := d.applySettings (fun key => restarted && ((objDomain key == pdPos && d.domOn pdPos) || key == Obj.pairEnable))
    let d := (d.auditDuty.armRestore).restoreStalls
    let us := (d.now - d.boot.restartFrom) / 1000
    let d := ((d.putN Obj.bootPhase 10).putF Obj.inspectionReady true).putN Obj.bootTime us
    let d := d.log 0x10 sevInfo 0x0001 [.w us, .f (d.nat Obj.resetCause)]
    let d := if restarted then d.recordDown else d
    let d := (d.updBoot (fun x => { x with restarting := false })).lvdsStop
    if d.nat Obj.fwState = 4 then
      d.updBoot (fun x => { x with trialEnd := some (d.now + d.nat Obj.fwConfirmWindow * 1000000000) })
    else d

/-! ## Hub restart (R437) -/

/-- An object that a Hub restart leaves: those of PD_AON and PD_POS, and the role and strap of the pair. -/
def keptAtRestart (key : Nat) : Bool :=
  let i := key / 256
  objDomain key == pdPos || decide (0x1400 ≤ i ∧ i < 0x1500) ||
    [Obj.pairRole, Obj.pairEnable, Obj.pairPosition].contains key

/-- Step 1 of R437: the Hub die functions and all that depend on them are lost; PD_AON, PD_POS and PD_CAL run on. -/
def Dev.hubDown (d : Dev) : Dev :=
  let d := d.workCut
  let offs := [3, 4, 5, 7, 8, 9, 10].filter (fun k => d.nat (Obj.domState k) != 0)
  let d := offs.foldl Dev.countOff d
  let b := d.boot
  let calOn := d.nat (Obj.domState pdCal)
  let posOn := d.nat (Obj.domState pdPos)
  let role := d.role
  let e : Dev := { Dev.reset with
    now := d.now, rb9212 := d.rb9212, out := d.out,
    objs := d.objs.filter (fun e => keptAtRestart e.1), cfgLog := d.cfgLog.filter (fun e => keptAtRestart e.1),
    logs := { Logs.reset with faults := d.logs.faults },
    tol := { TolState.reset with draws := d.tol.draws },
    pos := { d.pos with down := if posOn = 0 then [] else (List.range 4).map (fun g => (g, none)) },
    cal := { CalState.reset with mram := d.cal.mram },
    pair := { PairState.reset with
      act := d.pair.act, peer := d.pair.peer, peerAt := d.pair.peerAt, seekAt := d.now, linkDown := d.now },
    boot := { BootState.reset with
      slots := b.slots, run := b.run, keep := b.keep, download := b.download, loaders := b.loaders, banks := b.banks,
      trialBank := b.trialBank, minSecurity := b.minSecurity, revertCause := b.revertCause, straps := b.straps, cold := false,
      heldIn := 0, restarting := true, restartFrom := d.now, railsDown := b.railsDown, tripped := b.tripped, hot := b.hot,
      recorded := b.recorded, offs := offs, holdup := b.holdup, holdupAt := b.holdupAt, notes := b.notes } }
  let e := (List.range 11).foldl (fun e k => e.putN (Obj.domState k) 0) e
  let e := ((e.putN (Obj.domState 0) 2).putN (Obj.domState pdCal) calOn).putN (Obj.domState pdPos) posOn
  let e := ((e.putF Obj.inspectionReady false).putN Obj.bootPhase 4).putN Obj.pairRole (if role = 0 then 0 else if role < 4 then 1 else 5)
  if e.domOn 0 ∧ d.pair.take then e.setPins d.pair.act false else e

/-- A Hub restart with its ResetCause (R437). -/
def Dev.hubRestart (d : Dev) (cause : Nat) : Dev :=
  let d := (d.hubDown.putN Obj.resetCause cause).bump Obj.hubRestarts
  let d := if d.fed pdPcie then d.putN (Obj.domState pdPcie) 2 else d
  d.bootRun false

/-- The device runs: it is not held in reset, not in recovery. -/
def Dev.runs (d : Dev) : Bool := d.boot.heldIn == 0 && ! d.boot.recovery

/-- HUB_RESTART: RST_HUB_N (R433, R437), in recovery too. While a rail or a thermal trip leaves the Hub without power, the restart that
follows their end is the one (R432, R454; log entry 59). -/
def Dev.rstHubN (d : Dev) : Dev := if d.boot.heldIn ≠ 0 ∨ ! d.fed pdHub then d else d.hubRestart 2

/-- WATCHDOG: no signal from the firmware for WatchdogTime (R438). -/
def Dev.watchdogExpired (d : Dev) : Dev :=
  if ! d.runs || d.boot.waitCopy || ! d.domOn pdHub then d
  else (d.log 0x10 sevFault 0x0003 [.f (d.nat Obj.watchdogTime)]).hubRestart 3

/-! ## Supplies, clocks, temperature (R432, R434, R454) -/

/-- Switch domains off at once, without drain (R432). With the Hub die, the events wait until it runs again (log entry 59). -/
def Dev.cutDomains (d : Dev) (ks : List Nat) : Dev :=
  let ks := ks.filter (fun k => d.nat (Obj.domState k) != 0)
  if ks.contains pdHub then
    (d.countOff pdHub).hubDown.updBoot (fun x => { x with offs := pdHub :: x.offs })
  else
    let d := ks.foldl (fun d k => ((d.loseDomain k).countOff k).log 0x10 sevInfo 0x0006 [.f k, .f 0]) d
    if ks.contains 3 || ks.contains 4 then d.auditDuty.repairStart else d

/-- A rail is out of regulation. -/
def Dev.railOut (d : Dev) (rail : Nat) : Dev :=
  d.updBoot (fun x => { x with railsDown := if x.railsDown.contains rail then x.railsDown else rail :: x.railsDown })

/-- BROWNOUT: a rail leaves regulation (R432). -/
def Dev.brownout (d : Dev) (rail : Nat) : Dev :=
  if rail < 1 ∨ 12 < rail then d
  else if aonRail rail then (if d.boot.heldIn = 1 then d.railOut rail else (d.railOut rail).holdReset 2)
  else if d.boot.heldIn ≠ 0 then d.railOut rail
  else
    let ks := (railDomains rail).filter (fun k => d.nat (Obj.domState k) != 0)
    let d := d.log 0x10 sevFault 0x0004 [.f rail, .f (sumN (ks.map (fun k => 2 ^ k)))]
    (d.cutDomains ks).railOut rail

/-- SUPPLY_RETURN: a rail has been back in regulation for 1 ms (R432). The Hub restart takes that no other rail and no thermal trip keeps the
Hub without power. -/
def Dev.supplyReturn (d : Dev) (rail : Nat) : Dev :=
  if ! d.boot.railsDown.contains rail then d
  else
    let d := d.updBoot (fun x => { x with railsDown := x.railsDown.filter (fun r => r != rail) })
    if d.boot.heldIn = 2 then d.release 6
    else if d.boot.heldIn = 0 ∧ d.fed pdHub then d.hubRestart 6 else d

/-- REFERENCE_CLOCK_LOST: CLK_REF (0) holds the device in reset, CLK_PCIE (1) takes the link down (R434). -/
def Dev.clockLost (d : Dev) (clock : Nat) : Dev :=
  if clock = 0 then
    let d := d.updBoot (fun x => { x with refLost := true })
    if d.boot.heldIn = 1 ∨ d.boot.heldIn = 2 then d else d.holdReset 3
  else if clock ≠ 1 ∨ d.boot.heldIn ≠ 0 then d
  else
    let d := d.log 0x10 sevFault 0x0005 [.f 1]
    if d.boot.straps.pcieSris then d else d.pcieLink 0 0

/-- REFERENCE_CLOCK_RETURN (R434): the loss is logged once the ring in PD_AON runs again. -/
def Dev.clockReturn (d : Dev) : Dev :=
  let d := d.updBoot (fun x => { x with refLost := false })
  if d.boot.heldIn ≠ 3 then d else (d.release 5).log 0x10 sevFault 0x0005 [.f 0]

/-- A stack's sensor is also what StackTemp reads and what sets its refresh rate (R324, R454). -/
def Dev.stackReading (d : Dev) (sensor : Nat) (tenths : Int) : Dev :=
  if (sensor = 16 ∨ sensor = 17) ∧ d.domOn (7 + (sensor - 16)) then d.refreshRate (sensor - 16) tenths else d

/-- THERMAL_TRIP: a sensor's reading in 0.1 °C; sensors 16 and 17 are the stacks H0 and H1 (R454). A device that has tripped trips no
more until it has cooled down, and goes on logging what reads above 105 °C. -/
def Dev.thermalTrip (d : Dev) (sensor : Nat) (tenths : Int) : Dev :=
  let stack := sensor == 16 || sensor == 17
  let trip := decide (1150 ≤ tenths) || (stack && decide (1050 ≤ tenths))
  let d := d.stackReading sensor tenths
  if d.boot.heldIn ≠ 0 then d
  else if trip && ! d.boot.tripped then
    let ks := group3.filter (fun k => d.nat (Obj.domState k) != 0)
    let d := d.log 0x10 sevFault 0x0004 [.f 0xFF, .f (sumN (ks.map (fun k => 2 ^ k)))]
    let d := (d.cutDomains group3).putN Obj.resetCause 6
    d.updBoot (fun x => { x with tripped := true })
  else if 1050 < tenths then
    match Tbl.get? d.boot.hot sensor with
    | some t => if d.now < t + 60000000000 then d
        else (d.updBoot (fun x => { x with hot := Tbl.put x.hot sensor d.now })).log 0x10 sevFault 0x0004 [.f 0xFE, .f 0]
    | none => (d.updBoot (fun x => { x with hot := Tbl.put x.hot sensor d.now })).log 0x10 sevFault 0x0004 [.f 0xFE, .f 0]
  else d.updBoot (fun x => { x with hot := Tbl.del x.hot sensor })

/-- THERMAL_COOLDOWN: every sensor has read below 95 °C for 1 ms (R454). -/
def Dev.thermalCooldown (d : Dev) : Dev :=
  if ! d.boot.tripped then d
  else
    let d := d.updBoot (fun x => { x with tripped := false, hot := [] })
    if d.boot.heldIn = 0 ∧ d.fed pdHub then d.hubRestart 6 else d

/-! ## Powering domains on and off (R439 to R441) -/

/-- A port whose engine or lanes stand on a Strip die is enabled (R440). -/
def Dev.stripBusy (d : Dev) (k : Nat) : Bool :=
  (List.range 24).any (fun p => d.flag (Obj.portEnable p) &&
    (portDomain p == k || (d.nat (Obj.bindMode p) != 0 && engineDomain (d.engineOf p) == k)))

/-- Something uses the stacks, or the sync buffer is in use (R440). Regions are spread over both stacks. -/
def Dev.stackBusy (d : Dev) : Bool :=
  (List.range 4).any (fun v => d.flag (Obj.viewEnable v) || (d.vw v).running) ||
    (List.range 24).any (fun p => d.flag (Obj.portEnable p) && d.nat (Obj.bindMode p) == 2) ||
    (List.range 64).any (fun c => d.flag (Obj.lvEnable c)) ||
    (List.range 2).any (fun m => d.nat (Obj.modelSlotState m) == 2 || d.nat (Obj.modelSlotState m) == 3 || d.modelInUse m) ||
    (d.role == 2 && d.pair.phase != 0)

/-- The refusal conditions of R440. -/
def Dev.powerOffRefused (d : Dev) (k : Nat) : Bool :=
  match k with
  | 0 => true
  | 1 => (List.range 4).any (fun g => d.flag (Obj.lcgRun g)) || ! d.pos.eyelets.isEmpty
  | 2 => true
  | 3 => d.stripBusy 3
  | 4 => d.stripBusy 4
  | 5 => d.flag Obj.clsEnable
  | 6 => d.nat (Obj.domState pdCls) != 0
  | 7 => d.stackBusy
  | 8 => d.stackBusy
  | 9 => d.stallsOpen.any (fun s => d.nat (Obj.stallTransport s) != 0) || d.role == 3 || d.role == 4 || d.role == 5
  | _ => d.stallsOpen.any (fun s => d.nat (Obj.stallTransport s) == 0)

/-- What a power-down waits for (R440): the code of DomDeferCause, 0 for nothing. -/
def Dev.deferCause (d : Dev) (k : Nat) : Nat :=
  match k with
  | 5 => if d.clsInFlight ≠ 0 ∨ d.cls.queue ≠ [] ∨ d.cls.running ≠ [] then 2 else if d.cal.current ≠ [] then 3 else 0
  | 7 => if d.dmaDraining 7 then 1 else 0
  | 8 => if d.dmaDraining 8 then 1 else 0
  | 9 => if d.pub.launch.any (fun q => ! q.isEmpty) then 4 else 0
  | 10 => if d.dmaDraining 10 then 1 else 0
  | _ => 0

/-- DomDeferCause (R443): what a draining domain waits for at this moment. -/
def Dev.deferShown (d : Dev) (k : Nat) : Nat := if d.nat (Obj.domState k) = 3 then d.deferCause k else 0

/-- The response of the session that powers its transport down is still in the mailbox (R441). -/
def Dev.answerWaits (d : Dev) (k : Nat) : Bool :=
  k == pdPcie && d.host.mbx.d2h.isSome && decide (d.now < (Tbl.get d.boot.drains k d.now) + 1000000)

/-- The power-down of a draining domain takes place (R439). -/
def Dev.finishDrain (d : Dev) (k : Nat) : Dev := (d.putN (Obj.domState k) 4).domainOff k

/-- A write of DomPower = 1 (R21, R439). -/
def Dev.writeDomPowerOn (d : Dev) (k : Nat) : Dev × RCode :=
  match d.nat (Obj.domState k) with
  | 0 =>
    if (k = pdCls ∧ ! d.domOn pdCal) ∨ (! d.domOn pdHub ∧ k ≠ pdPcie ∧ k ≠ pdPos ∧ k ≠ pdCal) then (d, .state)
    else ((d.putF (Obj.domPower k) true).domainStart k, .ok)
  | 3 => (d, .busy)
  | 4 => (d, .busy)
  | _ => (d.putF (Obj.domPower k) true, .ok)

/-- A write of DomPower = 0 (R439 to R441). PD_NET and PD_PCIE go after the response has been sent. -/
def Dev.writeDomPowerOff (d : Dev) (k : Nat) : Dev × RCode :=
  match d.nat (Obj.domState k) with
  | 0 => (d.putF (Obj.domPower k) false, .ok)
  | 3 => (d, .ok)
  | 4 => (d, .ok)
  | _ =>
    if d.powerOffRefused k then (d, .state)
    else
      let d := (d.putF (Obj.domPower k) false).putN (Obj.domState k) 3
      let d := d.updBoot (fun x => { x with drains := Tbl.put x.drains k d.now })
      let d := if k = 7 ∨ k = 8 ∨ k = pdPcie then d.drainChans k else d
      let c := d.deferCause k
      if c = 0 ∧ k ≠ pdNet ∧ k ≠ pdPcie then (d.finishDrain k, .ok) else (d, .ok)

/-- DOMAIN_POWER_UP_COMPLETE (R440). -/
def Dev.domainPowerUp (d : Dev) (k : Nat) : Dev :=
  let d := d.bootOn
  let training := (k == 7 || k == 8) && (List.range 64).any (fun n => stackDomain (stackOf n) == k && d.pcState n == 1)
  if d.nat (Obj.domState k) ≠ 1 ∨ training ∨ (k = pdCls ∧ ! d.domOn pdCal) then d
  else
    let d := (d.putN (Obj.domState k) 2).updBoot (fun x => { x with powering := Tbl.del x.powering k })
    let d := if k = pdCls then d.installRecords else if k = pdNet then d.netPowerUp
      else if k = pdPos then (List.range 24).foldl Dev.idleLevel d else d
    let d := if k = pdCal ∧ d.nat Obj.bootPhase = 8 then d.startDomains8 else d
    let d := if d.flag Obj.inspectionReady then d.applyHeld k else d
    let d := if k = 3 ∨ k = 4 then (d.enginesUp k).auditDuty else d
    (d.log 0x10 sevInfo 0x0006 [.f k, .f 2]).restoreStalls

/-- DRAIN_END: nothing defers the power-down any longer (R440, R441). -/
def Dev.drainEnd (d : Dev) (k : Nat) : Dev :=
  if d.nat (Obj.domState k) ≠ 3 ∨ d.deferCause k ≠ 0 ∨ d.answerWaits k then d else d.finishDrain k

/-- The limit of a deferral in ns (R440). -/
def Dev.drainLimitNs (d : Dev) (k : Nat) : Nat :=
  match k with
  | 5 => d.nat Obj.clsMaxWait * 1000
  | 9 => 10000000
  | _ => 100000

/-- Every request of the classifier ends shed, and a calibration is abandoned (R440). -/
def Dev.shedAll (d : Dev) : Dev :=
  let qs := d.cls.queue ++ d.cls.running.map (fun n => n.req)
  let d := qs.foldl (fun d q => d.shed q) d
  (d.updCls (fun x => { x with queue := [], running := [] })).updCal (fun c => { c with current := [], cycle := [] })

/-- DRAIN_LIMIT (R440). -/
def Dev.drainLimit (d : Dev) (k : Nat) : Dev :=
  let c := d.deferCause k
  let from' := Tbl.get d.boot.drains k d.now
  if d.nat (Obj.domState k) ≠ 3 ∨ c = 0 ∨ d.now < from' + d.drainLimitNs k then d
  else
    let d := d.log 0x10 sevWarn 0x0007 [.f k, .f c]
    let d := match k with
      | 5 => d.shedAll
      | 9 => (List.range 6).foldl (fun d q => d.flushLaunch q true) d
      | k => d.drainTimeout k
    if d.answerWaits k then d else d.finishDrain k

/-! ## Activation and revert (R418 to R422, R424) -/

/-- A write of FwActivate = 1 (R418, R419). What it writes to the flash takes a while, FwState being 3. In recovery Run is written
directly (R424). -/
def Dev.writeFwActivate (d : Dev) : Dev × RCode :=
  match d.activateCase false with
  | some (c, cause) => (d.refuseActivation cause true, c)
  | none =>
    let d := (d.putN Obj.fwRefuseCause 0).log 0x0F sevInfo 0x0003 [.w (imageVersion d.boot.run), .w (leAt d.boot.download 28 4)]
    if d.nat Obj.fwDownloadKind = 1 then (d.installLoader, .ok)
    else if d.boot.recovery then
      ((d.putN Obj.fwState 3).updBoot (fun x => { x with work := some (.run, d.flashDue 2 0) }), .ok)
    else (d.keepRun, .ok)

/-- The device restarts out of recovery (R424): it boots again without a release of RST_POR_N. -/
def Dev.leaveRecovery (d : Dev) : Dev :=
  let d := d.hubDown.updBoot (fun x => { x with restarting := false })
  let d := d.putN Obj.resetCause 4
  (if d.fed pdPcie then d.putN (Obj.domState pdPcie) 2 else d).bootRun true

/-- Run has been written in recovery (R424). -/
def Dev.runDone (d : Dev) : Dev :=
  let b := d.boot.download
  let d := d.updBoot (fun x => { x with work := none, run := some (d.flashed 2 0 b) })
  (d.writeBootRec (fun r => { r with
    stage := 0, trial := 0, confirmed := true, keepValid := false, runDigest := Config.shake256 b 32, runVersion := leAt b 28 4 })).leaveRecovery

/-- What was being written to the flash is done: the activation goes on to its restart (R419, step 4), an installation to its next copy or
its end; in recovery the device then restarts (R424). -/
def Dev.jobDone (d : Dev) (j : FlashJob) : Dev :=
  match j with
  | .keep => match d.keepDone with
    | (d, true) => d.hubRestart 4
    | (d, false) => d
  | .loader c second again => match d.loaderDone c second again with
    | (d, true) => if d.boot.recovery then d.leaveRecovery else d
    | (d, false) => d
  | .run => d.runDone

/-- Nothing that is being written to the flash is due. -/
def Dev.flashQuiet (d : Dev) : Bool :=
  (match d.boot.work with | some (_, due) => decide (d.now < due) | none => true) &&
    (match d.boot.saving with | some x => decide (d.now < x.due) | none => true)

/-- Nothing is being written to the flash, and no copy of the loader's is under way: a loss of power cuts nothing off (R423). -/
def Dev.flashStill (d : Dev) : Bool :=
  d.boot.work.isNone && d.boot.saving.isNone && (! d.boot.waitCopy || ! d.holdupHigh) &&
    (match d.boot.recorded with | some (_, due) => decide (due ≤ d.now) | none => true)

/-- A command finds done what has been written to the flash by then (log entry 58). -/
def Dev.flashEnds (d : Dev) : Dev :=
  let d := d.saveDone
  match d.boot.work with
  | some (j, due) => if due ≤ d.now then d.jobDone j else d
  | none => d

/-- Start a revert: Stage 4, and a Hub restart (R422). -/
def Dev.revert (d : Dev) (cause : Nat) : Dev :=
  ((d.writeBootRec (fun r => { r with stage := 4 })).updBoot (fun x => { x with revertCause := cause })).hubRestart 4

/-- A write of FwRevert = 1 (R422). -/
def Dev.writeFwRevert (d : Dev) : Dev × RCode :=
  if ! d.flag Obj.keepValid then (d, .state)
  else if (match d.keepImage with | some b => leAt b 34 2 | none => 0) < d.boot.minSecurity then (d, .integrity)
  else match d.activateCase true with
    | some (c, cause) => (d.refuseActivation cause false, c)
    | none => ((d.putN Obj.fwRefuseCause 0).revert 2, .ok)

/-- TRIAL_TIMEOUT: the confirmation window has passed (R421). -/
def Dev.trialTimeout (d : Dev) : Dev :=
  match d.boot.trialEnd with
  | none => d
  | some t =>
    if d.nat Obj.fwState ≠ 4 ∨ d.now < t then d
    else if d.webMoving then
      (d.putN Obj.fwState 5).log 0x0F sevFault 0x0007 [.w (d.nat Obj.fwVersionKeep), .f 0]
    else d.revert 0

/-- A pending revert takes place once the web stands (R421). -/
def Dev.pendingRevert (d : Dev) : Dev := if d.nat Obj.fwState = 5 ∧ ! d.webMoving then d.revert 0 else d

end Sys2Proof.Machine
end

