-- ==== Sys2Proof/Machine/Settle.lean ====
section
/-! DEFINITION. What follows every command: health as the pair logic judges it, changes of role, a pending revert, and the
bounds of what is kept; and the two forms that a meaning takes. -/

namespace Sys2Proof.Machine

/-- What the device does once a command is carried out. `old` is the pair role before it. -/
def Dev.settled (d : Dev) (old : Nat) : Dev :=
  let d := if d.domOn pdHub then d.healthFailover else d
  let d := d.roleEffects old
  (if d.boot.heldIn = 0 then d.pendingRevert else d).trim

/-- The next state, with the device as a command leaves it. -/
def settle (s : State) (d : Dev) : Host.Outcome State Fault Refusal := .next { s with dev := d.settled s.dev.role }

/-- The device as a command finds it: the outputs and the result of the command before are forgotten. -/
def Dev.begin (d : Dev) : Dev := { d with out := [], opCode := .ok, opData := [] }

/-- A command that acts on the device, which finds done what was being written to the flash. -/
def onDev (s : State) (f : Dev → Dev) : Host.Outcome State Fault Refusal := settle s (f s.dev.begin.flashEnds)

/-- A command on unit `u` of `n`: the device has no other unit. -/
def onUnit (u n : Nat) (s : State) (f : Dev → Dev) : Host.Outcome State Fault Refusal :=
  if u < n then onDev s f else .refused .noSuchUnit

/-- A command on a unit of a power domain: while the domain is off, or the device is held in reset, nothing happens. -/
def Dev.whileOn (d : Dev) (dom : Nat) (f : Dev → Dev) : Dev := if d.domOn dom then f d else d

end Sys2Proof.Machine
end

