-- ==== Sys2Proof/Machine/HostRead.lean ====
section
/-! DEFINITION. The values of the objects that are read from the device's working state and not held as objects (the
object tables of every chapter), and the packed layouts of the logs (R293, R298). -/

namespace Sys2Proof.Machine

/-! ## Layouts of the logs (R293, R298, R299) -/

/-- A log entry: a 32-byte header and four data words (R298). -/
def LogEntry.bytes (e : LogEntry) : Bytes :=
  packLE 32 [(e.code, 32), (e.seq, 32), (e.time, 80), (e.lix, 64), (e.lcg, 2), (b2n e.lixValid, 1), (e.words.length, 3),
    (e.repeats, 18), (0, 24)] ++
  (List.range 4).flatMap (fun k => natLE 8 (e.words.getD k 0))

/-- A range record (R293). -/
def RangeRec.bytes (r : RangeRec) : Bytes :=
  packLE 32 [(r.first, 64), (r.last, 64), (r.seq, 32), (r.lcg, 2), (b2n r.lost, 1), (0, 5), (r.scope, 4), (r.unit, 8), (0, 4),
    (r.cause, 8), (r.count, 32), (0, 32)]

/-- Seq of the oldest entry kept, 0 with none; entries are numbered without gaps. -/
def oldestSeq (newest kept : Nat) : Nat := if kept = 0 then 0 else newest - kept + 1

/-- The up to 16 items that a block object returns from number `wanted` on (R299). -/
def blockFrom {α : Type} (l : List α) (newest wanted : Nat) : List α := (l.drop (wanted - oldestSeq newest l.length)).take 16

/-! ## The position unit (R70, R83, R87) -/

def Dev.readAxis (d : Dev) (a s : Nat) : Option Val :=
  let x := d.axis a
  let v := x.speedAt d.now (d.stillLimit a)
  match s with
  | 0x04 => some (.n (rawOf x.c))
  | 0x05 => some (.n (wrapsOf x.c))
  | 0x06 => some (.n x.c)
  | 0x07 => some (.n x.pf)
  | 0x08 => some (.n (b2n x.rev))
  | 0x09 => some (.n (ratToF32 v.1 v.2))
  | 0x0A => some (.n (b2n (x.valid && ! d.standsStill a)))
  | 0x0B => some (.n (b2n (d.standsStill a)))
  | 0x0F => some (.n x.signal)
  | _ => none

def Dev.readLcg (d : Dev) (g s : Nat) : Option Val :=
  let l := d.lcg g
  let v := (d.axis (d.activeAxis g)).speedAt d.now (d.stillLimit (d.activeAxis g))
  match s with
  | 0x07 => some (.n (d.curLix g))
  | 0x08 => some (.n l.compare)
  | 0x09 => some (.n (d.lcgBacklog g))
  | 0x0B => some (.n (d.activeAxis g))
  | 0x17 => some (.n (ratToF32 (v.1 * 65536) (v.2 * d.nat (Obj.lineStep g))))
  | _ => none

def Dev.readTrig (d : Dev) (p s : Nat) : Option Val :=
  match s with
  | 0x03 => some (.n (d.portNextLix p))
  | 0x04 => some (.n (match d.portLcg? p with | some g => lixSub (d.curLix g + 1) (d.portNextLix p) % 2 ^ 32 | none => 0))
  | _ => none

/-! ## Ingress, engines, bindings (R117, R118, R149, R150) -/

/-- The eye margins of a lane and its adapted equaliser code are measured; what a measurement gives is open. -/
def Dev.readLane (d : Dev) (n s : Nat) : Option Val :=
  match s with
  | 0x04 =>
    if d.nat (Obj.eqMode n) ≠ 0 then none
    else some (.n (match d.laneMeasured n with | some t => Config.eqAdapted n t % 512 | none => 0))
  | 0x08 => (d.laneMeasured n).map (fun t => .n (Config.eyeMargin n 0 t % 65536 : Nat))
  | 0x09 => (d.laneMeasured n).map (fun t => .n (Config.eyeMargin n 1 t % 65536 : Nat))
  | _ => none

/-- EngineLoad is floored to whole Msample/s, whose rounding R149 leaves open (DESIGN CHOICE, log entry 66). -/
def Dev.readEngine (d : Dev) (e s : Nat) : Option Val :=
  match s with
  | 0x01 => some (.n (d.engineStateNow e))
  | 0x02 => some (.n (d.engineLoad e / 1000000 : Nat))
  | 0x03 => some (.n ((d.inlinePorts e).headD 0xFF))
  | 0x04 => some (.n (sumN ((d.mpPorts e).map (fun p => 2 ^ p))))
  | _ => none

/-- TableData as written: the bytes of the selected bank up to the length written (R41, R133). -/
def Dev.tableBytes (d : Dev) (p : Nat) : Bytes :=
  let b := d.nat (Obj.tableBankSel p)
  Tbl.getBytes 0 d.hbm (bankAddr p b) ((d.ep p).bankLen.getD b 0)

def Dev.readBinding (d : Dev) (p s : Nat) : Option Val :=
  match s with
  | 0x03 => some (.n (d.engineOf p))
  | 0x1E => some (.n (d.lookahead p))
  | 0x1F => some (.b ((((d.ep p).ring.take 16).flatMap id ++ List.replicate 1024 0).take 1024))
  | 0x22 => some (.b (d.tableBytes p))
  | 0x26 => some (.n (bankAddr p (d.nat (Obj.tableBankSel p))))
  | _ => none

/-! ## Stitcher and segmenter (R172 to R175, R202, R204) -/

/-- The 24 × 2 values of MatchGain and MatchTarget: U32 [p][k] at byte 8p + 4k (R174). -/
def gainBytes (l : List Nat) : Bytes := (List.range 48).flatMap (fun i => natLE 4 (l.getD i 0))

def Dev.readLast (d : Dev) (p s : Nat) : Option Val :=
  match s with
  | 0x0C => some (.n (d.lastNow p).mdMin)
  | 0x0D => some (.n (d.lastNow p).mdMax)
  | _ => none

def Dev.readWelt (d : Dev) (w s : Nat) : Option Val :=
  match s with
  | 0x07 => some (.n (((d.weltZone w).getD (0, 0)).1))
  | 0x08 => some (.n (((d.weltZone w).getD (0, 0)).2))
  | _ => none

def Dev.readView (d : Dev) (v s : Nat) : Option Val :=
  match s with
  | 0x16 => some (.n (b2n (d.deferred v)))
  | 0x19 => some (.n (d.linesPending v))
  | 0x1C => some (.b (gainBytes (if d.nat (Obj.matchMode v) = 0 then unity else (d.vw v).gains)))
  | 0x1D => some (.b (gainBytes (if d.nat (Obj.matchMode v) = 0 then unity else (d.vw v).setTargets)))
  | _ => none

def Dev.readSkew (d : Dev) (s : Nat) : Option Val :=
  match s with
  | 0x03 => some (.n (d.spareRows 4 0))
  | 0x04 => some (.n (d.spareRows 4 12))
  | _ => none

def Dev.readSeg (d : Dev) (v s : Nat) : Option Val :=
  match s with
  | 0x16 => some (.n (d.sg v).blobs.length)
  | 0x1F => some (.n (d.sg v).settled)
  | _ => none

def Dev.readCrop (d : Dev) (v s : Nat) : Option Val :=
  match s with
  | 0x09 => some (.n (d.seg.crop.filter (fun q => q.view == v)).length)
  | _ => none

def Dev.readSegDevice (d : Dev) (s : Nat) : Option Val :=
  match s with
  | 0x01 => some (.n (sumN (d.seg.views.map (fun x => x.blobs.length))))
  | _ => none

/-! ## Classifier and calibration (R233 to R236, R280, R281) -/

def Dev.readCls (d : Dev) (s : Nat) : Option Val :=
  match s with
  | 0x08 => some (.n d.cls.queue.length)
  | 0x0F => some (.n d.clsInFlight)
  | 0x13 => some (.n d.activeArrays)
  | 0x14 => some (.n d.spareArrays)
  | _ => none

def Dev.readSlot (d : Dev) (m s : Nat) : Option Val :=
  match s with
  | 0x01 => some (.n (modelBase m))
  | 0x02 => some (.b (Tbl.getBytes 0 d.hbm (modelBase m) (d.slot m).dataLen))
  | 0x04 => some (.n (if d.nat (Obj.modelSlotState m) = 2 ∧ d.modelInUse m then 3 else d.nat (Obj.modelSlotState m)))
  | 0x0C => some (.n (d.modelUsers m))
  | _ => none

/-- ArrayLoad: the placement load of the slots in use (R236). -/
def Dev.arrayLoadNow (d : Dev) (a : Nat) : Nat :=
  let x := d.arr a
  if x.logical = 0xFF then 0
  else sumN (((List.range 2).filter d.modelInUse).map (fun m => (d.image m).load d.served x.logical))

def Dev.readArray (d : Dev) (a s : Nat) : Option Val :=
  let x := d.arr a
  match s with
  | 0x01 => some (.n (if x.state = 4 then 4 else if d.domOn pdCls then x.state else 0 : Nat))
  | 0x02 => some (.n x.logical)
  | 0x06 => some (.n (d.arrayLoadNow a))
  | _ => none

/-- ArrCalState (R281). -/
def Dev.arrCalStateNow (d : Dev) (a : Nat) : Nat :=
  let x := d.arr a
  if d.cal.current.any (fun c => c.array == a) then 3
  else if d.cal.queue.any (fun e => e.1 == a) then 2
  else if x.unfit && x.state != 4 then 5
  else if ! x.ramping.isEmpty then 4
  else if x.calAt.isSome || x.fromRecord then 1
  else 0

/-- CalRecord: what was written to it, else the newest valid record of the unit selected (R279). -/
def Dev.calRecordNow (d : Dev) : Bytes :=
  if d.cal.buf ≠ [] then d.cal.buf else (d.unitRecord (d.nat Obj.calRecordSel)).getD []

def Dev.readCal (d : Dev) (s : Nat) : Option Val :=
  match s with
  | 0x12 => some (.n d.cal.queue.length)
  | 0x13 => some (.n (match d.cal.current with | c :: _ => c.array | [] => 0xFF : Nat))
  | 0x1B => some (.b d.calRecordNow)
  | _ => none

def Dev.readArrCal (d : Dev) (a s : Nat) : Option Val :=
  let x := d.arr a
  match s with
  | 0x01 => some (.n (d.arrCalStateNow a))
  | 0x06 => some (.n x.fitCount)
  | 0x07 => some (.n x.sparesFit.length)
  | 0x09 => some (.n x.unstableCount)
  | 0x0A => some (.b x.mapBytes)
  | 0x0B => some (.b x.trimBytes)
  | 0x0C => some (.b x.targetBytes)
  | 0x0D => some (.b x.ladderBytes)
  | _ => none

/-! ## Publishing (R256 to R258) -/

def Dev.readStall (d : Dev) (st s : Nat) : Option Val :=
  match s with
  | 0x25 => some (.n (d.itemsInQueueOf st))
  | 0x26 => some (.n (d.queuedBytesOf st))
  | _ => none

/-- The load admitted for the enabled live-view channels (R243). -/
def Dev.lvLoadNow (d : Dev) : Nat :=
  sumN (((List.range 64).filter (fun c => d.flag (Obj.lvEnable c))).map d.lvRate)

def Dev.readPub (d : Dev) (s : Nat) : Option Val :=
  match s with
  | 0x03 => some (.n d.storeSize)
  | 0x06 => some (.n d.stallsOpen.length)
  | 0x07 => some (.n d.freeStall)
  | 0x08 => some (.n (d.lvLoadNow / 1000000 : Nat))
  | _ => none

/-! ## Status, Tally, Cobbler (R300 to R302) -/

def Dev.readStatus (d : Dev) (s : Nat) : Option Val :=
  let entries := blockFrom d.logs.entries (d.nat Obj.logSeq) (d.nat Obj.logReadSeq)
  match s with
  | 0x01 => some (.n d.healthNow)
  | 0x03 => some (.n (oldestSeq (d.nat Obj.logSeq) d.logs.entries.length))
  | 0x05 => some (.b (entries.flatMap LogEntry.bytes))
  | 0x07 => some (.b (((d.logs.faults.take 16).flatMap LogEntry.bytes ++ List.replicate 1024 0).take 1024))
  | _ => none

def Dev.readTally (d : Dev) (s : Nat) : Option Val :=
  match s with
  | 0x04 => some (.n (sumN (d.seg.views.map (fun x => x.waiting.length))))
  | _ => none

/-- DlLines and DlFloor of the stitch monitor report the View's own deadline (R289, R302). -/
def Dev.readDeadline (d : Dev) (v s : Nat) : Option Val :=
  match s with
  | 0x02 => some (d.val (Obj.viewDeadline v))
  | 0x06 => some (d.val (Obj.viewFloor v))
  | _ => none

def Dev.readCobbler (d : Dev) (s : Nat) : Option Val :=
  match s with
  | 0x07 => some (.n d.repairsActive)
  | 0x0F => some (.n d.fewestSpareRows)
  | _ => none

def Dev.readRanges (d : Dev) (s : Nat) : Option Val :=
  match s with
  | 0x03 => some (.b ((blockFrom d.logs.ranges (d.nat Obj.rangeCount) (d.nat Obj.rangeReadSeq)).flatMap RangeRec.bytes))
  | _ => none

/-! ## Memory, network, time (R339, R340, R361, R362) -/

def Dev.readMem (d : Dev) (s : Nat) : Option Val :=
  match s with
  | 0x02 => some (.n (d.sustained (List.range 64)))
  | 0x03 => some (.n (d.rtAdmittedBytes / 1000000 : Nat))
  | 0x0E => some (.n ((List.range 64).filter (fun n => d.pcState n == 4)).length)
  | 0x10 => some (.b ((List.range 2).flatMap (fun k => natLE 2 (ofSigned 16 (d.mem.temps.getD k 0)))))
  | _ => none

/-- Whether a port's lines stand in hold slots (R160). -/
def Dev.holds (d : Dev) (p : Nat) : Bool :=
  (List.range 4).any (fun v => d.flag (Obj.viewEnable v) && d.deferred v && (d.viewPorts v).contains p)

/-- The bytes of a strip slot (R145): 256 lines rounded up to 4 KiB, and 256 line tags of 16 bytes (R106). -/
def Dev.mpSlotBytes (d : Dev) (p : Nat) : Nat := ceilDiv (256 * d.linePayload p) 4096 * 4096 + 256 * 16

/-- The bytes of region 1 that the strip slots, hold slots and table banks take (R112, R133, R160, R331). A strip slot is that of
R145; a hold slot one line of the stored planes in 4 B, one for each line up to the View's deadline. -/
def Dev.mpRegionUse (d : Dev) : Nat :=
  let slots (p : Nat) : Nat := if d.nat (Obj.bindMode p) = 2 then d.nat (Obj.mpSlots p) * d.mpSlotBytes p else 0
  let held (p : Nat) : Nat :=
    if d.holds p then
      4 * popcount (d.nat (Obj.storePlanes p)) 4 * d.portWidth p *
        maxN (((List.range 4).filter (fun v => d.deferred v && (d.viewPorts v).contains p)).map (fun v => d.nat (Obj.viewDeadline v) + 7))
    else 0
  2 * 24 * 4 * 524288 + sumN ((List.range 24).map (fun p => slots p + held p))

/-- RegionUsed (R340): what the owning rules allocate in each region. -/
def Dev.regionUse (d : Dev) (r : Nat) : Nat :=
  match r with
  | 0 => 4294967296
  | 1 => d.mpRegionUse
  | 2 => sumN (((List.range 64).filter (fun c => d.flag (Obj.lvEnable c))).map d.lvHistoryBytes)
  | 3 => sumN ((List.range 4).map (fun v =>
      if d.role = 2 then d.nat Obj.syncBufferLines * 2 * d.nat (Obj.viewWidth v) * d.nat (Obj.viewOutPlanes v) else 0))
  | 5 => 201326592
  | r => d.regionBytes r

def Dev.readRegion (d : Dev) (r s : Nat) : Option Val :=
  match s with
  | 0x04 => if ! d.domOn 7 && ! d.domOn 8 then some (.n 0) else none
  | 0x06 => some (.n (if ! d.domOn 7 && ! d.domOn 8 then 0 else d.regionUse r))
  | _ => none

def Dev.readNet (d : Dev) (q s : Nat) : Option Val :=
  match s with
  | 0x10 => some (.n (portMac q))
  | 0x15 => some (.n ((d.pub.launch.getD q []).length))
  | _ => none

def Dev.readTime (d : Dev) (s : Nat) : Option Val :=
  let w := d.webAt d.now
  match s with
  | 0x01 => some (.n d.stamp)
  | 0x02 => some (.b (natLE 8 (w / 65536 / 1000000000) ++ natLE 4 (w / 65536 % 1000000000) ++ natLE 2 (w % 65536)))
  | _ => none

/-! ## TOL, DMA, PCI Express, two-wire (R60, R387, R408, R409) -/

def Dev.readTol (d : Dev) (s : Nat) : Option Val :=
  match s with
  | 0x02 => some (.n d.tol.sessions.length)
  | _ => none

def Dev.readGroup (d : Dev) (g s : Nat) : Option Val :=
  match s with
  | 0x03 => some (.n (d.group g).pend.length)
  | 0x04 => some (.n (d.group g).shadow.length)
  | _ => none

def Dev.readSession (d : Dev) (i s : Nat) : Option Val :=
  match Tbl.get? d.tol.sessions i, s with
  | some x, 0x01 => some (.n x.id)
  | some x, 0x02 => some (.n x.level)
  | some x, 0x03 => some (.n x.transport)
  | some x, 0x04 => some (.n x.nextSeq)
  | _, _ => none

def Dev.readChan (d : Dev) (c s : Nat) : Option Val :=
  match s with
  | 0x07 => some (.n (d.waitCause c))
  | _ => none

def Dev.readDma (d : Dev) (s : Nat) : Option Val :=
  match s with
  | 0x02 => some (.n ((List.range 64).filter (fun c => d.chanState c == 1)).length)
  | _ => none

def Dev.readRing (d : Dev) (r s : Nat) : Option Val :=
  match s with
  | 0x01 => some (.n (b2n (d.ring r).enabled))
  | 0x02 => some (.n (d.ring r).tail)
  | _ => none

/-! ## Identity, firmware, start-up (R3, R428, R429, R442) -/

def Dev.readIdentity (d : Dev) (s : Nat) : Option Val :=
  match s with
  | 0x01 => some (.n (d.partCode : Nat))
  | 0x03 => some (.n (if d.rb9212 then 12 else 24 : Nat))
  | 0x04 => some (.n (if d.rb9212 then 96 else 192 : Nat))
  | 0x05 => some (.n (Config.deviceSerial % 2 ^ 64 : Nat))
  | 0x06 => some (.b Config.identityKey)
  | 0x07 => some (.b Config.identityCert)
  | _ => none

def Dev.readFirmware (d : Dev) (s : Nat) : Option Val :=
  match s with
  | 0x05 => some (.b d.boot.download)
  | 0x0E => some (.n d.trialLeft)
  | 0x12 => some (.n (b2n d.boot.holdup))
  | _ => none

def Dev.readStart (d : Dev) (s : Nat) : Option Val :=
  match s with
  | 0x07 => some (.n (sumN (((List.range 11).filter d.domOn).map (fun k => 2 ^ k))))
  | _ => none

/-! ## The value of any object -/

/-- What the device's working state gives for an object at `index`, subindex `s`; none for an object that is held. -/
def Dev.readIndex (d : Dev) (i s : Nat) : Option Val :=
  if i = 0x1000 then d.readIdentity s
  else if i = 0x1100 then d.readStatus s
  else if i = 0x1200 then d.readTally s
  else if 0x1220 ≤ i ∧ i < 0x1238 then (if s = 2 then some (.n (d.inFlight (i - 0x1220))) else none)
  else if i = 0x1400 then d.readStart s
  else if 0x1410 ≤ i ∧ i < 0x141B then (if s = 3 then some (.n (d.deferShown (i - 0x1410))) else none)
  else if 0x2000 ≤ i ∧ i < 0x2004 then d.readAxis (i - 0x2000) s
  else if 0x2100 ≤ i ∧ i < 0x2104 then d.readLcg (i - 0x2100) s
  else if 0x2140 ≤ i ∧ i < 0x2158 then d.readTrig (i - 0x2140) s
  else if 0x2400 ≤ i ∧ i < 0x2418 then (if s = 0x15 then some (.n (d.port (i - 0x2400)).ledger.length) else none)
  else if 0x2500 ≤ i ∧ i < 0x25C0 then d.readLane (i - 0x2500) s
  else if 0x3000 ≤ i ∧ i < 0x300E then d.readEngine (i - 0x3000) s
  else if 0x3080 ≤ i ∧ i < 0x3098 then d.readBinding (i - 0x3080) s
  else if 0x3400 ≤ i ∧ i < 0x3418 then d.readLast (i - 0x3400) s
  else if 0x3480 ≤ i ∧ i < 0x34E0 then d.readWelt (i - 0x3480) s
  else if 0x3500 ≤ i ∧ i < 0x3504 then d.readView (i - 0x3500) s
  else if i = 0x3510 then d.readSkew s
  else if 0x3600 ≤ i ∧ i < 0x3604 then d.readSeg (i - 0x3600) s
  else if 0x3610 ≤ i ∧ i < 0x3614 then d.readCrop (i - 0x3610) s
  else if i = 0x3620 then d.readSegDevice s
  else if i = 0x3800 then d.readCls s
  else if 0x3808 ≤ i ∧ i < 0x380A then d.readSlot (i - 0x3808) s
  else if 0x3840 ≤ i ∧ i < 0x3888 then d.readArray (i - 0x3840) s
  else if 0x3A00 ≤ i ∧ i < 0x3C00 then d.readStall (i - 0x3A00) s
  else if i = 0x3D00 then d.readPub s
  else if i = 0x4000 then d.readCal s
  else if 0x4040 ≤ i ∧ i < 0x4088 then d.readArrCal (i - 0x4040) s
  else if i = 0x4200 then d.readCobbler s
  else if i = 0x4210 then d.readRanges s
  else if 0x4220 ≤ i ∧ i < 0x4224 then d.readDeadline (i - 0x4220) s
  else if i = 0x4800 then d.readMem s
  else if 0x4810 ≤ i ∧ i < 0x4817 then d.readRegion (i - 0x4810) s
  else if 0x5010 ≤ i ∧ i < 0x5016 then d.readNet (i - 0x5010) s
  else if i = 0x5100 then d.readTime s
  else if i = 0x5400 then d.readTol s
  else if 0x5410 ≤ i ∧ i < 0x5415 then d.readGroup (i - 0x5410) s
  else if 0x5440 ≤ i ∧ i < 0x5460 then d.readSession (i - 0x5440) s
  else if 0x5800 ≤ i ∧ i < 0x5840 then d.readChan (i - 0x5800) s
  else if i = 0x5840 then d.readDma s
  else if 0x5C40 ≤ i ∧ i < 0x5C80 then d.readRing (i - 0x5C40) s
  else if i = 0x5D10 then (if s = 0x05 then some (.b d.scratch) else none)
  else if i = 0x6000 then d.readFirmware s
  else none

/-- The value that a READ of an object finds. -/
def Dev.readVal (d : Dev) (key : Nat) : Val := (d.readIndex (key / 256) (key % 256)).getD (d.val key)

end Sys2Proof.Machine
end

