-- ==== Sys2Proof/Machine/HostWrite.lean ====
section
/-! DEFINITION. Writes to objects (R29 to R34, R41, R456) with what each chapter's owning block does at a write, and the commits
and withdrawals of the commit groups (R50 to R58). -/

namespace Sys2Proof.Machine

/-- Who makes a write: a session, with its slot and level and whether it is the enrolment session of R48; or the mirror. -/
structure Writer where
  ses    : Nat
  level  : Nat
  enrol  : Bool
  mirror : Bool
  deriving DecidableEq, Repr

/-- The mirror writes without a session: the active has judged the rights. -/
def Writer.partner : Writer := { ses := 32, level := 4, enrol := false, mirror := true }

/-- A session as a writer. -/
def Session.writer (s : Session) (slot : Nat) : Writer := { ses := slot, level := s.level, enrol := s.enrol, mirror := false }

/-! ## Groups, owners, command objects (R31, R49) -/

/-- Whether some network port runs. -/
def Dev.anyNet (d : Dev) : Bool := (List.range 6).any (fun q => d.flag (Obj.netEnable q))

/-- Whether the block that owns a HALTED object runs (R31 and the opening text of each chapter). The trigger's objects are
judged by the LCG before the write and the LCG after it (R87). -/
def Dev.blockRuns (d : Dev) (k : HaltKind) (u : Nat) (data : Bytes) : Bool :=
  let lcgRuns (g : Nat) : Bool := decide (g < 4) && d.flag (Obj.lcgRun g)
  let on (dom : Nat) : Bool := d.nat (Obj.domState dom) != 0
  match k with
  | .never => false
  | .axis => d.flag (Obj.axisEnable u)
  | .ssi => d.flag (Obj.ssiEnable u)
  | .lcg => lcgRuns u
  | .trig => lcgRuns (d.portLcg u) || lcgRuns (leNat data)
  | .port => d.flag (Obj.portEnable u)
  | .lane => d.flag (Obj.portEnable (u / 8))
  | .pset => (List.range 24).any (fun p => (d.heldPsets p).contains u)
  | .view => d.flag (Obj.viewEnable u) || (d.vw u).running
  | .seg => d.flag (Obj.segEnable u)
  | .stall => d.nat (Obj.stallState u) == 2
  | .live => d.flag (Obj.lvEnable u)
  | .pdCls => on pdCls
  | .memory => on 7 || on 8
  | .allNet => d.anyNet
  | .net => d.flag (Obj.netEnable u)
  | .domain => d.flag (Obj.domainEnable u)
  | .udp => d.anyNet
  | .dma => d.chanState u != 0 && d.chanState u != 3
  | .pcie => on pdPcie
  | .twc => d.flag (Obj.twcEnable u)
  | .twt => d.flag Obj.twtEnable

/-- The command objects of R31 that can be read: they take effect when the write is executed. -/
def commandSub (base sub : Nat) : Bool :=
  match base with
  | 0x2100 => sub == 0x01
  | 0x2400 => sub == 0x01 || sub == 0x20 || sub == 0x21 || sub == 0x22
  | 0x3080 => sub == 0x17 || sub == 0x21 || sub == 0x22 || sub == 0x23
  | 0x3500 => sub == 0x01
  | 0x3600 => sub == 0x01
  | _ => false

/-- The power domains in which a write of `x` starts work (R436, R441). -/
def Dev.startDomains (d : Dev) (base u sub x : Nat) : List Nat :=
  match base, sub with
  | 0x2000, 0x01 => if x = 0 then [] else [pdPos]
  | 0x2008, 0x01 => if x = 0 then [] else [pdPos]
  | 0x2010, 0x01 => if x = 0 then [] else [pdPos]
  | 0x2100, 0x01 => if x = 0 then [] else [pdPos]
  | 0x2100, 0x12 => if x = 0 then [] else [pdPos]
  | 0x2200, 0x08 => if x = 0 then [] else [pdPos]
  | 0x2400, 0x01 => if x = 0 then [] else [portDomain u]
  | 0x3080, 0x18 => if x = 0xFF then [] else [portDomain u]
  | 0x3080, 0x27 => [portDomain u]
  | 0x3080, 0x22 => [7, 8]
  | 0x3080, 0x24 => if x = 0 then [] else [7, 8]
  | 0x3500, 0x01 => if x = 0 then [] else [7, 8]
  | 0x3800, 0x01 => if x = 0 then [] else [pdCls]
  | 0x3808, 0x02 => [7, 8]
  | 0x3808, 0x03 => if x = 0 then [] else [pdCls, 7, 8]
  | 0x3A00, 0x04 => if x = 0 then [] else if d.nat (Obj.stallTransport u) = 0 then [pdPcie] else [pdNet]
  | 0x3C00, 0x01 => if x = 0 then [] else [7, 8]
  | 0x4000, 0x0D => [pdCls]
  | 0x5010, 0x01 => if x = 0 then [] else [pdNet]
  | 0x5110, 0x01 => if x = 0 then [] else [pdNet]
  | _, _ => []

/-- A write that would start work in a domain that is not on, or a ChanStart or ChanKick into a domain that drains (R441). -/
def Dev.startRefused (d : Dev) (base u sub x : Nat) : Bool :=
  let drains (k : Nat) : Bool := d.nat (Obj.domState k) == 3 || d.nat (Obj.domState k) == 4
  (d.startDomains base u sub x).any (fun k => ! d.ready k) ||
    (base == 0x5800 && (sub == 0x03 || sub == 0x04) && x != 0 &&
      (if d.nat (Obj.chanDescSpace u) = 1 then drains 7 || drains 8 else drains pdPcie))

/-! ## Judging a write (R456, items 1 to 6) -/

/-- The objects that exist in recovery (R424). -/
def inRecovery (index sub : Nat) : Bool :=
  decide (0x1000 ≤ index ∧ index < 0x1100) ||
    (index == 0x6000 && (sub == 0 || [Obj.fwData, Obj.fwVerify, Obj.fwActivate, Obj.fwState, Obj.fwLastResult].contains (256 * index + sub)))

/-- The row as it stands at one index: RegionSize of the Patch Ring is fixed, and read-only (R331, R340). -/
def ObjRow.here (r : ObjRow) (index : Nat) : ObjRow := if index = 0x4810 ∧ r.sub = 0x01 then { r with acc := .ro, app := .none } else r

/-- Whether an object exists: NO_OBJECT, then NO_SUB (R28). Subindex 0 gives the highest subindex of the block. -/
def Dev.findObject (d : Dev) (index sub : Nat) : Except RCode (ObjBlock × Option ObjRow) :=
  match blockOf d.rb9212 index with
  | none => .error .noObject
  | some b =>
    if d.boot.recovery && ! (decide (0x1000 ≤ index ∧ index < 0x1100) || index == 0x6000) then .error .noObject
    else if d.boot.recovery && ! inRecovery index sub then .error .noSub
    else if sub = 0 then .ok (b, none)
    else match b.row? sub with
      | some r => .ok (b, some (r.here index))
      | none => .error .noSub

/-- The highest subindex of a block (R28): of the objects that exist, in recovery only those of R424. -/
def Dev.highestSub (d : Dev) (index : Nat) (b : ObjBlock) : Nat :=
  maxN ((b.rows.filter (fun r => ! d.boot.recovery || inRecovery index r.sub)).map (fun r => r.sub))

/-- Whether a session may write an object by its level (R34), with the exceptions of R48, R60 and R248. -/
def Dev.mayWrite (d : Dev) (w : Writer) (b : ObjBlock) (u sub level : Nat) : Bool :=
  let own := b.base == 0x5440 && sub == 0x05 && u == w.ses
  let owner := d.nat (Obj.stallOwner u) == d.sessionId w.ses && d.nat (Obj.stallState u) != 0
  if own then true
  else if w.enrol then b.base == 0x5420
  else decide (level ≤ w.level) && (b.base != 0x3A00 || sub == 0x02 || decide (2 ≤ w.level) || owner)

/-- The length of a STR or BLOB value as it stands, and its bytes where they are held as an object. -/
def Dev.blobNow (d : Dev) (b : ObjBlock) (u sub key : Nat) (r : ObjRow) : Nat × Bytes :=
  if b.base = 0x3080 ∧ sub = 0x22 then ((d.ep u).bankLen.getD (d.nat (Obj.tableBankSel u)) 0, [])
  else if b.base = 0x3808 ∧ sub = 0x02 then ((d.slot u).dataLen, [])
  else if b.base = 0x6000 ∧ sub = 0x05 then (d.boot.download.length, [])
  else
    let bs := if r.acc = .wo then [] else if b.base = 0x4000 ∧ sub = 0x1B then d.calRecordNow else d.bytes key
    (bs.length, bs)

/-- A value that names a port or lane that the RB9212 does not have (R2). -/
def Dev.namesFused (d : Dev) (b : ObjBlock) (sub : Nat) (x : Int) : Bool :=
  d.rb9212 && (match b.base with
    | 0x3100 => sub == 0x01 && decide (12 ≤ x ∧ x < 24)
    | 0x3480 => (sub == 0x02 || sub == 0x03) && decide (12 ≤ x)
    | 0x3500 => (sub == 0x03 && decide (4096 ≤ x)) || (sub == 0x0F && decide (12 ≤ x))
    | _ => false)

/-- The value that a write gives, RANGE where it is outside the type's encoding or the object's own range (R29, R41). -/
def Dev.newValue (d : Dev) (b : ObjBlock) (u sub off : Nat) (r : ObjRow) (data : Bytes) : Option Val :=
  match r.ty.size with
  | some _ =>
    match decodeNum r.ty data with
    | some x => if off = 0 && r.chk.okNum x && ! d.namesFused b sub x then some (.n x) else none
    | none => none
  | none =>
    let (len, bs) := d.blobNow b u sub (256 * (b.base + u) + sub) r
    if (off = 0 ∨ off = len) ∧ r.chk.okLen r.maxLen (off + data.length) then
      let v := if off = 0 then data else bs ++ data
      if r.ty ≠ .str ∨ utf8Ok v then some (.b v) else none
    else none

/-- R456, items 1 to 6: the block, the row and the value, or the first refusal. -/
def Dev.judgeWrite (d : Dev) (w : Writer) (index sub off : Nat) (data : Bytes) : Except RCode (ObjBlock × ObjRow × Val) :=
  match d.findObject index sub with
  | .error c => .error c
  | .ok (_, none) => .error .access
  | .ok (b, some r) =>
    let u := index - b.base
    let key := 256 * index + sub
    if r.acc = .ro ∨ ¬ d.mayWrite w b u sub r.wl then .error .access
    else if (match r.ty.size with | some n => data.length != n | none => false) then .error .type
    else if d.standby && ! localKey key then .error .locked
    else if (r.app = .halted ∧ d.blockRuns b.halt u data) ∨ d.startRefused b.base u sub (leNat data) then .error .state
    else match d.newValue b u sub off r data with
      | some v => .ok (b, r, v)
      | none => .error .range

/-! ## Bringing values into force -/

/-- Bring a value into force now: for a clocked group from the next LIX on (R31). A value held back for the object's domain
gives way to it. -/
def Dev.setNow (d : Dev) (key : Nat) (v : Val) : Dev :=
  let g := d.groupOf key
  let d := d.updBoot (fun x => { x with held := Tbl.del x.held key })
  if g < 4 then d.putFrom key v g (d.nat (Obj.nextLix g)) else d.putUnclocked key v

/-- A write whose value comes into force unless the configuration with it breaks a rule. -/
def Dev.setIf (d : Dev) (key : Nat) (v : Val) (ok : Dev → Bool) : Dev × RCode :=
  let e := d.setNow key v
  if ok e then (e, .ok) else (d, .range)

/-- A command object that acts on a write of 1. -/
def Dev.onOne (d : Dev) (v : Val) (f : Dev → Dev × RCode) : Dev × RCode := if v.int = 0 then (d, .ok) else f d

/-! ## What the owning blocks do at a write -/

/-- The real-time budget does not refuse `d` after `base` (R334): RtAdmitted fits, or it did not grow where a fence had already
brought the budget below it. -/
def Dev.rtTakes (d base : Dev) : Bool :=
  d.rtFits || (! base.rtFits && decide (d.rtAdmittedBytes ≤ base.rtAdmittedBytes) && decide (base.rtLimit ≤ d.rtLimit))

/-- What memory must hold and move (R327, R331, R334) does not refuse `d` after `base`. -/
def Dev.memoryTakes (d base : Dev) : Bool :=
  d.rtTakes base && (decide (d.mpRegionUse ≤ d.regionBytes 1) || decide (d.mpRegionUse ≤ base.mpRegionUse))

def Dev.writeAxis (d : Dev) (a s key : Nat) (v : Val) : Dev × RCode :=
  match s with
  | 0x01 =>
    let e := d.setNow key v
    (if v.int ≠ 0 ∧ ¬ d.flag key then e.enableAxis a else e, .ok)
  | _ => (d.setNow key v, .ok)

/-- The SSI objects: a write of SsiPeriod that leaves no room for a frame and 20 µs is refused (R72). -/
def Dev.writeSsi (d : Dev) (u s key : Nat) (v : Val) : Dev × RCode :=
  if s = 0x06 then d.setIf key v (fun e => e.ssiPeriodOk u (e.nat (Obj.ssiPeriod u))) else (d.setNow key v, .ok)

/-- The LCG objects (R78, R82, R83). On a standby the start hit comes over the mirror. -/
def Dev.writeLcg (d : Dev) (w : Writer) (g s key : Nat) (v : Val) : Dev × RCode :=
  match s with
  | 0x01 =>
    if w.mirror && v.int != 0 && ! d.flag key then
      ((d.putF key true).updLcg g (fun l => { l with waitStart := true, stopAt := none, restart := [], reached := none }), .ok)
    else d.writeLcgRun g (v.int != 0)
  | 0x02 =>
    if v.int = d.nat (Obj.partnerSource g) then (d, .range)
    else if v = d.val key then (d, .ok)
    else ((d.setNow key v).primaryChosen g, .ok)
  | 0x03 =>
    let r := d.setIf key v (fun e => e.nat (Obj.partnerSource g) != e.nat (Obj.primaryAxis g))
    (if r.2 = .ok ∧ v ≠ d.val key then r.1.updLcg g Lcg.newSource else r.1, r.2)
  | 0x06 =>
    match (d.lcg g).lastLix with
    | some n => if v.int ≤ n then (d, .range) else (d.put key v, .ok)
    | none => (d.put key v, .ok)
  | 0x04 => ((d.setNow key v).ratioChosen g (d.lcgPos g), .ok)
  | 0x0C => ((d.setNow key v).failoverCheck g, .ok)
  | 0x0D => ((d.setNow key v).failoverCheck g, .ok)
  | 0x12 => d.onOne v (fun d => d.writeFailback g)
  | _ => (d.setNow key v, .ok)

/-- The trigger objects of a port: a change of TrigLcg forgets the fires of the LCG before. R87 does not speak of LIX that are still to be
fired then: the model leaves them pending, under the LCG that hit them (log entry 69). -/
def Dev.writeTrig (d : Dev) (p key : Nat) (v : Val) : Dev × RCode :=
  let d := d.updStitch (fun x => { x with ports := x.ports.modify p (fun s => { s with fires := [], firstIn := none }) })
  (d.put key v, .ok)

/-- The Eyelet objects: while an Eyelet is armed only EyArm is accepted (R89, R91). -/
def Dev.writeEyelet (d : Dev) (k s key : Nat) (v : Val) : Dev × RCode :=
  match s with
  | 0x08 => d.writeEyArm k (v.int != 0)
  | _ => if d.flag (Obj.eyArm k) then (d, .state) else (d.setNow key v, .ok)

/-- The port objects: the admission rules of R97, R98, R103, R113 and R144 whose terms a write touches, and the banks that a change
of the geometry makes invalid (R133). -/
def Dev.writePort (d : Dev) (p s key : Nat) (v : Val) : Dev × RCode :=
  let payload := [0x03, 0x04, 0x06, 0x07, 0x08, 0x09].contains s
  let pulse := s = 0x0D
  let rate := [0x06, 0x07, 0x08, 0x09].contains s
  let format := s = 0x06 ∨ s = 0x07
  match s with
  | 0x01 => if v.int ≠ 0 then d.enablePort p else (d.disablePort p, .ok)
  | 0x0E =>
    -- the inactive level of the idle output follows TrigPolarity (R115)
    ((d.setNow key v).repolarise p, .ok)
  | 0x23 => d.writeCtlOp p v.int.toNat
  | _ =>
    let (e, c) := d.setIf key v (fun e =>
      (! payload || e.payloadAdmitted p) && (! pulse || e.pulseFits p) && (s != 0x09 || (e.rateFits p && e.lvLoadFits)) && (! rate || (e.termsFit p && e.memoryTakes d)) &&
        (! format || (e.planesOk p && e.mosaicOk p)))
    (if c = .ok ∧ (s = 0x07 ∨ s = 0x08) ∧ v ≠ d.val key then e.invalidateBanks p else e, c)

/-- The binding objects of a port (R113, R127, R133 to R138, R142 to R144). -/
def Dev.writeBinding (d : Dev) (p s off key : Nat) (data : Bytes) (v : Val) : Dev × RCode :=
  let mosaic : Bool := (decide (0x08 ≤ s) && decide (s ≤ 0x14))
  match s with
  | 0x01 =>
    let e := d.setNow key v
    let c := if e.bindingCode p = .ok ∧ ¬ e.memoryTakes d then .range else e.bindingCode p
    (if c = .ok then e else d, c)
  | 0x02 =>
    let e := d.setNow key v
    let c := e.bindingCode p
    (if c = .ok then e else d, c)
  | 0x16 =>
    let q := d.nat (Obj.psetPort v.int.toNat)
    if q = p ∨ q = 0xFF then (d.setNow key v, .ok) else (d, .range)
  | 0x18 => d.writePsetArm p v.int.toNat
  | 0x21 => if (d.ep p).acq.isSome ∧ v ≠ d.val key then (d, .state) else (d.setNow key v, .ok)
  | 0x22 => d.writeTableData p off data
  | 0x24 => d.onOne v (fun d => d.writeTableSeal p)
  | 0x27 => d.writeFfMode p v.int.toNat
  | _ =>
    let term := s = 0x05 ∨ s = 0x07 ∨ s = 0x15
    let (e, c) := d.setIf key v (fun e => (! mosaic || e.mosaicOk p) && (! term || (e.termsFit p && e.memoryTakes d)))
    (if c = .ok ∧ s = 0x08 ∧ v ≠ d.val key then e.invalidateBanks p else e, c)

/-- ViewEnable: the View-wide rules (R159, R160, R162, R327, R331), then R170. -/
def Dev.writeView (d : Dev) (v s key : Nat) (x : Val) : Dev × RCode :=
  match s with
  | 0x01 =>
    if x.int = 0 then (d.viewDisable v (d.curLix (d.viewLcg v)), .ok)
    else
      let e := d.putF (Obj.viewEnable v) true
      if d.flag (Obj.viewEnable v) then (d, .ok)
      else if ! (d.viewOk v && e.deferredOk && e.memoryTakes d) then (d, .range)
      else d.enableView v
  | 0x03 => d.setIf key x Dev.lvLoadFits
  | _ => (d.setNow key x, .ok)

/-- The segmenter objects of a View (R178, R187, R194). -/
def Dev.writeSeg (d : Dev) (v s key : Nat) (x : Val) : Dev × RCode :=
  match s with
  | 0x01 => d.writeSegEnable v (x.int != 0)
  | 0x02 => d.setIf key x (fun e => x.int = 0 || e.nat (Obj.viewOutPlanes v) == 2)
  | 0x08 => d.onOne x (fun d => (d.updSg v (fun g => { g with bgReset := true }), .ok))
  | _ => (d.setNow key x, .ok)

def Dev.writeCrop (d : Dev) (v s key : Nat) (x : Val) : Dev × RCode :=
  if s = 0x03 then d.setIf key x (fun e => decide (x.int < 4) || e.nat (Obj.viewOutPlanes v) == 2) else (d.setNow key x, .ok)

/-- A part of an image, written to the model store (R216, R234). -/
def Dev.writeModelData (d : Dev) (m off : Nat) (data : Bytes) : Dev × RCode :=
  if d.modelInUse m then (d, .state)
  else
    let d := (d.hbmWrite (modelBase m + off) data).memRequest 9 (modelBase m + off) data.length true
    (d.updSlot m (fun x => { x with dataLen := off + data.length }), .ok)

def Dev.writeSlot (d : Dev) (m s off : Nat) (data : Bytes) (v : Val) : Dev × RCode :=
  match s with
  | 0x02 => d.writeModelData m off data
  | 0x03 => d.onOne v (fun d => d.writeModelLoad m)
  | _ => d.onOne v (fun d => d.writeModelUnload m)

/-- The Stall objects (R242, R248 to R253). The state of a Stall reaches a standby with the Stall items of the mirror (R313). -/
def Dev.writeStall (d : Dev) (w : Writer) (s sub key : Nat) (v : Val) : Dev × RCode :=
  let keyed := (Tbl.get? d.pub.keys s).isSome
  match sub with
  | 0x02 => if w.mirror then (d, .ok) else d.onOne v (fun d => d.stallClaim w.ses s)
  | 0x04 => if w.mirror then (d, .ok) else d.onOne v (fun d => d.stallOpenWrite w.ses s)
  | 0x05 => if w.mirror then (d, .ok) else d.onOne v (fun d => d.stallCloseWrite s)
  | 0x06 =>
    if v.int ≠ 0 ∧ d.flag (Obj.stallTagged s) ∧ ¬ keyed then (d, .state)
    else ((if v.int = 0 then d.noRestore s else d).setNow key v, .ok)
  | 0x1A => if v.int ≠ 0 ∧ d.flag (Obj.stallPersistent s) ∧ ¬ keyed then (d, .state) else (d.setNow key v, .ok)
  | 0x12 =>
    let added := v.int.toNat &&& ((2 ^ 64 - 1) ^^^ d.nat key)
    let d := d.setNow key v
    (if d.nat (Obj.stallState s) = 2 then d.backfill s added else d, .ok)
  | 0x15 => d.writeCreditLimit s v.int.toNat
  | 0x16 => ((d.settleTokens s).setNow key v, .ok)
  | 0x1E => d.patchFetch s v.int.toNat
  | 0x29 => (d.updPub (fun x => { x with keys := Tbl.put x.keys s v.bytes }), .ok)
  | _ => (d.setNow key v, .ok)

/-- The live-view objects: a format that makes the history too large is refused (R331). -/
def Dev.writeLive (d : Dev) (c s key : Nat) (v : Val) : Dev × RCode :=
  match s with
  | 0x01 => d.writeLvEnable c (v.int != 0)
  | 0x09 => d.setIf key v (fun e => ! e.flag (Obj.lvEnable c) || e.lvHistoryFits c)
  | _ => (d.setNow key v, .ok)

def Dev.writeCal (d : Dev) (s key : Nat) (v : Val) : Dev × RCode :=
  match s with
  | 0x0D => d.writeCalStart v.int.toNat
  | 0x1A => ((d.setNow key v).updCal (fun c => { c with buf := [] }), .ok)
  | 0x1B => (d.updCal (fun c => { c with buf := v.bytes }), .ok)
  | 0x1C => d.onOne v (fun d => d.writeCalRecordLoad)
  | _ => (d.setNow key v, .ok)

def Dev.writeCobbler (d : Dev) (s key : Nat) (v : Val) : Dev × RCode :=
  match s with
  | 0x01 => ((d.setNow key v).auditDuty, .ok)
  | 0x0B => d.writeEngineRetire v.int.toNat
  | _ => (d.setNow key v, .ok)

def Dev.writePair (d : Dev) (s key : Nat) (v : Val) : Dev × RCode :=
  match s with
  | 0x01 => (d.writePairEnable (v.int != 0), .ok)
  | 0x07 => d.writePairSwitch (v.int != 0)
  | _ => (d.setNow key v, .ok)

/-- The memory objects: the budget of R327 and the sizes of R331. -/
def Dev.writeMem (d : Dev) (s key : Nat) (v : Val) : Dev × RCode :=
  match s with
  | 0x01 => d.setIf key v (fun e => e.rtTakes d)
  | 0x04 => d.setIf key v (fun e => e.rtTakes d)
  | 0x0C => d.setIf key v Dev.regionsFit
  | 0x0D => d.setIf key v Dev.regionsFit
  | _ => (d.setNow key v, .ok)

def Dev.writeRegion (d : Dev) (r key : Nat) (v : Val) : Dev × RCode :=
  d.setIf key v (fun e => e.regionsFit && (r != 5 || decide (192 ≤ v.int)))

def Dev.writePcObj (d : Dev) (n s key : Nat) (v : Val) : Dev × RCode :=
  match s with
  | 0x01 => d.setIf key v Dev.regionsFit
  | _ => d.onOne v (fun d => d.writePcFence n)

/-- NetMode and FecMode within R344; the addresses of a port are of one family (R346, R361). -/
def Dev.netOk (d : Dev) (q : Nat) : Bool :=
  let mode := d.nat (Obj.netMode q)
  let fec := d.nat (Obj.fecMode q)
  let a := (d.bytes (Obj.localIpA q)).length
  let b := (d.bytes (Obj.localIpB q)).length
  let s := (d.bytes (Obj.serviceIp q)).length
  (if q < 4 then decide (mode < 2) && decide (fec < 3 - mode) else fec == 0) &&
    (s == 0 || ((a == 0 || a == s) && (b == 0 || b == s))) &&
    ((a != 4 && b != 4 && s != 4) || decide (d.nat (Obj.prefixLen q) ≤ 32))

/-- The objects of a network port. When the last port stops, every UDP session closes (R60). -/
def Dev.writeNet (d : Dev) (q s key : Nat) (v : Val) : Dev × RCode :=
  match s with
  | 0x01 =>
    let d := d.writeNetEnable q (v.int != 0)
    (if d.anyNet then d else d.endSessions (fun t => t != 0), .ok)
  | _ => d.setIf key v (fun e => e.netOk q)

def Dev.writeServiceMac (d : Dev) (key : Nat) (v : Val) : Dev × RCode :=
  d.setIf key v (fun _ => v.int == 0 || bit v.int.toNat 41)

def Dev.writeTime (d : Dev) (w : Writer) (s key : Nat) (v : Val) : Dev × RCode :=
  match s with
  | 0x05 => d.writeSelectedDomain v.int.toNat
  | 0x06 => ((d.setNow key v).autoSwitchDomain, .ok)
  -- the standby takes the step with the servo's corrections, at the active's time (R357)
  | 0x0E => if w.mirror then (d, .ok) else d.writeTimeStep v.int
  | _ => d.setIf key v (fun e => decide (e.nat Obj.freqLimit + e.nat Obj.slewMax ≤ 1000000))

def Dev.writePtp (d : Dev) (k s key : Nat) (v : Val) : Dev × RCode :=
  match s with
  | 0x01 => (d.writeDomainEnable k (v.int != 0), .ok)
  | _ => d.setIf key v Dev.domainsOk

/-- The credential slots: an enabled slot holds a key of 1,952 bytes (R60). -/
def Dev.writeCred (d : Dev) (c s key : Nat) (v : Val) : Dev × RCode :=
  match s with
  | 0x03 => if d.flag (Obj.credEnabled c) ∧ v.bytes.length ≠ 1952 then (d, .state) else (d.setNow key v, .ok)
  | 0x04 =>
    if v.int ≠ 0 ∧ (d.bytes (Obj.credPublicKey c)).length ≠ 1952 then (d, .state) else (d.setNow key v, .ok)
  | _ => (d.setNow key v, .ok)

def Dev.writeModelKey (d : Dev) (k s key : Nat) (v : Val) : Dev × RCode :=
  match s with
  | 0x02 => if d.flag (Obj.modelKeyEnabled k) ∧ v.bytes.length ≠ 1952 then (d, .state) else (d.setNow key v, .ok)
  | 0x03 =>
    if v.int ≠ 0 ∧ (d.bytes (Obj.modelKeyPublic k)).length ≠ 1952 then (d, .state) else (d.setNow key v, .ok)
  | _ => (d.setNow key v, .ok)

/-- A tagged frame to a session: the header of R36 and the tag of R38. -/
def tolFrame (kind seq id : Nat) (version : Nat) (payload : Bytes) : Bytes :=
  packLE 16 [(0, 16), (payload.length, 16), (seq, 32), (id, 32), (0, 8), (kind, 4), (version, 4), (0x4C54, 16)] ++ payload

def Session.tagged (s : Session) (kind seq : Nat) (payload : Bytes) : Bytes :=
  let f := tolFrame kind seq s.id 1 payload
  f ++ Config.kmac256 s.d2h f "TOL" 128

/-- Send a frame over a transport: through the mailbox, or in a UDP datagram over a port, from the service address or the local one
(R36, R346, R359). -/
def Dev.tolSend (d : Dev) (transport : Nat) (service : Bool) (frame : Bytes) : Dev :=
  if transport = 0 then d.mbxSend frame
  else
    let q := transport - 1
    let head := d.frameHead q service
    d.sendFrame q { prio := 2, len := d.frameLen q head.ip.length frame.length, out := .tol transport (some head) frame, domain := none }

/-- Tell the standby that a session on the service address has changed or gone (R313). -/
def Dev.mirrorSession (d : Dev) (slot : Nat) : Dev :=
  d.mirror (.session slot ((Tbl.get? d.tol.sessions slot).map Session.copy))

/-- The device closes a session with a tagged CLOSE that carries a code, and frees its slot (R47). -/
def Dev.closeSession (d : Dev) (slot : Nat) (code : RCode) : Dev :=
  match Tbl.get? d.tol.sessions slot with
  | none => d
  | some s =>
    let d := (d.tolSend s.transport s.service (s.tagged 6 0 (natLE 2 code.toNat))).endSession slot
    if s.service then d.mirror (.session slot none) else d

/-- SesClose: a session that closes itself does so after its response (R60). -/
def Dev.writeSesClose (d : Dev) (w : Writer) (i : Nat) (v : Val) : Dev × RCode :=
  if w.mirror then (d, .ok)
  else if (Tbl.get? d.tol.sessions i).isNone then (d, .state)
  else if v.int = 0 then (d, .ok)
  else if i = w.ses then (d.updTol (fun x => { x with selfClose := some i }), .ok)
  else (d.closeSession i .access, .ok)

/-- PaceArg names a source of its PaceEvent (R374). -/
def Dev.paceOk (d : Dev) (c : Nat) : Bool :=
  let a := d.nat (Obj.paceArg c)
  match d.nat (Obj.paceEvent c) with
  | 1 => decide (1 ≤ a)
  | 2 => decide (a < 64) && a != c
  | 3 => decide (a < 256)
  | 4 => decide (a < 4)
  | _ => true

/-- The channel objects. A standby keeps its channels Idle: what starts and ends them has no effect there (R379). -/
def Dev.writeChan (d : Dev) (w : Writer) (c s key : Nat) (v : Val) : Dev × RCode :=
  match s with
  | 0x03 => if w.mirror then (d, .ok) else d.onOne v (fun d => d.chanStartWrite c)
  | 0x04 => if w.mirror then (d, .ok) else d.onOne v (fun d => d.chanKickWrite c)
  | 0x05 => if w.mirror then (d, .ok) else d.onOne v (fun d => d.chanAbortWrite c)
  | 0x10 => if w.mirror then (d, .ok) else d.chanIrqAckWrite c v.int.toNat
  | 0x15 => if w.mirror then (d, .ok) else d.onOne v (fun d => d.eocAckWrite c)
  -- the bucket is filled at the old rate up to this moment (R375)
  | 0x0B => ((d.updChan c (fun x => { x with tokens := d.chanTokens c, tokenAt := d.now })).setNow key v, .ok)
  | 0x09 => d.setIf key v (fun e => e.paceOk c)
  | 0x0A => d.setIf key v (fun e => e.paceOk c)
  | _ => (d.setNow key v, .ok)

def Dev.writeTwc (d : Dev) (k s key : Nat) (v : Val) (bus : Option BusReply) : Dev × RCode :=
  match s with
  | 0x07 => d.twcOp k v.int.toNat bus
  | _ => (d.setNow key v, .ok)

def Dev.writeFirmware (d : Dev) (s off key : Nat) (data : Bytes) (v : Val) : Dev × RCode :=
  match s with
  | 0x05 => d.writeFwData off data
  | 0x06 => d.onOne v Dev.writeFwVerify
  | 0x07 => d.onOne v Dev.writeFwActivate
  | 0x08 => d.onOne v Dev.writeFwConfirm
  | 0x09 => d.onOne v Dev.writeFwRevert
  | _ => (d.setNow key v, .ok)

/-- DomPower (R439). -/
def Dev.writeDomPower (d : Dev) (k : Nat) (v : Val) : Dev × RCode :=
  if v.int = 0 then d.writeDomPowerOff k else d.writeDomPowerOn k

/-- What the owning block does at an accepted write of a LIVE or HALTED object. `bus` is what the other parties of a two-wire
bus do, for a TwcOp. -/
def Dev.ownerWrite (d : Dev) (w : Writer) (b : ObjBlock) (u s off : Nat) (data : Bytes) (v : Val) (bus : Option BusReply) : Dev × RCode :=
  let key := 256 * (b.base + u) + s
  match b.base with
  | 0x1000 => d.writeAttestNonce data
  | 0x1410 => d.writeDomPower u v
  | 0x2000 => d.writeAxis u s key v
  | 0x2008 => d.writeSsi u s key v
  | 0x2100 => d.writeLcg w u s key v
  | 0x2140 => d.writeTrig u key v
  | 0x2200 => d.writeEyelet u s key v
  | 0x2400 => d.writePort u s key v
  | 0x3080 => d.writeBinding u s off key data v
  | 0x3500 => d.writeView u s key v
  | 0x3600 => d.writeSeg u s key v
  | 0x3610 => d.writeCrop u s key v
  | 0x3808 => d.writeSlot u s off data v
  | 0x3840 => d.onOne v (fun d => d.writeRetire u)
  | 0x3A00 => d.writeStall w u s key v
  | 0x3C00 => d.writeLive u s key v
  | 0x4000 => d.writeCal s key v
  | 0x4200 => d.writeCobbler s key v
  | 0x4400 => d.writePair s key v
  | 0x4800 => d.writeMem s key v
  | 0x4810 => d.writeRegion u key v
  | 0x4840 => d.writePcObj u s key v
  | 0x5000 => d.writeServiceMac key v
  | 0x5010 => d.writeNet u s key v
  | 0x5100 => d.writeTime w s key v
  | 0x5110 => d.writePtp u s key v
  | 0x5420 => d.writeCred u s key v
  | 0x5440 => d.writeSesClose w u v
  | 0x5800 => d.writeChan w u s key v
  | 0x5D00 => d.writeTwc u s key v bus
  | 0x6000 => d.writeFirmware s off key data v
  | 0x6010 => d.onOne v Dev.writeSettingsSave
  | 0x6020 => d.writeModelKey u s key v
  | _ => (d.setNow key v, .ok)

/-! ## Writing (R30, R31, R50, R58) -/

/-- A STAGED write goes to the shadow of the object's group (R30, R50). -/
def Dev.stage (d : Dev) (g key : Nat) (v : Val) : Dev × RCode :=
  let sh := (d.group g).shadow
  if (Tbl.get? sh key).isNone ∧ 4096 ≤ sh.length then (d, .commitFull)
  else (d.updGroup g (fun x => { x with shadow := Tbl.put x.shadow key v }), .ok)

/-- Whether a LIVE write waits for the next hit of its group's LCG (R31). -/
def Dev.waits (d : Dev) (b : ObjBlock) (r : ObjRow) (g : Nat) : Bool :=
  decide (g < 4) && r.app == .live && r.acc != .wo && ! commandSub b.base r.sub && d.flag (Obj.lcgRun g)

/-- A LIVE write is held until the hit of its LIX (R31, R58). -/
def Dev.waitFor (d : Dev) (g : Nat) (w : LiveWrite) : Dev := d.updGroup g (fun x => { x with live := x.live ++ [w] })

/-- The LIX that a write fixes on the active, carried with it to the standby (R58): the first line of a View or channel that is
enabled, and the last of a View that is stopped (R170). -/
def Dev.fixedLix (d : Dev) (b : ObjBlock) (u sub : Nat) (v : Val) : Option Nat :=
  if b.base = 0x3500 ∧ sub = 0x01 then some (if v.int = 0 then d.curLix (d.viewLcg u) else d.nat (Obj.viewFirstLix u))
  else if v.int = 0 then none
  else if b.base = 0x3C00 ∧ sub = 0x01 then some (d.nat (Obj.lvFirstLix u))
  else none

/-- Carry out a judged write; the second result is the LIX that the mirror carries. -/
def Dev.doWrite (d : Dev) (w : Writer) (b : ObjBlock) (r : ObjRow) (u off : Nat) (data : Bytes) (v : Val)
    (bus : Option BusReply) : Dev × RCode × Option Nat :=
  let key := 256 * (b.base + u) + r.sub
  let g := d.blockGroup b.group u
  if r.app = .staged then
    let (d, c) := d.stage g key v
    (d, c, none)
  else if d.waits b r g then
    (d.waitFor g { key := key, lix := d.nat (Obj.nextLix g), val := v }, .ok, some (d.nat (Obj.nextLix g)))
  else
    let (d, c) := d.ownerWrite w b u r.sub off data v bus
    (d, c, d.fixedLix b u r.sub v)

/-- WRITE (R30, R31, R41, R58, R456): judged, carried out and mirrored. A standby without its partner's objects mirrors
nothing. -/
def Dev.write (d : Dev) (w : Writer) (index sub off : Nat) (data : Bytes) (bus : Option BusReply) : Dev × RCode :=
  match d.judgeWrite w index sub off data with
  | .error c => (d, c)
  | .ok (b, r, v) =>
    let (e, c, lix) := d.doWrite w b r (index - b.base) off data v bus
    if c ≠ .ok then (e, c)
    else if localKey (256 * index + sub) then (e, .ok)
    else (e.mirror (.write index sub off data lix), .ok)

/-! ## Commits (R51 to R57) -/

/-- Put the values of entries into force, without a history: for judging a configuration. -/
def Dev.overlay (d : Dev) (es : List (Nat × Val)) : Dev := es.foldl (fun d e => d.put e.1 e.2) d

/-- The pending commits of a group as they would be handed over from LIX `n` on (R55, R56). -/
def orderCommits (n : Nat) (cs : List Commit) : List Commit := cs.foldl (fun acc c => insertCommit n c acc) []

/-- The configuration before a commit's own entries: in force, LIVE writes that wait, earlier pending commits (R52). -/
def Dev.commitBase (d : Dev) (g : Nat) : Dev :=
  let G := d.group g
  (d.overlay (G.live.map (fun w => (w.key, w.val)))).overlay ((orderCommits (d.nat (Obj.nextLix g)) G.pend).flatMap (fun c => c.entries))

/-- The configuration in force with the commits of a group that are pending for LIX `n` or an earlier one (R86). -/
def Dev.commitBaseAt (d : Dev) (g n : Nat) : Dev :=
  let next := d.nat (Obj.nextLix g)
  d.overlay ((orderCommits next ((d.group g).pend.filter (fun c => decide (c.targetAt next ≤ n)))).flatMap (fun c => c.entries))

/-- R86: a commit moves TrigOffset by at most LineStep / 2 while the LCG runs, from what `prior` leaves at its target. -/
def trigStepOk (prior next : Dev) (es : Tbl Val) (p : Nat) : Bool :=
  let g := next.portLcg p
  match Tbl.get? es (Obj.trigOffset p) with
  | none => true
  | some v =>
    4 ≤ g || ! next.flag (Obj.lcgRun g) ||
      decide (2 * (v.int - prior.int (Obj.trigOffset p)).natAbs ≤ next.nat (Obj.lineStep g))

/-- The rules of single ports and Views that a commit of group `g` keeps, `es` being its own entries and `prior` the configuration
that it finds at its target (R86, R103, R152, R153, R156, R159, R160, R162, R174, R179, R232, R327, R331). -/
def Dev.configOk (prior base next : Dev) (g : Nat) (es : Tbl Val) : Bool :=
  let ports := (List.range 24).filter (fun p => groupOfLcg (next.portLcg p) == g)
  let views := (List.range 4).filter (fun v => groupOfLcg (next.viewLcg v) == g)
  ports.all (fun p => trigStepOk prior next es p && next.windowOk p && next.lastOk p) &&
    views.all (fun v =>
      decide (next.nat (Obj.matchFloor v) < next.nat (Obj.matchCeil v)) && next.zonesOk v &&
        ((Tbl.get? es (Obj.modelSel v)).isNone || next.modelSelOk v (next.nat (Obj.modelSel v))) &&
        (! next.flag (Obj.viewEnable v) ||
          (next.viewOk v && (next.nat (Obj.matchMode v) == 0 || (next.viewPorts v).contains (next.nat (Obj.matchRef v)))))) &&
    next.deferredOk && next.memoryTakes base

/-- The shadow of group `g` may be committed for LIX `n` (R52, step 2). -/
def Dev.commitOk (d : Dev) (g n : Nat) : Bool :=
  let base := d.commitBase g
  let sh := (d.group g).shadow
  Dev.configOk (d.commitBaseAt g n) base (base.overlay sh) g sh

/-- The next commit sequence number after one (R53). -/
def csnAfter (n : Nat) : Nat := if n + 1 < 2 ^ 32 then n + 1 else 1

/-- Steps 3 and 4 of R52: the shadow becomes a pending commit; a commit of group 4 is handed over at once (R56). -/
def Dev.enterCommit (d : Dev) (g csn : Nat) (target : Option Nat) : Dev :=
  let c : Commit := { csn := csn, target := target, issued := d.now, entries := (d.group g).shadow }
  let d := d.updGroup g (fun x => { x with shadow := [] })
  let d :=
    if g = 4 then (d.handCommit 4 none c).noteModelSel d 4 0
    else d.updGroup g (fun x => { x with pend := x.pend ++ [c] })
  d.putN (Obj.pending g) (d.group g).pend.length

/-- Whether a session holds the write level of every entry of a shadow (R52, step 1). -/
def levelsOk (level : Nat) (sh : Tbl Val) : Bool :=
  sh.all (fun e => match rowOf e.1 with | some (r, _) => decide (r.wl ≤ level) | none => true)

/-- COMMIT (R51 to R56): the response data, or a refusal. -/
def Dev.commit (d : Dev) (w : Writer) (data : Bytes) : Dev × RCode × Bytes :=
  let x := leNat data
  let g := field x 64 8
  let atOnce := bit x 72
  let target := field x 0 64
  if data.length ≠ 16 then (d, .type, [])
  else if 4 < g ∨ field x 73 55 ≠ 0 then (d, .range, [])
  else if d.standby then (d, .locked, [])
  else
    let G := d.group g
    let n := if atOnce then d.nat (Obj.nextLix g) else target
    if w.enrol ∨ ¬ levelsOk w.level G.shadow then (d, .access, [])
    else if g < 4 ∧ ¬ atOnce ∧ target < d.nat (Obj.nextLix g) then (d, .late, [])
    else if g < 4 ∧ 8 ≤ G.pend.length then (d, .commitFull, [])
    else if ¬ d.commitOk g n then (d, .range, [])
    else
      let csn := d.tol.nextCsn
      let goal : Option Nat := if atOnce then none else some target
      let d := d.updTol (fun x => { x with nextCsn := csnAfter csn })
      -- an AtOnce commit comes into force from the next LIX on, which its mirror names (R56, R58)
      let d := (d.enterCommit g csn goal).mirror (.commit csn g (if g < 4 then some n else none))
      (d, .ok, packLE 8 [(0, 24), ((d.group g).pend.length, 8), (csn, 32)])

/-- ABORT (R57). -/
def Dev.abort (d : Dev) (w : Writer) (data : Bytes) : Dev × RCode :=
  let x := leNat data
  let g := field x 0 8
  let csn := field x 32 32
  if data.length ≠ 8 then (d, .type)
  else if 4 < g ∨ field x 8 24 ≠ 0 then (d, .range)
  else if d.standby then (d, .locked)
  else if w.enrol then (d, .access)
  else if csn = 0 then ((d.updGroup g (fun G => { G with shadow := [] })).mirror (.abort g 0), .ok)
  else match (d.group g).pend.getLast? with
    | some c =>
      if c.csn ≠ csn then (d, .state)
      else
        let d := d.updGroup g (fun G => { G with pend := G.pend.dropLast })
        ((d.putN (Obj.pending g) (d.group g).pend.length).mirror (.abort g csn), .ok)
    | none => (d, .state)

/-- ATONCE_HANDOVER_TIMEOUT: no hit within 1 ms (R56). -/
def Dev.atOnceDue (d : Dev) (g : Nat) : Dev :=
  if 4 ≤ g then d
  else
    let due := (d.group g).pend.filter (fun c => c.target.isNone && decide (c.issued + 1000000 ≤ d.now))
    let d := d.updGroup g (fun G => { G with
      pend := G.pend.filter (fun c => ! (c.target.isNone && decide (c.issued + 1000000 ≤ d.now))) })
    let n := d.nat (Obj.nextLix g)
    let before := d
    let d := due.foldl (fun d c => (d.handCommit g (some n) c).mirror (.commit c.csn g none)) d
    (d.noteModelSel before g n).putN (Obj.pending g) (d.group g).pend.length

/-! ## Mirrored writes and commits (R58, R313) -/

/-- The LIX that the active fixed takes the place of the standby's own (R58). -/
def Dev.takeLix (d : Dev) (b : ObjBlock) (u : Nat) (n : Nat) : Dev :=
  if b.base = 0x3500 then
    (d.putN (Obj.viewFirstLix u) n).updVw u (fun x => { x with next := n })
  else if b.base = 0x3C00 then
    d.putN (Obj.lvFirstLix u) n
  else d

/-- A mirrored LIVE write that waited for a hit on the active takes effect here at the same LIX (R58, R313): held until the hit
of that LIX, or in force from that line on where it has been hit. -/
def Dev.waitedWrite (d : Dev) (g key n : Nat) (v : Val) : Dev :=
  if d.nat (Obj.nextLix g) ≤ n then d.waitFor g { key := key, lix := n, val := v } else d.putFrom key v g n

/-- The object and the value of a write that the active has accepted: the standby takes it and judges nothing again (R58). -/
def Dev.acceptedWrite (d : Dev) (index sub off : Nat) (data : Bytes) : Option (ObjBlock × ObjRow × Val) :=
  match d.findObject index sub with
  | .ok (b, some r) => (d.newValue b (index - b.base) sub off r data).map (fun v => (b, r, v))
  | _ => none

/-- An object whose write is no more than its value: neither staged, nor a command, nor one whose owner carries it out. -/
def valueOnly (b : ObjBlock) (r : ObjRow) : Bool :=
  r.app != .staged && r.acc != .wo && ! commandSub b.base r.sub && ! (b.base == 0x2200 && r.sub == 0x08) && b.base != 0x1410

/-- Carry out a write that the active has accepted. Where the standby's own units, which may stand otherwise, would refuse a value,
it comes into force all the same (R58); a model load that cannot begin yet waits. -/
def Dev.takeWrite (d : Dev) (b : ObjBlock) (r : ObjRow) (u off : Nat) (data : Bytes) (v : Val) : Dev × RCode :=
  let (e, c, _) := d.doWrite .partner b r u off data v none
  let key := 256 * (b.base + u) + r.sub
  if c ≠ .ok ∧ (key = Obj.modelLoad 0 ∨ key = Obj.modelLoad 1) then (d.queueLoad u, .ok)
  else if c ≠ .ok ∧ key = Obj.selectedDomain ∧ v.int ≤ 1 then (d.switchDomain v.int.toNat, .ok)
  else if c ≠ .ok ∧ valueOnly b r then (d.setNow (256 * (b.base + u) + r.sub) v, .ok) else (e, c)

/-- A mirrored write (R58, R313). -/
def Dev.mirroredWrite (d : Dev) (index sub off : Nat) (data : Bytes) (lix : Option Nat) : Dev :=
  match d.acceptedWrite index sub off data with
  | none => d
  | some (b, r, v) =>
    if localKey (256 * index + sub) then d
    else
      let u := index - b.base
      let g := d.blockGroup b.group u
      let fixes : Bool := (b.base == 0x3500 || b.base == 0x3C00) && r.sub == 0x01
      let (e, c) := d.takeWrite b r u off data v
      match lix with
      | some n =>
        if fixes ∧ b.base = 0x3500 ∧ v.int = 0 then d.viewDisable u n
        else if fixes then if c = .ok then e.takeLix b u n else e
        else if g < 4 then d.waitedWrite g (256 * index + sub) n v
        else e
      | none => e

/-- A pending commit is handed over without a hit of this device, for its own LIX on (R56, R58). -/
def Dev.handNow (d : Dev) (g csn : Nat) : Dev :=
  match (d.group g).pend.find? (fun c => c.csn == csn) with
  | none => d
  | some c =>
    let n := c.target.getD (d.nat (Obj.nextLix g))
    let before := d.updGroup g (fun G => { G with pend := G.pend.erase c })
    let d := (before.handCommit g (some n) c).noteModelSel before g n
    d.putN (Obj.pending g) (d.group g).pend.length

/-- A mirrored commit takes the active's CSN and target (R58, R318): one of a LIX already hit here is in force from that line on.
The same commit without a target tells that the active handed it over without a hit (R56). -/
def Dev.mirroredCommit (d : Dev) (csn g : Nat) (target : Option Nat) : Dev :=
  if 4 < g then d
  else if g < 4 ∧ target = none then d.handNow g csn
  else
    let d := (d.updTol (fun x => { x with nextCsn := csnAfter csn })).enterCommit g csn target
    match target with
    | some n => if g < 4 ∧ n < d.nat (Obj.nextLix g) then d.handNow g csn else d
    | none => d

def Dev.mirroredAbort (d : Dev) (g csn : Nat) : Dev :=
  if 4 < g then d
  else if csn = 0 then d.updGroup g (fun G => { G with shadow := [] })
  else
    let d := d.updGroup g (fun G => { G with pend := G.pend.filter (fun c => c.csn != csn) })
    d.putN (Obj.pending g) (d.group g).pend.length

/-- MIRROR_FRAME: any valid link frame counts as heard (R305, R310). -/
def Dev.mirrorFrame (d : Dev) (i : MirrorItem) : Dev :=
  if d.nat Obj.linkState ≠ 2 then d
  else
    let d := if i = .badFrame then d else d.updPair (fun x => { x with linkAt := d.now })
    let follows := d.role = 2 ∨ d.role = 3
    match i with
    | .write index sub off data lix => if follows then d.mirroredWrite index sub off data lix else d
    | .commit csn g target => if follows then d.mirroredCommit csn g target else d
    | .abort g csn => if follows then d.mirroredAbort g csn else d
    | i => d.mirrorItem i

end Sys2Proof.Machine
end

