-- ==== Sys2Proof/Machine/Tol.lean ====
section
/-! DEFINITION. The Tirro Object Link: the operations of a request, sessions, handshakes and frames (R36 to R49, R60). -/

namespace Sys2Proof.Machine

/-! ## Reading (R30, R41, R42) -/

/-- The most bytes of payload that a transport carries (R36). -/
def maxPayload (transport : Nat) : Nat := if transport = 0 then 4064 else 1408

/-- Bytes of a STR or BLOB value from an offset, at most `len` and at most what the room leaves (R41). -/
def transferOf (bs : Bytes) (off len room : Nat) : Bytes :=
  let want := min len (bs.length - off)
  slice bs off (if want ≤ room then want else room / 8 * 8)

/-- A value in its object's type, as a READ, READ_SHADOW or READ_DEFAULT returns it. -/
def ObjRow.give (r : ObjRow) (v : Val) (off len room : Nat) : RCode × Bytes :=
  let bs := encodeVal r.ty v
  if r.ty.size.isSome then (if off = 0 then (.ok, bs) else (.range, [])) else (.ok, transferOf bs off len room)

/-- What a read returns of an object that exists; `pick` gives the value by key and row. Reads of subindex 0 give the highest
subindex (R28). -/
def Dev.readWith (d : Dev) (index sub off len room : Nat) (pick : Nat → ObjRow → Val) : RCode × Bytes :=
  match d.findObject index sub with
  | .error c => (c, [])
  | .ok (b, none) => if off = 0 then (.ok, natLE 1 (d.highestSub index b)) else (.range, [])
  | .ok (_, some r) => if r.acc = .wo then (.access, []) else r.give (pick (256 * index + sub) r) off len room

/-- A read of a unit's calibration record up to its last byte clears RecordDirty of the unit (R279). -/
def Dev.readEffect (d : Dev) (index sub off n : Nat) : Dev :=
  let bs := d.calRecordNow
  if 256 * index + sub = Obj.calRecord ∧ d.cal.buf = [] ∧ 0 < n ∧ off + n = bs.length then
    let u := d.nat Obj.calRecordSel
    if u < 72 then d.putF (Obj.recordDirty u) false else d
  else d

/-- READ (R30, R41). -/
def Dev.readOp (d : Dev) (index sub off len room : Nat) : Dev × RCode × Bytes :=
  let (c, bs) := d.readWith index sub off len room (fun key _ => d.readVal key)
  (if c = .ok then d.readEffect index sub off bs.length else d, c, bs)

/-- READ_SHADOW: the shadow's entry, else the value in force (R30). -/
def Dev.readShadowOp (d : Dev) (index sub off len room : Nat) : RCode × Bytes :=
  d.readWith index sub off len room (fun key _ =>
    match Tbl.get? (d.group (d.groupOf key)).shadow key with
    | some v => v
    | none => d.readVal key)

/-- The default value of an object on this variant (R3, R42). -/
def Dev.defaultFor (d : Dev) (key : Nat) : Val :=
  if ¬ d.rb9212 then defaultOf key
  else if key = Obj.partCode then .n 0x9212
  else if key = Obj.portCount then .n 12
  else if key = Obj.identLaneCount then .n 96
  else defaultOf key

/-- READ_DEFAULT (R42). -/
def Dev.readDefaultOp (d : Dev) (index sub off len room : Nat) : RCode × Bytes :=
  d.readWith index sub off len room (fun key _ => d.defaultFor key)

def Access.code : Access → Nat
  | .ro => 0 | .rw => 1 | .wo => 2 | .rwc => 3

def Apply.code : Apply → Nat
  | .none => 0 | .live => 1 | .staged => 2 | .halted => 3

def Persist.code : Persist → Nat
  | .volatile => 0 | .saved => 1 | .calibration => 2

/-- The layout of DESCRIBE (R42). -/
def describeBytes (maxLen group pers wl rl apply access ty : Nat) : Bytes :=
  packLE 8 [(maxLen, 32), (0, 8), (group, 4), (pers, 2), (wl, 3), (rl, 3), (apply, 2), (access, 2), (ty, 8)]

/-- DESCRIBE (R42). -/
def Dev.describeOp (d : Dev) (index sub : Nat) : RCode × Bytes :=
  match d.findObject index sub with
  | .error c => (c, [])
  | .ok (_, none) => (.ok, describeBytes 1 0xF 0 7 0 0 0 (Ty.code .u8))
  | .ok (b, some r) =>
    let writable := r.acc ≠ .ro
    (.ok, describeBytes (r.ty.size.getD r.maxLen) (if writable then d.blockGroup b.group (index - b.base) else 0xF) r.pers.code
      (if writable then r.wl else 7) (if r.acc = .wo then 7 else 0) r.app.code r.acc.code r.ty.code)

/-! ## The operations of a request (R38 to R41) -/

/-- One operation of a request (R39). -/
structure TolOp where
  opcode : Nat
  index  : Nat
  sub    : Nat
  offset : Nat
  length : Nat
  data   : Bytes
  short  : Bool        -- the payload ends before the operation's data
  deriving DecidableEq, Repr

/-- Whether an operation of this opcode carries data in a request. -/
def carriesData (opcode : Nat) : Bool := ! [1, 3, 6, 7].contains opcode

/-- The operations that a payload holds. The model's choice where R39 is silent: 1 to 15 bytes left after the last operation are
ignored (log entry 63). -/
def parseOps : (fuel : Nat) → Bytes → List TolOp
  | 0, _ => []
  | n + 1, bs =>
    if bs.length < 16 then []
    else
      let op := leAt bs 0 1
      let len := leAt bs 4 2
      let body := if carriesData op then len else 0
      let rest := bs.drop 16
      let o : TolOp :=
        { opcode := op, index := leAt bs 2 2, sub := leAt bs 1 1, offset := leAt bs 8 4, length := len,
          data := rest.take body, short := decide (rest.length < body) }
      o :: parseOps n (rest.drop (8 * ceilDiv body 8))

/-- The result of an operation: its header with Status and Length, and its data padded (R38, R39). -/
def TolOp.result (o : TolOp) (c : RCode) (data : Bytes) : Bytes :=
  packLE 16 [(0, 32), (o.offset, 32), (c.toNat, 16), (data.length, 16), (o.index, 16), (o.sub, 8), (o.opcode, 8)] ++ padTo 8 data

/-- The bytes that the result of an operation takes before any STR or BLOB data (R41). -/
def Dev.fixedRoom (d : Dev) (o : TolOp) : Nat :=
  16 + (match o.opcode with
    | 4 => 8
    | 6 => 8
    | _ =>
      if carriesData o.opcode then 0
      else match d.findObject o.index o.sub with
        | .ok (_, some r) => 8 * ceilDiv (r.ty.size.getD 0) 8
        | .ok (_, none) => 8
        | .error _ => 0)

/-- Execute one operation with `room` bytes left for the data of its result. -/
def Dev.execOp (d : Dev) (w : Writer) (o : TolOp) (room : Nat) : Dev × RCode × Bytes :=
  if o.short then (d, .type, [])
  else match o.opcode with
    | 1 => d.readOp o.index o.sub o.offset o.length room
    | 2 =>
      let (d, c) := d.write w o.index o.sub o.offset o.data none
      (d, c, [])
    | 3 => (d, d.readShadowOp o.index o.sub o.offset o.length room)
    | 4 => d.commit w o.data
    | 5 =>
      let (d, c) := d.abort w o.data
      (d, c, [])
    | 6 => (d, d.describeOp o.index o.sub)
    | 7 => (d, d.readDefaultOp o.index o.sub o.offset o.length room)
    | _ => (d, .type, [])

/-- Execute the operations in order; `used` bytes of the response are placed (R40, R41). The model's choice where R36 and R41 are
silent: where the fixed-size results alone exceed the transport's maximum payload, the longer response is sent (log entry 63). -/
def Dev.execOps (d : Dev) (w : Writer) (limit : Nat) : List TolOp → (used : Nat) → Dev × Bytes
  | [], _ => (d, [])
  | o :: t, used =>
    let later := sumN (t.map d.fixedRoom)
    let (e, c, data) := d.execOp w o (limit - used - later - 16)
    let res := o.result c data
    let (e, more) := e.execOps w limit t (used + res.length)
    (e, res ++ more)

/-- The response payload of a request (R40). -/
def Dev.execRequest (d : Dev) (w : Writer) (transport : Nat) (payload : Bytes) : Dev × Bytes :=
  let ops := parseOps (payload.length + 1) payload
  if 64 < ops.length then (d, ops.flatMap (fun o => o.result .range []))
  else d.execOps w (maxPayload transport) ops 0

/-! ## Frames (R36, R37) -/

/-- The header of a frame, and its payload. -/
structure TolFrame where
  kind     : Nat
  version  : Nat
  fragLast : Nat
  frag     : Nat
  id       : Nat
  seq      : Nat
  payload  : Bytes
  body     : Bytes       -- header and payload, which the tag covers
  tag      : Bytes
  deriving DecidableEq, Repr

/-- A frame as received, unless it is discarded for its Magic, its length or its payload (R37). `tagged` tells whether the frame
ends with a tag. -/
def parseFrame (transport : Nat) (tagged : Bool) (f : Bytes) : Option TolFrame :=
  let len := leAt f 12 2
  let total := 16 + len + (if tagged then 16 else 0)
  if f.length < 16 ∨ leAt f 0 2 ≠ 0x4C54 ∨ f.length ≠ total ∨ maxPayload transport < len then none
  else
    let b := leAt f 2 1
    let c := leAt f 3 1
    some { kind := b / 16, version := b % 16, fragLast := c / 16, frag := c % 16, id := leAt f 4 4, seq := leAt f 8 4,
           payload := slice f 16 len, body := f.take (16 + len), tag := f.drop (16 + len) }

/-- The kind of a frame. -/
def frameKind (f : Bytes) : Nat := leAt f 2 1 / 16

/-- Whether the device answers TOL over a transport: the mailbox while it is ready, a network port that is up once the device
is ready for inspection, the service address only while it drives (R346, R424, R435). -/
def Dev.tolHears (d : Dev) (transport : Nat) (service : Bool) : Bool :=
  if transport = 0 then d.domOn pdPcie && d.mbxReady
  else
    decide (transport ≤ 6) && d.portUp (transport - 1) && d.flag Obj.inspectionReady &&
      (! service || (d.drives && d.bytes (Obj.serviceIp (transport - 1)) != []))

/-- An untagged CLOSE that refuses a handshake (R37, R47). -/
def Dev.refuse (d : Dev) (transport : Nat) (service : Bool) (id : Nat) (code : RCode) : Dev :=
  d.tolSend transport service (tolFrame 6 0 id 1 (natLE 2 code.toNat))

/-! ## The handshake (R46 to R49) -/

/-- The credential slot that a key identifier names, if enabled. The model's choice where R46 is silent: of several enabled slots
with one key identifier the lowest decides (log entry 63). -/
def Dev.credSlot (d : Dev) (keyId : Nat) : Option Nat :=
  (List.range 16).find? (fun c => d.flag (Obj.credEnabled c) && d.nat (Obj.credKeyId c) == keyId && keyId != 0)

/-- An Owner credential is enrolled (R48). -/
def Dev.ownerEnrolled (d : Dev) : Bool :=
  (List.range 16).any (fun c =>
    d.nat (Obj.credLevel c) == 3 && d.nat (Obj.credKeyId c) != 0 && d.flag (Obj.credEnabled c))

/-- How a HELLO is admitted: whether its session enrols (R48), and whether its FINISH carries no signature (R48, R49, R424). -/
def Dev.admission (d : Dev) (transport level keyId : Nat) : Except RCode (Bool × Bool) :=
  if 4 < level then .error .range
  else if d.boot.recovery then
    if transport = 0 ∧ level = 3 ∧ keyId = 0 then .ok (false, true) else .error .access
  else if level = 4 then
    if ¬ d.flag Obj.vendorAccess ∨ (Config.vendorKey keyId).isNone ∨ keyId = 0 then .error .access else .ok (false, false)
  else if keyId = 0 then
    if level = 3 ∧ transport = 0 ∧ ¬ d.ownerEnrolled then .ok (true, true)
    else if level = 0 ∧ d.flag Obj.anonViewer then .ok (false, true)
    else .error .access
  else match d.credSlot keyId with
    | none => .error .access
    | some c => if d.nat (Obj.credLevel c) < level then .error .access else .ok (false, false)

/-- A SessionId that no open session and no handshake holds: which one is the device's choice (R46). -/
def Dev.freshId (d : Dev) (n : Nat) : Nat :=
  let used := d.tol.sessions.map (fun e => e.2.id) ++ d.tol.handshakes.map (fun h => h.id)
  let id (k : Nat) : Nat := 1 + (n + k) % (2 ^ 32 - 1)
  id (((List.range (used.length + 1)).find? (fun k => ! used.contains (id k))).getD 0)

/-- A handshake payload in fragments that each fill a frame. -/
def fragments (size : Nat) : (fuel : Nat) → Bytes → List Bytes
  | 0, _ => []
  | n + 1, bs => if bs.length ≤ size then [bs] else bs.take size :: fragments size n (bs.drop size)

/-- Send ACCEPT in fragments (R46). -/
def Dev.sendAccept (d : Dev) (transport : Nat) (service : Bool) (id : Nat) (payload : Bytes) : Dev :=
  let fs := fragments (maxPayload transport) (payload.length + 1) payload
  (fs.zipIdx).foldl (fun d e =>
    d.tolSend transport service
      (packLE 16 [(0, 16), (e.1.length, 16), (0, 32), (id, 32), (fs.length - 1, 4), (e.2, 4), (2, 4), (1, 4), (0x4C54, 16)] ++ e.1)) d

/-- A whole HELLO: its conditions, then ACCEPT (R46, R47). R47 does not say from which fragment of a fragmented HELLO the 2 s run: the
model starts them here, at the last one, and the fragments gathered before it do not expire (log entry 63). -/
def Dev.helloDone (d : Dev) (transport : Nat) (service : Bool) (p : Bytes) : Dev :=
  let level := leAt p 1216 1
  let keyId := leAt p 1217 8
  match d.admission transport level keyId with
  | .error c => d.refuse transport service 0 c
  | .ok (enrol, anon) =>
    if 32 ≤ d.tol.sessions.length then d.refuse transport service 0 .busy
    else
      let n := d.tol.draws
      let id := d.freshId (Config.sessionDraw n)
      let ek := p.take 1184
      let head := p ++ Config.mlKemCiphertext ek n ++ Config.deviceNonce n
      let accept := Config.mlKemCiphertext ek n ++ Config.deviceNonce n ++ Config.identitySign head ""
      let h : Handshake :=
        { id := id, transport := transport, start := d.now, level := level, keyId := keyId, enrol := enrol, anon := anon,
          service := service, transcript := p ++ accept, secret := Config.mlKemSecret ek n, frags := [] }
      let d := d.updTol (fun x => { x with handshakes := x.handshakes ++ [h], draws := n + 1 })
      d.sendAccept transport service id accept

/-- A payload gathered from fragments 0 to `last`, when none is missing. -/
def gathered (t : Tbl Bytes) (last : Nat) : Option Bytes :=
  if (List.range (last + 1)).all (fun k => (Tbl.get? t k).isSome) then some ((List.range (last + 1)).flatMap (fun k => Tbl.get t k []))
  else none

/-- HELLO (R46, R47). A HELLO payload of another length than 1,225 bytes is discarded. The model's choice where R36 and R46 are
silent: a fragment whose FragIndex lies above its FragLast is discarded, and a new fragment 0 starts the gathering again (log
entry 63). -/
def Dev.hello (d : Dev) (transport : Nat) (service : Bool) (frame : Bytes) : Dev :=
  if ¬ d.tolHears transport service then d
  else match parseFrame transport false frame with
    | none => d
    | some f =>
      if f.kind ≠ 1 ∨ f.id ≠ 0 ∨ f.fragLast < f.frag then d
      else if f.version ≠ 1 then d.refuse transport service 0 .range
      else
        let t := Tbl.put (if f.frag = 0 then [] else Tbl.get d.tol.helloFrags transport []) f.frag f.payload
        match gathered t f.fragLast with
        | none => d.updTol (fun x => { x with helloFrags := Tbl.put x.helloFrags transport t })
        | some p =>
          let d := d.updTol (fun x => { x with helloFrags := Tbl.del x.helloFrags transport })
          if p.length = 1225 then d.helloDone transport service p else d

/-- Forget a handshake. -/
def Dev.dropHandshake (d : Dev) (id : Nat) : Dev :=
  d.updTol (fun x => { x with handshakes := x.handshakes.filter (fun h => h.id != id) })

/-- The signature of FINISH, against the enrolled credential or the Vendor root key (R46, R47). The model's choice where R48 and
R49 are silent: where no signature is required, bytes that FINISH carries are ignored (log entry 63). -/
def Dev.finishOk (d : Dev) (h : Handshake) (sig : Bytes) : Bool :=
  if h.anon then true
  else if h.level = 4 then
    match Config.vendorKey h.keyId with
    | some k => Config.mlDsaVerify k h.transcript sig
    | none => false
  else match d.credSlot h.keyId with
    | some c => Config.mlDsaVerify (d.bytes (Obj.credPublicKey c)) h.transcript sig
    | none => false

/-- The lowest free session slot. -/
def Dev.freeSlot (d : Dev) : Option Nat := (List.range 32).find? (fun k => (Tbl.get? d.tol.sessions k).isNone)

/-- A whole FINISH: the session opens (R46), or the handshake fails (R47). -/
def Dev.finishDone (d : Dev) (h : Handshake) (sig : Bytes) : Dev :=
  let d := d.dropHandshake h.id
  if ¬ d.finishOk h sig then d.refuse h.transport h.service h.id .integrity
  else match d.freeSlot with
    | none => d.refuse h.transport h.service h.id .busy
    | some slot =>
      let keys := Config.kmac256 h.secret h.transcript "TOL KEYS" 512
      let s : Session :=
        { id := h.id, level := h.level, transport := h.transport, nextSeq := 1, enrol := h.enrol, service := h.service,
          h2d := keys.take 32, d2h := slice keys 32 32, lastFrame := d.now, held := [], kept := [] }
      let d := d.updTol (fun x => { x with sessions := Tbl.put x.sessions slot s })
      let d := if s.service then d.mirrorSession slot else d
      d.tolSend h.transport h.service (s.tagged 5 0 [])

/-- FINISH (R46, R47). -/
def Dev.finish (d : Dev) (transport : Nat) (frame : Bytes) : Dev :=
  match parseFrame transport false frame with
  | none => d
  | some f =>
    match d.tol.handshakes.find? (fun h => h.id == f.id && h.transport == transport && decide (d.now ≤ h.start + 2000000000)) with
    | none => d
    | some h =>
      if ¬ d.tolHears transport h.service ∨ f.kind ≠ 3 ∨ f.fragLast < f.frag then d
      else if f.version ≠ 1 then (d.dropHandshake h.id).refuse transport h.service h.id .range
      else
        let t := Tbl.put h.frags f.frag f.payload
        match gathered t f.fragLast with
        | some p => d.finishDone h p
        | none =>
          d.updTol (fun z => { z with handshakes := z.handshakes.map (fun x => if x.id = h.id then { x with frags := t } else x) })

/-- HANDSHAKE_TIMEOUT: a handshake not completed within 2 s is discarded (R47; the limit is inclusive, R17). -/
def Dev.handshakeTimeout (d : Dev) (id : Nat) : Dev :=
  d.updTol (fun x => { x with
    handshakes := x.handshakes.filter (fun h => h.id != id || decide (d.now ≤ h.start + 2000000000)) })

/-! ## Frames of a session (R37, R43 to R47) -/

/-- The open session of a frame, with its tag verified; a failed tag is counted (R37). R45 does not say whether a frame with a good tag
of a reserved or unexpected Kind (2, 5, 7 and so on) is a valid frame: the model's choice is that it renews the session's idle time and
does nothing else (log entry 63). -/
def Dev.sessionFrame (d : Dev) (transport : Nat) (frame : Bytes) : Dev × Option (Nat × Session × TolFrame) :=
  match parseFrame transport true frame with
  | none => (d, none)
  | some f =>
    match d.tol.sessions.find? (fun e => e.2.id == f.id && e.2.transport == transport) with
    | none => (d, none)
    | some (slot, s) =>
      if ¬ d.tolHears transport s.service then (d, none)
      else if f.tag ≠ Config.kmac256 s.h2d f.body "TOL" 128 then (d.bump Obj.badTagCount, none)
      else if f.version ≠ 1 then (d.closeSession slot .range, none)
      else
        let s := { s with lastFrame := d.now }
        (d.updTol (fun x => { x with sessions := Tbl.put x.sessions slot s }), some (slot, s, f))

/-- CLOSE from the host ends the session (R47). -/
def Dev.closeFrame (d : Dev) (transport : Nat) (frame : Bytes) : Dev :=
  match d.sessionFrame transport frame with
  | (d, some (slot, s, f)) =>
    if f.kind ≠ 6 then d
    else
      let d := d.endSession slot
      if s.service then d.mirror (.session slot none) else d
  | (d, none) => d

/-- The sequence after one, in the cycle of R43. -/
def seqAfter (n : Nat) : Nat := if n + 1 < 2 ^ 32 then n + 1 else 1

/-- How far a sequence lies ahead of another in the cycle of R43. -/
def seqAhead (seq next : Nat) : Nat := subMod (2 ^ 32 - 1) seq next

/-- Execute one request of the session in a slot, keep and send its response (R43, R44); whether the session closed itself. -/
def Dev.runRequest (d : Dev) (slot : Nat) (payload : Bytes) : Dev × Bool :=
  match Tbl.get? d.tol.sessions slot with
  | none => (d, false)
  | some s =>
    let (d, answer) := d.execRequest (s.writer slot) s.transport payload
    let frame := s.tagged 5 s.nextSeq answer
    let closes := d.tol.selfClose == some slot
    let d := d.updTol (fun x => { x with selfClose := none })
    match Tbl.get? d.tol.sessions slot with
    | none =>
      (if s.transport = 0 then d.emit (.tol 0 none frame) else d.tolSend s.transport s.service frame, false)
    | some x =>
      let x := { x with nextSeq := seqAfter s.nextSeq, kept := ((s.nextSeq, frame) :: x.kept).take 16 }
      let d := d.updTol (fun z => { z with sessions := Tbl.put z.sessions slot x })
      let d := if x.service then d.mirrorSession slot else d
      (d.tolSend s.transport s.service frame, closes)

/-- Execute a request, end a session that closed itself (R60), and go on with the requests held behind it. -/
def Dev.runFrom (slot : Nat) : (fuel : Nat) → Dev → Bytes → Dev
  | 0, d, _ => d
  | n + 1, d, payload =>
    let (d, closes) := d.runRequest slot payload
    if closes then d.closeSession slot .ok
    else match Tbl.get? d.tol.sessions slot with
      | none => d
      | some x =>
        match x.held.find? (fun e => e.1 == x.nextSeq) with
        | some (seq, _, body) =>
          let x := { x with held := x.held.filter (fun e => e.1 != seq) }
          Dev.runFrom slot n (d.updTol (fun z => { z with sessions := Tbl.put z.sessions slot x })) body
        | none => d

/-- A REQUEST frame: executed in sequence, answered from a kept response, held, or discarded (R43, R44). -/
def Dev.requestFrame (d : Dev) (transport : Nat) (frame : Bytes) : Dev :=
  match d.sessionFrame transport frame with
  | (d, some (slot, s, f)) =>
    if f.kind ≠ 4 ∨ f.seq = 0 then d
    else match s.kept.find? (fun e => e.1 == f.seq) with
      | some e => (d.bump Obj.duplicateCount).tolSend transport s.service e.2
      | none =>
        let ahead := seqAhead f.seq s.nextSeq
        if ahead = 0 then Dev.runFrom slot 9 d f.payload
        else if 2 ^ 31 ≤ ahead ∨ 8 ≤ s.held.length ∨ s.held.any (fun e => e.1 == f.seq) then d
        else
          let s := { s with held := s.held ++ [(f.seq, d.now, f.payload)] }
          d.updTol (fun x => { x with sessions := Tbl.put x.sessions slot s })
  | (d, none) => d

/-- A frame comes by the address, the service one or the local one, of the session or handshake that it names (R346). -/
def Dev.cameBy (d : Dev) (transport : Nat) (service : Bool) (frame : Bytes) : Bool :=
  let id := leAt frame 4 4
  transport == 0 || d.tol.sessions.all (fun e => e.2.id != id || e.2.transport != transport || e.2.service == service) &&
    d.tol.handshakes.all (fun h => h.id != id || h.transport != transport || h.service == service)

/-- A frame of any kind over a transport: one for a session that lives at the other address of the port is discarded (R346). -/
def Dev.tolReceive (d : Dev) (transport : Nat) (service : Bool) (frame : Bytes) : Dev :=
  if frameKind frame ≠ 1 ∧ ! d.cameBy transport service frame then d
  else match frameKind frame with
  | 1 => d.hello transport service frame
  | 3 => d.finish transport frame
  | 6 => d.closeFrame transport frame
  | _ => d.requestFrame transport frame

/-- IDLE_TIMEOUT: no valid frame for IdleTimeout (R45). -/
def Dev.idleTimeout (d : Dev) (slot : Nat) : Dev :=
  match Tbl.get? d.tol.sessions slot with
  | some s => if d.now < s.lastFrame + d.nat Obj.idleTimeout * 1000000 then d else d.closeSession slot .ok
  | none => d

/-- HELD_REQUEST_EXPIRY: a request held for 100 ms is discarded (R43). -/
def Dev.heldExpiry (d : Dev) (slot seq : Nat) : Dev :=
  match Tbl.get? d.tol.sessions slot with
  | some s =>
    let s := { s with held := s.held.filter (fun e => e.1 != seq || decide (d.now < e.2.1 + 100000000)) }
    d.updTol (fun x => { x with sessions := Tbl.put x.sessions slot s })
  | none => d

/-! ## Operations made outside a frame -/

/-- Leave the result of an operation. -/
def Dev.opResult (d : Dev) (c : RCode) (bs : Bytes) : Dev := { d with opCode := c, opData := bs }

/-- An operation of the session in a slot, as a row of the table of operations: its result is left in the device. Without a
session in the slot there is no operation. -/
def Dev.onSession (d : Dev) (slot : Nat) (f : Writer → Session → Dev × RCode × Bytes) : Dev :=
  match Tbl.get? d.tol.sessions slot with
  | none => d
  | some s =>
    let (d, c, bs) := f (s.writer slot) s
    let d := d.opResult c bs
    let d := if d.tol.selfClose = some slot then d.closeSession slot .ok else d
    d.updTol (fun x => { x with selfClose := none })

/-- A WRITE of the session in a slot. -/
def Dev.writeFrom (d : Dev) (slot index sub off : Nat) (data : Bytes) (bus : Option BusReply) : Dev :=
  d.onSession slot (fun w _ =>
    let (d, c) := d.write w index sub off data bus
    (d, c, []))

end Sys2Proof.Machine
end

