-- ==== Sys2Proof/Machine/ExecTol.lean ====
section
/-! DEFINITION. The meanings of the TOL commands: handshakes, sessions, requests and the operations one by one. Frames of a
transport that does not exist are no commands of the device. -/

namespace Sys2Proof.Machine

/-- A write of the session in slot `ses` to the object `key`. -/
def Dev.hostWrite (d : Dev) (ses key : Nat) (data : Bytes) : Dev := d.writeFrom ses (key / 256) (key % 256) 0 data none

/-- The transports: 0 the mailbox, 1 to 6 the network ports (R36). -/
def transports : Nat := 7

/-- HELLO (R46, R47). -/
def execHello (transport : Nat) (service : Bool) (frame : Bytes) (s : State) : Host.Outcome State Fault Refusal :=
  onUnit transport transports s (fun d => d.hello transport service frame)

/-- FINISH (R46, R47). -/
def execFinish (transport : Nat) (frame : Bytes) (s : State) : Host.Outcome State Fault Refusal :=
  onUnit transport transports s (fun d => d.finish transport frame)

/-- CLOSE (R47). -/
def execClose (transport : Nat) (frame : Bytes) (s : State) : Host.Outcome State Fault Refusal :=
  onUnit transport transports s (fun d => d.closeFrame transport frame)

/-- HANDSHAKE_TIMEOUT (R47). -/
def execHandshakeTimeout (id : Nat) (s : State) : Host.Outcome State Fault Refusal := onDev s (fun d => d.handshakeTimeout id)

/-- IDLE_TIMEOUT (R45). -/
def execIdleTimeout (slot : Nat) (s : State) : Host.Outcome State Fault Refusal := onDev s (fun d => d.idleTimeout slot)

/-- HELD_REQUEST_EXPIRY (R43). -/
def execHeldRequestExpiry (slot seq : Nat) (s : State) : Host.Outcome State Fault Refusal :=
  onDev s (fun d => d.heldExpiry slot seq)

/-- The bytes that one operation alone may return in a response (R36, R41). -/
def Session.room (x : Session) : Nat := maxPayload x.transport - 16

/-- READ (R30, R41). -/
def execRead (ses index sub off len : Nat) (s : State) : Host.Outcome State Fault Refusal :=
  onDev s (fun d => d.onSession ses (fun _ x => d.readOp index sub off len x.room))

/-- WRITE (R31). -/
def execWrite (ses index sub off : Nat) (data : Bytes) (s : State) : Host.Outcome State Fault Refusal :=
  onDev s (fun d => d.writeFrom ses index sub off data none)

/-- READ_SHADOW (R30). -/
def execReadShadow (ses index sub : Nat) (s : State) : Host.Outcome State Fault Refusal :=
  onDev s (fun d => d.onSession ses (fun _ x => (d, d.readShadowOp index sub 0 65535 x.room)))

/-- COMMIT (R52). -/
def execCommit (ses : Nat) (data : Bytes) (s : State) : Host.Outcome State Fault Refusal :=
  onDev s (fun d => d.onSession ses (fun w _ => d.commit w data))

/-- ABORT (R57). -/
def execAbort (ses : Nat) (data : Bytes) (s : State) : Host.Outcome State Fault Refusal :=
  onDev s (fun d => d.onSession ses (fun w _ => let (e, c) := d.abort w data; (e, c, [])))

/-- DESCRIBE (R42). -/
def execDescribe (ses index sub : Nat) (s : State) : Host.Outcome State Fault Refusal :=
  onDev s (fun d => d.onSession ses (fun _ _ => (d, d.describeOp index sub)))

/-- READ_DEFAULT (R42). -/
def execReadDefault (ses index sub : Nat) (s : State) : Host.Outcome State Fault Refusal :=
  onDev s (fun d => d.onSession ses (fun _ x => (d, d.readDefaultOp index sub 0 65535 x.room)))

/-- SES_CLOSE (R60). -/
def execSesClose (ses slot : Nat) (s : State) : Host.Outcome State Fault Refusal :=
  onUnit slot 32 s (fun d => d.hostWrite ses (Obj.sesClose slot) [1])

/-- ATONCE_HANDOVER_TIMEOUT (R56). -/
def execAtOnceHandoverTimeout (group : Nat) (s : State) : Host.Outcome State Fault Refusal :=
  onUnit group 5 s (fun d => d.whileOn pdHub (fun d => d.atOnceDue group))

/-- REQUEST (R43). -/
def execRequest (transport : Nat) (frame : Bytes) (s : State) : Host.Outcome State Fault Refusal :=
  onUnit transport transports s (fun d => d.requestFrame transport frame)

end Sys2Proof.Machine
end

