-- ==== Sys2Proof/Machine/ExecPosition.lean ====
section
/-! DEFINITION. The meanings of the commands of the position unit (R62 to R95): encoder axes, LCGs, port triggers, Eyelets, SSI
and event inputs. The unit works while PD_POS is on. -/

namespace Sys2Proof.Machine

/-- ENCODER_COUNT (R63, R64, R80). -/
def execEncoderCount (axis : Nat) (a b : Bool) (s : State) : Host.Outcome State Fault Refusal :=
  onUnit axis 4 s (fun d => d.encoderCount axis a b)

/-- STANDSTILL (R68). -/
def execStandstill (axis : Nat) (s : State) : Host.Outcome State Fault Refusal :=
  onUnit axis 4 s (fun d => d.whileOn pdPos (fun d => d.standstill axis))

/-- SIGNAL_LOSS (R67). -/
def execSignalLoss (axis pair : Nat) (lost a b z : Bool) (s : State) : Host.Outcome State Fault Refusal :=
  if pair < 3 then onUnit axis 4 s (fun d => d.whileOn pdPos (fun d => d.signalLoss axis pair lost a b z))
  else .refused .noSuchUnit

/-- INDEX_LATCH (R67). -/
def execIndexLatch (axis : Nat) (s : State) : Host.Outcome State Fault Refusal :=
  onUnit axis 4 s (fun d => d.whileOn pdPos (fun d => d.indexLatch axis))

/-- One hit, with the strip boundary at which a joiner may enter Standby (R74, R317). -/
def Dev.hitAndJoin (d : Dev) (g : Nat) : Dev :=
  let n := d.nat (Obj.nextLix g)
  let e := d.lcgHit g
  if e.nat (Obj.nextLix g) = n then e else e.joinBoundary g n

/-- LCG_HIT (R74, R76, R55). -/
def execLcgHit (lcg : Nat) (s : State) : Host.Outcome State Fault Refusal :=
  onUnit lcg 4 s (fun d => d.whileOn pdPos (fun d => d.hitAndJoin lcg))

/-- A fire as ingress takes it: noted on a standby, or within the gap of a takeover, for the fires that are issued again
(R109, R311); else entered in the ledger, and an armed PSET may be issued (R102, R136). The LVDS output of a port that a Hub
restart has stopped is driven all the same, until the restart has ended (R437, R458). -/
def Dev.fireToIngress (d : Dev) (p lix f : Nat) (suspect : Bool) : Dev :=
  let inGap := match d.gapEnd with | some stop => decide (f ≤ stop) | none => false
  if ! d.flag (Obj.portEnable p) then (if d.boot.restarting then d.lvdsAlone p f else d)
  else if d.standby || inGap then d.noteFire p lix f suspect
  else
    let d := d.parityLine 0x01 p (d.portLcg p) scPort lix
    (((d.ledgerRoom p).ingressFire p lix f suspect).psetIssue p lix).portTally p lix

/-- The fire of a port that is due, if one is (R84). -/
def Dev.portFire (d : Dev) (p : Nat) : Dev :=
  match d.fireDue p with
  | none => d
  | some (e, t, late) => (d.takeFire p e t late).fireToIngress p e.lix t (late || e.hitLate)

/-- The camera ports of the variant (R4). -/
def State.portUnits (s : State) : Nat := if s.dev.rb9212 then 12 else 24

/-- A command on camera port `p`. -/
def onPort (p : Nat) (s : State) (f : Dev → Dev) : Host.Outcome State Fault Refusal := onUnit p s.portUnits s f

/-- PORT_FIRE (R84, R102). -/
def execPortFire (port : Nat) (s : State) : Host.Outcome State Fault Refusal :=
  onPort port s (fun d => d.whileOn pdPos (fun d => d.portFire port))

/-- The hits of LCG `g` that fall due up to time `t`, at most `fuel`. -/
def Dev.hitsUpTo (g t : Nat) : (fuel : Nat) → Dev → Dev
  | 0, d => d
  | n + 1, d =>
    match d.hitReached g with
    | some (r, _) => if (d.lcg g).issueTime r ≤ t then Dev.hitsUpTo g t n (d.hitAndJoin g) else d
    | none => d

/-- An LCG hit comes before any Eyelet of the same slot (R90). -/
def Dev.eyeletAfterHits (d : Dev) (k : Nat) : Dev :=
  match d.eyeDue k with
  | some (t, _) => ((List.range 4).foldl (fun d g => Dev.hitsUpTo g t 4096 d) d).eyeletFire k
  | none => d

/-- EYELET_FIRE (R88, R90). -/
def execEyeletFire (eyelet : Nat) (s : State) : Host.Outcome State Fault Refusal :=
  onUnit eyelet 256 s (fun d => d.whileOn pdPos (fun d => d.eyeletAfterHits eyelet))

/-- ACTION_PULSE_END (R90). -/
def execActionPulseEnd (output : Nat) (s : State) : Host.Outcome State Fault Refusal :=
  onUnit output 16 s (fun d => d.whileOn pdPos (fun d => d.actionPulseEnd output))

/-- LCG_START (R78): LcgRun is written 1. -/
def execLcgStart (ses lcg : Nat) (s : State) : Host.Outcome State Fault Refusal :=
  onUnit lcg 4 s (fun d => d.hostWrite ses (Obj.lcgRun lcg) [1])

/-- LCG_STOP (R78): LcgRun is written 0. -/
def execLcgStop (ses lcg : Nat) (s : State) : Host.Outcome State Fault Refusal :=
  onUnit lcg 4 s (fun d => d.hostWrite ses (Obj.lcgRun lcg) [0])

/-- FAILBACK (R82). -/
def execFailback (ses lcg : Nat) (s : State) : Host.Outcome State Fault Refusal :=
  onUnit lcg 4 s (fun d => d.hostWrite ses (Obj.failback lcg) [1])

/-- EYELET_ARM (R89). -/
def execEyeletArm (ses eyelet : Nat) (s : State) : Host.Outcome State Fault Refusal :=
  onUnit eyelet 256 s (fun d => d.hostWrite ses (Obj.eyArm eyelet) [1])

/-- EYELET_DISARM (R89). -/
def execEyeletDisarm (ses eyelet : Nat) (s : State) : Host.Outcome State Fault Refusal :=
  onUnit eyelet 256 s (fun d => d.hostWrite ses (Obj.eyArm eyelet) [0])

/-- SSI_FRAME (R71). -/
def execSsiFrame (input : Nat) (highBefore lowAfter : Bool) (bits : List Bool) (s : State) : Host.Outcome State Fault Refusal :=
  onUnit input 2 s (fun d => d.ssiFrame input highBefore lowAfter bits)

/-- EVENT_INPUT (R92). -/
def execEventInput (input : Nat) (level : Bool) (s : State) : Host.Outcome State Fault Refusal :=
  onUnit input 8 s (fun d => d.eventInput input level)

end Sys2Proof.Machine
end

