-- ==== Sys2Proof/Machine/ExecIngress.lean ====
section
/-! DEFINITION. The meanings of the commands of camera ingress (R96 to R119). A port works while its Strip die is on. -/

namespace Sys2Proof.Machine

/-- A command on camera port `p` while its Strip die is on. -/
def onLivePort (p : Nat) (s : State) (f : Dev → Dev) : Host.Outcome State Fault Refusal :=
  onPort p s (fun d => d.whileOn (portDomain p) f)

/-- PORT_ENABLE (R99): PortEnable is written 1. -/
def execPortEnable (ses port : Nat) (s : State) : Host.Outcome State Fault Refusal :=
  onUnit port 24 s (fun d => d.hostWrite ses (Obj.portEnable port) [1])

/-- PORT_DISABLE (R99): PortEnable is written 0. -/
def execPortDisable (ses port : Nat) (s : State) : Host.Outcome State Fault Refusal :=
  onUnit port 24 s (fun d => d.hostWrite ses (Obj.portEnable port) [0])

/-- DISCOVERY_TIMEOUT (R99). -/
def execDiscoveryTimeout (port : Nat) (s : State) : Host.Outcome State Fault Refusal :=
  onLivePort port s (fun d => d.discoveryTimeout port)

/-- CAMERA_CONFIGURED (R99, R113). -/
def execCameraConfigured (port : Nat) (accepted : Bool) (s : State) : Host.Outcome State Fault Refusal :=
  onLivePort port s (fun d => d.cameraConfigured port accepted)

/-- FAULT_RETRY (R99). -/
def execFaultRetry (port : Nat) (s : State) : Host.Outcome State Fault Refusal :=
  onLivePort port s (fun d => d.faultRetry port)

/-- HEARTBEAT_TIMEOUT (R99), which may end an acquisition (R134). -/
def execHeartbeatTimeout (port : Nat) (s : State) : Host.Outcome State Fault Refusal :=
  onLivePort port s (fun d => (d.heartbeatTimeout port).acqCheck port)

/-- A command on CXP lane `n` while its Strip die is on. -/
def onLane (n : Nat) (s : State) (f : Dev → Dev) : Host.Outcome State Fault Refusal :=
  onUnit n (8 * s.portUnits) s (fun d => d.whileOn (portDomain (n / 8)) f)

/-- LANE_LOCK (R100). -/
def execLaneLock (lane : Nat) (s : State) : Host.Outcome State Fault Refusal := onLane lane s (fun d => d.laneLocks lane)

/-- LANE_LOCK_LOST (R100), which may end an acquisition (R134). -/
def execLaneLockLost (lane invalid : Nat) (s : State) : Host.Outcome State Fault Refusal :=
  onLane lane s (fun d => (d.laneLockLost lane invalid).acqCheck (lane / 8))

/-- STREAM_PACKET (R107, R111). -/
def execStreamPacket (port lane stream : Nat) (crcOk endOfLine : Bool) (samples : List Nat) (s : State) :
    Host.Outcome State Fault Refusal :=
  if lane / 8 = port then onLivePort port s (fun d => d.streamPacket port lane stream crcOk endOfLine samples)
  else .refused .noSuchUnit

/-- LINE_START (R102). -/
def execLineStart (port stream format : Nat) (s : State) : Host.Outcome State Fault Refusal :=
  onLivePort port s (fun d => d.lineStart port stream format)

/-- WINDOW_EXPIRY (R102). -/
def execWindowExpiry (port : Nat) (s : State) : Host.Outcome State Fault Refusal :=
  onLivePort port s (fun d => d.windowExpiry port)

/-- LINE_DELIVERY (R106, R110, R112). -/
def execLineDelivery (port : Nat) (s : State) : Host.Outcome State Fault Refusal :=
  onLivePort port s (fun d => d.creditedDelivery port)

/-- TRIGGER_ACKNOWLEDGE (R114). -/
def execTriggerAcknowledge (port : Nat) (s : State) : Host.Outcome State Fault Refusal :=
  onLivePort port s (fun d => d.triggerAck port)

/-- ACK_TIMEOUT (R114). -/
def execAckTimeout (port : Nat) (s : State) : Host.Outcome State Fault Refusal :=
  onLivePort port s (fun d => d.ackTimeout port)

/-- FALLING_EDGE_TRIGGER (R114). -/
def execFallingEdgeTrigger (port : Nat) (s : State) : Host.Outcome State Fault Refusal :=
  onLivePort port s (fun d => d.fallingEdge port)

/-- TRIGGER_PULSE_END (R115): the LVDS outputs stand in PD_POS (R20). -/
def execTriggerPulseEnd (port : Nat) (s : State) : Host.Outcome State Fault Refusal :=
  onPort port s (fun d => d.whileOn pdPos (fun d => d.pulseEnd port))

/-- EVENT_PACKET (R96). -/
def execEventPacket (port : Nat) (s : State) : Host.Outcome State Fault Refusal :=
  onLivePort port s (fun d => d.eventPacket port)

/-- CTL_READ (R116): CtlOp is written 1. -/
def execCtlRead (ses port : Nat) (s : State) : Host.Outcome State Fault Refusal :=
  onUnit port 24 s (fun d => d.hostWrite ses (Obj.ctlOp port) [1])

/-- CTL_WRITE (R116): CtlOp is written 2. -/
def execCtlWrite (ses port : Nat) (s : State) : Host.Outcome State Fault Refusal :=
  onUnit port 24 s (fun d => d.hostWrite ses (Obj.ctlOp port) [2])

/-- CONTROL_ACKNOWLEDGE (R116, R137). -/
def execControlAcknowledge (port : Nat) (error : Bool) (data : Bytes) (s : State) : Host.Outcome State Fault Refusal :=
  onLivePort port s (fun d => d.controlAck port error data)

/-- CONTROL_TIMEOUT (R116, R138). -/
def execControlTimeout (port : Nat) (s : State) : Host.Outcome State Fault Refusal :=
  onLivePort port s (fun d => d.controlTimeout port)

/-- MASTER_CONNECTION_ANSWERS (R99, R138). -/
def execMasterConnectionAnswers (port : Nat) (speeds : List Nat) (connections : Nat) (s : State) :
    Host.Outcome State Fault Refusal :=
  onLivePort port s (fun d => d.masterConnection port speeds connections)

end Sys2Proof.Machine
end

