-- ==== Sys2Proof/Machine/ExecEngine.lean ====
section
/-! DEFINITION. The meanings of the commands of the Strip Engines (R120 to R149), memory-path jobs, parameter sets, table banks
and acquisitions among them. -/

namespace Sys2Proof.Machine

/-- A command on the engine side of camera port `p`, while the Strip die of the engine that serves it is on. -/
def onEnginePort (p : Nat) (s : State) (f : Dev → Dev) : Host.Outcome State Fault Refusal :=
  onPort p s (fun d => d.whileOn (engineDomain (d.engineOf p)) f)

/-- ENGINE_LINE_EMIT (R130, R137, R140, R288, R294). -/
def execEngineLineEmit (port : Nat) (s : State) : Host.Outcome State Fault Refusal :=
  onEnginePort port s (fun d => d.engineLineEmit port)

/-- A command on Strip Engine `e` while its Strip die is on. -/
def onEngine (e : Nat) (s : State) (f : Dev → Dev) : Host.Outcome State Fault Refusal :=
  onUnit e 14 s (fun d => d.whileOn (engineDomain e) f)

/-- MP_JOB_START (R145). -/
def execMpJobStart (engine : Nat) (s : State) : Host.Outcome State Fault Refusal :=
  onEngine engine s (fun d => d.jobStart engine)

/-- MP_JOB_END (R145). -/
def execMpJobEnd (engine : Nat) (s : State) : Host.Outcome State Fault Refusal :=
  onEngine engine s (fun d => d.jobEnd engine)

/-- MP_JOB_LATE (R147). -/
def execMpJobLate (port : Nat) (s : State) : Host.Outcome State Fault Refusal :=
  onEnginePort port s (fun d => d.jobIsLate port)

/-- PSET_ARM (R136): PsetArm is written with a parameter set. -/
def execPsetArm (ses port pset : Nat) (s : State) : Host.Outcome State Fault Refusal :=
  if pset < 256 then onUnit port 24 s (fun d => d.hostWrite ses (Obj.psetArm port) [BitVec.ofNat 8 pset])
  else .refused .noSuchUnit

/-- PSET_DISARM (R136): PsetArm is written 0xFF. -/
def execPsetDisarm (ses port : Nat) (s : State) : Host.Outcome State Fault Refusal :=
  onUnit port 24 s (fun d => d.hostWrite ses (Obj.psetArm port) [0xFF])

/-- PSET_PRELOAD_DONE (R136). -/
def execPsetPreloadDone (port : Nat) (s : State) : Host.Outcome State Fault Refusal :=
  onEnginePort port s (fun d => d.psetPreloadDone port)

/-- TABLE_DATA (R133): a part of TableData is written. -/
def execTableData (ses port offset : Nat) (data : Bytes) (s : State) : Host.Outcome State Fault Refusal :=
  onUnit port 24 s (fun d => d.writeFrom ses (0x3080 + port) 0x22 offset data none)

/-- TABLE_SEAL (R133): TableSeal is written 1. -/
def execTableSeal (ses port : Nat) (s : State) : Host.Outcome State Fault Refusal :=
  onUnit port 24 s (fun d => d.hostWrite ses (Obj.tableSeal port) [1])

/-- FF_FLAT (R134): FfMode is written 1. -/
def execFfFlat (ses port : Nat) (s : State) : Host.Outcome State Fault Refusal :=
  onUnit port 24 s (fun d => d.hostWrite ses (Obj.ffMode port) [1])

/-- FF_DARK (R134): FfMode is written 2. -/
def execFfDark (ses port : Nat) (s : State) : Host.Outcome State Fault Refusal :=
  onUnit port 24 s (fun d => d.hostWrite ses (Obj.ffMode port) [2])

/-- ACQUISITION_TIMEOUT (R134). -/
def execAcquisitionTimeout (port : Nat) (s : State) : Host.Outcome State Fault Refusal :=
  onEnginePort port s (fun d => d.acquisitionTimeout port)

end Sys2Proof.Machine
end

