-- ==== Sys2Proof/Machine/ExecView.lean ====
section
/-! DEFINITION. The meanings of the commands of the Web Pipeline (R150 to R202): Skew Buffer, stitcher, segmenter and patch
cropper. They stand on the Hub die. -/

namespace Sys2Proof.Machine

/-- A command on Web View `v` while the Hub die is on. -/
def onView (v : Nat) (s : State) (f : Dev → Dev) : Host.Outcome State Fault Refusal :=
  onUnit v 4 s (fun d => d.whileOn pdHub f)

/-- CORRECTED_LINE_ARRIVAL (R157). -/
def execCorrectedLineArrival (port : Nat) (s : State) : Host.Outcome State Fault Refusal :=
  onPort port s (fun d => d.whileOn pdHub (fun d => d.lineArrival port))

/-- A View's next stitched line, if it can be formed (R157, R166), with what a join makes of it (R317). -/
def Dev.formLine (d : Dev) (v : Nat) : Dev :=
  let n := (d.vw v).next
  let e := d.stitchedLine v
  if (e.vw v).next = n then e else (((e.noteStitched v n).keepSynced v n).syncBufferCheck v).joinCheck

/-- STITCHED_LINE (R157, R166). -/
def execStitchedLine (view : Nat) (s : State) : Host.Outcome State Fault Refusal := onView view s (fun d => d.formLine view)

/-- STITCH_DEADLINE (R160). -/
def execStitchDeadline (view : Nat) (s : State) : Host.Outcome State Fault Refusal :=
  onView view s (fun d => d.stitchDeadline view)

/-- VIEW_ENABLE (R170): ViewEnable is written 1. -/
def execViewEnable (ses view : Nat) (s : State) : Host.Outcome State Fault Refusal :=
  onUnit view 4 s (fun d => d.hostWrite ses (Obj.viewEnable view) [1])

/-- VIEW_DISABLE (R170): ViewEnable is written 0. -/
def execViewDisable (ses view : Nat) (s : State) : Host.Outcome State Fault Refusal :=
  onUnit view 4 s (fun d => d.hostWrite ses (Obj.viewEnable view) [0])

/-- SEGMENT_LINE (R177 to R191, R294), with what a join makes of it (R317). -/
def execSegmentLine (view : Nat) (s : State) : Host.Outcome State Fault Refusal :=
  onView view s (fun d => (d.segmentLine view).joinCheck)

/-- SEG_ENABLE (R178): SegEnable is written 1. -/
def execSegEnable (ses view : Nat) (s : State) : Host.Outcome State Fault Refusal :=
  onUnit view 4 s (fun d => d.hostWrite ses (Obj.segEnable view) [1])

/-- SEG_DISABLE (R187): SegEnable is written 0. -/
def execSegDisable (ses view : Nat) (s : State) : Host.Outcome State Fault Refusal :=
  onUnit view 4 s (fun d => d.hostWrite ses (Obj.segEnable view) [0])

/-- BG_RESET (R178): BgReset is written 1. -/
def execBgReset (ses view : Nat) (s : State) : Host.Outcome State Fault Refusal :=
  onUnit view 4 s (fun d => d.hostWrite ses (Obj.bgReset view) [1])

/-- PATCH_CUT (R198 to R200). -/
def execPatchCut (view : Nat) (s : State) : Host.Outcome State Fault Refusal := onView view s (fun d => d.patchCut view)

end Sys2Proof.Machine
end

