-- ==== Sys2Proof/Machine/ExecClassify.lean ====
section
/-! DEFINITION. The meanings of the commands of the classifier (R203 to R237) and of array calibration (R260 to R282). The
queues stand on the Hub die, the arrays on the Classifier die. -/

namespace Sys2Proof.Machine

/-- CLASSIFIER_REQUEST (R227, R228). -/
def execClassifierRequest (view : Nat) (s : State) : Host.Outcome State Fault Refusal :=
  onView view s (fun d => d.classifierRequest view)

/-- MVP_COMPLETE (R210, R211, R223). The operands give what a fault of the array does to its codes and checksums. -/
def execMvpComplete (array : Nat) (err : List Int) (errEven errOdd : Int) (s : State) : Host.Outcome State Fault Refusal :=
  onUnit array 72 s (fun d => d.mvpComplete array err errEven errOdd)

/-- SHED_TIMEOUT (R229). -/
def execShedTimeout (view candSeq : Nat) (s : State) : Host.Outcome State Fault Refusal :=
  onView view s (fun d => d.shedTimeout view candSeq)

/-- RESULT_LEAVE (R230), with the comparison of a standby (R316). -/
def execResultLeave (view : Nat) (s : State) : Host.Outcome State Fault Refusal :=
  onView view s (fun d =>
    match d.flights view with
    | [] => d
    | f :: _ => (d.resultLeave view).compareResults view f.cand.candSeq)

/-- RETIRE (R222): Retire of an array is written 1. -/
def execRetire (ses array : Nat) (s : State) : Host.Outcome State Fault Refusal :=
  onUnit array 72 s (fun d => d.hostWrite ses (Obj.arrayRetire array) [1])

/-- SPARE_PROGRAMMED (R223). -/
def execSpareProgrammed (array : Nat) (s : State) : Host.Outcome State Fault Refusal :=
  onUnit array 72 s (fun d => d.whileOn pdCls (fun d => d.spareProgrammed array))

/-- MODEL_LOAD (R216): ModelLoad is written 1. -/
def execModelLoad (ses slot : Nat) (s : State) : Host.Outcome State Fault Refusal :=
  onUnit slot 2 s (fun d => d.hostWrite ses (Obj.modelLoad slot) [1])

/-- MODEL_LOAD_COMPLETE (R216), and the column moves that the load held up (R268). -/
def execModelLoadComplete (slot : Nat) (s : State) : Host.Outcome State Fault Refusal :=
  onUnit slot 2 s (fun d => d.whileOn pdCls (fun d => (d.modelLoadComplete slot).heldMoves.nextLoad))

/-- MODEL_UNLOAD (R234): ModelUnload is written 1. -/
def execModelUnload (ses slot : Nat) (s : State) : Host.Outcome State Fault Refusal :=
  onUnit slot 2 s (fun d => d.hostWrite ses (Obj.modelUnload slot) [1])

/-- CAL_START (R269): CalStart is written with an array, or 0xFF. -/
def execCalStart (ses array : Nat) (s : State) : Host.Outcome State Fault Refusal :=
  onUnit array 256 s (fun d => d.hostWrite ses Obj.calStart [BitVec.ofNat 8 array])

/-- CAL_INTERVAL (R269). -/
def execCalInterval (array : Nat) (s : State) : Host.Outcome State Fault Refusal :=
  onUnit array 72 s (fun d => d.whileOn pdHub (fun d => d.calInterval array))

/-- TEMPERATURE_CHANGE (R269). -/
def execTemperatureChange (tenths : Int) (s : State) : Host.Outcome State Fault Refusal :=
  onDev s (fun d => d.whileOn pdHub (fun d => d.temperatureChange tenths))

/-- ARRAY_CALIBRATION_START (R262, R270). -/
def execArrayCalibrationStart (s : State) : Host.Outcome State Fault Refusal := onDev s (fun d => d.calibrationStart)

/-- ARRAY_CALIBRATION_COMPLETE (R264 to R268, R273). -/
def execArrayCalibrationComplete (passes : List (List ColumnSums)) (s : State) : Host.Outcome State Fault Refusal :=
  onDev s (fun d => d.whileOn pdHub (fun d => d.calibrationComplete passes))

/-- RAMP_STEP (R272). -/
def execRampStep (s : State) : Host.Outcome State Fault Refusal := onDev s (fun d => d.whileOn pdCls (fun d => d.rampStep))

/-- REFERENCE_CHECK (R261). -/
def execReferenceCheck (bg0 bg1 reference : Int) (s : State) : Host.Outcome State Fault Refusal :=
  onDev s (fun d => d.referenceCheck bg0 bg1 reference)

/-- CAL_RECORD_LOAD (R279): CalRecordLoad is written 1. -/
def execCalRecordLoad (ses : Nat) (s : State) : Host.Outcome State Fault Refusal :=
  onDev s (fun d => d.hostWrite ses Obj.calRecordLoad [1])

end Sys2Proof.Machine
end

