-- ==== Sys2Proof/Machine/ExecPublish.lean ====
section
/-! DEFINITION. The meanings of the commands of publishing (R238 to R257) and of launch (R358 to R360), on the Hub die. -/

namespace Sys2Proof.Machine

/-- A command of the Hub die: without effect while the Hub is off. -/
def onHub (s : State) (f : Dev → Dev) : Host.Outcome State Fault Refusal := onDev s (fun d => d.whileOn pdHub f)

/-- RECORD_RELEASE (R238, R242, R246, R249). -/
def execRecordRelease (s : State) : Host.Outcome State Fault Refusal := onHub s (fun d => d.recordRelease)

/-- LV_FLUSH (R245). -/
def execLvFlush (channel : Nat) (s : State) : Host.Outcome State Fault Refusal :=
  onUnit channel 64 s (fun d => d.whileOn pdHub (fun d => d.lvFlushDue channel))

/-- LV_ENABLE (R243): LvEnable is written 1. -/
def execLvEnable (ses channel : Nat) (s : State) : Host.Outcome State Fault Refusal :=
  onUnit channel 64 s (fun d => d.hostWrite ses (Obj.lvEnable channel) [1])

/-- STALL_CLAIM (R248): StallClaim is written 1. -/
def execStallClaim (ses stall : Nat) (s : State) : Host.Outcome State Fault Refusal :=
  onUnit stall 512 s (fun d => d.hostWrite ses (Obj.stallClaim stall) [1])

/-- STALL_OPEN (R248): StallOpen is written 1. -/
def execStallOpen (ses stall : Nat) (s : State) : Host.Outcome State Fault Refusal :=
  onUnit stall 512 s (fun d => d.hostWrite ses (Obj.stallOpen stall) [1])

/-- STALL_CLOSE (R248): StallClose is written 1. -/
def execStallClose (ses stall : Nat) (s : State) : Host.Outcome State Fault Refusal :=
  onUnit stall 512 s (fun d => d.hostWrite ses (Obj.stallClose stall) [1])

/-- A write of a number of `bytes` bytes to an object; no such write can carry a larger number. -/
def writeNat (ses key bytes value : Nat) (s : State) : Host.Outcome State Fault Refusal :=
  if value < 256 ^ bytes then onDev s (fun d => d.hostWrite ses key (natLE bytes value)) else .refused .noSuchUnit

/-- PATCH_FETCH (R242): PatchFetch is written. -/
def execPatchFetch (ses stall value : Nat) (s : State) : Host.Outcome State Fault Refusal :=
  if stall < 512 then writeNat ses (Obj.patchFetch stall) 8 value s else .refused .noSuchUnit

/-- CREDIT_LIMIT (R251): CreditLimit is written. -/
def execCreditLimit (ses stall value : Nat) (s : State) : Host.Outcome State Fault Refusal :=
  if stall < 512 then writeNat ses (Obj.creditLimit stall) 8 value s else .refused .noSuchUnit

/-- STALL_FLUSH (R251). -/
def execStallFlush (stall : Nat) (s : State) : Host.Outcome State Fault Refusal :=
  onUnit stall 512 s (fun d => d.whileOn pdHub (fun d => d.stallFlushDue stall))

/-- DATAGRAM_SEND (R251 to R254); a taker's first datagram ends the interruption (R312). -/
def execDatagramSend (transport : Nat) (s : State) : Host.Outcome State Fault Refusal :=
  onUnit transport transports s (fun d => d.whileOn pdHub (fun d => (d.datagramSend transport).noteResumed))

/-- LAUNCH (R358, R359); a taker's first datagram ends the interruption (R312). -/
def execLaunch (port : Nat) (s : State) : Host.Outcome State Fault Refusal :=
  onUnit port 6 s (fun d => d.whileOn pdHub (fun d => (d.launchNow port).noteResumed))

end Sys2Proof.Machine
end

