-- ==== Sys2Proof/Machine/ExecFaults.lean ====
section
/-! DEFINITION. The meanings of the commands of the Cobbler (R283 to R292): memory errors, residue and parity errors, engine
repair, deadlines. -/

namespace Sys2Proof.Machine

/-- A command about a word of SRAM buffer `code`, while the buffer's domain is on. -/
def onBuffer (code unit : Nat) (s : State) (f : Dev → Dev) : Host.Outcome State Fault Refusal :=
  onDev s (fun d => d.whileOn (bufferDomain code unit) f)

/-- CORRECTED_ERROR (R284). -/
def execCorrectedError (buffer unit row : Nat) (s : State) : Host.Outcome State Fault Refusal :=
  onBuffer buffer unit s (fun d => d.correctedError buffer unit row)

/-- ROW_REPLACEMENT (R284). -/
def execRowReplacement (buffer unit row : Nat) (s : State) : Host.Outcome State Fault Refusal :=
  onBuffer buffer unit s (fun d => d.rowReplacement buffer unit row)

/-- UNCORRECTABLE_ERROR (R285). The row of the word is taken to follow from the item that it belongs to. -/
def execUncorrectableError (buffer unit item : Nat) (s : State) : Host.Outcome State Fault Refusal :=
  onBuffer buffer unit s (fun d => d.uncorrectable buffer unit item item)

/-- RESIDUE_ERROR (R286, R291). -/
def execResidueError (block unit : Nat) (s : State) : Host.Outcome State Fault Refusal :=
  onDev s (fun d => d.residueError block unit)

/-- PARITY_ERROR (R286). -/
def execParityError (block unit : Nat) (both : Bool) (s : State) : Host.Outcome State Fault Refusal :=
  onDev s (fun d => d.whileOn 0 (fun d => d.parityError block unit both))

/-- REPLACEMENT_ACCEPTS_INPUT (R291). -/
def execReplacementAcceptsInput (engine : Nat) (s : State) : Host.Outcome State Fault Refusal :=
  onEngine engine s (fun d => d.replacementAccepts engine)

/-- ENGINE_RETIRE (R292): EngineRetire is written with an engine. -/
def execEngineRetire (ses engine : Nat) (s : State) : Host.Outcome State Fault Refusal := writeNat ses Obj.engineRetire 1 engine s

/-- DEADLINE_FAULT (R289, R290). -/
def execDeadlineFault (view monitor : Nat) (s : State) : Host.Outcome State Fault Refusal :=
  if monitor < 4 then onView view s (fun d => d.deadlineFault view monitor) else .refused .noSuchUnit

end Sys2Proof.Machine
end

