-- ==== Sys2Proof/Machine/ExecPair.lean ====
section
/-! DEFINITION. The meanings of the commands of pair operation (R304 to R320). -/

namespace Sys2Proof.Machine

/-- PAIR_ENABLE (R306): PairEnable is written 1. -/
def execPairEnable (ses : Nat) (s : State) : Host.Outcome State Fault Refusal :=
  onDev s (fun d => d.hostWrite ses Obj.pairEnable [1])

/-- PAIR_DISABLE (R306): PairEnable is written 0. -/
def execPairDisable (ses : Nat) (s : State) : Host.Outcome State Fault Refusal :=
  onDev s (fun d => d.hostWrite ses Obj.pairEnable [0])

/-- KARYLVO_LINK_UP (R305, R317). -/
def execKarylvoLinkUp (partner : PartnerHello) (s : State) : Host.Outcome State Fault Refusal :=
  onHub s (fun d => d.karylvoLinkUp partner)

/-- HEARTBEAT_SEND (R305). -/
def execHeartbeatSend (s : State) : Host.Outcome State Fault Refusal := onHub s (fun d => d.heartbeatSend)

/-- MIRROR_FRAME (R305, R313, R316, R317). -/
def execMirrorFrame (item : MirrorItem) (s : State) : Host.Outcome State Fault Refusal := onHub s (fun d => d.mirrorFrame item)

/-- SEEK_ACTIVATE (R307). -/
def execSeekActivate (s : State) : Host.Outcome State Fault Refusal := onHub s (fun d => d.seekActivate)

/-- PEER_RESAMPLE (R307). -/
def execPeerResample (peerHigh : Bool) (s : State) : Host.Outcome State Fault Refusal := onHub s (fun d => d.peerResample peerHigh)

/-- PAIR_SWITCH (R308): PairSwitch is written 1. -/
def execPairSwitch (ses : Nat) (s : State) : Host.Outcome State Fault Refusal :=
  onDev s (fun d => d.hostWrite ses Obj.pairSwitch [1])

/-- PAIR_YIELD (R309): the position unit yields by itself. -/
def execPairYield (s : State) : Host.Outcome State Fault Refusal := onDev s (fun d => d.whileOn pdPos (fun d => d.pairYieldPin))

/-- PAIR_PEER_FALL (R310). -/
def execPairPeerFall (s : State) : Host.Outcome State Fault Refusal := onDev s (fun d => d.whileOn 0 (fun d => d.pairPeerFall))

/-- HB_TIMEOUT (R310). -/
def execHbTimeout (s : State) : Host.Outcome State Fault Refusal := onHub s (fun d => d.hbTimeoutDue)

/-- LINK_JUDGED_DOWN (R310). -/
def execLinkJudgedDown (s : State) : Host.Outcome State Fault Refusal := onHub s (fun d => d.linkJudgedDown)

/-- GAP_REFIRE (R311). -/
def execGapRefire (s : State) : Host.Outcome State Fault Refusal := onHub s (fun d => d.gapRefire)

/-- PUBLISHING_RESUME (R312). -/
def execPublishingResume (s : State) : Host.Outcome State Fault Refusal := onHub s (fun d => d.publishingResume)

/-- DIGEST_VERDICT (R315). -/
def execDigestVerdict (view strip : Nat) (s : State) : Host.Outcome State Fault Refusal :=
  onView view s (fun d => d.digestVerdict view strip)

/-- JOIN_RETRY (R317). -/
def execJoinRetry (partner : PartnerHello) (s : State) : Host.Outcome State Fault Refusal := onHub s (fun d => d.joinRetry partner)

/-- CAPTURED_STATE_INSTALL (R317). -/
def execCapturedStateInstall (view : Nat) (state : Captured) (s : State) : Host.Outcome State Fault Refusal :=
  onView view s (fun d => d.installCaptured view state)

/-- KARYLVO_LINK_LOST (R306). -/
def execKarylvoLinkLost (s : State) : Host.Outcome State Fault Refusal := onHub s (fun d => d.karylvoLinkLost)

end Sys2Proof.Machine
end

