-- ==== Sys2Proof/Machine/ExecMemory.lean ====
section
/-! DEFINITION. The meanings of the commands of the HBM controllers (R321 to R343). -/

namespace Sys2Proof.Machine

/-- A command on pseudo-channel `pc` while its stack is on. -/
def onPc (pc : Nat) (s : State) (f : Dev → Dev) : Host.Outcome State Fault Refusal :=
  onUnit pc 64 s (fun d => d.whileOn (if pc < 32 then 7 else 8) f)

/-- REFRESH_DEBT (R324, R325): banks 0 to 47 of a real-time pseudo-channel; bank 0 stands for a bulk one. -/
def execRefreshDebt (pc bank : Nat) (s : State) : Host.Outcome State Fault Refusal :=
  if bank < 48 then onPc pc s (fun d => d.refreshDebt pc bank) else .refused .noSuchUnit

/-- COMMAND_SLOT (R325 to R328). -/
def execCommandSlot (pc : Nat) (s : State) : Host.Outcome State Fault Refusal := onPc pc s (fun d => d.commandSlot pc)

/-- PAGE_IDLE (R326). -/
def execPageIdle (pc bank : Nat) (s : State) : Host.Outcome State Fault Refusal :=
  if bank < 48 then onPc pc s (fun d => d.pageIdle pc bank) else .refused .noSuchUnit

/-- TRAINING_COMPLETE (R329). -/
def execTrainingComplete (stack : Nat) (margins : List (Nat × Nat)) (s : State) : Host.Outcome State Fault Refusal :=
  onUnit stack 2 s (fun d => d.whileOn pdHub (fun d => d.trainingComplete stack margins))

/-- RETRAIN (R330). -/
def execRetrain (pc : Nat) (s : State) : Host.Outcome State Fault Refusal := onPc pc s (fun d => d.retrain pc)

/-- RETRAIN_STEP (R330, R336). -/
def execRetrainStep (pc marginH marginV : Nat) (s : State) : Host.Outcome State Fault Refusal :=
  onPc pc s (fun d => d.retrainStep pc marginH marginV)

/-- PATROL_SCRUB (R322, R335). -/
def execPatrolScrub (pc : Nat) (s : State) : Host.Outcome State Fault Refusal := onPc pc s (fun d => d.patrolScrub pc)

/-- HBM_ECC_ERROR (R335, R336): an error at an offset in a pseudo-channel. -/
def execHbmEccError (pc offset : Nat) (corrected : Bool) (s : State) : Host.Outcome State Fault Refusal :=
  if offset < pcBytes then onPc pc s (fun d => d.hbmEccError pc offset corrected) else .refused .noSuchUnit

/-- PC_FENCE (R336): PcFence is written 1. -/
def execPcFence (ses pc : Nat) (s : State) : Host.Outcome State Fault Refusal :=
  onUnit pc 64 s (fun d => d.hostWrite ses (Obj.pcFence pc) [1])

/-- REFRESH_RATE_CHANGE (R324). -/
def execRefreshRateChange (stack : Nat) (tenths : Int) (s : State) : Host.Outcome State Fault Refusal :=
  onUnit stack 2 s (fun d => d.whileOn (7 + stack) (fun d => d.refreshRate stack tenths))

end Sys2Proof.Machine
end

