-- ==== Sys2Proof/Machine/ExecNetwork.lean ====
section
/-! DEFINITION. The meanings of the commands of the network ports, the PTP domains and WebTime (R344 to R363). -/

namespace Sys2Proof.Machine

/-- A received frame: counted and answered by the port, and a TOL frame handed on (R344). -/
def Dev.ethernetFrame (d : Dev) (q : Nat) (f : EthFrame) : Dev :=
  match d.ethernetRx q f with
  | (d, some (t, service, payload)) => d.tolReceive t service payload
  | (d, none) => d

/-- ETHERNET_FRAME (R344). -/
def execEthernetFrame (port : Nat) (frame : EthFrame) (s : State) : Host.Outcome State Fault Refusal :=
  onUnit port 6 s (fun d => d.ethernetFrame port frame)

/-- LINK_UP_DOWN (R344). -/
def execLinkUpDown (port : Nat) (up : Bool) (s : State) : Host.Outcome State Fault Refusal :=
  onUnit port 6 s (fun d => d.linkUpDown port up)

/-- SYNC (R348, R349, R351). -/
def execSync (port : Nat) (head : PtpHead) (frac : Nat) (master : Bytes) (t1 correction logInterval : Int) (s : State) :
    Host.Outcome State Fault Refusal :=
  onUnit port 6 s (fun d => d.syncMessage port head frac master t1 correction logInterval)

/-- DELAY_RESP (R348, R349). -/
def execDelayResp (port : Nat) (head : PtpHead) (frac : Nat) (master : Bytes) (reply : DelayReply) (correction : Int) (s : State) :
    Host.Outcome State Fault Refusal :=
  onUnit port 6 s (fun d => d.delayResp port head frac master reply correction)

/-- ANNOUNCE (R347). -/
def execAnnounce (msg : AnnounceMsg) (s : State) : Host.Outcome State Fault Refusal :=
  onUnit msg.port 6 s (fun d => d.announce msg)

/-- DELAY_REQ (R349). -/
def execDelayReq (domain port : Nat) (s : State) : Host.Outcome State Fault Refusal :=
  if port < 6 then onUnit domain 2 s (fun d => d.delayReq domain port) else .refused .noSuchUnit

/-- DOMAIN_LOST (R356). -/
def execDomainLost (domain : Nat) (s : State) : Host.Outcome State Fault Refusal :=
  onUnit domain 2 s (fun d => d.domainLost domain)

/-- HOLDOVER (R352). -/
def execHoldover (s : State) : Host.Outcome State Fault Refusal := onDev s (fun d => d.whileOn pdNet (fun d => d.holdover))

/-- HOLDOVER_LIMIT (R352). -/
def execHoldoverLimit (s : State) : Host.Outcome State Fault Refusal :=
  onDev s (fun d => d.whileOn pdNet (fun d => d.holdoverLimitDue))

/-- TIME_STEP (R353): TimeStep is written, a signed number of ns in 64 bits. -/
def execTimeStep (ses : Nat) (ns : Int) (s : State) : Host.Outcome State Fault Refusal :=
  if -(2 ^ 63) ≤ ns ∧ ns < 2 ^ 63 then onDev s (fun d => d.hostWrite ses Obj.timeStep (natLE 8 (ofSigned 64 ns)))
  else .refused .noSuchUnit

/-- SELECTED_DOMAIN (R356): SelectedDomain is written. -/
def execSelectedDomain (ses domain : Nat) (s : State) : Host.Outcome State Fault Refusal :=
  writeNat ses Obj.selectedDomain 1 domain s

/-- GRATUITOUS_ARP (R346). -/
def execGratuitousArp (port : Nat) (s : State) : Host.Outcome State Fault Refusal :=
  onUnit port 6 s (fun d => d.gratuitousArp port)

end Sys2Proof.Machine
end

