-- ==== Sys2Proof/Machine/ExecDma.lean ====
section
/-! DEFINITION. The meanings of the commands of the DMA channels and the compression engines (R365 to R389), on the Hub die. -/

namespace Sys2Proof.Machine

/-- A command on DMA channel `c` while the Hub die is on. -/
def onChan (c : Nat) (s : State) (f : Dev → Dev) : Host.Outcome State Fault Refusal :=
  onUnit c 64 s (fun d => d.whileOn pdHub f)

/-- CHAN_START (R372): ChanStart is written 1. -/
def execChanStart (ses channel : Nat) (s : State) : Host.Outcome State Fault Refusal :=
  onUnit channel 64 s (fun d => d.hostWrite ses (Obj.chanStart channel) [1])

/-- CHAN_KICK (R372): ChanKick is written 1. -/
def execChanKick (ses channel : Nat) (s : State) : Host.Outcome State Fault Refusal :=
  onUnit channel 64 s (fun d => d.hostWrite ses (Obj.chanKick channel) [1])

/-- CHAN_ABORT (R372): ChanAbort is written 1. -/
def execChanAbort (ses channel : Nat) (s : State) : Host.Outcome State Fault Refusal :=
  onUnit channel 64 s (fun d => d.hostWrite ses (Obj.chanAbort channel) [1])

/-- CHAN_IRQ_ACK (R376): ChanIrqAck is written. -/
def execChanIrqAck (ses channel bits : Nat) (s : State) : Host.Outcome State Fault Refusal :=
  if channel < 64 then writeNat ses (Obj.chanIrqAck channel) 1 bits s else .refused .noSuchUnit

/-- EOC_ACK (R377): EocAck is written 1. -/
def execEocAck (ses channel : Nat) (s : State) : Host.Outcome State Fault Refusal :=
  onUnit channel 64 s (fun d => d.hostWrite ses (Obj.eocAck channel) [1])

/-- DESCRIPTOR_FETCH (R366 to R369). The operands give the answer of the host, where the descriptor stands in host space. -/
def execDescriptorFetch (channel : Nat) (hostOk : Bool) (hostData : Bytes) (s : State) : Host.Outcome State Fault Refusal :=
  onChan channel s (fun d => d.descriptorFetch channel hostOk hostData)

/-- BURST (R370, R373, R379). -/
def execBurst (channel : Nat) (hostOk : Bool) (hostData : Bytes) (eccBad : Bool) (s : State) :
    Host.Outcome State Fault Refusal :=
  onChan channel s (fun d => d.burst channel hostOk hostData eccBad)

/-- DESCRIPTOR_END (R371, R376). -/
def execDescriptorEnd (channel : Nat) (writeBackOk : Bool) (s : State) : Host.Outcome State Fault Refusal :=
  onChan channel s (fun d => d.descriptorEnd channel writeBackOk)

/-- PACE_EVENT (R374). -/
def execPaceEvent (channel : Nat) (s : State) : Host.Outcome State Fault Refusal := onChan channel s (fun d => d.paceEvent channel)

/-- PACE_TIMER_TICK (R374). -/
def execPaceTimerTick (channel : Nat) (s : State) : Host.Outcome State Fault Refusal :=
  onChan channel s (fun d => d.paceTick channel)

/-- COMPRESS_BLOCK (R380, R383). -/
def execCompressBlock (channel : Nat) (hostData : Bytes) (s : State) : Host.Outcome State Fault Refusal :=
  onChan channel s (fun d => d.compressStep channel hostData)

/-- DECOMPRESS_BLOCK (R380, R382). -/
def execDecompressBlock (channel : Nat) (hostData : Bytes) (s : State) : Host.Outcome State Fault Refusal :=
  onChan channel s (fun d => d.decompressStep channel hostData)

/-- POWER_DRAIN_TIMEOUT (R378): `domain` is a memory stack, 7 or 8, or PD_PCIE, 10. -/
def execPowerDrainTimeout (domain : Nat) (s : State) : Host.Outcome State Fault Refusal :=
  onUnit domain 11 s (fun d => d.whileOn pdHub (fun d => d.drainTimeout domain))

end Sys2Proof.Machine
end

