-- ==== Sys2Proof/Machine/ExecHost.lean ====
section
/-! DEFINITION. The meanings of the commands of the PCI Express endpoint and the two-wire buses (R390 to R410). -/

namespace Sys2Proof.Machine

/-- A doorbell: the frame in the host-to-device buffer is handed to the TOL server, or discarded (R393, R394). -/
def Dev.doorbell (d : Dev) (length : Nat) : Dev :=
  match d.mbxDoorbell length with
  | (d, some frame) => d.tolReceive 0 false frame
  | (d, none) => d

/-- MBX_H2D_LENGTH (R393, R394): the host writes a frame into its buffer, then the length. -/
def execMbxH2dLength (length : Nat) (frame : Bytes) (s : State) : Host.Outcome State Fault Refusal :=
  onDev s (fun d => (d.mbxH2dPut 0 (frame.take 4096)).doorbell length)

/-- MBX_D2H_ACK (R393). -/
def execMbxD2hAck (s : State) : Host.Outcome State Fault Refusal := onDev s (fun d => d.mbxAck)

/-- RING_CTL (R395, R397): a write of a register of a ring, by its offset. -/
def execRingCtl (ring register : Nat) (write : RegWrite) (s : State) : Host.Outcome State Fault Refusal :=
  onUnit ring 64 s (fun d => d.ringWrite ring register write)

/-- RING_HEAD (R396). -/
def execRingHead (ring value : Nat) (s : State) : Host.Outcome State Fault Refusal :=
  onUnit ring 64 s (fun d => d.ringHead ring value)

/-- MSIX_UNMASK (R398). -/
def execMsixUnmask (write : MsixWrite) (s : State) : Host.Outcome State Fault Refusal :=
  match write with
  | .vector v _ => onUnit v 256 s (fun d => d.msixUnmask write)
  | .control _ _ => onDev s (fun d => d.msixUnmask write)

/-- BAR2_ACCESS (R391). -/
def execBar2Access (address : Nat) (write : Bool) (data : Bytes) (tlp : BarTlp) (s : State) : Host.Outcome State Fault Refusal :=
  onDev s (fun d => d.bar2Access address write data tlp)

/-- A write of one 32-bit word of a register of BAR0; a register that takes no value keeps its own (R392). -/
def Dev.bar0Word (d : Dev) (a value : Nat) : Dev :=
  if a = 0 then d.doorbell (value % 2 ^ 13)
  else if a = 0x0C then d.mbxAck
  else if 0x20000 ≤ a ∧ a < 0x21000 then d.msixTableWord ((a - 0x20000) / 16) (a % 16 / 4) value
  else d

/-- A write into the map of BAR0 (R392). -/
def Dev.bar0Put (d : Dev) (a : Nat) (bs : Bytes) : Dev :=
  if 0x1000 ≤ a ∧ a < 0x2000 then d.mbxH2dPut (a - 0x1000) bs
  else if 0x2000 ≤ a ∧ a < 0x3000 then
    d.updHost (fun h => { h with mbx := { h.mbx with d2hBuf := bufPut h.mbx.d2hBuf (a - 0x2000) bs } })
  else if 0x10000 ≤ a ∧ a < 0x11000 then
    d.ringWrite ((a - 0x10000) / 64) (a % 64) (if bs.length = 8 then .w64 (leNat bs) else .w32 (leNat bs))
  else
    let d := d.bar0Word a (leNat (bs.take 4))
    if bs.length = 8 then d.bar0Word (a + 4) (leNat (bs.drop 4)) else d

/-- An access of the host to BAR0 (R392): one outside the map or malformed reads as all ones, writes nothing and is counted. -/
def Dev.bar0Access (d : Dev) (a : Nat) (access : BarAccess) : Dev :=
  if ! d.domOn pdPcie then d
  else match access with
    | .read n => if bar0Bad a n then d.badAccess.emit (.bar (List.replicate n 0xFF))
      else d.emit (.bar ((List.range n).map (fun i => d.bar0Byte (a + i))))
    | .write bs => if bar0Bad a bs.length then d.badAccess else d.bar0Put a bs

/-- BAR0_BAD_ACCESS (R392). -/
def execBar0BadAccess (address : Nat) (access : BarAccess) (s : State) : Host.Outcome State Fault Refusal :=
  onDev s (fun d => d.bar0Access address access)

/-- FUNCTION_LEVEL_RESET (R399). -/
def execFunctionLevelReset (s : State) : Host.Outcome State Fault Refusal := onDev s (fun d => d.functionReset)

/-- A fundamental reset acts as a function level reset does and takes the link down, which trains again after it (R433). -/
def Dev.perst (d : Dev) (low : Bool) : Dev :=
  if low && d.domOn pdPcie then
    let d := d.resetEndpoint
    if d.nat Obj.pcieSpeed = 0 then d else d.pcieLink 0 0
  else d

/-- PCIE_PERST (R433). -/
def execPciePerst (low : Bool) (s : State) : Host.Outcome State Fault Refusal := onDev s (fun d => d.perst low)

/-- PCIE_LINK_UP_DOWN (R390, R434). -/
def execPcieLinkUpDown (speed width : Nat) (s : State) : Host.Outcome State Fault Refusal :=
  onDev s (fun d => d.pcieLink speed width)

/-- AER_UNCORRECTABLE_ERROR (R390). -/
def execAerUncorrectableError (s : State) : Host.Outcome State Fault Refusal := onDev s (fun d => d.aerError)

/-- A write of TwcOp of two-wire controller `k`; `bus` gives the answer of the bus where it is free (R401). -/
def twcWriteOp (ses k : Nat) (op : Byte) (bus : Option BusReply) (s : State) : Host.Outcome State Fault Refusal :=
  onUnit k 2 s (fun d => d.writeFrom ses (0x5D00 + k) 0x07 0 [op] bus)

/-- TWC_WRITE (R401). -/
def execTwcWrite (ses controller : Nat) (bus : Option BusReply) (s : State) : Host.Outcome State Fault Refusal :=
  twcWriteOp ses controller 1 bus s

/-- TWC_READ (R401). -/
def execTwcRead (ses controller : Nat) (bus : Option BusReply) (s : State) : Host.Outcome State Fault Refusal :=
  twcWriteOp ses controller 2 bus s

/-- TWC_WRITE_READ (R401). -/
def execTwcWriteRead (ses controller : Nat) (bus : Option BusReply) (s : State) : Host.Outcome State Fault Refusal :=
  twcWriteOp ses controller 3 bus s

/-- A command on two-wire controller `k` while the Hub die is on. -/
def onTwc (k : Nat) (s : State) (f : Dev → Dev) : Host.Outcome State Fault Refusal :=
  onUnit k 2 s (fun d => d.whileOn pdHub f)

/-- BUS_FREE (R402). -/
def execBusFree (controller : Nat) (bus : BusReply) (s : State) : Host.Outcome State Fault Refusal :=
  onTwc controller s (fun d => d.busFree controller bus)

/-- BUS_CLEAR (R404). -/
def execBusClear (controller pulses : Nat) (bus : BusReply) (s : State) : Host.Outcome State Fault Refusal :=
  onTwc controller s (fun d => d.busClear controller pulses bus)

/-- SCL_TIMEOUT (R401, R404). -/
def execSclTimeout (controller : Nat) (s : State) : Host.Outcome State Fault Refusal :=
  onTwc controller s (fun d => d.sclTimeout controller)

/-- TWT_ADDRESS (R405, R407). -/
def execTwtAddress (address : Nat) (read : Bool) (count : Nat) (s : State) : Host.Outcome State Fault Refusal :=
  onHub s (fun d => d.twtAddress address read count)

/-- TWT_COMMIT (R405 to R407). -/
def execTwtCommit (bytes : Bytes) (brokenByte : Option Nat) (s : State) : Host.Outcome State Fault Refusal :=
  onHub s (fun d => d.twtCommit bytes brokenByte)

/-- TWT_TIMEOUT (R406). -/
def execTwtTimeout (bytes : Nat) (s : State) : Host.Outcome State Fault Refusal := onHub s (fun d => d.twtTimeoutEvent bytes)

end Sys2Proof.Machine
end

