-- ==== Sys2Proof/Machine/ExecFirmware.lean ====
section
/-! DEFINITION. The meanings of the commands of firmware, settings and attestation (R411 to R430), of start-up, reset and the
supplies (R431 to R438, R454), and of the power domains (R439 to R443). -/

namespace Sys2Proof.Machine

/-- FW_DATA (R416): a part of FwData is written. -/
def execFwData (ses offset : Nat) (data : Bytes) (s : State) : Host.Outcome State Fault Refusal :=
  onDev s (fun d => d.writeFrom ses 0x6000 0x05 offset data none)

/-- FW_VERIFY (R417): FwVerify is written 1. -/
def execFwVerify (ses : Nat) (s : State) : Host.Outcome State Fault Refusal :=
  onDev s (fun d => d.hostWrite ses Obj.fwVerify [1])

/-- FW_ACTIVATE (R418, R419): FwActivate is written 1. -/
def execFwActivate (ses : Nat) (s : State) : Host.Outcome State Fault Refusal :=
  onDev s (fun d => d.hostWrite ses Obj.fwActivate [1])

/-- FW_CONFIRM (R420): FwConfirm is written 1. -/
def execFwConfirm (ses : Nat) (s : State) : Host.Outcome State Fault Refusal :=
  onDev s (fun d => d.hostWrite ses Obj.fwConfirm [1])

/-- TRIAL_TIMEOUT (R421). -/
def execTrialTimeout (s : State) : Host.Outcome State Fault Refusal := onHub s (fun d => d.trialTimeout)

/-- FW_REVERT (R422): FwRevert is written 1. -/
def execFwRevert (ses : Nat) (s : State) : Host.Outcome State Fault Refusal :=
  onDev s (fun d => d.hostWrite ses Obj.fwRevert [1])

/-- SETTINGS_SAVE (R425): SettingsSave is written 1. -/
def execSettingsSave (ses : Nat) (s : State) : Host.Outcome State Fault Refusal :=
  onDev s (fun d => d.hostWrite ses Obj.settingsSave [1])

/-- ATTEST_NONCE (R427): AttestNonce is written. -/
def execAttestNonce (ses : Nat) (nonce : Bytes) (s : State) : Host.Outcome State Fault Refusal :=
  onDev s (fun d => d.hostWrite ses Obj.attestNonce nonce)

/-- POWER_ON_RESET (R433, R435): RST_POR_N is released. -/
def execPowerOnReset (straps : BootStraps) (s : State) : Host.Outcome State Fault Refusal :=
  onDev s (fun d => d.powerOnReset straps)

/-- INSPECTION_READY (R435). -/
def execInspectionReady (s : State) : Host.Outcome State Fault Refusal := onDev s (fun d => d.inspectionReady)

/-- HUB_RESTART (R433, R437): RST_HUB_N. -/
def execHubRestart (s : State) : Host.Outcome State Fault Refusal := onDev s (fun d => d.rstHubN)

/-- WATCHDOG (R438). -/
def execWatchdog (s : State) : Host.Outcome State Fault Refusal := onDev s (fun d => d.watchdogExpired)

/-- BROWNOUT (R432): rails 1 to 12 of R431. -/
def execBrownout (rail : Nat) (s : State) : Host.Outcome State Fault Refusal :=
  if 1 ≤ rail then onUnit rail 13 s (fun d => d.brownout rail) else .refused .noSuchUnit

/-- REFERENCE_CLOCK_LOST (R434): clock 0 is CLK_REF, clock 1 CLK_PCIE. -/
def execReferenceClockLost (clock : Nat) (s : State) : Host.Outcome State Fault Refusal :=
  onUnit clock 2 s (fun d => d.clockLost clock)

/-- HOLDUP_OK (R418, R419). -/
def execHoldupOk (high : Bool) (s : State) : Host.Outcome State Fault Refusal := onDev s (fun d => d.holdupChange high)

/-- THERMAL_TRIP (R454). -/
def execThermalTrip (sensor : Nat) (tenths : Int) (s : State) : Host.Outcome State Fault Refusal :=
  onUnit sensor 18 s (fun d => d.thermalTrip sensor tenths)

/-- DOM_POWER_ON (R439): DomPower of a domain is written 1. -/
def execDomPowerOn (ses domain : Nat) (s : State) : Host.Outcome State Fault Refusal :=
  onUnit domain 11 s (fun d => d.hostWrite ses (Obj.domPower domain) [1])

/-- DOM_POWER_OFF (R439, R440): DomPower of a domain is written 0. -/
def execDomPowerOff (ses domain : Nat) (s : State) : Host.Outcome State Fault Refusal :=
  onUnit domain 11 s (fun d => d.hostWrite ses (Obj.domPower domain) [0])

/-- DOMAIN_POWER_UP_COMPLETE (R440). -/
def execDomainPowerUpComplete (domain : Nat) (s : State) : Host.Outcome State Fault Refusal :=
  onUnit domain 11 s (fun d => d.domainPowerUp domain)

/-- DRAIN_END (R440). -/
def execDrainEnd (domain : Nat) (s : State) : Host.Outcome State Fault Refusal := onUnit domain 11 s (fun d => d.drainEnd domain)

/-- DRAIN_LIMIT (R440). -/
def execDrainLimit (domain : Nat) (s : State) : Host.Outcome State Fault Refusal :=
  onUnit domain 11 s (fun d => d.drainLimit domain)

/-- SUPPLY_RETURN (R432). -/
def execSupplyReturn (rail : Nat) (s : State) : Host.Outcome State Fault Refusal :=
  if 1 ≤ rail then onUnit rail 13 s (fun d => d.supplyReturn rail) else .refused .noSuchUnit

/-- REFERENCE_CLOCK_RETURN (R434). -/
def execReferenceClockReturn (s : State) : Host.Outcome State Fault Refusal := onDev s (fun d => d.clockReturn)

/-- THERMAL_COOLDOWN (R454). -/
def execThermalCooldown (s : State) : Host.Outcome State Fault Refusal := onDev s (fun d => d.thermalCooldown)

/-- RST_POR_N_LOW (R433). -/
def execRstPorNLow (s : State) : Host.Outcome State Fault Refusal := onDev s (fun d => d.rstPorNLow)

end Sys2Proof.Machine
end

