-- ==== Sys2Proof/Machine/Dispatch.lean ====
section
/-! DEFINITION. The dispatch: one arm per command, each one call of its meaning. -/

namespace Sys2Proof.Machine

def exec (i : Instr) (s : State) : Host.Outcome State Fault Refusal :=
  match i with
  | .hello transport service frame => Sys2Proof.Machine.execHello transport service frame s
  | .finish transport frame => Sys2Proof.Machine.execFinish transport frame s
  | .close transport frame => Sys2Proof.Machine.execClose transport frame s
  | .handshakeTimeout sessionId => Sys2Proof.Machine.execHandshakeTimeout sessionId s
  | .idleTimeout slot => Sys2Proof.Machine.execIdleTimeout slot s
  | .heldRequestExpiry slot seq => Sys2Proof.Machine.execHeldRequestExpiry slot seq s
  | .read ses index sub offset length => Sys2Proof.Machine.execRead ses index sub offset length s
  | .write ses index sub offset data => Sys2Proof.Machine.execWrite ses index sub offset data s
  | .readShadow ses index sub => Sys2Proof.Machine.execReadShadow ses index sub s
  | .commit ses data => Sys2Proof.Machine.execCommit ses data s
  | .abort ses data => Sys2Proof.Machine.execAbort ses data s
  | .describe ses index sub => Sys2Proof.Machine.execDescribe ses index sub s
  | .readDefault ses index sub => Sys2Proof.Machine.execReadDefault ses index sub s
  | .sesClose ses slot => Sys2Proof.Machine.execSesClose ses slot s
  | .atOnceHandoverTimeout group => Sys2Proof.Machine.execAtOnceHandoverTimeout group s
  | .encoderCount axis a b => Sys2Proof.Machine.execEncoderCount axis a b s
  | .standstill axis => Sys2Proof.Machine.execStandstill axis s
  | .signalLoss axis pair lost a b z => Sys2Proof.Machine.execSignalLoss axis pair lost a b z s
  | .indexLatch axis => Sys2Proof.Machine.execIndexLatch axis s
  | .lcgHit lcg => Sys2Proof.Machine.execLcgHit lcg s
  | .portFire port => Sys2Proof.Machine.execPortFire port s
  | .eyeletFire eyelet => Sys2Proof.Machine.execEyeletFire eyelet s
  | .actionPulseEnd output => Sys2Proof.Machine.execActionPulseEnd output s
  | .lcgStart ses lcg => Sys2Proof.Machine.execLcgStart ses lcg s
  | .lcgStop ses lcg => Sys2Proof.Machine.execLcgStop ses lcg s
  | .failback ses lcg => Sys2Proof.Machine.execFailback ses lcg s
  | .eyeletArm ses eyelet => Sys2Proof.Machine.execEyeletArm ses eyelet s
  | .eyeletDisarm ses eyelet => Sys2Proof.Machine.execEyeletDisarm ses eyelet s
  | .ssiFrame input highBefore lowAfter bits => Sys2Proof.Machine.execSsiFrame input highBefore lowAfter bits s
  | .eventInput input level => Sys2Proof.Machine.execEventInput input level s
  | .portEnable ses port => Sys2Proof.Machine.execPortEnable ses port s
  | .portDisable ses port => Sys2Proof.Machine.execPortDisable ses port s
  | .discoveryTimeout port => Sys2Proof.Machine.execDiscoveryTimeout port s
  | .cameraConfigured port accepted => Sys2Proof.Machine.execCameraConfigured port accepted s
  | .faultRetry port => Sys2Proof.Machine.execFaultRetry port s
  | .heartbeatTimeout port => Sys2Proof.Machine.execHeartbeatTimeout port s
  | .laneLock lane => Sys2Proof.Machine.execLaneLock lane s
  | .laneLockLost lane invalid => Sys2Proof.Machine.execLaneLockLost lane invalid s
  | .streamPacket port lane stream crcOk endOfLine samples => Sys2Proof.Machine.execStreamPacket port lane stream crcOk endOfLine samples s
  | .lineStart port stream format => Sys2Proof.Machine.execLineStart port stream format s
  | .windowExpiry port => Sys2Proof.Machine.execWindowExpiry port s
  | .lineDelivery port => Sys2Proof.Machine.execLineDelivery port s
  | .triggerAcknowledge port => Sys2Proof.Machine.execTriggerAcknowledge port s
  | .ackTimeout port => Sys2Proof.Machine.execAckTimeout port s
  | .fallingEdgeTrigger port => Sys2Proof.Machine.execFallingEdgeTrigger port s
  | .triggerPulseEnd port => Sys2Proof.Machine.execTriggerPulseEnd port s
  | .eventPacket port => Sys2Proof.Machine.execEventPacket port s
  | .ctlRead ses port => Sys2Proof.Machine.execCtlRead ses port s
  | .ctlWrite ses port => Sys2Proof.Machine.execCtlWrite ses port s
  | .controlAcknowledge port error data => Sys2Proof.Machine.execControlAcknowledge port error data s
  | .controlTimeout port => Sys2Proof.Machine.execControlTimeout port s
  | .engineLineEmit port => Sys2Proof.Machine.execEngineLineEmit port s
  | .mpJobStart engine => Sys2Proof.Machine.execMpJobStart engine s
  | .mpJobEnd engine => Sys2Proof.Machine.execMpJobEnd engine s
  | .mpJobLate port => Sys2Proof.Machine.execMpJobLate port s
  | .psetArm ses port pset => Sys2Proof.Machine.execPsetArm ses port pset s
  | .psetDisarm ses port => Sys2Proof.Machine.execPsetDisarm ses port s
  | .psetPreloadDone port => Sys2Proof.Machine.execPsetPreloadDone port s
  | .tableData ses port offset data => Sys2Proof.Machine.execTableData ses port offset data s
  | .tableSeal ses port => Sys2Proof.Machine.execTableSeal ses port s
  | .ffFlat ses port => Sys2Proof.Machine.execFfFlat ses port s
  | .ffDark ses port => Sys2Proof.Machine.execFfDark ses port s
  | .acquisitionTimeout port => Sys2Proof.Machine.execAcquisitionTimeout port s
  | .correctedLineArrival port => Sys2Proof.Machine.execCorrectedLineArrival port s
  | .stitchedLine view => Sys2Proof.Machine.execStitchedLine view s
  | .stitchDeadline view => Sys2Proof.Machine.execStitchDeadline view s
  | .viewEnable ses view => Sys2Proof.Machine.execViewEnable ses view s
  | .viewDisable ses view => Sys2Proof.Machine.execViewDisable ses view s
  | .segmentLine view => Sys2Proof.Machine.execSegmentLine view s
  | .segEnable ses view => Sys2Proof.Machine.execSegEnable ses view s
  | .segDisable ses view => Sys2Proof.Machine.execSegDisable ses view s
  | .bgReset ses view => Sys2Proof.Machine.execBgReset ses view s
  | .patchCut view => Sys2Proof.Machine.execPatchCut view s
  | .classifierRequest view => Sys2Proof.Machine.execClassifierRequest view s
  | .mvpComplete array err errEven errOdd => Sys2Proof.Machine.execMvpComplete array err errEven errOdd s
  | .shedTimeout view candSeq => Sys2Proof.Machine.execShedTimeout view candSeq s
  | .resultLeave view => Sys2Proof.Machine.execResultLeave view s
  | .retire ses array => Sys2Proof.Machine.execRetire ses array s
  | .spareProgrammed array => Sys2Proof.Machine.execSpareProgrammed array s
  | .modelLoad ses slot => Sys2Proof.Machine.execModelLoad ses slot s
  | .modelLoadComplete slot => Sys2Proof.Machine.execModelLoadComplete slot s
  | .modelUnload ses slot => Sys2Proof.Machine.execModelUnload ses slot s
  | .recordRelease => Sys2Proof.Machine.execRecordRelease s
  | .lvFlush channel => Sys2Proof.Machine.execLvFlush channel s
  | .lvEnable ses channel => Sys2Proof.Machine.execLvEnable ses channel s
  | .stallClaim ses stall => Sys2Proof.Machine.execStallClaim ses stall s
  | .stallOpen ses stall => Sys2Proof.Machine.execStallOpen ses stall s
  | .stallClose ses stall => Sys2Proof.Machine.execStallClose ses stall s
  | .patchFetch ses stall value => Sys2Proof.Machine.execPatchFetch ses stall value s
  | .creditLimit ses stall value => Sys2Proof.Machine.execCreditLimit ses stall value s
  | .stallFlush stall => Sys2Proof.Machine.execStallFlush stall s
  | .datagramSend transport => Sys2Proof.Machine.execDatagramSend transport s
  | .launch port => Sys2Proof.Machine.execLaunch port s
  | .calStart ses array => Sys2Proof.Machine.execCalStart ses array s
  | .calInterval array => Sys2Proof.Machine.execCalInterval array s
  | .temperatureChange tenths => Sys2Proof.Machine.execTemperatureChange tenths s
  | .arrayCalibrationStart => Sys2Proof.Machine.execArrayCalibrationStart s
  | .arrayCalibrationComplete passes => Sys2Proof.Machine.execArrayCalibrationComplete passes s
  | .rampStep => Sys2Proof.Machine.execRampStep s
  | .referenceCheck bg0 bg1 reference => Sys2Proof.Machine.execReferenceCheck bg0 bg1 reference s
  | .calRecordLoad ses => Sys2Proof.Machine.execCalRecordLoad ses s
  | .correctedError buffer unit row => Sys2Proof.Machine.execCorrectedError buffer unit row s
  | .rowReplacement buffer unit row => Sys2Proof.Machine.execRowReplacement buffer unit row s
  | .uncorrectableError buffer unit item => Sys2Proof.Machine.execUncorrectableError buffer unit item s
  | .residueError block unit => Sys2Proof.Machine.execResidueError block unit s
  | .parityError block unit both => Sys2Proof.Machine.execParityError block unit both s
  | .replacementAcceptsInput engine => Sys2Proof.Machine.execReplacementAcceptsInput engine s
  | .engineRetire ses engine => Sys2Proof.Machine.execEngineRetire ses engine s
  | .deadlineFault view monitor => Sys2Proof.Machine.execDeadlineFault view monitor s
  | .pairEnable ses => Sys2Proof.Machine.execPairEnable ses s
  | .pairDisable ses => Sys2Proof.Machine.execPairDisable ses s
  | .karylvoLinkUp partner => Sys2Proof.Machine.execKarylvoLinkUp partner s
  | .heartbeatSend => Sys2Proof.Machine.execHeartbeatSend s
  | .mirrorFrame item => Sys2Proof.Machine.execMirrorFrame item s
  | .seekActivate => Sys2Proof.Machine.execSeekActivate s
  | .peerResample peerHigh => Sys2Proof.Machine.execPeerResample peerHigh s
  | .pairSwitch ses => Sys2Proof.Machine.execPairSwitch ses s
  | .pairYield => Sys2Proof.Machine.execPairYield s
  | .pairPeerFall => Sys2Proof.Machine.execPairPeerFall s
  | .hbTimeout => Sys2Proof.Machine.execHbTimeout s
  | .linkJudgedDown => Sys2Proof.Machine.execLinkJudgedDown s
  | .gapRefire => Sys2Proof.Machine.execGapRefire s
  | .publishingResume => Sys2Proof.Machine.execPublishingResume s
  | .digestVerdict view strip => Sys2Proof.Machine.execDigestVerdict view strip s
  | .joinRetry partner => Sys2Proof.Machine.execJoinRetry partner s
  | .capturedStateInstall view state => Sys2Proof.Machine.execCapturedStateInstall view state s
  | .refreshDebt pc bank => Sys2Proof.Machine.execRefreshDebt pc bank s
  | .commandSlot pc => Sys2Proof.Machine.execCommandSlot pc s
  | .pageIdle pc bank => Sys2Proof.Machine.execPageIdle pc bank s
  | .trainingComplete stack margins => Sys2Proof.Machine.execTrainingComplete stack margins s
  | .retrain pc => Sys2Proof.Machine.execRetrain pc s
  | .retrainStep pc marginH marginV => Sys2Proof.Machine.execRetrainStep pc marginH marginV s
  | .patrolScrub pc => Sys2Proof.Machine.execPatrolScrub pc s
  | .hbmEccError pc offset corrected => Sys2Proof.Machine.execHbmEccError pc offset corrected s
  | .pcFence ses pc => Sys2Proof.Machine.execPcFence ses pc s
  | .ethernetFrame port frame => Sys2Proof.Machine.execEthernetFrame port frame s
  | .linkUpDown port up => Sys2Proof.Machine.execLinkUpDown port up s
  | .sync port head frac master t1 correction logInterval => Sys2Proof.Machine.execSync port head frac master t1 correction logInterval s
  | .delayResp port head frac master reply correction => Sys2Proof.Machine.execDelayResp port head frac master reply correction s
  | .announce msg => Sys2Proof.Machine.execAnnounce msg s
  | .delayReq domain port => Sys2Proof.Machine.execDelayReq domain port s
  | .domainLost domain => Sys2Proof.Machine.execDomainLost domain s
  | .holdover => Sys2Proof.Machine.execHoldover s
  | .holdoverLimit => Sys2Proof.Machine.execHoldoverLimit s
  | .timeStep ses ns => Sys2Proof.Machine.execTimeStep ses ns s
  | .selectedDomain ses domain => Sys2Proof.Machine.execSelectedDomain ses domain s
  | .gratuitousArp port => Sys2Proof.Machine.execGratuitousArp port s
  | .chanStart ses channel => Sys2Proof.Machine.execChanStart ses channel s
  | .chanKick ses channel => Sys2Proof.Machine.execChanKick ses channel s
  | .chanAbort ses channel => Sys2Proof.Machine.execChanAbort ses channel s
  | .chanIrqAck ses channel bits => Sys2Proof.Machine.execChanIrqAck ses channel bits s
  | .eocAck ses channel => Sys2Proof.Machine.execEocAck ses channel s
  | .descriptorFetch channel hostOk hostData => Sys2Proof.Machine.execDescriptorFetch channel hostOk hostData s
  | .burst channel hostOk hostData eccBad => Sys2Proof.Machine.execBurst channel hostOk hostData eccBad s
  | .descriptorEnd channel writeBackOk => Sys2Proof.Machine.execDescriptorEnd channel writeBackOk s
  | .paceEvent channel => Sys2Proof.Machine.execPaceEvent channel s
  | .paceTimerTick channel => Sys2Proof.Machine.execPaceTimerTick channel s
  | .compressBlock channel hostData => Sys2Proof.Machine.execCompressBlock channel hostData s
  | .decompressBlock channel hostData => Sys2Proof.Machine.execDecompressBlock channel hostData s
  | .powerDrainTimeout domain => Sys2Proof.Machine.execPowerDrainTimeout domain s
  | .mbxH2dLength length frame => Sys2Proof.Machine.execMbxH2dLength length frame s
  | .mbxD2hAck => Sys2Proof.Machine.execMbxD2hAck s
  | .ringCtl ring register write => Sys2Proof.Machine.execRingCtl ring register write s
  | .ringHead ring value => Sys2Proof.Machine.execRingHead ring value s
  | .msixUnmask write => Sys2Proof.Machine.execMsixUnmask write s
  | .bar2Access address write data tlp => Sys2Proof.Machine.execBar2Access address write data tlp s
  | .bar0BadAccess address access => Sys2Proof.Machine.execBar0BadAccess address access s
  | .functionLevelReset => Sys2Proof.Machine.execFunctionLevelReset s
  | .pciePerst low => Sys2Proof.Machine.execPciePerst low s
  | .twcWrite ses controller bus => Sys2Proof.Machine.execTwcWrite ses controller bus s
  | .twcRead ses controller bus => Sys2Proof.Machine.execTwcRead ses controller bus s
  | .twcWriteRead ses controller bus => Sys2Proof.Machine.execTwcWriteRead ses controller bus s
  | .busFree controller bus => Sys2Proof.Machine.execBusFree controller bus s
  | .busClear controller pulses bus => Sys2Proof.Machine.execBusClear controller pulses bus s
  | .sclTimeout controller => Sys2Proof.Machine.execSclTimeout controller s
  | .twtAddress address read count => Sys2Proof.Machine.execTwtAddress address read count s
  | .twtCommit bytes brokenByte => Sys2Proof.Machine.execTwtCommit bytes brokenByte s
  | .twtTimeout bytes => Sys2Proof.Machine.execTwtTimeout bytes s
  | .fwData ses offset data => Sys2Proof.Machine.execFwData ses offset data s
  | .fwVerify ses => Sys2Proof.Machine.execFwVerify ses s
  | .fwActivate ses => Sys2Proof.Machine.execFwActivate ses s
  | .fwConfirm ses => Sys2Proof.Machine.execFwConfirm ses s
  | .trialTimeout => Sys2Proof.Machine.execTrialTimeout s
  | .fwRevert ses => Sys2Proof.Machine.execFwRevert ses s
  | .settingsSave ses => Sys2Proof.Machine.execSettingsSave ses s
  | .attestNonce ses nonce => Sys2Proof.Machine.execAttestNonce ses nonce s
  | .powerOnReset straps => Sys2Proof.Machine.execPowerOnReset straps s
  | .inspectionReady => Sys2Proof.Machine.execInspectionReady s
  | .hubRestart => Sys2Proof.Machine.execHubRestart s
  | .watchdog => Sys2Proof.Machine.execWatchdog s
  | .brownout rail => Sys2Proof.Machine.execBrownout rail s
  | .referenceClockLost clock => Sys2Proof.Machine.execReferenceClockLost clock s
  | .holdupOk high => Sys2Proof.Machine.execHoldupOk high s
  | .thermalTrip sensor tenths => Sys2Proof.Machine.execThermalTrip sensor tenths s
  | .domPowerOn ses domain => Sys2Proof.Machine.execDomPowerOn ses domain s
  | .domPowerOff ses domain => Sys2Proof.Machine.execDomPowerOff ses domain s
  | .domainPowerUpComplete domain => Sys2Proof.Machine.execDomainPowerUpComplete domain s
  | .drainEnd domain => Sys2Proof.Machine.execDrainEnd domain s
  | .drainLimit domain => Sys2Proof.Machine.execDrainLimit domain s
  | .request transport frame => Sys2Proof.Machine.execRequest transport frame s
  | .masterConnectionAnswers port speeds connections => Sys2Proof.Machine.execMasterConnectionAnswers port speeds connections s
  | .karylvoLinkLost => Sys2Proof.Machine.execKarylvoLinkLost s
  | .pcieLinkUpDown speed width => Sys2Proof.Machine.execPcieLinkUpDown speed width s
  | .aerUncorrectableError => Sys2Proof.Machine.execAerUncorrectableError s
  | .refreshRateChange stack tenths => Sys2Proof.Machine.execRefreshRateChange stack tenths s
  | .supplyReturn rail => Sys2Proof.Machine.execSupplyReturn rail s
  | .referenceClockReturn => Sys2Proof.Machine.execReferenceClockReturn s
  | .thermalCooldown => Sys2Proof.Machine.execThermalCooldown s
  | .rstPorNLow => Sys2Proof.Machine.execRstPorNLow s

end Sys2Proof.Machine
end

