-- ==== Sys2Proof/Machine/Step.lean ====
section
/-! DEFINITION. The step: the command at the front of the queue is carried out with the rest of the queue waiting. On an empty
queue a nanosecond of local time passes. -/

namespace Sys2Proof.Machine

/-- A nanosecond passes without a command (the model's own tick). -/
def State.idle (s : State) : State := { s with dev := { s.dev with now := s.dev.now + 1 } }

def step (s : State) : Host.Outcome State Fault Refusal :=
  match s.pending with
  | [] => .next s.idle
  | c :: rest => exec c { s with pending := rest }

/-- The command that a word spells, put at the front of the queue; the rows of the table give no bits, so no word spells one. -/
def State.withFetchWord (s : State) (nbits w : Nat) : State :=
  match Sys2Proof.decodeTableWord nbits w with
  | some c => { s with pending := c :: s.pending }
  | none => s

end Sys2Proof.Machine
end

