-- ==== Sys2Proof/Laws/Table.lean ====
section
/-! SUPPORT. Sparse tables: what a read gives after a write or a removal, and that every operation keeps the canonical form. -/

namespace Sys2Proof.Machine

variable {α : Type}

theorem Tbl.get?_put (t : Tbl α) (i j : Nat) (x : α) :
    Tbl.get? (Tbl.put t i x) j = if i = j then some x else Tbl.get? t j := by
  induction t with
  | nil => simp [Tbl.put, Tbl.get?]
  | cons e t ih =>
    obtain ⟨k, v⟩ := e
    simp only [Tbl.put]
    split
    · simp [Tbl.get?]
    · split
      · subst_vars
        simp only [Tbl.get?]
        split <;> rfl
      · simp only [Tbl.get?, ih]
        split
        · subst_vars
          simp_all
        · rfl

theorem Tbl.get?_del (t : Tbl α) (i j : Nat) :
    Tbl.get? (Tbl.del t i) j = if i = j then none else Tbl.get? t j := by
  induction t with
  | nil => simp [Tbl.del, Tbl.get?]
  | cons e t ih =>
    obtain ⟨k, v⟩ := e
    simp only [Tbl.del]
    split
    · subst_vars
      simp only [ih, Tbl.get?]
      split <;> rfl
    · simp only [Tbl.get?, ih]
      by_cases h1 : k = j <;> by_cases h2 : i = j <;> simp_all

theorem Tbl.get_put (t : Tbl α) (i j : Nat) (x y : α) :
    Tbl.get (Tbl.put t i x) j y = if i = j then x else Tbl.get t j y := by
  simp only [Tbl.get, Tbl.get?_put]
  split <;> rfl

@[simp] theorem Tbl.get?_nil (i : Nat) : Tbl.get? ([] : Tbl α) i = none := rfl

theorem Tbl.mem_keys_put (t : Tbl α) (i : Nat) (x : α) (k : Nat) :
    k ∈ (Tbl.put t i x).map Prod.fst → k = i ∨ k ∈ t.map Prod.fst := by
  induction t with
  | nil => simp [Tbl.put]
  | cons e t ih =>
    obtain ⟨m, v⟩ := e
    simp only [Tbl.put]
    split
    · simp
    · split
      · subst_vars
        simp
      · simp only [List.map_cons, List.mem_cons]
        rintro (h | h)
        · exact Or.inr (Or.inl h)
        · rcases ih h with h | h
          · exact Or.inl h
          · exact Or.inr (Or.inr h)

theorem Tbl.wf_cons (k : Nat) (v : α) (t : Tbl α) :
    Tbl.wf ((k, v) :: t) = true ↔ (∀ e ∈ t, k < e.1) ∧ Tbl.wf t = true := by
  simp [Tbl.wf]

/-- A write keeps the canonical form. -/
theorem Tbl.wf_put (t : Tbl α) (i : Nat) (x : α) (h : Tbl.wf t = true) : Tbl.wf (Tbl.put t i x) = true := by
  induction t with
  | nil => simp [Tbl.put, Tbl.wf]
  | cons e t ih =>
    obtain ⟨k, v⟩ := e
    obtain ⟨h1, h2⟩ := (Tbl.wf_cons k v t).1 h
    simp only [Tbl.put]
    split
    · rename_i hlt
      refine (Tbl.wf_cons _ _ _).2 ⟨?_, h⟩
      intro e he
      rcases List.mem_cons.1 he with rfl | he
      · exact hlt
      · have := h1 e he
        omega
    · split
      · subst_vars
        exact (Tbl.wf_cons _ _ _).2 ⟨h1, h2⟩
      · refine (Tbl.wf_cons _ _ _).2 ⟨?_, ih h2⟩
        intro e he
        rcases Tbl.mem_keys_put t i x e.1 (List.mem_map_of_mem he) with h' | h'
        · omega
        · obtain ⟨e', he', hk⟩ := List.mem_map.1 h'
          rw [← hk]
          exact h1 e' he'

theorem Tbl.mem_del (t : Tbl α) (i : Nat) (e : Nat × α) : e ∈ Tbl.del t i → e ∈ t := by
  induction t with
  | nil => simp [Tbl.del]
  | cons a t ih =>
    obtain ⟨k, v⟩ := a
    simp only [Tbl.del]
    split
    · intro h
      exact List.mem_cons_of_mem _ (ih h)
    · intro h
      rcases List.mem_cons.1 h with rfl | h
      · exact List.mem_cons_self
      · exact List.mem_cons_of_mem _ (ih h)

/-- A removal keeps the canonical form. -/
theorem Tbl.wf_del (t : Tbl α) (i : Nat) (h : Tbl.wf t = true) : Tbl.wf (Tbl.del t i) = true := by
  induction t with
  | nil => rfl
  | cons a t ih =>
    obtain ⟨k, v⟩ := a
    obtain ⟨h1, h2⟩ := (Tbl.wf_cons k v t).1 h
    simp only [Tbl.del]
    split
    · exact ih h2
    · exact (Tbl.wf_cons _ _ _).2 ⟨fun e he => h1 e (Tbl.mem_del t i e he), ih h2⟩

end Sys2Proof.Machine
end

