-- ==== Sys2Proof/WellFormed.lean ====
section
/-! DEFINITION. Well-formed commands: the units that the RB9224 has (R4), and numbers that fit their fields (R14, R36 to R39).
Ports and lanes of the RB9212 are fewer (R2); the machine judges those. -/

namespace Sys2Proof

/-- A session slot (R60). -/
def wfSes (ses : Nat) : Bool := decide (ses < 32)

/-- A unit number below the number of units. -/
def wfUnit (u n : Nat) : Bool := decide (u < n)

/-- The index, subindex and offset of an operation (R39). -/
def wfObj (index sub offset : Nat) : Bool := decide (index < 65536) && decide (sub < 256) && decide (offset < 2 ^ 32)

/-- Data of an operation (R39): its length has 16 bits. -/
def wfData (data : Bytes) : Bool := decide (data.length < 65536)

/-- A frame on a transport, mailbox or network port (R36). -/
def wfFrame (transport : Nat) (frame : Bytes) : Bool := wfUnit transport 7 && decide (frame.length ≤ 4096)

/-- A well-formed command. -/
def Instr.wellFormed : Instr → Bool
  -- the commands of the dictionary and its sessions
  | .hello t _ f | .finish t f | .close t f | .request t f => wfFrame t f
  | .handshakeTimeout id => decide (id < 2 ^ 32)
  | .idleTimeout slot => wfSes slot
  | .heldRequestExpiry slot seq => wfSes slot && decide (seq < 2 ^ 32)
  | .read ses index sub offset length => wfSes ses && wfObj index sub offset && decide (length < 65536)
  | .write ses index sub offset data => wfSes ses && wfObj index sub offset && wfData data
  | .readShadow ses index sub | .describe ses index sub | .readDefault ses index sub => wfSes ses && wfObj index sub 0
  | .commit ses data | .abort ses data => wfSes ses && wfData data
  | .sesClose ses slot => wfSes ses && wfSes slot
  | .atOnceHandoverTimeout group => wfUnit group 5
  -- the commands of the position unit
  | .encoderCount axis _ _ | .standstill axis | .indexLatch axis => wfUnit axis 4
  | .signalLoss axis pair _ _ _ _ => wfUnit axis 4 && wfUnit pair 3
  | .lcgHit lcg => wfUnit lcg 4
  | .portFire port => wfUnit port 24
  | .eyeletFire eyelet => wfUnit eyelet 256
  | .actionPulseEnd output => wfUnit output 16
  | .lcgStart ses lcg | .lcgStop ses lcg | .failback ses lcg => wfSes ses && wfUnit lcg 4
  | .eyeletArm ses eyelet | .eyeletDisarm ses eyelet => wfSes ses && wfUnit eyelet 256
  | .ssiFrame input _ _ _ => wfUnit input 2
  | .eventInput input _ => wfUnit input 8
  -- the commands of ingress
  | .portEnable ses port | .portDisable ses port | .ctlRead ses port | .ctlWrite ses port => wfSes ses && wfUnit port 24
  | .discoveryTimeout port | .faultRetry port | .heartbeatTimeout port | .windowExpiry port | .lineDelivery port
  | .triggerAcknowledge port | .ackTimeout port | .fallingEdgeTrigger port | .triggerPulseEnd port | .eventPacket port
  | .controlTimeout port => wfUnit port 24
  | .cameraConfigured port _ => wfUnit port 24
  | .laneLock lane => wfUnit lane 192
  | .laneLockLost lane _ => wfUnit lane 192
  | .streamPacket port lane _ _ _ samples =>
    wfUnit port 24 && lane / 8 == port && samples.all (fun x => decide (x < 65536))
  | .lineStart port _ _ => wfUnit port 24
  | .controlAcknowledge port _ _ => wfUnit port 24
  | .masterConnectionAnswers port _ _ => wfUnit port 24
  -- the commands of the Strip Engines
  | .engineLineEmit port | .mpJobLate port | .psetPreloadDone port | .acquisitionTimeout port => wfUnit port 24
  | .mpJobStart engine | .mpJobEnd engine => wfUnit engine 14
  | .psetArm ses port pset => wfSes ses && wfUnit port 24 && wfUnit pset 256
  | .psetDisarm ses port | .tableSeal ses port | .ffFlat ses port | .ffDark ses port => wfSes ses && wfUnit port 24
  | .tableData ses port offset data => wfSes ses && wfUnit port 24 && decide (offset < 2 ^ 32) && wfData data
  -- the commands of the Web Pipeline and the classifier
  | .correctedLineArrival port => wfUnit port 24
  | .stitchedLine view | .stitchDeadline view | .segmentLine view | .patchCut view | .classifierRequest view
  | .resultLeave view => wfUnit view 4
  | .viewEnable ses view | .viewDisable ses view | .segEnable ses view | .segDisable ses view | .bgReset ses view =>
    wfSes ses && wfUnit view 4
  | .mvpComplete array _ _ _ => wfUnit array 72
  | .shedTimeout view candSeq => wfUnit view 4 && decide (candSeq < 2 ^ 32)
  | .retire ses array => wfSes ses && wfUnit array 72
  | .spareProgrammed array | .calInterval array => wfUnit array 72
  | .modelLoad ses slot | .modelUnload ses slot => wfSes ses && wfUnit slot 2
  | .modelLoadComplete slot => wfUnit slot 2
  | .calStart ses array => wfSes ses && wfUnit array 256
  | .calRecordLoad ses => wfSes ses
  -- the commands of publishing
  | .lvFlush channel => wfUnit channel 64
  | .lvEnable ses channel => wfSes ses && wfUnit channel 64
  | .stallClaim ses stall | .stallOpen ses stall | .stallClose ses stall => wfSes ses && wfUnit stall 512
  | .patchFetch ses stall value | .creditLimit ses stall value => wfSes ses && wfUnit stall 512 && decide (value < 2 ^ 64)
  | .stallFlush stall => wfUnit stall 512
  | .datagramSend transport => wfUnit transport 7
  | .launch port => wfUnit port 6
  -- the commands of the Cobbler and of pair operation
  | .correctedError buffer _ _ | .rowReplacement buffer _ _ | .uncorrectableError buffer _ _ => wfUnit buffer 11
  | .residueError block _ => decide (3 ≤ block) && decide (block ≤ 5)
  | .parityError block _ _ => wfUnit block 256
  | .replacementAcceptsInput engine => wfUnit engine 14
  | .engineRetire ses engine => wfSes ses && wfUnit engine 256
  | .deadlineFault view monitor => wfUnit view 4 && wfUnit monitor 4
  | .pairEnable ses | .pairDisable ses | .pairSwitch ses => wfSes ses
  | .digestVerdict view _ => wfUnit view 4
  | .capturedStateInstall view _ => wfUnit view 4
  -- the commands of the memory and the network
  | .refreshDebt pc bank | .pageIdle pc bank => wfUnit pc 64 && wfUnit bank 48
  | .commandSlot pc | .retrain pc | .patrolScrub pc => wfUnit pc 64
  | .trainingComplete stack _ => wfUnit stack 2
  | .retrainStep pc _ _ => wfUnit pc 64
  | .hbmEccError pc offset _ => wfUnit pc 64 && decide (offset < 805306368)
  | .pcFence ses pc => wfSes ses && wfUnit pc 64
  | .refreshRateChange stack _ => wfUnit stack 2
  | .ethernetFrame port _ => wfUnit port 6
  | .linkUpDown port _ => wfUnit port 6
  | .gratuitousArp port => wfUnit port 6
  | .sync port _ _ _ _ _ _ => wfUnit port 6
  | .delayResp port _ _ _ _ _ => wfUnit port 6
  | .announce msg => wfUnit msg.port 6
  | .delayReq domain port => wfUnit domain 2 && wfUnit port 6
  | .domainLost domain => wfUnit domain 2
  | .timeStep ses ns => wfSes ses && decide (-(2 ^ 63) ≤ ns) && decide (ns < 2 ^ 63)
  | .selectedDomain ses domain => wfSes ses && wfUnit domain 256
  -- the commands of data movement and of the host and board buses
  | .chanStart ses channel | .chanKick ses channel | .chanAbort ses channel | .eocAck ses channel =>
    wfSes ses && wfUnit channel 64
  | .chanIrqAck ses channel bits => wfSes ses && wfUnit channel 64 && wfUnit bits 256
  | .descriptorFetch channel _ _ | .descriptorEnd channel _ | .paceEvent channel | .paceTimerTick channel
  | .compressBlock channel _ | .decompressBlock channel _ | .burst channel _ _ _ => wfUnit channel 64
  | .powerDrainTimeout domain => wfUnit domain 11
  | .ringCtl ring _ w => wfUnit ring 64 && (match w with
    | .w32 v => decide (v < 2 ^ 32)
    | .w64 v => decide (v < 2 ^ 64))
  | .ringHead ring value => wfUnit ring 64 && decide (value < 2 ^ 64)
  | .msixUnmask (.vector vector _) => wfUnit vector 256
  | .msixUnmask (.control _ _) => true
  | .twcWrite ses controller _ | .twcRead ses controller _ | .twcWriteRead ses controller _ =>
    wfSes ses && wfUnit controller 2
  | .busFree controller _ | .busClear controller _ _ | .sclTimeout controller => wfUnit controller 2
  | .twtAddress address _ _ => wfUnit address 128
  -- the commands of firmware, start-up and power
  | .fwData ses offset data => wfSes ses && decide (offset < 2 ^ 32) && wfData data
  | .fwVerify ses | .fwActivate ses | .fwConfirm ses | .fwRevert ses | .settingsSave ses => wfSes ses
  | .attestNonce ses nonce => wfSes ses && wfData nonce
  | .brownout rail | .supplyReturn rail => decide (1 ≤ rail) && wfUnit rail 13
  | .referenceClockLost clock => wfUnit clock 2
  | .thermalTrip sensor _ => wfUnit sensor 18
  | .domPowerOn ses domain | .domPowerOff ses domain => wfSes ses && wfUnit domain 11
  | .domainPowerUpComplete domain | .drainEnd domain | .drainLimit domain => wfUnit domain 11
  -- commands whose operands have no bound, or that have none
  | .recordRelease | .temperatureChange _ | .arrayCalibrationStart | .arrayCalibrationComplete _ | .rampStep
  | .referenceCheck _ _ _ | .karylvoLinkUp _ | .heartbeatSend | .mirrorFrame _ | .seekActivate | .peerResample _
  | .pairYield | .pairPeerFall | .hbTimeout | .linkJudgedDown | .gapRefire | .publishingResume | .joinRetry _
  | .holdover | .holdoverLimit | .mbxH2dLength _ _ | .mbxD2hAck | .bar2Access _ _ _ _ | .bar0BadAccess _ _
  | .functionLevelReset | .pciePerst _ | .twtCommit _ _ | .twtTimeout _ | .trialTimeout | .powerOnReset _
  | .inspectionReady | .hubRestart | .watchdog | .holdupOk _ | .karylvoLinkLost | .pcieLinkUpDown _ _
  | .aerUncorrectableError | .referenceClockReturn | .thermalCooldown | .rstPorNLow => true

end Sys2Proof
end

