-- ==== Sys2Proof/Safety.lean ====
section
/-! DEFINITION. What counts as a safe run: the capacities that the spec gives the device's histories, and a run in which no
command is refused. -/

namespace Sys2Proof.Machine

/-- The logs hold what their memories hold: 8,192 entries of the event log, 16 of the fault history (R298), 4,096 range
records (R293). -/
abbrev Logs.Bounded (l : Logs) : Prop := l.entries.length ≤ 8192 ∧ l.faults.length ≤ 16 ∧ l.ranges.length ≤ 4096

/-- An LCG keeps its last 65,536 hits (R239), and of its steps those that the model bounds them to (log entry 20). -/
abbrev Lcg.Bounded (l : Lcg) : Prop := l.hits.length ≤ 65536 ∧ l.steps = l.trail

/-- A session keeps 16 responses and holds 8 requests ahead (R43, R44). -/
abbrev Session.Bounded (x : Session) : Prop := x.held.length ≤ 8 ∧ x.kept.length ≤ 16

/-- Every history within its capacity. -/
abbrev State.Bounded (s : State) : Prop :=
  s.dev.logs.Bounded ∧ (∀ l ∈ s.dev.pos.lcgs, l.Bounded) ∧ (∀ e ∈ s.dev.tol.sessions, e.2.Bounded) ∧
    ∀ p ∈ s.dev.stitch.ports, p.fires.length ≤ 16384

/-- The units of R4: each group of units has its number of them. -/
abbrev State.Shaped (s : State) : Prop :=
  s.dev.pos.axes.length = 4 ∧ s.dev.pos.ssi.length = 2 ∧ s.dev.pos.lcgs.length = 4 ∧ s.dev.pos.trigs.length = 24 ∧
    s.dev.ports.length = 24 ∧ s.dev.eng.ports.length = 24 ∧ s.dev.eng.engines.length = 14 ∧ s.dev.stitch.ports.length = 24 ∧
    s.dev.stitch.views.length = 4 ∧ s.dev.seg.views.length = 4 ∧ s.dev.cls.arrays.length = 72 ∧
    s.dev.cls.flights.length = 4 ∧ s.dev.cls.slots.length = 2 ∧ s.dev.pub.launch.length = 6 ∧
    s.dev.net.domains.length = 2 ∧ s.dev.net.busyUntil.length = 6 ∧ s.dev.net.tx.length = 6 ∧ s.dev.host.chans.length = 64 ∧ s.dev.host.rings.length = 64 ∧
    s.dev.mem.pcs.length = 64 ∧ s.dev.mem.scrub.length = 64 ∧ s.dev.tol.groups.length = 5

/-- The command answers a next state that has the property. -/
def Answers (c : Instr) (s : State) (P : State → Prop) : Prop := ∃ t, exec c s = .next t ∧ P t

/-- A device on its own (R306, role Single) with no revert pending (R422), its units and histories as many as R4 and the
capacities allow, and nothing due that is being written to the flash: no other rule acts before or after a command. -/
abbrev State.Steady (s : State) : Prop :=
  s.Shaped ∧ s.Bounded ∧ s.dev.role = 0 ∧ s.dev.nat Obj.fwState ≠ 5 ∧ s.dev.flashQuiet = true

/-- A device in any pair role with no revert pending (R422), its units and histories as State.Steady has them, whose health the
pair logic has seen as it is (R308): no health failover is due. -/
abbrev State.Calm (s : State) : Prop :=
  s.Shaped ∧ s.Bounded ∧ s.dev.nat Obj.fwState ≠ 5 ∧ s.dev.flashQuiet = true ∧ s.dev.pair.health = s.dev.healthNow

/-- A standby or a joiner whose link is up takes what the mirror carries (R305, R313). -/
abbrev State.Follows (s : State) : Prop :=
  s.Calm ∧ s.dev.domOn pdHub = true ∧ s.dev.nat Obj.linkState = 2 ∧ (s.dev.role = 2 ∨ s.dev.role = 3)

/-- A steady device with a power domain that works (R443). -/
abbrev State.Works (s : State) (dom : Nat) : Prop := s.Steady ∧ s.dev.domOn dom = true

/-- All that the units of a device hold beside the objects of the dictionary: the two logs with the interrupts that they raise,
the frames of the last command and the health that the pair logic has noted are left out. -/
def Dev.blocks (d : Dev) : Dev :=
  { d with
    objs := [], logs := Logs.reset, msix := Msix.reset, out := [], opCode := .ok, opData := [],
    pair := { d.pair with health := 0 } }

/-- What a command leaves alone: every object but those of `keys`, and every unit but what `d` says of them. -/
def State.Leaves (s t : State) (d : Dev) (keys : List Nat) : Prop :=
  t.pending = s.pending ∧ t.dev.blocks = d.blocks ∧ ∀ k, k ∉ keys → t.dev.val k = s.dev.val k

/-- The object and the value of a write that the session in slot `ses` may make: a session is open there and the write passes
every check of R456. -/
def State.judged (s : State) (ses index sub off : Nat) (data : Bytes) : Option (ObjBlock × ObjRow × Val) :=
  match s.dev.tol.selfClose, Tbl.get? s.dev.tol.sessions ses with
  | none, some x => (s.dev.judgeWrite (x.writer ses) index sub off data).toOption
  | _, _ => none

/-- The session in slot `ses` may write these bytes to the object `key`. -/
abbrev State.MayWrite (s : State) (ses key : Nat) (data : Bytes) : Prop :=
  (s.judged ses (key / 256) (key % 256) 0 data).isSome = true

/-- A session is open in slot `ses`, and it does not wait to be closed. -/
def State.session? (s : State) (ses : Nat) : Option Session :=
  match s.dev.tol.selfClose with
  | none => Tbl.get? s.dev.tol.sessions ses
  | some _ => none

/-- The position unit with every LVDS pulse under way ended, as a device that no longer drives leaves it (R109, R309). -/
def Dev.posIdle (d : Dev) : PosState :=
  { d.pos with trigs := d.pos.trigs.map (fun (x : Trig) => { x with lvdsEnd := none }) }

/-- What no restart and no reset changes (R433): the fuses, the MRAM store and, but for what was being written (R423), the images in
flash and the settings banks. -/
abbrev State.KeepsStores (s t : State) : Prop :=
  (s.dev.flashStill = true → t.dev.boot.run = s.dev.boot.run ∧ t.dev.boot.keep = s.dev.boot.keep ∧ t.dev.boot.banks = s.dev.boot.banks ∧
    t.dev.boot.loaders = s.dev.boot.loaders) ∧
    t.dev.boot.download = s.dev.boot.download ∧ t.dev.boot.minSecurity = s.dev.boot.minSecurity ∧ t.dev.cal.mram = s.dev.cal.mram ∧
    t.pending = s.pending

/-- The boot goes on to step 8 unless the loader waits for a copy (R419) or enters recovery (R424), or a rail leaves the Hub without power
(R432). -/
abbrev State.BootsOn (t : State) : Prop :=
  (t.dev.boot.recovery = false → t.dev.boot.waitCopy = false → t.dev.fed pdHub = true →
    t.dev.nat Obj.bootPhase = 8 ∧ t.dev.nat (Obj.domState pdHub) = 2) ∧
  (t.dev.boot.recovery = true → ∀ k : Nat, k < 11 → k ≠ 0 → k ≠ pdPcie → t.dev.nat (Obj.domState k) = 0)

/-- A boot that finds the flash as it was: without a boot record, the loader and the firmware of delivery boot to step 8 (R412, R435). -/
abbrev State.Boots (s t : State) : Prop :=
  t.BootsOn ∧
  (s.dev.flashStill = true → s.dev.boot.run = none → s.dev.boot.slots = [[], []] → s.dev.boot.loaders = [none, none] →
    s.dev.boot.minSecurity = 0 → t.dev.boot.straps.loaderGood = true →
    t.dev.boot.recovery = false ∧ t.dev.boot.waitCopy = false ∧ t.dev.boot.slots = s.dev.boot.slots)

/-- A Hub restart with ResetCause `cause`: the firmware boots afresh, the sessions and the ports are lost, and the position unit
runs on (R437). -/
abbrev State.Restarted (s t : State) (cause : Nat) : Prop :=
  t.dev.nat Obj.resetCause = cause ∧ t.dev.nat Obj.hubRestarts = min (2 ^ 32 - 1) (s.dev.nat Obj.hubRestarts + 1) ∧
    t.dev.flag Obj.inspectionReady = false ∧ t.dev.boot.restarting = true ∧ t.dev.tol.sessions = [] ∧
    t.dev.ports = List.replicate 24 Port.reset ∧ t.dev.pos.axes = s.dev.pos.axes ∧ t.dev.pos.lcgs = s.dev.pos.lcgs ∧
    (t.dev.boot.recovery = false → s.dev.nat (Obj.domState pdPos) ≠ 0 →
      t.dev.nat (Obj.domState pdPos) = s.dev.nat (Obj.domState pdPos)) ∧ s.KeepsStores t

/-- The flash takes what is written to it at this moment, and the boot records can go on counting (R276, R412). -/
abbrev State.FlashTakes (s : State) : Prop :=
  s.dev.boot.slots.length = 2 ∧ s.dev.record0.seq < 2 ^ 63 ∧
    ∀ p : Nat, p < 8 → ∀ n : Nat, n < 2 → Config.flashFails p s.dev.now n = false

/-- A revert begins with a Hub restart (R422): the loader decompresses a usable Keep into Run; without one it starts a Run that is good,
and enters recovery without either (R424). -/
abbrev State.Reverts (s t : State) : Prop :=
  s.Restarted t 4 ∧ t.BootsOn ∧
    (s.dev.flashStill = true → s.dev.loaderValid = true → s.FlashTakes →
      if s.dev.keepUsable = true then
        t.dev.record0.stage = 4 ∧ t.dev.boot.waitCopy = true ∧ t.dev.boot.recovery = false
      else if storedOk s.dev.boot.run s.dev.boot.minSecurity = true then
        t.dev.record0.stage = 0 ∧ t.dev.nat Obj.fwState = 0 ∧ t.dev.boot.recovery = false
      else t.dev.boot.recovery = true)

/-- A power-on reset is released (R433, R435): PD_AON is up, PD_PCIE too where it has power, and the boot goes on unless the strap or a
loader that is not good asks for recovery (R424). -/
abbrev State.Released (s t : State) (straps : BootStraps) (cause : Nat) : Prop :=
  t.dev.boot.heldIn = 0 ∧ t.dev.nat Obj.resetCause = cause ∧ t.dev.flag Obj.pairPosition = straps.pairPosB ∧
    t.dev.flag Obj.pcieSris = straps.pcieSris ∧ t.dev.nat (Obj.domState 0) = 2 ∧ s.KeepsStores t ∧
    (if straps.recovery = true ∨ straps.loaderGood = false then
      t.dev.boot.recovery = true ∧ t.dev.boot.slots = s.dev.boot.slots ∧
        (∀ k : Nat, k < 11 → k ≠ 0 → k ≠ pdPcie → t.dev.nat (Obj.domState k) = 0) ∧
        (t.dev.fed pdPcie = true → t.dev.nat (Obj.domState pdPcie) = 2)
    else s.Boots t)

/-- The device is held in power-on reset: all but the stores, the pins and the clock of the model is lost (R433, R423). -/
abbrev State.Held (s t : State) (why : Nat) : Prop :=
  t.dev.boot.heldIn = why ∧ t.dev.objs = [] ∧ t.dev.ports = List.replicate 24 Port.reset ∧ t.dev.tol.sessions = [] ∧
    t.dev.hbm = [] ∧ (s.dev.flashStill = true → t.dev.boot.slots = s.dev.boot.slots) ∧ s.KeepsStores t

/-- A TOL frame goes out over a transport (R36, R346, R359, R393): into the device-to-host buffer or behind the frames that wait for it,
or onto its port, at once or behind the frames that wait there. -/
def State.Sends (s t : State) (tr : Nat) (service : Bool) (frame : Bytes) : Prop :=
  if tr = 0 then
    (s.dev.host.mbx.d2h = none → t.dev.host.mbx.d2h = some frame) ∧
      (s.dev.host.mbx.d2h.isSome = true → s.dev.host.mbx.waiting.length < 16 → t.dev.host.mbx.waiting = s.dev.host.mbx.waiting ++ [frame])
  else
    s.dev.net.tx.getD (tr - 1) [] = [] →
      Out.tol tr (some (s.dev.frameHead (tr - 1) service)) frame ∈ t.dev.out ++ (t.dev.net.tx.getD (tr - 1) []).map (fun f => f.out)

/-- The objects that an event for the DMA channels changes (R374). -/
def paceKeys : List Nat := (List.range 64).map Obj.eventCredit ++ (List.range 64).map Obj.eventsLost

/-- The objects that a LIX hit changes itself (R74 to R77, R437). -/
def hitKeys (g : Nat) : List Nat :=
  [Obj.nextLix g, Obj.maxBacklog g, Obj.pending g, Obj.lateHitCount g, Obj.suspectFirst g, Obj.suspectLast g, Obj.hubDownFirstLix g,
    Obj.hubDownLastLix g, Obj.rangeCount, Obj.logSeq] ++ paceKeys

/-- What an event for the DMA channels may do beside: start a descriptor that waits for it (R374, R386). -/
def State.Paced (s t : State) (d : Dev) : Dev :=
  { d with host := { s.dev.host with chans := t.dev.host.chans, engines := t.dev.host.engines } }

/-- The answer of the last operation: its result code and its data (R38, R59). -/
abbrev State.Answered (s : State) (c : RCode) (data : Bytes) : Prop := s.dev.opCode = c ∧ s.dev.opData = data

end Sys2Proof.Machine

namespace Sys2Proof

/-- A well-formed command of the variant: on the RB9212 it names no fused-off port or lane (R2). -/
def Instr.fits (rb9212 : Bool) (c : Instr) : Bool :=
  c.wellFormed && (! rb9212 ||
    match c with
    | .portFire p | .discoveryTimeout p | .cameraConfigured p _ | .faultRetry p | .heartbeatTimeout p
    | .streamPacket p _ _ _ _ _ | .lineStart p _ _ | .windowExpiry p | .lineDelivery p | .triggerAcknowledge p
    | .ackTimeout p | .fallingEdgeTrigger p | .triggerPulseEnd p | .eventPacket p | .controlAcknowledge p _ _
    | .controlTimeout p | .engineLineEmit p | .mpJobLate p | .psetPreloadDone p | .acquisitionTimeout p
    | .correctedLineArrival p | .masterConnectionAnswers p _ _ => decide (p < 12)
    | .laneLock n | .laneLockLost n _ => decide (n < 96)
    | _ => true)

end Sys2Proof
end

