-- ==== Sys2Proof/Certificates/Slice0/Obligations.lean ====
section
/-! DEFINITION. The statements for the provers. Each is about the machine in any state, unless its hypotheses say otherwise. -/

open Sys2Proof Sys2Proof.Machine

/-- The commands of a block wait in a queue, first in, first out; the tick on an empty queue is the choice of log entry 1. -/
def Obligations.AStepCarriesOutTheFrontCommand : Prop :=
  (∀ (s : State) (c : Instr), step { s with pending := c :: s.pending } = exec c s) ∧
  (∀ s : State, s.pending = [] → step s = .next { s with dev := { s.dev with now := s.dev.now + 1 } })

/-- Ordinary data never ends a run: a command is refused only where it names a unit that the device does not have (R2, R4). -/
def Obligations.EveryFittingCommandIsCarriedOut : Prop :=
  ∀ (s : State) (c : Instr), c.fits s.dev.rb9212 = true → Answers c s (fun t => t.pending = s.pending)

/-- The event log holds 8,192 entries and the fault history 16 (R298), the range log 4,096 (R293), an LCG 65,536 hits (R239),
a session 16 responses and 8 requests ahead (R43, R44); the steps that an LCG keeps and the 16,384 fires of a port
are the model's own bounds (log entry 20). -/
def Obligations.HistoriesStayBounded : Prop :=
  ∀ s t : State, s.Bounded → s.Shaped → step s = .next t → t.Bounded ∧ t.Shaped

/-- The base case of HistoriesStayBounded. -/
def Obligations.HistoriesAreBoundedAtReset : Prop :=
  State.reset.Bounded ∧ State.reset.Shaped

/-- A session ends by CLOSE (R47), by the idle timeout (R45) and by SesClose (R60); its slot is free. That SesClose and the idle timeout
send CLOSE is read in log entry 60. -/
def Obligations.SessionsEndAsTheSpecSays : Prop :=
  (∀ (s : State) (tr : Nat) (frame : Bytes) (slot : Nat) (x : Session) (f : TolFrame),
         s.Steady →
         tr < 7 →
         (s.dev.sessionFrame tr frame).2 = some (slot, x, f) →
         f.kind = 6 →
         (∀ k : Nat, k < 512 → s.dev.nat (Obj.stallOwner k) ≠ x.id) →
         Answers (.close tr frame) s (fun t =>
           s.Leaves t (s.dev.updTol (fun z => { z with sessions := Tbl.del z.sessions slot })) [])) ∧
  (∀ (s : State) (slot : Nat) (x : Session),
         s.Steady →
         slot < 32 →
         Tbl.get? s.dev.tol.sessions slot = some x →
         (∀ k : Nat, k < 512 → s.dev.nat (Obj.stallOwner k) ≠ x.id) →
         Answers (.idleTimeout slot) s (fun t =>
           if x.lastFrame + s.dev.nat Obj.idleTimeout * 1000000 ≤ s.dev.now then
             s.Leaves t { s.dev with tol := { s.dev.tol with sessions := Tbl.del s.dev.tol.sessions slot }, host := t.dev.host, net := t.dev.net } ((List.range 6).map Obj.framesOut ++ [Obj.mbxDropped, Obj.logSeq])
           else s.Leaves t s.dev [])) ∧
  (∀ (s : State) (ses : Nat) (slot : Nat) (x : Session),
         s.Steady →
         slot < 32 →
         s.MayWrite ses (Obj.sesClose slot) [1] →
         ses ≠ slot →
         Tbl.get? s.dev.tol.sessions slot = some x →
         (∀ k : Nat, k < 512 → s.dev.nat (Obj.stallOwner k) ≠ x.id) →
         Answers (.sesClose ses slot) s (fun t =>
           t.dev.opCode = .ok ∧ s.Leaves t { s.dev with tol := { s.dev.tol with sessions := Tbl.del s.dev.tol.sessions slot }, host := t.dev.host, net := t.dev.net } ((List.range 6).map Obj.framesOut ++ [Obj.mbxDropped, Obj.logSeq])))

/-- The three-frame handshake of R46, its limit of 2 s (R47), and the 100 ms of R43. That a new session takes the lowest free slot,
and that the 2 s run from the last fragment of the HELLO, are the model's choices (log entries 28 and 63). -/
def Obligations.HandshakesOpenSessionsOrFail : Prop :=
  (∀ (s : State) (tr : Nat) (service : Bool) (frame : Bytes) (f : TolFrame),
         s.Steady →
         tr < 7 →
         s.dev.tolHears tr service = true →
         parseFrame tr false frame = some f →
         f.kind = 1 →
         f.id = 0 →
         f.version = 1 →
         f.frag = 0 →
         f.fragLast = 0 →
         f.payload.length = 1225 →
         (s.dev.admission tr (leAt f.payload 1216 1) (leAt f.payload 1217 8)).toOption.isSome = true →
         s.dev.tol.sessions.length < 32 →
         Answers (.hello tr service frame) s (fun t =>
           let ek := f.payload.take 1184
           let n := s.dev.tol.draws
           let offer := Config.mlKemCiphertext ek n ++ Config.deviceNonce n
           let accept := offer ++ Config.identitySign (f.payload ++ offer) ""
           let parts := fragments (maxPayload tr) (accept.length + 1) accept
           ∃ h ∈ t.dev.tol.handshakes,
             h.transcript = f.payload ++ accept ∧ h.secret = Config.mlKemSecret ek n ∧ h.service = service ∧
               (∀ part ∈ parts.head?, (tr = 0 → s.dev.host.mbx.d2h = none) →
                 s.Sends t tr service (packLE 16 [(0, 16), (part.length, 16), (0, 32), (h.id, 32), (parts.length - 1, 4), (0, 4), (2, 4), (1, 4), (0x4C54, 16)] ++ part)) ∧
             t.dev.tol.handshakes = s.dev.tol.handshakes ++ [h] ∧ h.transport = tr ∧ h.start = s.dev.now ∧ h.level = leAt f.payload 1216 1 ∧
               (∀ e ∈ s.dev.tol.sessions, e.2.id ≠ h.id) ∧ (∀ k ∈ s.dev.tol.handshakes, k.id ≠ h.id) ∧
               t.dev.tol.sessions = s.dev.tol.sessions ∧ t.dev.tol.groups = s.dev.tol.groups ∧ t.dev.hbm = s.dev.hbm ∧ t.dev.pos = s.dev.pos ∧
               t.pending = s.pending)) ∧
  (∀ (s : State) (tr : Nat) (frame : Bytes) (f : TolFrame) (h : Handshake),
         s.Steady →
         tr < 7 →
         parseFrame tr false frame = some f →
         s.dev.tol.handshakes.find? (fun h => h.id == f.id && h.transport == tr && decide (s.dev.now ≤ h.start + 2000000000)) = some h →
         s.dev.tolHears tr h.service = true →
         f.kind = 3 →
         f.version = 1 →
         f.frag = 0 →
         f.fragLast = 0 →
         s.dev.finishOk h f.payload = true →
         s.dev.freeSlot.isSome = true →
         Answers (.finish tr frame) s (fun t =>
           let slot := s.dev.freeSlot.getD 0
           (∀ x ∈ Tbl.get? t.dev.tol.sessions slot, x.service = h.service ∧ s.Sends t tr h.service (x.tagged 5 0 [])) ∧
           (Tbl.get? t.dev.tol.sessions slot).map (fun x => (x.id, x.level, x.transport, x.nextSeq, x.held, x.kept, x.lastFrame)) =
               some (h.id, h.level, tr, 1, [], [], s.dev.now) ∧
             (∀ k : Nat, k < 32 → k ≠ slot → Tbl.get? t.dev.tol.sessions k = Tbl.get? s.dev.tol.sessions k) ∧
             s.Leaves t { s.dev with
               tol := { s.dev.tol with
                 sessions := t.dev.tol.sessions, handshakes := s.dev.tol.handshakes.filter (fun k => k.id != h.id) },
               host := t.dev.host, net := t.dev.net } ((List.range 6).map Obj.framesOut ++ [Obj.mbxDropped, Obj.logSeq]))) ∧
  (∀ (s : State) (id : Nat), s.Steady →
         Answers (.handshakeTimeout id) s (fun t =>
           s.Leaves t (s.dev.updTol (fun x => { x with
             handshakes := x.handshakes.filter (fun h => h.id != id || decide (s.dev.now ≤ h.start + 2000000000)) })) [])) ∧
  (∀ (s : State) (slot : Nat) (seq : Nat) (x : Session),
         s.Steady →
         slot < 32 →
         Tbl.get? s.dev.tol.sessions slot = some x →
         Answers (.heldRequestExpiry slot seq) s (fun t =>
           s.Leaves t (s.dev.updTol (fun z => { z with
             sessions := Tbl.put z.sessions slot
               { x with held := x.held.filter (fun e => e.1 != seq || decide (s.dev.now < e.2.1 + 100000000)) } })) []))

/-- Requests are executed in sequence, their responses kept (R43, R44). -/
def Obligations.RequestsRunInSequence : Prop :=
  (∀ (s : State) (tr : Nat) (frame : Bytes) (slot : Nat) (x : Session) (f : TolFrame) (o : TolOp),
         s.Steady →
         tr < 7 →
         (s.dev.sessionFrame tr frame).2 = some (slot, x, f) →
         f.kind = 4 →
         f.seq = x.nextSeq →
         f.seq ≠ 0 →
         x.kept.find? (fun e => e.1 == f.seq) = none →
         parseOps (f.payload.length + 1) f.payload = [o] →
         o.opcode = 6 →
         o.short = false →
         x.held = [] →
         s.dev.tol.selfClose = none →
         Answers (.request tr frame) s (fun t =>
           let r := s.dev.describeOp o.index o.sub
           let y := Tbl.get? t.dev.tol.sessions slot
           let response := x.tagged 5 f.seq (o.result r.1 r.2)
           y.map (fun y => y.nextSeq) = some (if f.seq = 2 ^ 32 - 1 then 1 else f.seq + 1) ∧
             y.map (fun y => y.kept) = some (((f.seq, response) :: x.kept).take 16) ∧ s.Sends t tr x.service response ∧
             s.Leaves t { s.dev with tol := { s.dev.tol with sessions := t.dev.tol.sessions }, host := t.dev.host, net := t.dev.net } ((List.range 6).map Obj.framesOut ++ [Obj.mbxDropped, Obj.logSeq]))) ∧
  (∀ (s : State) (tr : Nat) (frame : Bytes) (slot : Nat) (x : Session) (f : TolFrame),
         s.Steady →
         tr < 7 →
         (s.dev.sessionFrame tr frame).2 = some (slot, x, f) →
         f.kind = 4 →
         f.seq ≠ 0 →
         (x.kept.find? (fun e => e.1 == f.seq)).isSome = true →
         Answers (.request tr frame) s (fun t =>
           t.dev.val Obj.duplicateCount = .n (min (2 ^ 32 - 1) (s.dev.nat Obj.duplicateCount + 1) : Nat) ∧
             (∀ e ∈ x.kept.find? (fun e => e.1 == f.seq), s.Sends t tr x.service e.2) ∧
             s.Leaves t { s.dev with tol := { s.dev.tol with sessions := Tbl.put s.dev.tol.sessions slot { x with lastFrame := s.dev.now } }, host := t.dev.host, net := t.dev.net }
               (Obj.duplicateCount :: ((List.range 6).map Obj.framesOut ++ [Obj.mbxDropped, Obj.logSeq])))) ∧
  (∀ (s : State) (tr : Nat) (frame : Bytes) (slot : Nat) (x : Session) (f : TolFrame),
         s.Steady →
         tr < 7 →
         (s.dev.sessionFrame tr frame).2 = some (slot, x, f) →
         f.kind = 4 →
         x.kept.find? (fun e => e.1 == f.seq) = none →
         f.seq ≠ x.nextSeq →
         f.seq < 2 ^ 32 →
         x.nextSeq < 2 ^ 32 →
         0 < x.nextSeq →
         Answers (.request tr frame) s (fun t =>
           let ahead := if x.nextSeq ≤ f.seq then f.seq - x.nextSeq else f.seq + (2 ^ 32 - 1) - x.nextSeq
           let held := if f.seq = 0 ∨ 2 ^ 31 ≤ ahead ∨ 8 ≤ x.held.length ∨ (x.held.any (fun e => e.1 == f.seq)) = true then x.held
             else x.held ++ [(f.seq, s.dev.now, f.payload)]
           s.Leaves t { s.dev with tol := { s.dev.tol with sessions := Tbl.put s.dev.tol.sessions slot { x with lastFrame := s.dev.now, held := held } } } []))

/-- Reading (R28, R30, R42). -/
def Obligations.ReadsAnswerTheValueAndChangeNothing : Prop :=
  (∀ (s : State) (ses : Nat) (index : Nat) (sub : Nat) (off : Nat) (len : Nat) (x : Session) (b : ObjBlock) (r : ObjRow),
         s.Steady →
         s.session? ses = some x →
         s.dev.findObject index sub = .ok (b, some r) →
         r.ty.size.isSome = true →
         off = 0 →
         Answers (.read ses index sub off len) s (fun t =>
           (if r.acc = .wo then t.Answered .access [] else t.Answered .ok (encodeVal r.ty (s.dev.readVal (256 * index + sub)))) ∧ s.Leaves t s.dev [])) ∧
  (∀ (s : State) (ses : Nat) (index : Nat) (sub : Nat) (off : Nat) (len : Nat) (x : Session),
         s.Steady →
         s.session? ses = some x →
         blockOf s.dev.rb9212 index = none →
         Answers (.read ses index sub off len) s (fun t =>
           t.Answered .noObject [] ∧ s.Leaves t s.dev [])) ∧
  (∀ (s : State) (ses : Nat) (index : Nat) (sub : Nat) (x : Session) (b : ObjBlock) (r : ObjRow),
         s.Steady →
         s.session? ses = some x →
         s.dev.findObject index sub = .ok (b, some r) →
         r.ty.size.isSome = true →
         r.acc ≠ .wo →
         Answers (.readShadow ses index sub) s (fun t =>
           t.Answered .ok (encodeVal r.ty
               ((Tbl.get? (s.dev.group (s.dev.groupOf (256 * index + sub))).shadow (256 * index + sub)).getD (s.dev.readVal (256 * index + sub)))) ∧
             s.Leaves t s.dev [])) ∧
  (∀ (s : State) (ses : Nat) (index : Nat) (sub : Nat) (x : Session) (b : ObjBlock) (r : ObjRow),
         s.Steady →
         s.session? ses = some x →
         s.dev.findObject index sub = .ok (b, some r) →
         Answers (.describe ses index sub) s (fun t =>
           t.dev.opCode = .ok ∧ t.dev.opData.length = 8 ∧ leAt t.dev.opData 0 1 = r.ty.code ∧ leAt t.dev.opData 1 1 % 4 = r.acc.code ∧
             leAt t.dev.opData 1 1 / 4 % 4 = r.app.code ∧ s.Leaves t s.dev [])) ∧
  (∀ (s : State) (ses : Nat) (index : Nat) (sub : Nat) (x : Session) (b : ObjBlock) (r : ObjRow),
         s.Steady →
         s.session? ses = some x →
         s.dev.findObject index sub = .ok (b, some r) →
         r.ty.size.isSome = true →
         r.acc ≠ .wo →
         Answers (.readDefault ses index sub) s (fun t =>
           t.Answered .ok (encodeVal r.ty (s.dev.defaultFor (256 * index + sub))) ∧ s.Leaves t s.dev []))

/-- Access modes and apply classes (R30, R31) and the shadow (R50). That a LIVE write of a running LCG waits from NextLix on is the model's
reading (log entry 25). -/
def Obligations.WritesAreStagedOrTakeForce : Prop :=
  (∀ (s : State) (ses : Nat) (index : Nat) (sub : Nat) (off : Nat) (data : Bytes) (b : ObjBlock) (r : ObjRow) (v : Val),
         s.Steady →
         s.judged ses index sub off data = some (b, r, v) →
         r.app = .staged →
         Answers (.write ses index sub off data) s (fun t =>
           let g := s.dev.blockGroup b.group (index - b.base)
           let sh := (s.dev.group g).shadow
           let key := 256 * (b.base + (index - b.base)) + r.sub
           if Tbl.get? sh key = none ∧ 4096 ≤ sh.length then t.Answered .commitFull [] ∧ s.Leaves t s.dev []
           else t.Answered .ok [] ∧ (Tbl.wf sh = true → sh.length ≤ 4096 → (t.dev.group g).shadow.length ≤ 4096) ∧
             s.Leaves t (s.dev.updGroup g (fun x => { x with shadow := Tbl.put x.shadow key v })) [])) ∧
  (∀ (s : State) (ses : Nat) (index : Nat) (sub : Nat) (off : Nat) (data : Bytes) (b : ObjBlock) (r : ObjRow) (v : Val),
         s.Steady →
         s.judged ses index sub off data = some (b, r, v) →
         r.app = .live →
         s.dev.waits b r (s.dev.blockGroup b.group (index - b.base)) = true →
         Answers (.write ses index sub off data) s (fun t =>
           t.Answered .ok [] ∧
             s.Leaves t (s.dev.updGroup (s.dev.blockGroup b.group (index - b.base)) (fun x => { x with
               live := x.live ++ [{ key := 256 * (b.base + (index - b.base)) + r.sub, lix := s.dev.nat (Obj.nextLix (s.dev.blockGroup b.group (index - b.base))), val := v }] })) [])) ∧
  (∀ (s : State) (ses : Nat) (index : Nat) (sub : Nat) (off : Nat) (data : Bytes) (x : Session) (c : RCode),
         s.Steady →
         s.session? ses = some x →
         s.dev.judgeWrite (x.writer ses) index sub off data = .error c →
         Answers (.write ses index sub off data) s (fun t =>
           t.Answered c [] ∧ s.Leaves t s.dev []))

/-- The commits of R51 to R54 and the ABORT of R57. That a COMMIT is late exactly before NextLix (log entry 23), and that an empty one is
validated whole (log entry 24), are the model's readings. -/
def Obligations.CommitsMoveTheShadow : Prop :=
  (∀ (s : State) (ses : Nat) (data : Bytes) (x : Session) (g : Nat) (atOnce : Bool) (target : Nat),
         s.Steady →
         g < 4 →
         s.session? ses = some x →
         data = natLE 16 (target + 2 ^ 64 * g + 2 ^ 72 * b2n atOnce) →
         target < 2 ^ 64 →
         x.enrol = false →
         levelsOk x.level (s.dev.group g).shadow = true →
         s.dev.nat (Obj.nextLix g) ≤ target ∨ atOnce = true →
         (s.dev.group g).pend.length < 8 →
         s.dev.commitOk g (if atOnce = true then s.dev.nat (Obj.nextLix g) else target) = true →
         Answers (.commit ses data) s (fun t =>
           let c : Commit :=
             { csn := s.dev.tol.nextCsn, target := if atOnce then none else some target, issued := s.dev.now, entries := (s.dev.group g).shadow }
           t.dev.opCode = .ok ∧ t.dev.opData = packLE 8 [(0, 24), ((s.dev.group g).pend.length + 1, 8), (s.dev.tol.nextCsn, 32)] ∧
             s.Leaves t ((s.dev.updTol (fun z => { z with nextCsn := csnAfter z.nextCsn })).updGroup g (fun G => { G with
               shadow := [], pend := G.pend ++ [c] })) [Obj.pending g])) ∧
  (∀ (s : State) (ses : Nat) (data : Bytes) (x : Session) (g : Nat) (atOnce : Bool) (target : Nat),
         s.Steady →
         g < 4 →
         s.session? ses = some x →
         data = natLE 16 (target + 2 ^ 64 * g + 2 ^ 72 * b2n atOnce) →
         target < 2 ^ 64 →
         x.enrol = false →
         levelsOk x.level (s.dev.group g).shadow = true →
         Answers (.commit ses data) s (fun t =>
           (atOnce = false ∧ target < s.dev.nat (Obj.nextLix g) → t.Answered .late [] ∧ s.Leaves t s.dev []) ∧
             ((atOnce = true ∨ s.dev.nat (Obj.nextLix g) ≤ target) ∧ 8 ≤ (s.dev.group g).pend.length → t.Answered .commitFull [] ∧ s.Leaves t s.dev []))) ∧
  (∀ (s : State) (ses : Nat) (data : Bytes) (x : Session) (g : Nat) (csn : Nat),
         s.Steady →
         g < 5 →
         s.session? ses = some x →
         data = natLE 8 (g + 2 ^ 32 * csn) →
         csn < 2 ^ 32 →
         x.enrol = false →
         Answers (.abort ses data) s (fun t =>
           if csn = 0 then t.Answered .ok [] ∧ s.Leaves t (s.dev.updGroup g (fun G => { G with shadow := [] })) []
           else if ((s.dev.group g).pend.getLast?.map (fun c => c.csn)) = some csn then
             t.Answered .ok [] ∧ s.Leaves t (s.dev.updGroup g (fun G => { G with pend := G.pend.dropLast })) [Obj.pending g]
           else t.Answered .state [] ∧ s.Leaves t s.dev []))

/-- AtOnce commits and the unclocked group (R55, R56). -/
def Obligations.AtOnceCommitsDoNotWait : Prop :=
  (∀ (s : State) (g : Nat),
         s.Works pdHub →
         g < 4 →
         (∀ c ∈ (s.dev.group g).pend, c.target = none → s.dev.now < c.issued + 1000000) →
         Answers (.atOnceHandoverTimeout g) s (fun t =>
           t.dev.val (Obj.pending g) = .n ((s.dev.group g).pend.length : Nat) ∧ s.Leaves t s.dev [Obj.pending g])) ∧
  (∀ (s : State) (g : Nat) (c : Commit) (k : Nat) (v : Val),
         s.Works pdHub →
         g < 4 →
         (s.dev.group g).pend = [c] →
         c.target = none →
         c.entries = [(k, v)] →
         c.issued + 1000000 ≤ s.dev.now →
         k ∉ [Obj.handedCsn g, Obj.lastHandoverLix g, Obj.pending g, Obj.pairRole, Obj.fwState, Obj.nextLix g, Obj.domState pdHub, Obj.logMinSeverity, Obj.logSeq] →
         Answers (.atOnceHandoverTimeout g) s (fun t =>
           t.dev.val k = v ∧ t.dev.val (Obj.handedCsn g) = .n c.csn ∧ t.dev.val (Obj.lastHandoverLix g) = .n (s.dev.nat (Obj.nextLix g)) ∧
             t.dev.val (Obj.pending g) = .n 0 ∧
             (k / 256 < 0x3480 ∨ 0x3504 ≤ k / 256 → t.dev.stitch = s.dev.stitch) ∧
             s.Leaves t { s.dev with tol := { s.dev.tol with groups := s.dev.tol.groups.modify g (fun G => { G with pend := [] }) }, cfgLog := t.dev.cfgLog, stitch := t.dev.stitch }
               [k, Obj.handedCsn g, Obj.lastHandoverLix g, Obj.pending g, Obj.logSeq])) ∧
  (∀ (s : State) (ses : Nat) (data : Bytes) (x : Session) (k : Nat) (v : Val),
         s.Steady →
         s.session? ses = some x →
         data = natLE 16 (2 ^ 64 * 4) →
         x.enrol = false →
         levelsOk x.level (s.dev.group 4).shadow = true →
         (s.dev.group 4).shadow = [(k, v)] →
         k ∉ [Obj.handedCsn 4, Obj.pending 4, Obj.pairRole, Obj.fwState, Obj.domState pdHub, Obj.logMinSeverity, Obj.logSeq] →
         s.dev.commitOk 4 0 = true →
         Answers (.commit ses data) s (fun t =>
           t.dev.opCode = .ok ∧ t.dev.val k = v ∧ t.dev.val (Obj.handedCsn 4) = .n s.dev.tol.nextCsn ∧
             (k / 256 < 0x3480 ∨ 0x3504 ≤ k / 256 → t.dev.stitch = s.dev.stitch) ∧
             s.Leaves t { (s.dev.updTol (fun z => { z with nextCsn := csnAfter z.nextCsn })).updGroup 4 (fun G => { G with shadow := [] }) with
               cfgLog := t.dev.cfgLog, stitch := t.dev.stitch }
               [k, Obj.handedCsn 4, Obj.pending 4, Obj.logSeq]))

/-- The events of an axis other than an accepted count (R63, R67, R68). That an edge faster than 50 million counts per second is an
illegal transition (Axis.tooFast, log entry 69), and that INDEX_LATCH leaves the level of Z high (log entry 34), are the model's
choices. -/
def Obligations.AxisEventsActOnTheirAxisAlone : Prop :=
  (∀ (s : State) (a : Nat),
         s.Works pdPos →
         a < 4 →
         Answers (.standstill a) s (fun t =>
           if (s.dev.axis a).stillBy (grid5 s.dev.now) (s.dev.stillLimit a) = true then
             s.Leaves t (s.dev.updAxis a (fun x => { x with spdK := 0, valid := false, still := true, restart := true })) []
           else s.Leaves t s.dev [])) ∧
  (∀ (s : State) (a : Nat), s.Works pdPos → a < 4 →
         Answers (.indexLatch a) s (fun t =>
           if s.dev.flag (Obj.axisEnable a) = true ∧ (s.dev.axis a).loss = false then
             t.dev.val (Obj.indexLatch a) = .n (s.dev.axis a).c ∧
               s.Leaves t (s.dev.updAxis a (fun x => { x with z := true })) [Obj.indexLatch a]
           else s.Leaves t (s.dev.updAxis a (fun x => { x with z := true })) [])) ∧
  (∀ (s : State) (a : Nat) (pair : Nat) (lost : Bool) (la : Bool) (lb : Bool) (lz : Bool),
         s.Works pdPos →
         a < 4 →
         pair < 3 →
         (∀ g : Nat, g < 4 → s.dev.flag (Obj.lcgRun g) = true → s.dev.flag (Obj.failoverEnable g) = false) →
         Answers (.signalLoss a pair lost la lb lz) s (fun t =>
           s.Leaves t (s.dev.updAxis a (fun x => { x with
             a := la, b := lb, qa := la, qb := lb, z := lz, lossA := if pair = 0 then lost else x.lossA,
             lossB := if pair = 1 then lost else x.lossB, lossZ := if pair = 2 then lost else x.lossZ })) [Obj.logSeq])) ∧
  (∀ (s : State) (a : Nat) (la : Bool) (lb : Bool),
         s.Works pdPos →
         a < 4 →
         s.dev.flag (Obj.axisEnable a) = true →
         (s.dev.axis a).loss = false →
         s.dev.edgeHeld a la lb = true →
         (la, lb) ≠ ((s.dev.axis a).a, (s.dev.axis a).b) →
         s.dev.illegalEdge a la lb = true →
         Answers (.encoderCount a la lb) s (fun t =>
           t.dev.val (Obj.illegalCount a) = .n (min (2 ^ 32 - 1) (s.dev.nat (Obj.illegalCount a) + 1) : Nat) ∧
             s.Leaves t (s.dev.updAxis a (fun x => x.levels la lb (grid5 s.dev.now))) [Obj.illegalCount a, Obj.logSeq])) ∧
  (∀ (s : State) (a : Nat) (la : Bool) (lb : Bool),
         s.Works pdPos →
         a < 4 →
         s.dev.edgeHeld a la lb = false →
         Answers (.encoderCount a la lb) s (fun t =>
           let x := s.dev.axis a
           let kept (last : Option Nat) (old new : Bool) : Bool :=
             if last.any (fun u => decide (grid5 s.dev.now < u + 5 * s.dev.nat (Obj.filterLen a))) = true then old else new
           Answers (.encoderCount a (kept x.edgeA x.a la) (kept x.edgeB x.b lb)) s (fun u => u = t) ∧
             (kept x.edgeA x.a la = x.a → kept x.edgeB x.b lb = x.b → s.Leaves t s.dev [])))

/-- Quadrature counting (R63) and the direction with its hysteresis (R64). -/
def Obligations.EveryAcceptedEdgeCountsOnce : Prop :=
  ∀ (s : State) (a : Nat) (la : Bool) (lb : Bool),
        s.Works pdPos →
        a < 4 →
        s.dev.flag (Obj.axisEnable a) = true →
        (s.dev.axis a).loss = false →
        (la ≠ (s.dev.axis a).a ↔ lb = (s.dev.axis a).b) →
        s.dev.edgeHeld a la lb = true →
        (la, lb) ≠ ((s.dev.axis a).qa, (s.dev.axis a).qb) →
        s.dev.illegalEdge a la lb = false →
        Answers (.encoderCount a la lb) s (fun t =>
          let x := s.dev.axis a
          let y := t.dev.axis a
          let ahead := (quadIndex la lb + 4 - quadIndex x.qa x.qb) % 4 = 1
          y.c = x.c + (if (ahead ↔ s.dev.flag (Obj.countDir a) = false) then 1 else -1) ∧
            y.a = la ∧ y.b = lb ∧ y.qa = la ∧ y.qb = lb ∧
            (y.pf, y.rev) =
              (if x.rev = false then (if x.pf < y.c then (y.c, false) else if y.c ≤ x.pf - 2 then (y.c + 1, true) else (x.pf, false))
               else (if y.c < x.pf - 1 then (y.c + 1, true) else if x.pf + 1 ≤ y.c then (y.c, false) else (x.pf, true))) ∧
            (∀ b : Nat, b < 4 → b ≠ a → t.dev.axis b = s.dev.axis b) ∧ t.dev.hbm = s.dev.hbm ∧ t.pending = s.pending)

/-- A LIX hit (R74 to R76), without a hand-over and with one (R55): of a pending commit that is due and of a LIVE write that waits, the
write comes second. A channel paced by the hits may start (R374). From when
the spacing counts and which hit is late are the model's readings (log entry 32). -/
def Obligations.AHitAssignsTheNextLix : Prop :=
  (∀ (s : State) (g : Nat) (r : Nat) (j : Bool),
        s.Works pdPos →
        g < 4 →
        s.dev.flag (Obj.lcgRun g) = true →
        s.dev.hitReached g = some (r, j) →
        (s.dev.lcg g).issueTime r ≤ s.dev.now →
        (s.dev.lcg g).restart = [] →
        s.dev.failoverDue g = false →
        (s.dev.group g).pend = [] →
        (s.dev.group g).live = [] →
        Answers (.lcgHit g) s (fun t =>
          let n := s.dev.nat (Obj.nextLix g)
          let x := s.dev.lcg g
          let y := t.dev.lcg g
          t.dev.val (Obj.nextLix g) = .n ((n + 1) % 2 ^ 64 : Nat) ∧
            y.hits.head?.map (fun h => (h.lix, h.pos, h.time)) = some (n, x.compare, x.issueTime r) ∧
            y.compare = x.compare + s.dev.nat (Obj.lineStep g) ∧ y.lastLix = some n ∧ y.waitStart = false ∧
            t.dev.pos.axes = s.dev.pos.axes ∧ (∀ k : Nat, k < 4 → k ≠ g → t.dev.lcg k = s.dev.lcg k) ∧
            s.Leaves t (s.Paced t { s.dev with pos := t.dev.pos }) (hitKeys g))) ∧
  (∀ (s : State) (g : Nat) (r : Nat) (j : Bool) (c : Commit) (k : Nat) (v : Val) (w : LiveWrite),
        s.Works pdPos →
        g < 4 →
        s.dev.flag (Obj.lcgRun g) = true →
        s.dev.hitReached g = some (r, j) →
        (s.dev.lcg g).issueTime r ≤ s.dev.now →
        (s.dev.lcg g).restart = [] →
        s.dev.failoverDue g = false →
        (s.dev.group g).pend = [c] →
        (∀ n ∈ c.target, n ≤ s.dev.nat (Obj.nextLix g)) →
        c.entries = [(k, v)] →
        (s.dev.group g).live = [w] →
        w.lix ≤ s.dev.nat (Obj.nextLix g) →
        (∀ x ∈ [k, w.key], (0x2400 ≤ x / 256 ∨ x = Obj.lineStep g) ∧ x ∉ [Obj.pairRole, Obj.fwState, Obj.domState pdHub, Obj.logMinSeverity] ++ (List.range 64).map Obj.paceEvent ++ (List.range 64).map Obj.paceArg ++ hitKeys g) →
        Answers (.lcgHit g) s (fun t =>
          let n := s.dev.nat (Obj.nextLix g)
          t.dev.val (Obj.nextLix g) = .n ((n + 1) % 2 ^ 64 : Nat) ∧ (t.dev.lcg g).lastLix = some n ∧
            (k ≠ w.key → t.dev.val k = v) ∧ t.dev.val w.key = w.val ∧
            t.dev.val (Obj.handedCsn g) = .n c.csn ∧ t.dev.val (Obj.lastHandoverLix g) = .n n ∧ t.dev.val (Obj.pending g) = .n 0 ∧
            (t.dev.group g).pend = [] ∧ (t.dev.group g).live = [] ∧
            (t.dev.lcg g).compare = (s.dev.lcg g).compare + t.dev.nat (Obj.lineStep g) ∧
            ((∀ x ∈ [k, w.key], x / 256 < 0x3480 ∨ 0x3504 ≤ x / 256) → t.dev.stitch = s.dev.stitch) ∧
            s.Leaves t (s.Paced t { s.dev with
              pos := t.dev.pos, cfgLog := t.dev.cfgLog, stitch := t.dev.stitch,
              tol := { s.dev.tol with groups := s.dev.tol.groups.modify g (fun G => { G with pend := [], live := [] }) } })
              ([k, w.key, Obj.handedCsn g, Obj.lastHandoverLix g] ++ hitKeys g)))

/-- Start and stop of an LCG (R78), its failover (R81), here as its primary axis loses a signal, and the failback (R82). The hits that
a stop leaves, those that a start waits behind and the partner's movement that stays counted over a failback are the model's choices
(log entries 64 and 69), and so is the hit of a start that has no delay (log entry 32). -/
def Obligations.LcgsStartStopAndFailBack : Prop :=
  (∀ (s : State) (ses : Nat) (g : Nat),
         s.Steady →
         g < 4 →
         s.MayWrite ses (Obj.lcgRun g) [1] →
         s.dev.flag (Obj.lcgRun g) = false →
         s.dev.flag (Obj.axisEnable (s.dev.nat (Obj.primaryAxis g))) = true →
         (s.dev.group g).pend = [] →
         (s.dev.group g).live = [] →
         (∀ u ∈ (s.dev.lcg g).lastHit, u + 1000 ≤ s.dev.now) →
         (s.dev.lcg g).stopAt = none ∨ s.dev.hitReached g = none →
         s.dev.flag (Obj.failoverEnable g) = false ∨
           ((s.dev.axis (s.dev.nat (Obj.primaryAxis g))).loss = false ∧
             ((s.dev.lcg g).partSince * s.dev.int (Obj.partnerRatio g)).natAbs ≤ s.dev.nat (Obj.failDetect g)) →
         Answers (.lcgStart ses g) s (fun t =>
           t.dev.opCode = .ok ∧ t.dev.val (Obj.lcgRun g) = .n 1 ∧ t.dev.val (Obj.maxBacklog g) = .n 0 ∧ t.dev.pos.axes = s.dev.pos.axes ∧
             (if (s.dev.axis (s.dev.nat (Obj.primaryAxis g))).rev = false then
               t.dev.val (Obj.nextLix g) = .n ((s.dev.nat (Obj.nextLix g) + 1) % 2 ^ 64 : Nat) ∧
                 (t.dev.lcg g).hits.head?.map (fun h => (h.lix, h.pos, h.time)) = some (s.dev.nat (Obj.nextLix g), s.dev.lcgPos g, s.dev.now) ∧
                 s.Leaves t (s.Paced t { s.dev with pos := t.dev.pos }) (Obj.lcgRun g :: hitKeys g)
              else (t.dev.lcg g).waitStart = true ∧ (t.dev.lcg g).hits = (s.dev.lcg g).hits ∧
                 s.Leaves t (s.dev.updPos (fun _ => t.dev.pos)) [Obj.lcgRun g, Obj.maxBacklog g, Obj.logSeq]))) ∧
  (∀ (s : State) (ses : Nat) (g : Nat),
         s.Steady →
         g < 4 →
         s.MayWrite ses (Obj.lcgRun g) [0] →
         s.dev.flag (Obj.lcgRun g) = true →
         Answers (.lcgStop ses g) s (fun t =>
           t.dev.opCode = .ok ∧ t.dev.val (Obj.lcgRun g) = .n 0 ∧ (t.dev.lcg g).waitStart = false ∧ (∀ w ∈ (t.dev.lcg g).restart, w.at?.isSome = true ∧ w.stop.isSome = true) ∧
             (t.dev.lcg g).restart.map NextStart.at? = ((s.dev.lcg g).restart.map NextStart.at?).filter Option.isSome ∧
             (t.dev.lcg g).stopAt = (if (s.dev.lcg g).waitStart then none else if (s.dev.lcg g).restart ≠ [] then (s.dev.lcg g).stopAt else some s.dev.now) ∧
             (t.dev.lcg g).hits = (s.dev.lcg g).hits ∧ t.dev.pos.axes = s.dev.pos.axes ∧
             s.Leaves t (s.dev.updPos (fun _ => t.dev.pos)) [Obj.lcgRun g, Obj.maxBacklog g, Obj.logSeq])) ∧
  (∀ (s : State) (a : Nat) (pair : Nat) (la : Bool) (lb : Bool) (lz : Bool) (g : Nat),
         s.Works pdPos →
         a < 4 →
         pair < 3 →
         g < 4 →
         s.dev.flag (Obj.lcgRun g) = true →
         s.dev.flag (Obj.failoverEnable g) = true →
         s.dev.nat (Obj.partnerSource g) < 4 →
         s.dev.onPrimary g = true →
         s.dev.nat (Obj.primaryAxis g) = a →
         (∀ k : Nat, k < 4 → k ≠ g → s.dev.flag (Obj.lcgRun k) = true → s.dev.flag (Obj.failoverEnable k) = false) →
         Answers (.signalLoss a pair true la lb lz) s (fun t =>
           let moved := ((s.dev.lcg g).partSince - (s.dev.lcg g).partBack) * s.dev.int (Obj.partnerRatio g)
           let pos := s.dev.lcgPos g + moved
           let n := s.dev.passedHits g pos
           (t.dev.lcg g).partner = some (s.dev.nat (Obj.partnerSource g)) ∧ t.dev.lcgPos g = pos ∧
             t.dev.val (Obj.failoverCount g) = .n (min (2 ^ 32 - 1) (s.dev.nat (Obj.failoverCount g) + 1) : Nat) ∧
             (n ≠ 0 → t.dev.val (Obj.suspectLast g) = .n (s.dev.nat (Obj.nextLix g) + n - 1 : Nat) ∧ (t.dev.lcg g).lateRun = true ∧
               ((s.dev.lcg g).lateRun = false → t.dev.val (Obj.suspectFirst g) = .n (s.dev.nat (Obj.nextLix g)))) ∧
             t.dev.nat (Obj.nextLix g) = s.dev.nat (Obj.nextLix g) ∧ (∀ k : Nat, k < 4 → k ≠ g → t.dev.lcg k = s.dev.lcg k) ∧
             (∀ b : Nat, b < 4 → b ≠ a → t.dev.axis b = s.dev.axis b) ∧
             (s.dev.eyeletsPassed g pos = [] → s.Leaves t (s.dev.updPos (fun x => { x with axes := t.dev.pos.axes, lcgs := t.dev.pos.lcgs }))
               [Obj.failoverCount g, Obj.suspectFirst g, Obj.suspectLast g, Obj.maxBacklog g, Obj.logSeq]))) ∧
  (∀ (s : State) (ses : Nat) (g : Nat),
         s.Steady →
         g < 4 →
         s.MayWrite ses (Obj.failback g) [1] →
         (s.dev.axis (s.dev.nat (Obj.primaryAxis g))).loss = false →
         s.dev.nat (Obj.slipWindow g) ≤ (s.dev.lcg g).primMoved →
         (s.dev.lcg g).slipOk = true →
         Answers (.failback ses g) s (fun t =>
           t.dev.opCode = .ok ∧ (t.dev.lcg g).partner = none ∧ t.dev.lcgPos g = s.dev.lcgPos g ∧
             s.Leaves t (if s.dev.onPrimary g = true then s.dev else s.dev.updLcg g (fun l => { l with
               partner := none, posOff := s.dev.lcgPos g - (s.dev.axis (s.dev.nat (Obj.primaryAxis g))).pf * 65536, partBack := l.partSince })) []))

/-- The fires of a port (R84) and the ledger entries they open (R102). -/
def Obligations.PortsFireEveryLixOnce : Prop :=
  (∀ (s : State) (p : Nat) (e : PendFire) (u : Nat) (late : Bool),
         s.Works pdPos →
         p < 24 →
         (s.dev.rb9212 = true → p < 12) →
         s.dev.fireDue p = some (e, u, late) →
         s.dev.flag (Obj.portEnable p) = false →
         Answers (.portFire p) s (fun t =>
           (t.dev.trig p).pend = (s.dev.trig p).pend.drop 1 ∧ (t.dev.trig p).lastFire = some u ∧ t.dev.pos.axes = s.dev.pos.axes ∧
             t.dev.pos.lcgs = s.dev.pos.lcgs ∧ s.Leaves t (s.dev.updPos (fun _ => t.dev.pos)) [Obj.portLateCount p, Obj.logSeq])) ∧
  (∀ (s : State) (p : Nat) (e : PendFire) (u : Nat) (late : Bool),
         s.Works pdPos →
         p < 24 →
         (s.dev.rb9212 = true → p < 12) →
         s.dev.fireDue p = some (e, u, late) →
         s.dev.flag (Obj.portEnable p) = true →
         s.dev.gapEnd = none →
         (s.dev.port p).ledger.length < 256 →
         e.lix % 256 ≠ 255 →
         (s.dev.ep p).armed = none →
         Answers (.portFire p) s (fun t =>
           (t.dev.trig p).pend = (s.dev.trig p).pend.drop 1 ∧ (t.dev.trig p).lastFire = some u ∧
             t.dev.val (Obj.firedCount p) = .n (min (2 ^ 64 - 1) (s.dev.nat (Obj.firedCount p) + 1) : Nat) ∧
             (t.dev.port p).ledger.map (fun x => x.lix) = (s.dev.port p).ledger.map (fun x => x.lix) ++ [e.lix] ∧
             (t.dev.port p).ledger.take (s.dev.port p).ledger.length = (s.dev.port p).ledger ∧
             (∀ q : Nat, q < 24 → q ≠ p → t.dev.port q = s.dev.port q) ∧
             s.Leaves t { s.dev with pos := t.dev.pos, ports := t.dev.ports, stitch := t.dev.stitch }
               [Obj.portLateCount p, Obj.firedCount p, Obj.overRateCount p, Obj.logSeq]))

/-- Eyelets (R88, R89) and their action outputs (R90); a channel paced by an Eyelet may start (R374). -/
def Obligations.EyeletsFireAtTheirTarget : Prop :=
  (∀ (s : State) (ses : Nat) (k : Nat),
         s.Steady →
         k < 256 →
         s.MayWrite ses (Obj.eyArm k) [1] →
         s.dev.flag (Obj.eyArm k) = false →
         s.dev.eyPassed k = none →
         Answers (.eyeletArm ses k) s (fun t =>
           t.dev.opCode = .ok ∧ t.dev.val (Obj.eyArm k) = .n 1 ∧ t.dev.val (Obj.eyState k) = .n 1 ∧
             (Tbl.get? t.dev.pos.eyelets k).map (fun e => e.since) = some s.dev.now ∧
             s.Leaves t (s.dev.updPos (fun x => { x with eyelets := t.dev.pos.eyelets })) [Obj.eyArm k, Obj.eyState k])) ∧
  (∀ (s : State) (ses : Nat) (k : Nat) (late : Nat),
         s.Steady →
         k < 256 →
         s.MayWrite ses (Obj.eyArm k) [1] →
         s.dev.flag (Obj.eyArm k) = false →
         s.dev.eyPassed k = some late →
         s.dev.nat Obj.lateWindow < late →
         Answers (.eyeletArm ses k) s (fun t =>
           t.dev.opCode = .late ∧ t.dev.val Obj.eyRefusedLate = .n (min (2 ^ 32 - 1) (s.dev.nat Obj.eyRefusedLate + 1) : Nat) ∧
             s.Leaves t s.dev [Obj.eyRefusedLate])) ∧
  (∀ (s : State) (ses : Nat) (k : Nat) (late : Nat),
         s.Steady →
         k < 256 →
         s.MayWrite ses (Obj.eyArm k) [1] →
         s.dev.flag (Obj.eyArm k) = false →
         s.dev.eyPassed k = some late →
         late ≤ s.dev.nat Obj.lateWindow →
         s.dev.nat (Obj.eyRepeat k) = 0 →
         s.dev.nat (Obj.eyLcg k) < 4 →
         Answers (.eyeletArm ses k) s (fun t =>
           t.dev.opCode = .ok ∧ t.dev.val (Obj.eyState k) = .n 3 ∧ t.dev.val (Obj.eyArm k) = .n 0 ∧ t.dev.val (Obj.eyLateLines k) = .n late ∧
             t.dev.val (Obj.eyFireLix k) = .n (s.dev.curLix (s.dev.nat (Obj.eyLcg k)) : Nat) ∧
             t.dev.val Obj.eyFired = .n (min (2 ^ 32 - 1) (s.dev.nat Obj.eyFired + 1) : Nat) ∧
             t.dev.val Obj.eyFiredLate = .n (min (2 ^ 32 - 1) (s.dev.nat Obj.eyFiredLate + 1) : Nat) ∧
             s.Leaves t (s.Paced t (s.dev.updPos (fun x => { x with
               eyelets := Tbl.del x.eyelets k, actLevel := t.dev.pos.actLevel, actPulse := t.dev.pos.actPulse })))
               ([Obj.eyState k, Obj.eyArm k, Obj.eyLateLines k, Obj.eyFireLix k, Obj.eyFireTime k, Obj.eyFired, Obj.eyFiredLate, Obj.logSeq] ++ paceKeys))) ∧
  (∀ (s : State) (ses : Nat) (k : Nat),
         s.Steady →
         k < 256 →
         s.MayWrite ses (Obj.eyArm k) [0] →
         s.dev.flag (Obj.eyArm k) = true →
         Answers (.eyeletDisarm ses k) s (fun t =>
           t.dev.opCode = .ok ∧ t.dev.val (Obj.eyArm k) = .n 0 ∧ t.dev.val (Obj.eyState k) = .n 0 ∧
             s.Leaves t (s.dev.updPos (fun x => { x with eyelets := Tbl.del x.eyelets k })) [Obj.eyArm k, Obj.eyState k])) ∧
  (∀ (s : State) (k : Nat) (pos : Int) (since : Nat) (r : Nat),
         s.Works pdPos →
         k < 256 →
         Tbl.get? s.dev.pos.eyelets k = some { target := some pos, since := since } →
         s.dev.reach (s.dev.nat (Obj.eyLcg k)) pos since = some (r, false) →
         r + 15 ≤ s.dev.now →
         s.dev.eyeletsUpTo k (r + 15) = [k] →
         (∀ g : Nat, g < 4 → ∀ h ∈ s.dev.hitReached g, r + 15 < (s.dev.lcg g).issueTime h.1) →
         s.dev.nat (Obj.eyRepeat k) = 0 →
         s.dev.nat (Obj.eyLcg k) < 4 →
         Answers (.eyeletFire k) s (fun t =>
           t.dev.val (Obj.eyState k) = .n 2 ∧ t.dev.val (Obj.eyArm k) = .n 0 ∧ t.dev.val (Obj.eyFireLix k) = .n (s.dev.curLix (s.dev.nat (Obj.eyLcg k)) : Nat) ∧
             t.dev.val Obj.eyFired = .n (min (2 ^ 32 - 1) (s.dev.nat Obj.eyFired + 1) : Nat) ∧
             s.Leaves t (s.Paced t (s.dev.updPos (fun x => { x with
               eyelets := Tbl.del x.eyelets k, actLevel := t.dev.pos.actLevel, actPulse := t.dev.pos.actPulse })))
               ([Obj.eyState k, Obj.eyArm k, Obj.eyFireLix k, Obj.eyFireTime k, Obj.eyFired, Obj.logSeq] ++ paceKeys))) ∧
  (∀ (s : State) (k : Nat) (pos : Int) (since : Nat) (r : Nat),
         s.Works pdPos →
         k < 256 →
         Tbl.get? s.dev.pos.eyelets k = some { target := some pos, since := since } →
         s.dev.reach (s.dev.nat (Obj.eyLcg k)) pos since = some (r, false) →
         r + 15 ≤ s.dev.now →
         s.dev.eyeletsUpTo k (r + 15) = [k] →
         (∀ g : Nat, g < 4 → ∀ h ∈ s.dev.hitReached g, r + 15 < (s.dev.lcg g).issueTime h.1) →
         s.dev.nat (Obj.eyRepeat k) ≠ 0 →
         s.dev.nat (Obj.eyLcg k) < 4 →
         lixDiff (s.dev.curLix (s.dev.nat (Obj.eyLcg k))) ((s.dev.nat (Obj.eyTarget k) + s.dev.nat (Obj.eyRepeat k)) % 2 ^ 64) < 0 →
         Answers (.eyeletFire k) s (fun t =>
           t.dev.val (Obj.eyState k) = .n 1 ∧ t.dev.val (Obj.eyArm k) = .n 1 ∧
             t.dev.val (Obj.eyTarget k) = .n ((s.dev.nat (Obj.eyTarget k) + s.dev.nat (Obj.eyRepeat k)) % 2 ^ 64 : Nat) ∧
             t.dev.val (Obj.eyFireLix k) = .n (s.dev.curLix (s.dev.nat (Obj.eyLcg k)) : Nat) ∧
             t.dev.val Obj.eyFired = .n (min (2 ^ 32 - 1) (s.dev.nat Obj.eyFired + 1) : Nat) ∧
             (Tbl.get? t.dev.pos.eyelets k).map (fun e => e.since) = some s.dev.now ∧
             s.Leaves t (s.Paced t (s.dev.updPos (fun x => { x with
               eyelets := t.dev.pos.eyelets, actLevel := t.dev.pos.actLevel, actPulse := t.dev.pos.actPulse })))
               ([Obj.eyState k, Obj.eyArm k, Obj.eyTarget k, Obj.eyFireLix k, Obj.eyFireTime k, Obj.eyFired, Obj.logSeq] ++ paceKeys))) ∧
  (∀ (s : State) (o : Nat) (u : Nat), s.Works pdPos → o < 16 → Tbl.get? s.dev.pos.actPulse o = some u → u ≤ s.dev.now →
         Answers (.actionPulseEnd o) s (fun t =>
           s.Leaves t (s.dev.updPos (fun x => { x with actPulse := Tbl.del x.actPulse o })) []))

/-- SSI inputs (R71) and event inputs (R92). The bits of a frame, the times at which the levels change and thus what the filters let
through are taken from the operands: the model's choice (log entry 55). -/
def Obligations.InputsOfTheUnitAreTaken : Prop :=
  (∀ (s : State) (i : Nat) (bits : List Bool),
         s.Works pdPos →
         i < 2 →
         s.dev.flag (Obj.ssiEnable i) = true →
         bits.length = s.dev.nat (Obj.ssiBits i) + (if s.dev.nat (Obj.ssiParity i) = 0 then 0 else 1) →
         s.dev.nat (Obj.ssiParity i) = 0 ∨ (bits.filter id).length % 2 = s.dev.nat (Obj.ssiParity i) - 1 →
         Answers (.ssiFrame i true true bits) s (fun t =>
           let data := bits.take (s.dev.nat (Obj.ssiBits i))
           t.dev.val (Obj.ssiValue i) = .n (bitsNat (if s.dev.nat (Obj.ssiCode i) = 1 then grayDecode data else data) : Nat) ∧
             t.dev.val (Obj.ssiFault i) = .n 0 ∧ t.dev.pos.axes = s.dev.pos.axes ∧
             s.Leaves t (s.dev.updPos (fun _ => t.dev.pos)) ([Obj.ssiValue i, Obj.ssiFault i, Obj.logSeq] ++ (List.range 4).map Obj.slipCount))) ∧
  (∀ (s : State) (i : Nat) (high : Bool) (low : Bool) (bits : List Bool),
         s.Works pdPos →
         i < 2 →
         s.dev.flag (Obj.ssiEnable i) = true →
         high = false ∨ low = false ∨
           (bits.length = s.dev.nat (Obj.ssiBits i) + 1 ∧ (s.dev.nat (Obj.ssiParity i) = 1 ∨ s.dev.nat (Obj.ssiParity i) = 2) ∧
             (bits.filter id).length % 2 ≠ s.dev.nat (Obj.ssiParity i) - 1) →
         Answers (.ssiFrame i high low bits) s (fun t =>
           t.dev.val (Obj.ssiErrorCount i) = .n (min (2 ^ 32 - 1) (s.dev.nat (Obj.ssiErrorCount i) + 1) : Nat) ∧
             ((s.dev.pos.ssi.map (fun x => x.discards)).getD i 0 = 2 → t.dev.val (Obj.ssiFault i) = .n 1) ∧
             ((s.dev.pos.ssi.map (fun x => x.discards)).getD i 0 ≠ 2 → t.dev.val (Obj.ssiFault i) = s.dev.val (Obj.ssiFault i)) ∧
             (t.dev.pos.ssi.map (fun x => x.discards)).getD i 0 = (s.dev.pos.ssi.map (fun x => x.discards)).getD i 0 + 1 ∧
             (t.dev.pos.ssi.map (fun x => x.good)) = (s.dev.pos.ssi.map (fun x => x.good)) ∧
             s.Leaves t (s.dev.updPos (fun x => { x with ssi := t.dev.pos.ssi })) [Obj.ssiErrorCount i, Obj.ssiFault i, Obj.logSeq])) ∧
  (∀ (s : State) (i : Nat) (level : Bool),
         s.Works pdPos →
         i < 8 →
         s.dev.flag (Obj.evEnable i) = true →
         bit s.dev.pos.evLevel i ≠ level →
         s.dev.evHeld i = true →
         s.dev.nat (Obj.evEdge i) = 2 ∨ s.dev.nat (Obj.evEdge i) = (if level then 0 else 1) →
         255 < s.dev.nat (Obj.evArmEyelet i) →
         Answers (.eventInput i level) s (fun t =>
           t.dev.val (Obj.evCount i) = .n (min (2 ^ 32 - 1) (s.dev.nat (Obj.evCount i) + 1) : Nat) ∧
             t.dev.val (Obj.evLastLix i) = .n (s.dev.curLix (s.dev.nat (Obj.evLcg i)) : Nat) ∧
             s.Leaves t (s.dev.updPos (fun x => { x with evLevel := setBit x.evLevel i level, evAt := Tbl.put x.evAt i s.dev.now }))
               [Obj.evCount i, Obj.evLastLix i, Obj.evLastFrac i, Obj.evLastTime i, Obj.logSeq])) ∧
  (∀ (s : State) (i : Nat) (level : Bool),
         s.Works pdPos →
         i < 8 →
         s.dev.flag (Obj.evEnable i) = true →
         bit s.dev.pos.evLevel i ≠ level →
         s.dev.evHeld i = true →
         s.dev.nat (Obj.evEdge i) = 2 ∨ s.dev.nat (Obj.evEdge i) = (if level then 0 else 1) →
         s.dev.nat (Obj.evArmEyelet i) ≤ 255 →
         s.dev.flag (Obj.eyArm (s.dev.nat (Obj.evArmEyelet i))) = true →
         Answers (.eventInput i level) s (fun t =>
           t.dev.val (Obj.evCount i) = .n (min (2 ^ 32 - 1) (s.dev.nat (Obj.evCount i) + 1) : Nat) ∧
             t.dev.val (Obj.evLastLix i) = .n (s.dev.curLix (s.dev.nat (Obj.evLcg i)) : Nat) ∧
             t.dev.val (Obj.evArmMissed i) = .n (min (2 ^ 32 - 1) (s.dev.nat (Obj.evArmMissed i) + 1) : Nat) ∧
             s.Leaves t (s.dev.updPos (fun x => { x with evLevel := setBit x.evLevel i level, evAt := Tbl.put x.evAt i s.dev.now }))
               [Obj.evCount i, Obj.evLastLix i, Obj.evLastFrac i, Obj.evLastTime i, Obj.evArmMissed i, Obj.logSeq])) ∧
  (∀ (s : State) (i : Nat) (level : Bool),
         s.Works pdPos →
         i < 8 →
         s.dev.flag (Obj.evEnable i) = false ∨ bit s.dev.pos.evLevel i = level ∨ s.dev.evHeld i = false ∨
           (s.dev.nat (Obj.evEdge i) ≠ 2 ∧ s.dev.nat (Obj.evEdge i) ≠ (if level then 0 else 1)) →
         Answers (.eventInput i level) s (fun t =>
           if bit s.dev.pos.evLevel i = level ∨ s.dev.evHeld i = false then s.Leaves t s.dev []
           else s.Leaves t (s.dev.updPos (fun x => { x with evLevel := setBit x.evLevel i level, evAt := Tbl.put x.evAt i s.dev.now })) []))

/-- The port states of R99. What Discovery ends with and which state has which lane speeds is read in log entry 35; that a fault leaves
an entry that no line matched to its window is log entry 37, and that a camera which answers without accepting logs the format event
is log entry 65: the model's choices. -/
def Obligations.PortsFollowTheirStateTable : Prop :=
  (∀ (s : State) (p : Nat) (speeds : List Nat) (n : Nat),
         s.Steady →
         p < 24 →
         s.dev.domOn (portDomain p) = true →
         (s.dev.rb9212 = true → p < 12) →
         s.dev.portState p = 1 →
         s.dev.nat (Obj.linkSpeed p) ≠ 0 →
         speeds.contains (s.dev.nat (Obj.linkSpeed p)) = true →
         cxpSpeeds.contains (s.dev.nat (Obj.linkSpeed p)) = true →
         s.dev.nat (Obj.laneCount p) ≤ n →
         s.dev.nat (Obj.laneCount p) ≤ 8 →
         s.dev.payloadFits p (s.dev.nat (Obj.linkSpeed p)) = true →
         Answers (.masterConnectionAnswers p speeds n) s (fun t =>
           t.dev.val (Obj.portState p) = .n 2 ∧ t.dev.val (Obj.speedInUse p) = .n (s.dev.nat (Obj.linkSpeed p)) ∧
             (t.dev.port p).offered = some (speeds, n) ∧ (∀ q : Nat, q < 24 → q ≠ p → t.dev.port q = s.dev.port q) ∧
             s.Leaves t { s.dev with ports := t.dev.ports, eng := t.dev.eng, pos := t.dev.pos } ([Obj.portState p, Obj.speedInUse p, Obj.logSeq] ++ (List.range 8).map (fun i => Obj.laneSpeed (8 * p + i))))) ∧
  (∀ (s : State) (p : Nat), s.Steady → p < 24 → s.dev.domOn (portDomain p) = true → (s.dev.rb9212 = true → p < 12) →
         Answers (.discoveryTimeout p) s (fun t =>
           if s.dev.portState p = 1 ∧ (s.dev.port p).since + 500000000 ≤ s.dev.now then
             t.dev.val (Obj.portState p) = .n 5 ∧ s.Leaves t (s.dev.updPort p (fun x => { x with since := s.dev.now })) ([Obj.portState p, Obj.speedInUse p, Obj.logSeq] ++ (List.range 8).map (fun i => Obj.laneSpeed (8 * p + i)))
           else s.Leaves t s.dev [])) ∧
  (∀ (s : State) (p : Nat), s.Steady → p < 24 → s.dev.domOn (portDomain p) = true → (s.dev.rb9212 = true → p < 12) →
         Answers (.faultRetry p) s (fun t =>
           if s.dev.portState p = 5 ∧ (s.dev.port p).since + 100000000 ≤ s.dev.now then
             t.dev.val (Obj.portState p) = .n 1 ∧ s.Leaves t (s.dev.updPort p (fun x => { x with since := s.dev.now })) ([Obj.portState p, Obj.speedInUse p, Obj.logSeq] ++ (List.range 8).map (fun i => Obj.laneSpeed (8 * p + i)))
           else s.Leaves t s.dev [])) ∧
  (∀ (s : State) (p : Nat) (accepted : Bool),
         s.Steady →
         p < 24 →
         s.dev.domOn (portDomain p) = true →
         (s.dev.rb9212 = true → p < 12) →
         s.dev.portState p = 2 →
         Answers (.cameraConfigured p accepted) s (fun t =>
           if accepted = true ∧ s.dev.now ≤ (s.dev.port p).since + 20000000 ∧ s.dev.camWrites (s.dev.ep p).pset ≤ (s.dev.ep p).initStep ∧ s.dev.lanesReady p = true then
             t.dev.val (Obj.portState p) = .n 3 ∧
               s.Leaves t (s.dev.updPort p (fun x => { x with since := s.dev.now, heard := s.dev.now })) [Obj.portState p, Obj.logSeq]
           else t.dev.val (Obj.portState p) = .n 5 ∧ s.Leaves t (s.dev.updPort p (fun x => { x with since := s.dev.now })) ([Obj.portState p, Obj.speedInUse p, Obj.logSeq] ++ (List.range 8).map (fun i => Obj.laneSpeed (8 * p + i))))) ∧
  (∀ (s : State) (p : Nat),
         s.Steady →
         p < 24 →
         s.dev.domOn (portDomain p) = true →
         (s.dev.rb9212 = true → p < 12) →
         s.dev.portState p = 3 ∨ s.dev.portState p = 4 →
         (s.dev.port p).heard + s.dev.nat (Obj.heartbeatTimeout p) * 1000000 ≤ s.dev.now →
         (s.dev.ep p).acq = none →
         Answers (.heartbeatTimeout p) s (fun t =>
           t.dev.val (Obj.portState p) = .n 5 ∧ (t.dev.port p).cur = [] ∧ (t.dev.port p).held = [] ∧
             (t.dev.port p).ledger = (s.dev.port p).ledger.map (fun e =>
                 if (s.dev.port p).faulted = true ∨ s.dev.portState p = 4 ∨ e.cutOff = true then e.loseLink else e) ∧
             (∀ q : Nat, q < 24 → q ≠ p → t.dev.port q = s.dev.port q) ∧ s.Leaves t { s.dev with ports := t.dev.ports } ([Obj.portState p, Obj.speedInUse p, Obj.logSeq] ++ (List.range 8).map (fun i => Obj.laneSpeed (8 * p + i)))))

/-- Enabling and disabling a port (R99). -/
def Obligations.PortsStartAndStop : Prop :=
  (∀ (s : State) (ses : Nat) (p : Nat),
         s.Steady →
         p < 24 →
         (s.dev.rb9212 = true → p < 12) →
         s.MayWrite ses (Obj.portEnable p) [1] →
         s.dev.flag (Obj.portEnable p) = false →
         s.dev.ready (portDomain p) = true →
         s.dev.ready (engineDomain (s.dev.engineOf p)) = true →
         s.dev.nat (Obj.bindMode p) ≠ 0 →
         s.dev.nat (Obj.psetInitial p) < 256 →
         s.dev.nat (Obj.psetPort (s.dev.nat (Obj.psetInitial p))) = p →
         s.dev.portState p = 0 →
         Answers (.portEnable ses p) s (fun t =>
           t.dev.opCode = .ok ∧ t.dev.val (Obj.portEnable p) = .n 1 ∧ t.dev.val (Obj.portState p) = .n 1 ∧ (t.dev.port p).ledger = [] ∧
             (t.dev.ep p).pset = s.dev.nat (Obj.psetInitial p) ∧ (t.dev.ep p).armed = (s.dev.ep p).armed ∧
             (t.dev.port p).lastKept = (s.dev.port p).lastKept ∧ (∀ q : Nat, q < 24 → q ≠ p → t.dev.port q = s.dev.port q ∧ t.dev.trig q = s.dev.trig q) ∧
             s.Leaves t { s.dev with ports := t.dev.ports, eng := t.dev.eng, stitch := t.dev.stitch, pos := { s.dev.pos with trigs := t.dev.pos.trigs } }
               ([Obj.portEnable p, Obj.psetState (s.dev.nat (Obj.psetInitial p))] ++ ([Obj.portState p, Obj.speedInUse p, Obj.logSeq] ++ (List.range 8).map (fun i => Obj.laneSpeed (8 * p + i)))))) ∧
  (∀ (s : State) (ses : Nat) (p : Nat),
         s.Steady →
         p < 24 →
         (s.dev.rb9212 = true → p < 12) →
         s.MayWrite ses (Obj.portEnable p) [0] →
         s.dev.flag (Obj.portEnable p) = true →
         (s.dev.port p).ledger = [] →
         s.dev.nat (Obj.bindMode p) = 1 →
         (s.dev.ep p).queue = [] →
         (s.dev.ep p).slots = [] →
         (s.dev.ep p).hold = [] →
         (s.dev.ep p).window = [] →
         (s.dev.ep p).armed = none →
         (s.dev.ep p).acq = none →
         (∀ q ∈ s.dev.heldPsets p, q < 256) →
         Answers (.portDisable ses p) s (fun t =>
           t.dev.opCode = .ok ∧ t.dev.val (Obj.portEnable p) = .n 0 ∧ t.dev.val (Obj.portState p) = .n 0 ∧
             (t.dev.trig p).lvdsEnd = none ∧ (∀ q : Nat, q < 24 → q ≠ p → t.dev.port q = s.dev.port q ∧ t.dev.trig q = s.dev.trig q) ∧
             t.dev.hbm = s.dev.hbm ∧ { t.dev.pos with trigs := s.dev.pos.trigs } = s.dev.pos ∧ t.pending = s.pending))

/-- Lanes (R100) and line reception (R102, R107, R111). The reading of the operand of LANE_LOCK_LOST is log entry 65; that the loss of a
used lane leads to Fault from Discovery on is log entry 35, and what a fault leaves of the ledger log entry 37: the model's choices. -/
def Obligations.LanesAndPacketsAreTaken : Prop :=
  (∀ (s : State) (n : Nat),
         s.Steady →
         n < 192 →
         s.dev.domOn (portDomain (n / 8)) = true →
         (s.dev.rb9212 = true → n < 96) →
         s.dev.portState (n / 8) ≠ 2 →
         Answers (.laneLock n) s (fun t =>
           t.dev.val (Obj.laneLocked n) = .n 1 ∧ t.dev.val (Obj.lanesLocked (n / 8)) = .n (setBit (s.dev.nat (Obj.lanesLocked (n / 8))) (n % 8) true : Nat) ∧
             s.Leaves t (s.dev.updPort (n / 8) (fun x => { x with
               invalid := Tbl.del x.invalid (n % 8), measured := Tbl.put x.measured (n % 8) s.dev.now })) [Obj.laneLocked n, Obj.lanesLocked (n / 8)])) ∧
  (∀ (s : State) (n : Nat) (k : Nat),
         s.Steady →
         n < 192 →
         s.dev.domOn (portDomain (n / 8)) = true →
         (s.dev.rb9212 = true → n < 96) →
         s.dev.nat (Obj.laneCount (n / 8)) ≤ n % 8 →
         (s.dev.ep (n / 8)).acq = none →
         Answers (.laneLockLost n k) s (fun t =>
           t.dev.val (Obj.codeErrors n) = .n (min (2 ^ 32 - 1) (s.dev.nat (Obj.codeErrors n) + k) : Nat) ∧
             (if s.dev.flag (Obj.laneLocked n) = false then s.Leaves t s.dev [Obj.codeErrors n]
              else if 4 ≤ k ∨ 64 ≤ sumN ((s.dev.invalidGroups n k).map (fun e => e.2)) then
               t.dev.val (Obj.laneLocked n) = .n 0 ∧ t.dev.val (Obj.lockLosses n) = .n (min (2 ^ 32 - 1) (s.dev.nat (Obj.lockLosses n) + 1) : Nat) ∧
                 s.Leaves t (s.dev.updPort (n / 8) (fun x => { x with
                   invalid := Tbl.del x.invalid (n % 8), measured := Tbl.put x.measured (n % 8) s.dev.now }))
                   [Obj.codeErrors n, Obj.laneLocked n, Obj.lanesLocked (n / 8), Obj.lockLosses n, Obj.logSeq]
              else s.Leaves t (s.dev.updPort (n / 8) (fun x => { x with
                invalid := Tbl.put x.invalid (n % 8) (s.dev.invalidGroups n k) })) [Obj.codeErrors n]))) ∧
  (∀ (s : State) (n : Nat) (k : Nat),
         s.Steady →
         n < 192 →
         s.dev.domOn (portDomain (n / 8)) = true →
         (s.dev.rb9212 = true → n < 96) →
         n % 8 < s.dev.nat (Obj.laneCount (n / 8)) →
         1 ≤ s.dev.portState (n / 8) →
         s.dev.portState (n / 8) ≤ 4 →
         s.dev.flag (Obj.laneLocked n) = true →
         4 ≤ k →
         (s.dev.ep (n / 8)).acq = none →
         Answers (.laneLockLost n k) s (fun t =>
           let p := n / 8
           t.dev.val (Obj.laneLocked n) = .n 0 ∧ t.dev.val (Obj.portState p) = .n 5 ∧
             t.dev.val (Obj.codeErrors n) = .n (min (2 ^ 32 - 1) (s.dev.nat (Obj.codeErrors n) + k) : Nat) ∧
             t.dev.val (Obj.lockLosses n) = .n (min (2 ^ 32 - 1) (s.dev.nat (Obj.lockLosses n) + 1) : Nat) ∧
             (t.dev.port p).cur = [] ∧ (t.dev.port p).held = [] ∧
             (t.dev.port p).ledger = (s.dev.port p).ledger.map (fun e =>
                 if (s.dev.port p).faulted = true ∨ s.dev.portState p = 4 ∨ e.cutOff = true then e.loseLink else e) ∧
             (∀ q : Nat, q < 24 → q ≠ p → t.dev.port q = s.dev.port q) ∧
             s.Leaves t { s.dev with ports := t.dev.ports }
               ([Obj.codeErrors n, Obj.laneLocked n, Obj.lanesLocked p, Obj.lockLosses n, Obj.portState p, Obj.speedInUse p, Obj.logSeq] ++
                 (List.range 8).map (fun i => Obj.laneSpeed (8 * p + i))))) ∧
  (∀ (s : State) (p : Nat) (stream : Nat) (format : Nat) (e : LedgerEntry),
         s.Steady →
         p < 24 →
         s.dev.domOn (portDomain p) = true →
         (s.dev.rb9212 = true → p < 12) →
         s.dev.portState p = 4 →
         stream < s.dev.portStreams p →
         format = s.dev.streamFormat p stream →
         Tbl.get? (s.dev.port p).cur stream = none →
         (s.dev.port p).held = [] →
         s.dev.entryAt p s.dev.now = some e →
         (s.dev.streamPlanesOf p stream).any (fun i => (e.planes.getD i PlaneRx.empty).matched) = false →
         Answers (.lineStart p stream format) s (fun t =>
           Tbl.get? (t.dev.port p).cur stream = some (some e.lix) ∧
             (t.dev.port p).ledger = (s.dev.port p).ledger.map (fun x => if x.lix = e.lix then
               { x with planes := (List.range x.planes.length).map (fun i =>
                 let q := x.planes.getD i PlaneRx.empty
                 if (s.dev.streamPlanesOf p stream).contains i then { q with matched := true } else q) } else x) ∧
             (∀ q : Nat, q < 24 → q ≠ p → t.dev.port q = s.dev.port q) ∧ s.Leaves t { s.dev with ports := t.dev.ports } [])) ∧
  (∀ (s : State) (p : Nat) (stream : Nat) (format : Nat),
         s.Steady →
         p < 24 →
         s.dev.domOn (portDomain p) = true →
         (s.dev.rb9212 = true → p < 12) →
         s.dev.portState p = 4 →
         stream < s.dev.portStreams p →
         format = s.dev.streamFormat p stream →
         Tbl.get? (s.dev.port p).cur stream = none →
         (s.dev.port p).held = [] →
         s.dev.entryAt p s.dev.now = none →
         Answers (.lineStart p stream format) s (fun t =>
           t.dev.val (Obj.unsolicitedCount p) = .n (min (2 ^ 32 - 1) (s.dev.nat (Obj.unsolicitedCount p) + 1) : Nat) ∧
             (t.dev.port p).ledger = (s.dev.port p).ledger ∧ Tbl.get? (t.dev.port p).cur stream = some none ∧
             s.Leaves t { s.dev with ports := t.dev.ports } [Obj.unsolicitedCount p, Obj.logSeq])) ∧
  (∀ (s : State) (p : Nat) (lane : Nat) (stream : Nat) (crcOk : Bool) (samples : List Nat),
         s.Steady →
         p < 24 →
         s.dev.domOn (portDomain p) = true →
         (s.dev.rb9212 = true → p < 12) →
         lane / 8 = p →
         s.dev.portState p = 3 ∨ s.dev.portState p = 4 →
         (Tbl.get? (s.dev.port p).cur stream).getD none = none →
         (s.dev.port p).held = [] →
         Answers (.streamPacket p lane stream crcOk false samples) s (fun t =>
           (crcOk = false → t.dev.val (Obj.crcErrors lane) = .n (min (2 ^ 32 - 1) (s.dev.nat (Obj.crcErrors lane) + 1) : Nat)) ∧
             s.Leaves t (s.dev.updPort p (fun x => { x with heard := s.dev.now })) (if crcOk then [] else [Obj.crcErrors lane]))) ∧
  (∀ (s : State) (p : Nat) (lane : Nat) (stream : Nat) (samples : List Nat) (lix : Nat) (e : LedgerEntry),
         s.Steady →
         p < 24 →
         s.dev.domOn (portDomain p) = true →
         (s.dev.rb9212 = true → p < 12) →
         lane / 8 = p →
         s.dev.portState p = 3 ∨ s.dev.portState p = 4 →
         Tbl.get? (s.dev.port p).cur stream = some (some lix) →
         (s.dev.port p).held = [] →
         (s.dev.port p).ledger = [e] →
         e.lix = lix →
         e.closed = false →
         e.overrun = false →
         s.dev.ingressBytes p + ceilDiv (samples.length * (formatBits (s.dev.streamFormat p stream)).1) 8 ≤ 512 * 1024 →
         s.dev.streamPlanesOf p stream = [stream] →
         stream < e.planes.length →
         Answers (.streamPacket p lane stream true false samples) s (fun t =>
           (t.dev.port p).ledger.map (fun x => (x.planes.getD stream PlaneRx.empty).samples) =
               [((e.planes.getD stream PlaneRx.empty).samples ++ samples).take (s.dev.portWidth p)] ∧
             (t.dev.port p).ledger.map (fun x => (x.lix, x.corrupt, x.closed)) = [(e.lix, e.corrupt, false)] ∧
             (∀ q : Nat, q < 24 → q ≠ p → t.dev.port q = s.dev.port q) ∧ s.Leaves t { s.dev with ports := t.dev.ports } [])) ∧
  (∀ (s : State) (p : Nat) (lane : Nat) (stream : Nat) (samples : List Nat) (lix : Nat) (e : LedgerEntry),
         s.Steady →
         p < 24 →
         s.dev.domOn (portDomain p) = true →
         (s.dev.rb9212 = true → p < 12) →
         lane / 8 = p →
         s.dev.portState p = 3 ∨ s.dev.portState p = 4 →
         Tbl.get? (s.dev.port p).cur stream = some (some lix) →
         (s.dev.port p).held = [] →
         (s.dev.port p).ledger = [e] →
         e.lix = lix →
         e.closed = false →
         e.overrun = false →
         s.dev.ingressBytes p + ceilDiv (samples.length * (formatBits (s.dev.streamFormat p stream)).1) 8 ≤ 512 * 1024 →
         s.dev.streamPlanesOf p stream = [stream] →
         stream < e.planes.length →
         Answers (.streamPacket p lane stream false false samples) s (fun t =>
           t.dev.val (Obj.crcErrors lane) = .n (min (2 ^ 32 - 1) (s.dev.nat (Obj.crcErrors lane) + 1) : Nat) ∧
             (t.dev.port p).ledger.map (fun x => (x.lix, x.corrupt, x.cutoff, x.closed)) =
               [(e.lix, true, some (match e.cutoff with | some c => min c (e.planes.getD stream PlaneRx.empty).pixels | none => (e.planes.getD stream PlaneRx.empty).pixels), false)] ∧
             (∀ q : Nat, q < 24 → q ≠ p → t.dev.port q = s.dev.port q) ∧ s.Leaves t { s.dev with ports := t.dev.ports } [Obj.crcErrors lane, Obj.logSeq])) ∧
  (∀ (s : State) (p : Nat) (lane : Nat) (stream : Nat) (samples : List Nat) (lix : Nat) (e : LedgerEntry),
         s.Steady →
         p < 24 →
         s.dev.domOn (portDomain p) = true →
         (s.dev.rb9212 = true → p < 12) →
         lane / 8 = p →
         s.dev.portState p = 3 ∨ s.dev.portState p = 4 →
         Tbl.get? (s.dev.port p).cur stream = some (some lix) →
         (s.dev.port p).held = [] →
         (s.dev.port p).ledger = [e] →
         e.lix = lix →
         e.closed = false →
         e.overrun = false →
         512 * 1024 < s.dev.ingressBytes p + ceilDiv (samples.length * (formatBits (s.dev.streamFormat p stream)).1) 8 →
         Answers (.streamPacket p lane stream true false samples) s (fun t =>
           t.dev.val (Obj.overrunCount p) = .n (min (2 ^ 32 - 1) (s.dev.nat (Obj.overrunCount p) + 1) : Nat) ∧
             (t.dev.port p).ledger = [{ e with overrun := true, cause := if e.cause = 0 ∧ e.format = false then 5 else e.cause }] ∧
             (∀ q : Nat, q < 24 → q ≠ p → t.dev.port q = s.dev.port q) ∧ s.Leaves t { s.dev with ports := t.dev.ports } [Obj.overrunCount p])) ∧
  (∀ (s : State) (p : Nat) (lane : Nat) (stream : Nat) (samples : List Nat) (lix : Nat) (e : LedgerEntry) (x : PlaneRx),
         s.Steady →
         p < 24 →
         s.dev.domOn (portDomain p) = true →
         (s.dev.rb9212 = true → p < 12) →
         lane / 8 = p →
         s.dev.portState p = 3 ∨ s.dev.portState p = 4 →
         Tbl.get? (s.dev.port p).cur stream = some (some lix) →
         (s.dev.port p).held = [] →
         (s.dev.port p).ledger = [e] →
         e.lix = lix →
         e.closed = false →
         e.overrun = false →
         s.dev.ingressBytes p + ceilDiv (samples.length * (formatBits (s.dev.streamFormat p stream)).1) 8 ≤ 512 * 1024 →
         s.dev.streamPlanesOf p stream = [0] →
         e.planes = [x] →
         x.matched = true →
         Answers (.streamPacket p lane stream true true samples) s (fun t =>
           (t.dev.port p).ledger = [{ e with
               planes := [{ x with
                 complete := true, samples := (x.samples ++ samples).take (s.dev.portWidth p), pixels := x.pixels + samples.length,
                 long := x.long || decide (s.dev.portWidth p < x.pixels + samples.length) }],
               bytes := e.bytes + ceilDiv (samples.length * (formatBits (s.dev.streamFormat p stream)).1) 8, closed := true }] ∧
             Tbl.get? (t.dev.port p).cur stream = none ∧
             (∀ q : Nat, q < 24 → q ≠ p → t.dev.port q = s.dev.port q) ∧ s.Leaves t { s.dev with ports := t.dev.ports } []))

/-- Closing (R102) and delivery (R106, R107) of ledger entries. -/
def Obligations.LedgerEntriesCloseAndAreDelivered : Prop :=
  (∀ (s : State) (p : Nat), s.Steady → p < 24 → s.dev.domOn (portDomain p) = true → (s.dev.rb9212 = true → p < 12) →
         Answers (.windowExpiry p) s (fun t =>
           s.Leaves t (s.dev.updPort p (fun x => { x with ledger := x.ledger.map (fun e =>
             if e.closed = false ∧ e.fire + s.dev.natAt (Obj.winMax p) e.lix < s.dev.now ∧ e.planes.any (fun q => ! q.matched) = true then
               { e with closed := true } else e) })) [])) ∧
  (∀ (s : State) (p : Nat) (e : LedgerEntry) (rest : List LedgerEntry),
         s.Steady →
         p < 24 →
         s.dev.domOn (portDomain p) = true →
         (s.dev.rb9212 = true → p < 12) →
         (s.dev.port p).ledger = e :: rest →
         e.closed = true →
         s.dev.nat (Obj.bindMode p) ≠ 2 →
         s.dev.creditsCover p = true →
         Answers (.lineDelivery p) s (fun t =>
           let un := (s.dev.port p).packets.any (fun k => k.lix == e.lix && k.expired s.dev.now (s.dev.ackLimit p))
           let l := e.line p (s.dev.portWidth p) un false
           (t.dev.port p).ledger = rest ∧ (t.dev.ep p).queue = (s.dev.ep p).queue ++ [l] ∧ t.dev.val (Obj.lastLineTag p) = .b l.tag ∧
             (if l.missing then t.dev.val (Obj.missingCount p) = .n (min (2 ^ 64 - 1) (s.dev.nat (Obj.missingCount p) + 1) : Nat)
              else t.dev.val (Obj.deliveredCount p) = .n (min (2 ^ 64 - 1) (s.dev.nat (Obj.deliveredCount p) + 1) : Nat)) ∧
             (∀ q : Nat, q < 24 → q ≠ p → t.dev.port q = s.dev.port q ∧ t.dev.ep q = s.dev.ep q) ∧
             s.Leaves t { s.dev with ports := t.dev.ports, eng := t.dev.eng }
               [Obj.lastLineTag p, Obj.missingCount p, Obj.deliveredCount p, Obj.shortCount p, Obj.longCount p, Obj.corruptCount p, Obj.logSeq])) ∧
  (∀ (s : State) (p : Nat) (e : LedgerEntry) (rest : List LedgerEntry),
         s.Steady →
         p < 24 →
         s.dev.domOn (portDomain p) = true →
         (s.dev.rb9212 = true → p < 12) →
         (s.dev.port p).ledger = e :: rest →
         e.closed = true →
         s.dev.nat (Obj.bindMode p) = 2 →
         Answers (.lineDelivery p) s (fun t =>
           let un := (s.dev.port p).packets.any (fun k => k.lix == e.lix && k.expired s.dev.now (s.dev.ackLimit p))
           let l := e.line p (s.dev.portWidth p) un false
           let old := (s.dev.ep p).slots
           let joins := old.getLast?.any (fun x => x.strip == stripOf e.lix && x.closeAt.isNone)
           let room := if joins = true then old.getLast?.all (fun x => x.real)
             else decide ((old.filter (fun x => x.real)).length < s.dev.nat (Obj.mpSlots p)) || old.isEmpty
           (t.dev.port p).ledger = rest ∧ (t.dev.ep p).queue = (s.dev.ep p).queue ∧
             (t.dev.ep p).slots.length = (if joins = true then old.length else old.length + 1) ∧
             ((t.dev.ep p).slots.getLast?.map (fun x => (x.strip, x.real))) = some (stripOf e.lix, room) ∧
             ((t.dev.ep p).slots.take old.length).map (fun x => x.strip) = old.map (fun x => x.strip) ∧
             ((t.dev.ep p).slots.getLast?.bind (fun x => x.lines.getLast?.map (fun y => (y.lix, y.missing, y.cause)))) =
                 some (if room = true then (e.lix, l.missing, l.cause) else (e.lix, true, 6)) ∧
             (if room = false ∨ l.missing then t.dev.val (Obj.missingCount p) = .n (min (2 ^ 64 - 1) (s.dev.nat (Obj.missingCount p) + 1) : Nat)
              else t.dev.val (Obj.deliveredCount p) = .n (min (2 ^ 64 - 1) (s.dev.nat (Obj.deliveredCount p) + 1) : Nat)) ∧
             (∀ q : Nat, q < 24 → q ≠ p → t.dev.port q = s.dev.port q ∧ t.dev.ep q = s.dev.ep q) ∧
             s.Leaves t { s.dev with
               ports := t.dev.ports
               eng := t.dev.eng
               mem := { s.dev.mem with pcs := t.dev.mem.pcs } }
               [Obj.lastLineTag p, Obj.missingCount p, Obj.deliveredCount p, Obj.shortCount p, Obj.longCount p, Obj.corruptCount p, Obj.logSeq])) ∧
  (∀ (s : State) (p : Nat),
         s.Steady →
         p < 24 →
         s.dev.domOn (portDomain p) = true →
         (s.dev.rb9212 = true → p < 12) →
         ((s.dev.port p).ledger.head?.map (fun e => e.closed)) ≠ some true ∨ s.dev.creditsCover p = false →
         Answers (.lineDelivery p) s (fun t =>
           s.Leaves t s.dev []))

/-- Trigger packets (R114), pulses (R115) and event packets (R96). -/
def Obligations.TriggersAreAnsweredAndEnd : Prop :=
  (∀ (s : State) (p : Nat), s.Steady → p < 24 → s.dev.domOn (portDomain p) = true → (s.dev.rb9212 = true → p < 12) →
         Answers (.triggerAcknowledge p) s (fun t =>
           s.Leaves t (s.dev.updPort p (fun x => { x with heard := s.dev.now, packets := answerOldest s.dev.now x.packets })) [])) ∧
  (∀ (s : State) (p : Nat), s.Steady → p < 24 → s.dev.domOn (portDomain p) = true → (s.dev.rb9212 = true → p < 12) →
         Answers (.ackTimeout p) s (fun t =>
           let n := ((s.dev.port p).packets.filter (fun k => ! k.counted && k.expired s.dev.now (s.dev.ackLimit p))).length
           t.dev.nat (Obj.unackedCount p) =
               (if n = 0 then s.dev.nat (Obj.unackedCount p) else min (2 ^ 32 - 1) (s.dev.nat (Obj.unackedCount p) + n)) ∧
             s.Leaves t (s.dev.updPort p (fun x => { x with packets := x.packets.map (fun k =>
               if k.expired s.dev.now (s.dev.ackLimit p) then { k with counted := true } else k) })) [Obj.unackedCount p, Obj.logSeq])) ∧
  (∀ (s : State) (p : Nat) (u : Nat) (lix : Nat) (rest : List (Nat × Nat)),
         s.Steady →
         p < 24 →
         s.dev.domOn (portDomain p) = true →
         (s.dev.rb9212 = true → p < 12) →
         (s.dev.port p).falling = (u, lix) :: rest →
         u ≤ s.dev.now →
         Answers (.fallingEdgeTrigger p) s (fun t =>
           s.Leaves t (s.dev.updPort p (fun x => { x with
             falling := rest,
             packets := insertPacket { lix := lix, rising := false, sent := u + 15, answered := none, counted := false } x.packets })) [])) ∧
  (∀ (s : State) (p : Nat) (u : Nat) (active : Bool),
         s.Works pdPos →
         p < 24 →
         (s.dev.rb9212 = true → p < 12) →
         (s.dev.trig p).lvdsEnd = some (u, active) →
         Answers (.triggerPulseEnd p) s (fun t =>
           if u ≤ s.dev.now then t.dev.out = [.lvds p (! active) u] ∧ s.Leaves t (s.dev.updTrig p (fun x => { x with lvdsEnd := none })) []
           else s.Leaves t s.dev [])) ∧
  (∀ (s : State) (p : Nat),
         s.Steady →
         p < 24 →
         s.dev.domOn (portDomain p) = true →
         (s.dev.rb9212 = true → p < 12) →
         s.dev.portState p = 3 ∨ s.dev.portState p = 4 →
         Answers (.eventPacket p) s (fun t =>
           s.Leaves t (s.dev.updPort p (fun x => { x with heard := s.dev.now, eventPackets := x.eventPackets + 1 })) []))

/-- The control channel bridge (R116): its operations, and the camera writes of a parameter set, which go ahead of those that wait. -/
def Obligations.TheControlBridgeRunsOneCommand : Prop :=
  (∀ (s : State) (ses : Nat) (p : Nat),
         s.Steady →
         p < 24 →
         (s.dev.rb9212 = true → p < 12) →
         s.MayWrite ses (Obj.ctlOp p) [1] →
         (s.dev.port p).ctl = none →
         (s.dev.port p).ctlWait = [] →
         Answers (.ctlRead ses p) s (fun t =>
           if s.dev.nat (Obj.ctlStatus p) = 1 then t.Answered .busy [] ∧ s.Leaves t s.dev []
           else if s.dev.portState p = 3 ∨ s.dev.portState p = 4 then
             t.Answered .ok [] ∧ t.dev.val (Obj.ctlStatus p) = .n 1 ∧ s.Leaves t (s.dev.updPort p (fun x => { x with
               ctl := some (.bridgeRead (s.dev.nat (Obj.ctlAddress p)) (s.dev.nat (Obj.ctlLength p)), s.dev.now) })) [Obj.ctlStatus p]
           else t.Answered .ok [] ∧ t.dev.val (Obj.ctlStatus p) = .n 4 ∧ s.Leaves t s.dev [Obj.ctlStatus p])) ∧
  (∀ (s : State) (ses : Nat) (p : Nat),
         s.Steady →
         p < 24 →
         (s.dev.rb9212 = true → p < 12) →
         s.MayWrite ses (Obj.ctlOp p) [2] →
         (s.dev.port p).ctl = none →
         (s.dev.port p).ctlWait = [] →
         Answers (.ctlWrite ses p) s (fun t =>
           if s.dev.nat (Obj.ctlStatus p) = 1 then t.Answered .busy [] ∧ s.Leaves t s.dev []
           else if s.dev.portState p = 3 ∨ s.dev.portState p = 4 then
             t.Answered .ok [] ∧ t.dev.val (Obj.ctlStatus p) = .n 1 ∧ s.Leaves t (s.dev.updPort p (fun x => { x with
               ctl := some (.bridgeWrite (s.dev.nat (Obj.ctlAddress p)) ((s.dev.bytes (Obj.ctlData p)).take (s.dev.nat (Obj.ctlLength p))), s.dev.now) }))
               [Obj.ctlStatus p]
           else t.Answered .ok [] ∧ t.dev.val (Obj.ctlStatus p) = .n 4 ∧ s.Leaves t s.dev [Obj.ctlStatus p])) ∧
  (∀ (s : State) (p : Nat) (error : Bool) (data : Bytes) (a : Nat) (n : Nat) (u : Nat),
         s.Steady →
         p < 24 →
         s.dev.domOn (portDomain p) = true →
         (s.dev.rb9212 = true → p < 12) →
         (s.dev.port p).ctl = some (.bridgeRead a n, u) →
         (s.dev.port p).ctlWait = [] →
         Answers (.controlAcknowledge p error data) s (fun t =>
           t.dev.val (Obj.ctlStatus p) = .n (if error then 2 else 0) ∧ (error = false → t.dev.val (Obj.ctlData p) = .b (data.take n)) ∧
             s.Leaves t (s.dev.updPort p (fun x => { x with ctl := none, heard := s.dev.now })) (if error then [Obj.ctlStatus p] else [Obj.ctlStatus p, Obj.ctlData p]))) ∧
  (∀ (s : State) (p : Nat) (a : Nat) (n : Nat) (u : Nat),
         s.Steady →
         p < 24 →
         s.dev.domOn (portDomain p) = true →
         (s.dev.rb9212 = true → p < 12) →
         (s.dev.port p).ctl = some (.bridgeRead a n, u) →
         (s.dev.port p).ctlWait = [] →
         Answers (.controlTimeout p) s (fun t =>
           if s.dev.now ≤ u + 200000000 then s.Leaves t s.dev []
           else t.dev.val (Obj.ctlStatus p) = .n 3 ∧ s.Leaves t (s.dev.updPort p (fun x => { x with ctl := none })) [Obj.ctlStatus p])) ∧
  (∀ (s : State) (ses : Nat) (p : Nat) (rd : Bool) (x : CtlCmd × Nat),
         s.Steady →
         p < 24 →
         (s.dev.rb9212 = true → p < 12) →
         s.MayWrite ses (Obj.ctlOp p) [if rd = true then 1 else 2] →
         (s.dev.port p).ctl = some x →
         Answers (if rd = true then .ctlRead ses p else .ctlWrite ses p) s (fun t =>
           let a := s.dev.nat (Obj.ctlAddress p)
           let n := s.dev.nat (Obj.ctlLength p)
           let c := if rd = true then CtlCmd.bridgeRead a n else CtlCmd.bridgeWrite a ((s.dev.bytes (Obj.ctlData p)).take n)
           if s.dev.nat (Obj.ctlStatus p) = 1 then t.Answered .busy [] ∧ s.Leaves t s.dev []
           else if s.dev.portState p = 3 ∨ s.dev.portState p = 4 then
             t.Answered .ok [] ∧ t.dev.val (Obj.ctlStatus p) = .n 1 ∧
               s.Leaves t (s.dev.updPort p (fun y => { y with ctlWait := y.ctlWait ++ [c] })) [Obj.ctlStatus p]
           else t.Answered .ok [] ∧ t.dev.val (Obj.ctlStatus p) = .n 4 ∧ s.Leaves t s.dev [Obj.ctlStatus p])) ∧
  (∀ (s : State) (p : Nat) (error : Bool) (data : Bytes) (a : Nat) (bs : Bytes) (u : Nat),
         s.Steady →
         p < 24 →
         s.dev.domOn (portDomain p) = true →
         (s.dev.rb9212 = true → p < 12) →
         (s.dev.port p).ctl = some (.bridgeWrite a bs, u) →
         Answers (.controlAcknowledge p error data) s (fun t =>
           t.dev.val (Obj.ctlStatus p) = .n (if error then 2 else 0) ∧
             s.Leaves t (s.dev.updPort p (fun x => { x with
               heard := s.dev.now, ctl := x.ctlWait.head?.map (fun c => (c, s.dev.now)), ctlWait := x.ctlWait.tail })) [Obj.ctlStatus p])) ∧
  (∀ (s : State) (p : Nat) (a : Nat) (bs : Bytes) (u : Nat),
         s.Steady →
         p < 24 →
         s.dev.domOn (portDomain p) = true →
         (s.dev.rb9212 = true → p < 12) →
         (s.dev.port p).ctl = some (.bridgeWrite a bs, u) →
         Answers (.controlTimeout p) s (fun t =>
           if s.dev.now ≤ u + 200000000 then s.Leaves t s.dev []
           else t.dev.val (Obj.ctlStatus p) = .n 3 ∧
             s.Leaves t (s.dev.updPort p (fun x => { x with
               ctl := x.ctlWait.head?.map (fun c => (c, s.dev.now)), ctlWait := x.ctlWait.tail })) [Obj.ctlStatus p])) ∧
  (∀ (s : State) (p : Nat) (e : PendFire) (u : Nat) (late : Bool) (a : Armed) (x : CtlCmd × Nat),
         s.Works pdPos →
         p < 24 →
         (s.dev.rb9212 = true → p < 12) →
         s.dev.fireDue p = some (e, u, late) →
         s.dev.flag (Obj.portEnable p) = true →
         s.dev.gapEnd = none →
         (s.dev.port p).ledger.length < 256 →
         e.lix % 256 ≠ 255 →
         (s.dev.ep p).armed = some a →
         a.issued = none →
         a.preload = true →
         a.issueLix ≤ e.lix →
         s.dev.portState p = 4 →
         s.dev.camWrites a.pset ≠ 0 →
         (s.dev.port p).ctl = some x →
         Answers (.portFire p) s (fun t =>
           (t.dev.port p).ctl = some x ∧ (t.dev.port p).ctlWait = .psetWrite a.pset 0 :: (s.dev.port p).ctlWait ∧
             (t.dev.ep p).armed = some { a with issued := some e.lix } ∧ t.dev.val (Obj.psetIssueLix p) = .n e.lix ∧
             (∀ q : Nat, q < 24 → q ≠ p → t.dev.port q = s.dev.port q) ∧
             s.Leaves t { s.dev.updEp p (fun y => { y with armed := (t.dev.ep p).armed }) with
               pos := t.dev.pos, ports := t.dev.ports, stitch := t.dev.stitch }
               [Obj.portLateCount p, Obj.firedCount p, Obj.overRateCount p, Obj.psetIssueLix p, Obj.psetState a.pset, Obj.logSeq])) ∧
  (∀ (s : State) (p : Nat) (data : Bytes) (q : Nat) (step : Nat) (u : Nat) (a : Armed),
         s.Steady →
         p < 24 →
         s.dev.domOn (portDomain p) = true →
         (s.dev.rb9212 = true → p < 12) →
         (s.dev.port p).ctl = some (.psetWrite q step, u) →
         (s.dev.ep p).armed = some a →
         a.pset = q →
         a.issued.isSome = true →
         step + 1 < s.dev.camWrites q →
         Answers (.controlAcknowledge p false data) s (fun t =>
           s.Leaves t ((s.dev.updEp p (fun y => { y with armed := some { a with step := step + 1 } })).updPort p (fun x => { x with
             heard := s.dev.now, ctl := some (.psetWrite q (step + 1), s.dev.now) })) []))

/-- Emission of the Strip Engines (R130, R132): a Missing line, a line with samples through the stages of R121 to R131, said of a plain
one-plane camera with the neutral table, and the lines of a port without an engine (R292). -/
def Obligations.EnginesEmitLinesInOrder : Prop :=
  (∀ (s : State) (p : Nat) (l : RawLine) (rest : List RawLine),
         s.Steady →
         p < 24 →
         (s.dev.rb9212 = true → p < 12) →
         s.dev.domOn (engineDomain (s.dev.engineOf p)) = true →
         s.dev.nat (Obj.bindMode p) = 1 →
         (s.dev.ep p).creditsHeld = false →
         s.dev.noEngine p = true →
         (s.dev.ep p).queue = l :: rest →
         (s.dev.ep p).taken = [] →
         (s.dev.ep p).switches = [] →
         l.lix % 256 ≠ 255 →
         14 ≤ s.dev.nat Obj.auditEngine →
         s.dev.eng.audit.ended = false →
         Answers (.engineLineEmit p) s (fun t =>
           (t.dev.ep p).queue = rest ∧
             ((t.dev.stitch.ports.getD p SkewPort.reset).arriving).map (fun c => (c.lix, c.missing, c.cause)) =
                 ((s.dev.stitch.ports.getD p SkewPort.reset).arriving).map (fun c => (c.lix, c.missing, c.cause)) ++ [(l.lix, true, 8)] ∧
             t.dev.nat (Obj.engLinesOut (s.dev.engineOf p)) = min (2 ^ 64 - 1) (s.dev.nat (Obj.engLinesOut (s.dev.engineOf p)) + 1) ∧
             t.dev.nat (Obj.portCorrected p) = min (2 ^ 64 - 1) (s.dev.nat (Obj.portCorrected p) + 1) ∧
             s.Leaves t { s.dev with eng := t.dev.eng, stitch := t.dev.stitch }
               [Obj.engLinesOut (s.dev.engineOf p), Obj.portCorrected p, Obj.linesDropped (s.dev.engineOf p), Obj.psetInForce p,
                 Obj.psetState (s.dev.ep p).pset, Obj.statsCount p])) ∧
  (∀ (s : State) (p : Nat) (l : RawLine),
         s.Steady →
         p < 24 →
         (s.dev.rb9212 = true → p < 12) →
         s.dev.domOn (engineDomain (s.dev.engineOf p)) = true →
         s.dev.nat (Obj.bindMode p) = 1 →
         (s.dev.ep p).creditsHeld = false →
         s.dev.noEngine p = false →
         (s.dev.ep p).queue = [l] →
         l.missing = true →
         l.lix % 256 ≠ 255 →
         14 ≤ s.dev.nat Obj.auditEngine →
         s.dev.eng.audit.ended = false →
         (s.dev.ep p).nextEmit = none →
         (s.dev.ep p).window = [] →
         (s.dev.ep p).switches = [] →
         (s.dev.ep p).acq = none →
         (s.dev.ep p).bad = [] →
         s.dev.lookahead p = 0 →
         Answers (.engineLineEmit p) s (fun t =>
           (t.dev.ep p).queue = [] ∧ (t.dev.ep p).nextEmit = some (l.lix + 1) ∧
             ((t.dev.stitch.ports.getD p SkewPort.reset).arriving).map (fun c => (c.lix, c.missing, c.cause)) =
                 ((s.dev.stitch.ports.getD p SkewPort.reset).arriving).map (fun c => (c.lix, c.missing, c.cause)) ++ [(l.lix, true, l.cause)] ∧
             t.dev.nat (Obj.engLinesOut (s.dev.engineOf p)) = min (2 ^ 64 - 1) (s.dev.nat (Obj.engLinesOut (s.dev.engineOf p)) + 1) ∧
             s.Leaves t { s.dev with eng := t.dev.eng, stitch := t.dev.stitch }
               [Obj.engLinesOut (s.dev.engineOf p), Obj.portCorrected p, Obj.linesDropped (s.dev.engineOf p), Obj.psetInForce p,
                 Obj.psetState (s.dev.ep p).pset, Obj.statsCount p])) ∧
  (∀ (s : State) (p : Nat) (l : RawLine),
         s.Steady →
         p < 24 →
         (s.dev.rb9212 = true → p < 12) →
         s.dev.domOn (engineDomain (s.dev.engineOf p)) = true →
         s.dev.nat (Obj.bindMode p) = 1 →
         (s.dev.ep p).creditsHeld = false →
         s.dev.noEngine p = false →
         (s.dev.ep p).queue = [l] →
         l.missing = false →
         l.planeMask = 1 →
         l.width ≤ (l.planes.getD 0 []).length →
         l.width ≤ s.dev.portWidth p →
         l.lix % 256 ≠ 255 →
         14 ≤ s.dev.nat Obj.auditEngine →
         s.dev.eng.audit.ended = false →
         (s.dev.ep p).nextEmit = none →
         (s.dev.ep p).window = [] →
         (s.dev.ep p).switches = [] →
         (s.dev.ep p).acq = none →
         (s.dev.ep p).bad = [] →
         s.dev.portPlanes p = 1 →
         s.dev.nat (Obj.mosaicRows p) = 1 →
         s.dev.nat (Obj.mosaicCols p) = 1 →
         s.dev.nat (Obj.mosaicPattern p 0) = 0 →
         s.dev.int (Obj.rowOffset p 0) = 0 →
         s.dev.flag (Obj.nrEnable (s.dev.ep p).pset) = false →
         (s.dev.ep p).table = none →
         Answers (.engineLineEmit p) s (fun t =>
           let q := s.dev.psetParams (s.dev.ep p).pset
           let corrected (j x : Nat) : Nat :=
             let v := clamp18 ((normalise (formatBits (s.dev.portFormat p)).2 x : Int) - q.black)
             (clamp (asr (matrixAt q j 0 * v + 2048) 12 + offsetAt q j) 0 65535).toNat
           (t.dev.ep p).queue = [] ∧ (t.dev.ep p).nextEmit = some (l.lix + 1) ∧
             ((t.dev.stitch.ports.getD p SkewPort.reset).arriving).map (fun c => (c.lix, c.missing, c.width, c.planeMask)) =
                 ((s.dev.stitch.ports.getD p SkewPort.reset).arriving).map (fun c => (c.lix, c.missing, c.width, c.planeMask)) ++
                   [(l.lix, false, l.width, 2 ^ s.dev.nat (Obj.outPlanes p) - 1)] ∧
             ((t.dev.stitch.ports.getD p SkewPort.reset).arriving.getLast?.map (fun c => c.planes)) =
                 some ((List.range (s.dev.nat (Obj.outPlanes p))).map (fun j =>
                   (((l.planes.getD 0 []).take l.width).map (corrected j)) ++ List.replicate (s.dev.portWidth p - l.width) 0)) ∧
             t.dev.nat (Obj.engLinesOut (s.dev.engineOf p)) = min (2 ^ 64 - 1) (s.dev.nat (Obj.engLinesOut (s.dev.engineOf p)) + 1) ∧
             s.Leaves t { s.dev with eng := t.dev.eng, stitch := t.dev.stitch }
               [Obj.engLinesOut (s.dev.engineOf p), Obj.portCorrected p, Obj.linesDropped (s.dev.engineOf p), Obj.psetInForce p,
                 Obj.psetState (s.dev.ep p).pset, Obj.statsCount p]))

/-- Memory-path jobs (R145 to R147). What a late job leaves to the next one is the model's reading (log entry 66). -/
def Obligations.MemoryPathJobsStartEndAndAreLate : Prop :=
  (∀ (s : State) (e : Nat) (p : Nat) (sl : Slot),
         s.Steady →
         e < 14 →
         s.dev.domOn (engineDomain e) = true →
         (s.dev.engine e).state = 1 →
         (s.dev.engine e).job = none →
         s.dev.inRepair e = false →
         s.dev.pickJob e = some (p, sl) →
         s.dev.eng.audit.strip = none →
         s.dev.eng.audit.ended = false →
         Answers (.mpJobStart e) s (fun t =>
           (t.dev.engine e).job.map (fun j => (j.port, j.strip, j.lines)) = some (p, sl.strip, sl.lines) ∧
             (14 ≤ s.dev.nat Obj.auditEngine → t.dev.eng.audit = s.dev.eng.audit ∧ t.dev.val Obj.auditTarget = s.dev.val Obj.auditTarget) ∧
             s.Leaves t ((s.dev.updEngine e (fun x => { x with job := (t.dev.engine e).job })).updEng (fun x => { x with audit := t.dev.eng.audit })) [Obj.auditTarget])) ∧
  (∀ (s : State) (e : Nat) (j : Job),
         s.Steady →
         e < 14 →
         s.dev.domOn (engineDomain e) = true →
         (s.dev.engine e).job = some j →
         (∀ n ∈ (s.dev.ep j.port).oldest, s.dev.jobLast j.port j.strip < n) →
         (∀ x ∈ (s.dev.ep j.port).slots.head?, x.strip = j.strip) →
         (s.dev.ep j.port).acq = none →
         (s.dev.ep j.port).switches = [] →
         s.dev.eng.audit.strip = none →
         s.dev.eng.audit.ended = false →
         Answers (.mpJobEnd e) s (fun t =>
           t.dev.nat (Obj.jobsDone e) = min (2 ^ 32 - 1) (s.dev.nat (Obj.jobsDone e) + 1) ∧ (t.dev.engine e).job = none ∧
             (t.dev.ep j.port).slots = (s.dev.ep j.port).slots.filter (fun x => x.strip != j.strip) ∧
             (∀ q : Nat, q < 24 → q ≠ j.port → t.dev.ep q = s.dev.ep q) ∧ (∀ k : Nat, k < 14 → k ≠ e → t.dev.engine k = s.dev.engine k) ∧
             s.Leaves t { s.dev with
               eng := t.dev.eng
               mem := { s.dev.mem with pcs := t.dev.mem.pcs } } [Obj.jobsDone e, Obj.maxJobLag e])) ∧
  (∀ (s : State) (p : Nat),
         s.Steady →
         p < 24 →
         (s.dev.rb9212 = true → p < 12) →
         s.dev.domOn (engineDomain (s.dev.engineOf p)) = true →
         s.dev.jobLate p = none →
         s.dev.eng.audit.ended = false →
         Answers (.mpJobLate p) s (fun t =>
           s.Leaves t s.dev [])) ∧
  (∀ (s : State) (p : Nat) (sl : Slot),
         s.Steady →
         p < 24 →
         (s.dev.rb9212 = true → p < 12) →
         s.dev.domOn (engineDomain (s.dev.engineOf p)) = true →
         s.dev.jobLate p = some sl →
         s.dev.engineOf p < 14 →
         (s.dev.ep p).acq = none →
         Answers (.mpJobLate p) s (fun t =>
           (∀ x ∈ (t.dev.ep p).slots, x.strip ≠ sl.strip) ∧ t.dev.nat (Obj.jobsLate (s.dev.engineOf p)) = min (2 ^ 32 - 1) (s.dev.nat (Obj.jobsLate (s.dev.engineOf p)) + 1) ∧
             (∀ j ∈ (t.dev.engine (s.dev.engineOf p)).job, j.port ≠ p) ∧
             (∀ q : Nat, q < 24 → q ≠ p → t.dev.ep q = s.dev.ep q) ∧ t.dev.pos = s.dev.pos ∧ t.dev.ports = s.dev.ports ∧ t.dev.hbm = s.dev.hbm ∧ t.pending = s.pending))

/-- Arming a parameter set (R136). An in-line engine reads the bank as it preloads it (R136, R327). That a PSET without a port is
refused with RANGE is the model's choice (log entry 66). -/
def Obligations.ParameterSetsArmAndDisarm : Prop :=
  (∀ (s : State) (ses : Nat) (p : Nat) (q : Nat),
         s.Steady →
         p < 24 →
         q < 256 →
         q ≠ 255 →
         (s.dev.rb9212 = true → p < 12) →
         s.MayWrite ses (Obj.psetArm p) [BitVec.ofNat 8 q] →
         Answers (.psetArm ses p q) s (fun t =>
           let issue : Int := (s.dev.nat (Obj.psetTarget p) : Int) - s.dev.nat (Obj.sensorDelay q) - s.dev.nat (Obj.commandLead q)
           if s.dev.nat (Obj.psetPort q) ≠ p then t.Answered .range [] ∧ s.Leaves t s.dev []
           else if s.dev.bankValid p (s.dev.nat (Obj.tableBank q)) = false ∨ (s.dev.ep p).armed.isSome = true then t.Answered .state [] ∧ s.Leaves t s.dev []
           else if issue < s.dev.portNextLix p then t.Answered .late [] ∧ s.Leaves t s.dev []
           else t.Answered .ok [] ∧ t.dev.val (Obj.psetArmed p) = .n q ∧ t.dev.val (Obj.psetState q) = .n 1 ∧ t.dev.val (Obj.psetResult p) = .n 1 ∧
             (t.dev.ep p).armed.map (fun a => (a.pset, a.target, a.issueLix, a.issued)) = some (q, s.dev.nat (Obj.psetTarget p), issue.toNat, none) ∧
             (∀ k : Nat, k < 24 → k ≠ p → t.dev.ep k = s.dev.ep k) ∧
             s.Leaves t { s.dev.updEp p (fun e => { e with armed := (t.dev.ep p).armed }) with mem := { s.dev.mem with pcs := t.dev.mem.pcs } }
               [Obj.psetArmed p, Obj.psetResult p, Obj.psetState q])) ∧
  (∀ (s : State) (ses : Nat) (p : Nat) (a : Armed),
         s.Steady →
         p < 24 →
         (s.dev.rb9212 = true → p < 12) →
         s.MayWrite ses (Obj.psetArm p) [0xFF] →
         (s.dev.ep p).armed = some a →
         a.pset < 256 →
         Answers (.psetDisarm ses p) s (fun t =>
           if a.issued.isSome = true then t.Answered .state [] ∧ s.Leaves t s.dev []
           else t.Answered .ok [] ∧ t.dev.val (Obj.psetArmed p) = .n 0xFF ∧ t.dev.val (Obj.psetResult p) = .n 0 ∧
             s.Leaves t (s.dev.updEp p (fun e => { e with armed := none })) [Obj.psetArmed p, Obj.psetResult p, Obj.psetState a.pset])) ∧
  (∀ (s : State) (p : Nat),
         s.Steady →
         p < 24 →
         (s.dev.rb9212 = true → p < 12) →
         s.dev.domOn (engineDomain (s.dev.engineOf p)) = true →
         Answers (.psetPreloadDone p) s (fun t =>
           s.Leaves t (s.dev.updEp p (fun e => { e with armed := e.armed.map (fun a => { a with preload := true }) })) []))

/-- The table banks (R133) in HBM: a write at offset 0 clears the bank, one at the current length keeps what lies below. -/
def Obligations.TableBanksAreWrittenAndSealed : Prop :=
  (∀ (s : State) (ses : Nat) (p : Nat) (off : Nat) (data : Bytes) (b : Nat),
         s.Steady →
         p < 24 →
         (s.dev.rb9212 = true → p < 12) →
         (s.judged ses (0x3080 + p) 0x22 off data).isSome = true →
         b = s.dev.nat (Obj.tableBankSel p) →
         b < 4 →
         s.dev.bankUsed p b = false →
         off = 0 ∨ off = (s.dev.ep p).bankLen.getD b 0 →
         off + data.length ≤ 524288 →
         Memory.wf s.dev.hbm = true →
         Answers (.tableData ses p off data) s (fun t =>
           t.Answered .ok [] ∧
             ((blocksOf (bankAddr p b + off) data.length).all (fun k => ! s.dev.blockLost (256 * k)) = true → Tbl.getBytes 0 t.dev.hbm (bankAddr p b + off) data.length = data) ∧
             t.dev.bankValid p b = false ∧ Memory.wf t.dev.hbm = true ∧
             t.dev.hbm.filter (fun e => e.1 < bankAddr p b || bankAddr p b + 524288 ≤ e.1) =
               s.dev.hbm.filter (fun e => e.1 < bankAddr p b || bankAddr p b + 524288 ≤ e.1) ∧
             (off ≠ 0 → t.dev.hbm.filter (fun e => e.1 < bankAddr p b + off || bankAddr p b + off + data.length ≤ e.1) =
               s.dev.hbm.filter (fun e => e.1 < bankAddr p b + off || bankAddr p b + off + data.length ≤ e.1)) ∧
             (off = 0 → s.dev.mem.fences = [] →
               ∀ e ∈ t.dev.hbm, bankAddr p b ≤ e.1 → e.1 < bankAddr p b + 524288 → e.1 < bankAddr p b + data.length) ∧
             (t.dev.ep p).bankLen.length = (s.dev.ep p).bankLen.length ∧
             s.Leaves t { s.dev with
               hbm := t.dev.hbm
               eng := t.dev.eng
               mem := { s.dev.mem with pcs := t.dev.mem.pcs, bad := t.dev.mem.bad, written := t.dev.mem.written } } [Obj.tableValid p])) ∧
  (∀ (s : State) (ses : Nat) (p : Nat) (off : Nat) (data : Bytes) (b : Nat),
         s.Steady →
         p < 24 →
         (s.dev.rb9212 = true → p < 12) →
         (s.judged ses (0x3080 + p) 0x22 off data).isSome = true →
         b = s.dev.nat (Obj.tableBankSel p) →
         s.dev.bankUsed p b = true ∨ (off ≠ 0 ∧ off ≠ (s.dev.ep p).bankLen.getD b 0) ∨ 524288 < off + data.length →
         Answers (.tableData ses p off data) s (fun t =>
           t.Answered (if s.dev.bankUsed p b = true then .state else .range) [] ∧ s.Leaves t s.dev [])) ∧
  (∀ (s : State) (ses : Nat) (p : Nat),
         s.Steady →
         p < 24 →
         (s.dev.rb9212 = true → p < 12) →
         s.MayWrite ses (Obj.tableSeal p) [1] →
         Answers (.tableSeal ses p) s (fun t =>
           let b := s.dev.nat (Obj.tableBankSel p)
           if s.dev.bankUsed p b = true then t.Answered .state [] ∧ s.Leaves t s.dev []
           else if crc32c (s.dev.bankBytes p b) = s.dev.nat (Obj.tableCrc p) ∧ s.dev.hbmBad (bankAddr p b) (s.dev.bankSize p) = false then
             t.Answered .ok [] ∧ t.dev.bankValid p (s.dev.nat (Obj.tableBankSel p)) = true ∧ s.Leaves t s.dev [Obj.tableValid p]
           else t.Answered .integrity [] ∧ s.Leaves t s.dev [Obj.logSeq]))

/-- Flat-field and dark acquisitions (R134). -/
def Obligations.AcquisitionsStartAndTimeOut : Prop :=
  (∀ (s : State) (ses : Nat) (p : Nat),
         s.Steady →
         p < 24 →
         (s.dev.rb9212 = true → p < 12) →
         s.MayWrite ses (Obj.ffMode p) [1] →
         Answers (.ffFlat ses p) s (fun t =>
           if s.dev.portState p ≠ 4 ∨ (s.dev.ep p).acq.isSome = true ∨ s.dev.bankUsed p (s.dev.nat (Obj.tableBankSel p)) = true then
             t.Answered .state [] ∧ s.Leaves t s.dev []
           else t.Answered .ok [] ∧ t.dev.val (Obj.ffState p) = .n 1 ∧ t.dev.val (Obj.ffLinesUsed p) = .n 0 ∧
             t.dev.bankValid p (s.dev.nat (Obj.tableBankSel p)) = false ∧
             s.Leaves t (s.dev.updEp p (fun e => { e with
               acq := some { mode := 1, bank := s.dev.nat (Obj.tableBankSel p), lines := s.dev.nat (Obj.ffLines p), used := 0, lastUse := s.dev.now,
                             last := none, sums := [] } })) [Obj.ffState p, Obj.ffLinesUsed p, Obj.tableValid p])) ∧
  (∀ (s : State) (ses : Nat) (p : Nat),
         s.Steady →
         p < 24 →
         (s.dev.rb9212 = true → p < 12) →
         s.MayWrite ses (Obj.ffMode p) [2] →
         Answers (.ffDark ses p) s (fun t =>
           if s.dev.portState p ≠ 4 ∨ (s.dev.ep p).acq.isSome = true ∨ s.dev.bankUsed p (s.dev.nat (Obj.tableBankSel p)) = true then
             t.Answered .state [] ∧ s.Leaves t s.dev []
           else t.Answered .ok [] ∧ t.dev.val (Obj.ffState p) = .n 1 ∧ t.dev.val (Obj.ffLinesUsed p) = .n 0 ∧
             t.dev.bankValid p (s.dev.nat (Obj.tableBankSel p)) = false ∧
             s.Leaves t (s.dev.updEp p (fun e => { e with
               acq := some { mode := 2, bank := s.dev.nat (Obj.tableBankSel p), lines := s.dev.nat (Obj.ffLines p), used := 0, lastUse := s.dev.now,
                             last := none, sums := [] } })) [Obj.ffState p, Obj.ffLinesUsed p, Obj.tableValid p])) ∧
  (∀ (s : State) (p : Nat) (a : Acq),
         s.Steady →
         p < 24 →
         (s.dev.rb9212 = true → p < 12) →
         s.dev.domOn (engineDomain (s.dev.engineOf p)) = true →
         (s.dev.ep p).acq = some a →
         Answers (.acquisitionTimeout p) s (fun t =>
           if a.lastUse + 10000000000 ≤ s.dev.now then
             t.dev.val (Obj.ffState p) = .n 3 ∧ s.Leaves t (s.dev.updEp p (fun e => { e with acq := none })) [Obj.ffState p, Obj.logSeq]
           else s.Leaves t s.dev []))

/-- The positions of the Skew Buffer (R156, R157). -/
def Obligations.CorrectedLinesEnterTheSkewBuffer : Prop :=
  (∀ (s : State) (p : Nat) (c : CorrLine) (rest : List CorrLine),
         s.Works pdHub →
         p < 24 →
         (s.dev.rb9212 = true → p < 12) →
         (s.dev.sp p).arriving = c :: rest →
         s.dev.viewsOf p = [] →
         Answers (.correctedLineArrival p) s (fun t =>
           s.Leaves t (s.dev.updSp p (fun x => { x with
             arriving := rest, firstIn := some (min (x.firstIn.getD c.lix) c.lix), lastIn := some c.lix, lines := [], hold := [], overrun := [] })) [])) ∧
  (∀ (s : State) (p : Nat) (v : Nat) (c : CorrLine) (rest : List CorrLine),
         s.Works pdHub →
         p < 24 →
         (s.dev.rb9212 = true → p < 12) →
         (s.dev.sp p).arriving = c :: rest →
         s.dev.viewsOf p = [v] →
         s.dev.deferred v = false →
         s.dev.needs v c.lix = true →
         s.dev.stitched v c.lix = false →
         Answers (.correctedLineArrival p) s (fun t =>
           let kept := (s.dev.sp p).lines.filter (fun x => s.dev.needs v x.lix)
           (t.dev.sp p).arriving = rest ∧ (t.dev.sp p).lastIn = some c.lix ∧ (t.dev.sp p).hold = [] ∧ (∀ q : Nat, q < 24 → q ≠ p → t.dev.sp q = s.dev.sp q) ∧
             (if 7 ≤ kept.length then
               (t.dev.sp p).lines = kept ∧ (t.dev.sp p).overrun = (s.dev.sp p).overrun.filter (s.dev.needs v) ++ [c.lix] ∧
                 t.dev.nat (Obj.skewOverrunCount p) = min (2 ^ 32 - 1) (s.dev.nat (Obj.skewOverrunCount p) + 1) ∧
                 s.Leaves t { s.dev with stitch := t.dev.stitch } [Obj.skewOverrunCount p, Obj.logSeq]
              else (t.dev.sp p).lines = kept ++ [c] ∧ s.Leaves t { s.dev with stitch := t.dev.stitch } [])))

/-- Stitched lines (R157 to R170): the line and its tag entry, and its pixels where no Welt lies and in the zone of a Welt (R163, R165,
R168) with the sums that matching takes from the zone (R166). The pixel of a hole in a skewed port's span is the model's reading
(log entry 66). -/
def Obligations.StitchedLinesFollowInOrder : Prop :=
  (∀ (s : State) (v : Nat),
         s.Works pdHub →
         v < 4 →
         (s.dev.vw v).running = true →
         0 ≤ lixDiff (s.dev.curLix (s.dev.viewLcg v)) (s.dev.vw v).next →
         (s.dev.vw v).due.isSome = true ∨ ((s.dev.viewPorts v).all (fun p => s.dev.arrived v p ((s.dev.vw v).next + 3))) = true →
         (s.dev.vw v).next % 256 ≠ 255 →
         Answers (.stitchedLine v) s (fun t =>
           let n := (s.dev.vw v).next
           let new := (t.dev.vw v).ready.drop (s.dev.vw v).ready.length
           (t.dev.vw v).next = n + 1 ∧ (t.dev.vw v).running = decide ((s.dev.vw v).stopAt ≠ some n) ∧ (t.dev.vw v).due = none ∧
             (t.dev.vw v).ready.take (s.dev.vw v).ready.length = (s.dev.vw v).ready ∧
             new.map (fun l => (l.lix, l.view, l.width, l.entries.length, l.planes.length)) = [(n, v, s.dev.nat (Obj.viewWidth v), 24, s.dev.nat (Obj.viewOutPlanes v))] ∧
             new.map (fun l => Val.b l.tag) = [t.dev.val (Obj.lastStitchTag v)] ∧
             t.dev.nat (Obj.viewLinesOut v) = min (2 ^ 64 - 1) (s.dev.nat (Obj.viewLinesOut v) + 1) ∧ (∀ u : Nat, u < 4 → u ≠ v → t.dev.vw u = s.dev.vw u) ∧
             s.Leaves t { s.dev with stitch := t.dev.stitch, mem := { s.dev.mem with pcs := t.dev.mem.pcs } }
               ((List.range 24).map Obj.skewRangeCount ++ (List.range 96).map Obj.fallbackCount ++ (List.range 96).map Obj.seamPos ++
                 [Obj.viewLateLines v, Obj.viewLinesOut v, Obj.linesInvalid v, Obj.lastStitchTag v, Obj.logSeq]))) ∧
  (∀ (s : State) (v : Nat),
         s.Works pdHub →
         v < 4 →
         (s.dev.vw v).running = true →
         0 ≤ lixDiff (s.dev.curLix (s.dev.viewLcg v)) (s.dev.vw v).next →
         (s.dev.vw v).due.isSome = true ∨ ((s.dev.viewPorts v).all (fun p => s.dev.arrived v p ((s.dev.vw v).next + 3))) = true →
         (s.dev.vw v).next % 256 = 255 →
         Answers (.stitchedLine v) s (fun t =>
           let n := (s.dev.vw v).next
           let new := (t.dev.vw v).ready.drop (s.dev.vw v).ready.length
           (t.dev.vw v).next = n + 1 ∧ (t.dev.vw v).running = decide ((s.dev.vw v).stopAt ≠ some n) ∧ (t.dev.vw v).due = none ∧
             (t.dev.vw v).ready.take (s.dev.vw v).ready.length = (s.dev.vw v).ready ∧
             new.map (fun l => (l.lix, l.view, l.width, l.entries.length, l.planes.length)) = [(n, v, s.dev.nat (Obj.viewWidth v), 24, s.dev.nat (Obj.viewOutPlanes v))] ∧
             new.map (fun l => Val.b l.tag) = [t.dev.val (Obj.lastStitchTag v)] ∧
             t.dev.nat (Obj.viewLinesOut v) = min (2 ^ 64 - 1) (s.dev.nat (Obj.viewLinesOut v) + 1) ∧ (∀ u : Nat, u < 4 → u ≠ v → t.dev.vw u = s.dev.vw u) ∧
             t.dev.pos = s.dev.pos ∧ t.dev.ports = s.dev.ports ∧ t.dev.eng = s.dev.eng ∧ t.dev.seg = s.dev.seg ∧ t.dev.cls = s.dev.cls ∧ t.dev.pub = s.dev.pub ∧
             t.dev.hbm = s.dev.hbm ∧ t.pending = s.pending)) ∧
  (∀ (s : State) (v : Nat),
         s.Works pdHub →
         v < 4 →
         (s.dev.vw v).running = false ∨ lixDiff (s.dev.curLix (s.dev.viewLcg v)) (s.dev.vw v).next < 0 ∨
           ((s.dev.vw v).due = none ∧ ((s.dev.viewPorts v).all (fun p => s.dev.arrived v p ((s.dev.vw v).next + 3))) = false) →
         Answers (.stitchedLine v) s (fun t => s.Leaves t s.dev [])) ∧
  (∀ (s : State) (v : Nat), s.Works pdHub → v < 4 →
         Answers (.stitchDeadline v) s (fun t =>
           if (s.dev.vw v).running = true ∧ (s.dev.vw v).due = none ∧ s.dev.stitchDue v (s.dev.vw v).next = true then
             (t.dev.vw v).due = some ((s.dev.viewPorts v).filter (fun p => s.dev.lacks v p (s.dev.vw v).next)) ∧ (t.dev.vw v).next = (s.dev.vw v).next ∧
               t.dev.stitch.ports = s.dev.stitch.ports ∧ (∀ u : Nat, u < 4 → u ≠ v → t.dev.vw u = s.dev.vw u) ∧ s.Leaves t { s.dev with stitch := t.dev.stitch } [Obj.logSeq]
           else s.Leaves t s.dev [])) ∧
  (∀ (s : State) (v : Nat),
         s.Works pdHub →
         v < 4 →
         (s.dev.vw v).running = true →
         0 ≤ lixDiff (s.dev.curLix (s.dev.viewLcg v)) (s.dev.vw v).next →
         (s.dev.vw v).due.isSome = true ∨ ((s.dev.viewPorts v).all (fun p => s.dev.arrived v p ((s.dev.vw v).next + 3))) = true →
         (s.dev.vw v).next % 256 ≠ 255 →
         (s.dev.vw v).stopAt ≠ some (s.dev.vw v).next →
         (s.dev.vw v).unityFrom = [] →
         (s.dev.vw v).newTargets = [] →
         s.dev.welts v (s.dev.vw v).next = [] →
         Answers (.stitchedLine v) s (fun t =>
           let n := (s.dev.vw v).next
           let parts := s.dev.lineParts v n
           let gains := (t.dev.vw v).gains
           let shown (k i : Nat) : Option Nat := parts.findSome? (fun q =>
             ((parts.find? (fun x => x.port == q.port)).bind (fun x => x.at k i)).map (gained (gains.getD (2 * q.port + k) 65536)))
           (s.dev.natAt (Obj.matchMode v) n = 0 → gains = unity) ∧
             (s.dev.natAt (Obj.matchMode v) n = 1 →
               gains = ((s.dev.vw v).gains.zip (s.dev.vw v).targets).map (fun e => towards e.1 e.2 (s.dev.natAt (Obj.matchRate v) n))) ∧
             (s.dev.natAt (Obj.matchMode v) n = 2 → gains = (s.dev.vw v).gains) ∧
             ((t.dev.vw v).ready.drop (s.dev.vw v).ready.length).map (fun l => l.planes) =
               [(List.range (s.dev.nat (Obj.viewOutPlanes v))).map (fun k =>
                 (List.range (s.dev.nat (Obj.viewWidth v))).map (fun i => (shown k i).getD (s.dev.natAt (Obj.fillValue v) n)))] ∧
             (0 < s.dev.nat (Obj.viewOutPlanes v) → ((t.dev.vw v).ready.drop (s.dev.vw v).ready.length).map (fun l => l.valid) =
               [(List.range (s.dev.nat (Obj.viewWidth v))).map (fun i => (shown 0 i).isSome)]))) ∧
  (∀ (s : State) (v : Nat) (w : Nat) (a : Nat) (b : Nat),
         s.Works pdHub →
         v < 4 →
         (s.dev.vw v).running = true →
         0 ≤ lixDiff (s.dev.curLix (s.dev.viewLcg v)) (s.dev.vw v).next →
         (s.dev.vw v).due.isSome = true ∨ ((s.dev.viewPorts v).all (fun p => s.dev.arrived v p ((s.dev.vw v).next + 3))) = true →
         (s.dev.vw v).next % 256 ≠ 255 →
         (s.dev.vw v).stopAt ≠ some (s.dev.vw v).next →
         s.dev.nat (Obj.viewOutPlanes v) = 1 →
         s.dev.welts v (s.dev.vw v).next = [w] →
         s.dev.natOn (s.dev.viewLcg v) (Obj.weltMode w) (s.dev.vw v).next ≤ 1 →
         (s.dev.grid v).zone (s.dev.lastAt (s.dev.viewLcg v) (s.dev.natOn (s.dev.viewLcg v) (Obj.weltLeft w) (s.dev.vw v).next) (s.dev.vw v).next)
           (s.dev.lastAt (s.dev.viewLcg v) (s.dev.natOn (s.dev.viewLcg v) (Obj.weltRight w) (s.dev.vw v).next) (s.dev.vw v).next) = some (a, b) →
         b < s.dev.nat (Obj.viewWidth v) →
         Answers (.stitchedLine v) s (fun t =>
           let n := (s.dev.vw v).next
           let g := s.dev.viewLcg v
           let parts := s.dev.lineParts v n
           let raw (p i : Nat) : Option Nat := (parts.find? (fun x => x.port == p)).bind (fun x => x.at 0 i)
           let val (p i : Nat) : Option Nat := (raw p i).map (gained ((t.dev.vw v).gains.getD (2 * p) 65536))
           let lp := s.dev.natOn g (Obj.weltLeft w) n
           let rp := s.dev.natOn g (Obj.weltRight w) n
           let seam := (max 0 ((s.dev.intOn g (Obj.seamCd w) n + s.dev.nat (Obj.webPitch v) - 1) / (s.dev.nat (Obj.webPitch v) : Int))).toNat
           let fit (x : Nat) : Bool := decide (s.dev.natAt (Obj.matchFloor v) n ≤ x ∧ x ≤ s.dev.natAt (Obj.matchCeil v) n)
           let dark (p : Nat) : Bool := parts.any (fun x => x.port == p && x.suspect)
           let pairs := (List.range (b + 1 - a)).filter (fun i => (raw lp (a + i)).any fit && (raw rp (a + i)).any fit)
           (∀ i : Nat, a ≤ i → i ≤ b → ∀ line ∈ (t.dev.vw v).ready.drop (s.dev.vw v).ready.length,
             (line.planes.getD 0 []).getD i 0 = (match val lp i, val rp i with
               | some x, some y =>
                 if s.dev.natOn g (Obj.weltMode w) n = 0 then
                   let wt := if a = b then 32768 else (i - a) * 65536 / (b - a)
                   (x * (65536 - wt) + y * wt + 32768) / 65536
                 else if i < seam then x else y
               | some x, none => x
               | none, some y => y
               | none, none => s.dev.natAt (Obj.fillValue v) n)) ∧
             (dark lp = false → dark rp = false →
               (t.dev.matchSum v w 0).c = (s.dev.matchSum v w 0).c + pairs.length ∧
               (t.dev.matchSum v w 0).sl = (s.dev.matchSum v w 0).sl + sumN (pairs.map (fun i => (raw lp (a + i)).getD 0)) ∧
               (t.dev.matchSum v w 0).sr = (s.dev.matchSum v w 0).sr + sumN (pairs.map (fun i => (raw rp (a + i)).getD 0)))))

/-- Views (R159, R170). That matching starts without sums (log entry 66), and that the rules of a View are judged before STATE (log
entry 27), are the model's choices. -/
def Obligations.ViewsStartAndStop : Prop :=
  (∀ (s : State) (ses : Nat) (v : Nat),
         s.Steady →
         v < 4 →
         s.MayWrite ses (Obj.viewEnable v) [1] →
         s.dev.flag (Obj.viewEnable v) = false →
         (s.dev.vw v).running = false →
         Answers (.viewEnable ses v) s (fun t =>
           let e := s.dev.putF (Obj.viewEnable v) true
           if (s.dev.viewOk v && e.deferredOk && e.memoryTakes s.dev) = true then
             t.Answered .ok [] ∧ t.dev.val (Obj.viewEnable v) = .n 1 ∧ t.dev.nat (Obj.viewFirstLix v) = (s.dev.curLix (s.dev.viewLcg v) + 4) % 2 ^ 64 ∧
               t.dev.nat (Obj.viewLinesOut v) = 0 ∧ t.dev.nat (Obj.linesInvalid v) = 0 ∧ t.dev.nat (Obj.viewLateLines v) = 0 ∧
               s.Leaves t (((s.dev.updVw v (fun x => { x with
                   running := true, stopAt := none, next := (s.dev.curLix (s.dev.viewLcg v) + 4) % 2 ^ 64, due := none, nrLines := [] })).updStitch
                 (fun x => { x with sums := x.sums.filter (fun q => q.1 / 256 != v) })).updPair
                 (fun x => { x with accs := x.accs.set v { DigestAcc.reset with base := x.badArrays } }))
                 [Obj.viewEnable v, Obj.viewFirstLix v, Obj.viewLinesOut v, Obj.linesInvalid v, Obj.viewLateLines v, Obj.logSeq]
           else t.Answered .range [] ∧ s.Leaves t s.dev [])) ∧
  (∀ (s : State) (ses : Nat) (v : Nat),
         s.Steady →
         v < 4 →
         s.MayWrite ses (Obj.viewEnable v) [0] →
         s.dev.flag (Obj.viewEnable v) = true →
         (s.dev.vw v).running = true →
         0 ≤ lixDiff (s.dev.curLix (s.dev.viewLcg v)) (s.dev.vw v).next →
         Answers (.viewDisable ses v) s (fun t =>
           t.Answered .ok [] ∧ t.dev.val (Obj.viewEnable v) = .n 0 ∧
             s.Leaves t (s.dev.updVw v (fun x => { x with stopAt := some (s.dev.curLix (s.dev.viewLcg v)) })) [Obj.viewEnable v]))

/-- Segmentation of one line (R177 to R186): the background, the account of its runs and blobs, a run that opens a blob, and a blob that
closes and leaves as a candidate or is filtered (R190). -/
def Obligations.LinesAreSegmentedInOrder : Prop :=
  (∀ (s : State) (v : Nat) (l : StitchLine) (rest : List StitchLine),
         s.Works pdHub →
         v < 4 →
         (s.dev.vw v).ready = l :: rest →
         (s.dev.sg v).running = false →
         l.last = false →
         l.lix % 256 ≠ 255 →
         Answers (.segmentLine v) s (fun t =>
           s.Leaves t (s.dev.updVw v (fun x => { x with ready := rest })) [])) ∧
  (∀ (s : State) (v : Nat) (l : StitchLine) (rest : List StitchLine),
         s.Works pdHub →
         v < 4 →
         (s.dev.vw v).ready = l :: rest →
         (s.dev.sg v).running = true →
         l.last = false →
         l.lix % 256 ≠ 255 →
         Answers (.segmentLine v) s (fun t =>
           (t.dev.vw v).ready = rest ∧ (t.dev.sg v).running = true ∧ (t.dev.sg v).lastLine = some l.lix ∧
             t.dev.nat (Obj.linesSegmented v) = min (2 ^ 64 - 1) (s.dev.nat (Obj.linesSegmented v) + 1) ∧
             (t.dev.sg v).ring.head?.map (fun r => r.lix) = some l.lix ∧ (t.dev.sg v).ring.tail = (s.dev.sg v).ring.take 511 ∧
             (s.dev.nat (Obj.regionState 0) ≠ 2 → (t.dev.sg v).ring.head?.map (fun r => r.valid) = some l.valid) ∧
             (t.dev.sg v).bg = (l.planes.zip (s.dev.segBg v l)).map (fun e => (bgPlane (s.dev.bgParams v l.lix) e.2 e.1 l.valid).2.1) ∧
             (∀ u : Nat, u < 4 → u ≠ v → t.dev.sg u = s.dev.sg u ∧ t.dev.vw u = s.dev.vw u) ∧
             t.dev.stitch.ports = s.dev.stitch.ports ∧ t.dev.ports = s.dev.ports ∧ t.dev.eng = s.dev.eng ∧ t.dev.pos = s.dev.pos ∧ t.pending = s.pending)) ∧
  (∀ (s : State) (v : Nat) (l : StitchLine) (rest : List StitchLine),
         s.Works pdHub →
         v < 4 →
         (s.dev.vw v).ready = l :: rest →
         (s.dev.sg v).running = true →
         l.last = false →
         l.lix % 256 ≠ 255 →
         ((s.dev.sg v).blobs.map (fun b => b.serial)).Nodup →
         (∀ b ∈ (s.dev.sg v).blobs, b.serial < s.dev.nat (Obj.nextSerial v)) →
         Answers (.segmentLine v) s (fun t =>
           ∃ dropped labelled folded opened merged closed : Nat,
             dropped + labelled + folded = (s.dev.lineRuns v l).length ∧
             (t.dev.sg v).blobs.length + merged + closed = (s.dev.sg v).blobs.length + opened ∧ opened ≤ labelled ∧
             t.dev.nat (Obj.runsFound v) = min (2 ^ 64 - 1) (s.dev.nat (Obj.runsFound v) + (s.dev.lineRuns v l).length) ∧
             t.dev.nat (Obj.runsDiscarded v) = min (2 ^ 64 - 1) (s.dev.nat (Obj.runsDiscarded v) + dropped) ∧
             t.dev.nat (Obj.runsLabelled v) = min (2 ^ 64 - 1) (s.dev.nat (Obj.runsLabelled v) + labelled) ∧
             t.dev.nat (Obj.runsFolded v) = min (2 ^ 64 - 1) (s.dev.nat (Obj.runsFolded v) + folded) ∧
             t.dev.nat (Obj.blobsOpened v) = min (2 ^ 64 - 1) (s.dev.nat (Obj.blobsOpened v) + opened) ∧
             t.dev.nat (Obj.blobsMerged v) = min (2 ^ 64 - 1) (s.dev.nat (Obj.blobsMerged v) + merged) ∧
             t.dev.nat (Obj.nextSerial v) = s.dev.nat (Obj.nextSerial v) + opened)) ∧
  (∀ (s : State) (v : Nat) (l : StitchLine) (rest : List StitchLine) (x : Run),
         s.Works pdHub →
         v < 4 →
         (s.dev.vw v).ready = l :: rest →
         (s.dev.sg v).running = true →
         l.last = false →
         l.lix % 256 ≠ 255 →
         (s.dev.sg v).blobs = [] →
         (s.dev.sg v).refs = [] →
         s.dev.lineRuns v l = [x] →
         0 < s.dev.nat (Obj.runLimit v) →
         0 < s.dev.nat (Obj.blobQuota v) →
         Answers (.segmentLine v) s (fun t =>
           if x.strong = true then
             (t.dev.sg v).blobs.map (fun b => (b.serial, b.dark, b.hold, b.spans)) = [(s.dev.nat (Obj.nextSerial v), x.dark, 0, [(x.first, x.last)])] ∧
               (t.dev.sg v).blobs.map (fun b => (b.piece.lines, b.piece.area, b.piece.cdFirst, b.piece.cdLast, b.piece.peak, b.piece.peakCd)) =
                 [(some (l.lix, l.lix), x.last + 1 - x.first, x.first, x.last, x.peak, x.peakPos)] ∧
               (t.dev.sg v).refs.map (fun e => (e.first, e.last, e.dark, e.blob)) = [(x.first, x.last, x.dark, some (s.dev.nat (Obj.nextSerial v)))] ∧
               t.dev.nat (Obj.nextSerial v) = s.dev.nat (Obj.nextSerial v) + 1
           else (t.dev.sg v).blobs = [] ∧ (t.dev.sg v).refs = [] ∧
             t.dev.nat (Obj.runsDiscarded v) = min (2 ^ 64 - 1) (s.dev.nat (Obj.runsDiscarded v) + 1))) ∧
  (∀ (s : State) (v : Nat) (l : StitchLine) (rest : List StitchLine) (b : Blob),
         s.Works pdHub →
         v < 4 →
         (s.dev.vw v).ready = l :: rest →
         (s.dev.sg v).running = true →
         l.last = false →
         l.lix % 256 ≠ 255 →
         (s.dev.sg v).blobs = [b] →
         s.dev.lineRuns v l = [] →
         b.spans.all (spanDark l.valid.toArray) = false ∨ s.dev.natAt (Obj.bridgeMax v) l.lix ≤ b.hold →
         b.segIndex < 65536 →
         Answers (.segmentLine v) s (fun t =>
           let small := ((s.dev.zones v l.lix).map (fun z => z.minArea)).getD b.piece.peakZone 0
           let seq := (s.dev.sg v).nextCand
           (t.dev.sg v).blobs = [] ∧ t.dev.nat (Obj.blobsClosed v) = min (2 ^ 64 - 1) (s.dev.nat (Obj.blobsClosed v) + 1) ∧
             (if b.segIndex = 0 ∧ b.piece.area < small then
               t.dev.nat (Obj.blobsFiltered v) = min (2 ^ 64 - 1) (s.dev.nat (Obj.blobsFiltered v) + 1) ∧ (t.dev.sg v).waiting = (s.dev.sg v).waiting ∧
                 (t.dev.sg v).nextCand = seq
              else
               t.dev.nat (Obj.blobsEmitted v) = min (2 ^ 64 - 1) (s.dev.nat (Obj.blobsEmitted v) + 1) ∧
                 t.dev.nat (Obj.candidatesOut v) = min (2 ^ 64 - 1) (s.dev.nat (Obj.candidatesOut v) + 1) ∧
                 (t.dev.sg v).nextCand = (seq + 1) % 2 ^ 32 ∧
                 (t.dev.sg v).waiting.getLast?.map (fun w => (w.cand.candSeq, w.cand.serial, w.cand.area, w.cand.kind, w.cand.dark, w.cand.continues)) =
                   some (seq, b.serial, b.piece.area, (if b.segIndex = 0 then 0 else 1), b.dark, false) ∧
                 (t.dev.sg v).waiting.getLast?.map (fun w => Val.b w.cand.bytes) = some (t.dev.val (Obj.lastCandidate v)))))

/-- The quota rule of R194, with the start and the end of the segmenter of a View (R178, R187). That SegPlane is judged at SegEnable is
the model's choice (log entry 26). -/
def Obligations.SegmentersStartAndStop : Prop :=
  (∀ (s : State) (ses : Nat) (v : Nat),
         s.Steady →
         v < 4 →
         s.MayWrite ses (Obj.segEnable v) [1] →
         s.dev.flag (Obj.segEnable v) = false →
         Answers (.segEnable ses v) s (fun t =>
           if 65536 < sumN ((List.range 4).map (fun u => if u = v ∨ s.dev.flag (Obj.segEnable u) = true then s.dev.nat (Obj.blobQuota u) else 0)) ∨ ¬ s.dev.segPlanesOk v = true then
             t.Answered .range [] ∧ s.Leaves t s.dev []
           else if ¬ s.dev.modelSelOk v (s.dev.nat (Obj.modelSel v)) = true then t.Answered .state [] ∧ s.Leaves t s.dev []
           else t.Answered .ok [] ∧ t.dev.val (Obj.segEnable v) = .n 1 ∧ t.dev.val (Obj.nextSerial v) = .n 1 ∧ t.dev.val (Obj.maxOpenBlobs v) = .n 0 ∧
             sumN ((List.range 4).map (fun u => if t.dev.flag (Obj.segEnable u) = true then t.dev.nat (Obj.blobQuota u) else 0)) ≤ 65536 ∧
             s.Leaves t ((s.dev.updSg v (fun x => { x with
               running := true, bgReset := true, refs := [], blobs := [], satBright := none, satDark := none, nextCand := 1,
               run := x.run + 1, noted := [] })).updCls (fun x => { x with released := x.released.set v 1 })) [Obj.segEnable v, Obj.nextSerial v, Obj.maxOpenBlobs v, Obj.logSeq])) ∧
  (∀ (s : State) (ses : Nat) (v : Nat),
         s.Steady →
         v < 4 →
         s.MayWrite ses (Obj.segEnable v) [0] →
         s.dev.flag (Obj.segEnable v) = true →
         (s.dev.vw v).ready = [] →
         (s.dev.sg v).running = true →
         Answers (.segDisable ses v) s (fun t =>
           t.Answered .ok [] ∧ t.dev.val (Obj.segEnable v) = .n 0 ∧ (t.dev.sg v).running = false ∧ (t.dev.sg v).blobs = [] ∧
             (∀ q ∈ t.dev.seg.crop, q.view = v → q.last.isSome = true) ∧
             (∀ u : Nat, u < 4 → u ≠ v → t.dev.sg u = s.dev.sg u) ∧ t.dev.stitch = s.dev.stitch ∧ t.dev.ports = s.dev.ports ∧ t.dev.eng = s.dev.eng ∧
             t.dev.pos = s.dev.pos ∧ t.dev.hbm = s.dev.hbm ∧ t.pending = s.pending)) ∧
  (∀ (s : State) (ses : Nat) (v : Nat), s.Steady → v < 4 → s.MayWrite ses (Obj.bgReset v) [1] →
         Answers (.bgReset ses v) s (fun t =>
           t.Answered .ok [] ∧ s.Leaves t (s.dev.updSg v (fun x => { x with bgReset := true })) []))

/-- The cropper (R198 to R200). When a request has expired is read literally (log entry 39). -/
def Obligations.PatchesAreCutOrExpire : Prop :=
  (∀ (s : State) (v : Nat),
         s.Works pdHub →
         v < 4 →
         s.dev.cropTurn ≠ some v →
         Answers (.patchCut v) s (fun t =>
           s.Leaves t s.dev [])) ∧
  (∀ (s : State) (v : Nat) (q : CropReq),
         s.Works pdHub →
         v < 4 →
         s.dev.cropTurn = some v →
         s.dev.seg.crop.find? (fun q => q.view == v && s.dev.cropReady q) = some q →
         q.cand.view = v →
         Answers (.patchCut v) s (fun t =>
           t.dev.seg.crop = s.dev.seg.crop.erase q ∧ t.dev.seg.turn = (v + 1) % 4 ∧
             (∀ u : Nat, u < 4 → u ≠ v → t.dev.sg u = s.dev.sg u) ∧
             (if s.dev.cropExpired q = true then
               (t.dev.sg v).waiting = (s.dev.sg v).waiting.map (fun w => if w.cand = q.cand then { w with ready := true, patch := none } else w) ∧
                 t.dev.nat (Obj.patchesExpired v) = min (2 ^ 64 - 1) (s.dev.nat (Obj.patchesExpired v) + 1) ∧
                 s.Leaves t { s.dev with seg := t.dev.seg } [Obj.patchesExpired v, Obj.logSeq]
              else
               (t.dev.sg v).waiting = (s.dev.sg v).waiting.map (fun w => if w.cand = q.cand then { w with ready := true, patch := some (s.dev.cutPatch q) } else w) ∧
                 (s.dev.cutPatch q).w = q.w ∧ (s.dev.cutPatch q).h = q.h ∧
                 t.dev.nat (Obj.patchesCut v) = min (2 ^ 64 - 1) (s.dev.nat (Obj.patchesCut v) + 1) ∧ t.dev.nat (Obj.patchesExpired v) = s.dev.nat (Obj.patchesExpired v) ∧
                 t.dev.stitch = s.dev.stitch ∧ t.dev.cls = s.dev.cls ∧ t.dev.pos = s.dev.pos ∧ t.pending = s.pending)))

/-- Requests and results (R227 to R230, R238), and the offer of a record to a Stall that is open (R249) with what its queue then holds
(R250). -/
def Obligations.RecordsEnterAndLeaveTheClassifierInOrder : Prop :=
  (∀ (s : State) (v : Nat) (w : WaitRec) (rest : List WaitRec),
         s.Works pdHub →
         v < 4 →
         (s.dev.sg v).waiting = w :: rest →
         w.cand.view = v →
         w.ready = true →
         s.dev.clsReason w.cand w.patch ≠ 0 →
         Answers (.classifierRequest v) s (fun t =>
           t.dev.nat Obj.clsRequests = min (2 ^ 64 - 1) (s.dev.nat Obj.clsRequests + 1) ∧
           let f : Flight := {
             cand := w.cand
             hasPatch := w.patch.isSome
             partialCut := (w.patch.map (fun p => p.partialCut)).getD false
             result := some (noResult w.cand (s.dev.clsReason w.cand w.patch)) }
           s.Leaves t ((s.dev.updSg v (fun x => { x with waiting := rest })).updCls (fun x => { x with flights := x.flights.modify v (fun l => l ++ [f]) }))
             [Obj.clsRequests])) ∧
  (∀ (s : State) (v : Nat) (w : WaitRec) (rest : List WaitRec) (p : Patch),
         s.Works pdHub →
         v < 4 →
         (s.dev.sg v).waiting = w :: rest →
         w.cand.view = v →
         w.ready = true →
         w.patch = some p →
         s.dev.clsReason w.cand (some p) = 0 →
         s.dev.cls.queue.length < 8192 →
         Answers (.classifierRequest v) s (fun t =>
           t.dev.nat Obj.clsRequests = min (2 ^ 64 - 1) (s.dev.nat Obj.clsRequests + 1) ∧
           let f : Flight := { cand := w.cand, hasPatch := true, partialCut := p.partialCut, result := none }
           let q : ClsReq := { cand := w.cand, patch := p, slot := w.cand.model, arrival := s.dev.now }
           s.Leaves t ((s.dev.updSg v (fun x => { x with waiting := rest })).updCls (fun x => { x with
             flights := x.flights.modify v (fun l => l ++ [f])
             queue := x.queue ++ [q] }))
             [Obj.clsRequests, Obj.queueMax])) ∧
  (∀ (s : State) (v : Nat) (seq : Nat) (q : ClsReq),
         s.Works pdHub →
         v < 4 →
         s.dev.cls.queue.find? (fun q => q.cand.view == v && q.cand.candSeq == seq) = some q →
         Answers (.shedTimeout v seq) s (fun t =>
           if q.arrival + s.dev.nat Obj.clsMaxWait * 1000 ≤ s.dev.now then
             s.Leaves t (s.dev.updCls (fun x => { x with
               queue := x.queue.erase q, flights := x.flights.modify v (setResult seq (noResult q.cand 4)) })) [Obj.logSeq]
           else s.Leaves t s.dev [])) ∧
  (∀ (s : State) (v : Nat) (f : Flight) (rest : List Flight) (r : ClsRes),
         s.Works pdHub →
         v < 4 →
         s.dev.flights v = f :: rest →
         f.result = some r →
         Tbl.get? s.dev.pair.results (v * 2 ^ 32 + f.cand.candSeq) = none →
         Answers (.resultLeave v) s (fun t =>
           t.dev.val Obj.lastResult = .b r.bytes ∧ t.dev.nat Obj.recordsMade = min (2 ^ 64 - 1) (s.dev.nat Obj.recordsMade + 1) ∧
           (if r.reason = 0 then t.dev.nat Obj.classified = min (2 ^ 64 - 1) (s.dev.nat Obj.classified + 1)
            else t.dev.nat Obj.classified = s.dev.nat Obj.classified) ∧
           s.Leaves t (s.dev.updCls (fun x => { x with flights := x.flights.set v rest, toRelease := x.toRelease ++ [(f, r)] }))
             [Obj.lastResult, Obj.classified, Obj.viewClassified v, Obj.clsShed, Obj.viewShed v, Obj.notClassified, Obj.unverified, Obj.recordsMade])) ∧
  (∀ (s : State) (f : Flight) (r : ClsRes) (rest : List (Flight × ClsRes)),
         s.Works pdHub →
         s.dev.cls.toRelease = (f, r) :: rest →
         Answers (.recordRelease) s (fun t =>
           let patch := if f.hasPatch = true then s.dev.storedPatch f.cand.view f.cand.candSeq f.cand.run else none
           t.dev.val Obj.lastRecord = .b (s.dev.record f.cand r patch.isSome f.partialCut) ∧
           t.dev.cls = { s.dev.cls with
             toRelease := rest,
             released := if f.cand.run = (s.dev.sg f.cand.view).run then s.dev.cls.released.set f.cand.view 
                 (candAfter (s.dev.cls.released.getD f.cand.view 1) f.cand.candSeq)
               else s.dev.cls.released } ∧
           t.dev.seg = s.dev.seg ∧ t.dev.stitch = s.dev.stitch ∧ t.dev.ports = s.dev.ports ∧ t.dev.eng = s.dev.eng ∧ t.dev.pos = s.dev.pos ∧
           t.pending = s.pending)) ∧
  (∀ (s : State) (f : Flight) (r : ClsRes) (rest : List (Flight × ClsRes)) (n : Nat) (x : StallSt),
         s.Works pdHub →
         s.dev.cls.toRelease = (f, r) :: rest →
         f.hasPatch = false →
         n < 512 →
         s.dev.stallsOpen = [n] →
         s.dev.stall? n = some x →
         Answers (.recordRelease) s (fun t =>
           let len := (s.dev.record f.cand r false f.partialCut).length
           let before := s.dev.queuedBytesOf n
           let free := x.queue.filter (fun i => i.sent == 0)
           t.dev.nat (Obj.itemsOffered n) = min (2 ^ 64 - 1) (s.dev.nat (Obj.itemsOffered n) + 1) ∧
           (if s.dev.recordFilter n f.cand r = false ∨ bit (s.dev.nat (Obj.stallContent n)) 0 = false then
             t.dev.nat (Obj.filteredOut n) = min (2 ^ 64 - 1) (s.dev.nat (Obj.filteredOut n) + 1) ∧ t.dev.stall? n = s.dev.stall? n
            else t.dev.nat (Obj.itemsQueued n) = min (2 ^ 64 - 1) (s.dev.nat (Obj.itemsQueued n) + 1) ∧
              (before + len ≤ s.dev.nat (Obj.queueBytes n) →
                t.dev.queuedBytesOf n = before + len ∧ t.dev.nat (Obj.itemsDropped n) = s.dev.nat (Obj.itemsDropped n) ∧
                (s.dev.publishes = false →
                  (t.dev.stall? n).map (fun y => y.queue.map (fun i => (i.kind, i.view, i.key, i.object))) =
                    some (x.queue.map (fun i => (i.kind, i.view, i.key, i.object)) ++ [(1, f.cand.view, f.cand.candSeq, s.dev.record f.cand r false f.partialCut)]))) ∧
              (s.dev.nat (Obj.queueBytes n) < before + len → x.victim 3 (s.dev.nat (Obj.dropPolicy n) == 1) = none →
                t.dev.queuedBytesOf n = before ∧ t.dev.nat (Obj.itemsDropped n) = min (2 ^ 64 - 1) (s.dev.nat (Obj.itemsDropped n) + 1)) ∧
              (∀ i ∈ free.find? (fun i => i.kind == 3), s.dev.nat (Obj.queueBytes n) < before + len → before + len ≤ s.dev.nat (Obj.queueBytes n) + i.object.length →
                t.dev.queuedBytesOf n = before + len - i.object.length ∧ t.dev.nat (Obj.itemsDropped n) = min (2 ^ 64 - 1) (s.dev.nat (Obj.itemsDropped n) + 1) ∧
                (s.dev.publishes = false → (t.dev.stall? n).map (fun y => y.queue.map (fun j => (j.kind, j.key))) =
                  some ((x.queue.erase i).map (fun j => (j.kind, j.key)) ++ [(1, f.cand.candSeq)]))))))

/-- Checked products (R210, R221). The codes of a product and what saturates (log entry 41), and which array takes which product (log entry
67), are the model's choices. -/
def Obligations.ProductsAreCheckedAndRunAgain : Prop :=
  (∀ (s : State) (a : Nat) (err : List Int) (e0 : Int) (e1 : Int),
         s.Steady →
         a < 72 →
         s.dev.inDispatch a = false ∨ s.dev.domOn pdCls = false ∨ (s.dev.pickMvp a s.dev.cls.running 0 = none ∧ s.dev.cls.queue = []) →
         Answers (.mvpComplete a err e0 e1) s (fun t =>
           s.Leaves t s.dev [])) ∧
  (∀ (s : State) (a : Nat) (err : List Int) (e0 : Int) (e1 : Int) (i : Nat) (n : Inference) (pos : Nat) (k : Nat) (tile : Tile) (l : Layer),
         s.Works pdCls →
         a < 72 →
         s.dev.inDispatch a = true →
         s.dev.pickMvp a s.dev.cls.running 0 = some (i, n, pos, k, tile) →
         s.dev.layerOf n = some l →
         Answers (.mvpComplete a err e0 e1) s (fun t =>
           let m := (s.dev.arr a).mvp (s.dev.tileBank a n.req.slot tile) l.shift (s.dev.nat Obj.csTol)
             (((l.vec (if l.src = 0xFF then n.input else n.outs.getD l.src []).toArray pos).drop (512 * tile.row)).take tile.rows) err e0 e1
           let key := pos * 128 + k
           let tried := Tbl.get n.tries key []
           let x := { n with
             attempts := max n.attempts (tried.length + 1), reruns := n.reruns + b2n (decide (0 < tried.length)), verified := n.verified && ! m.2.2 }
           t.dev.nat (Obj.mvpCount a) = min (2 ^ 64 - 1) (s.dev.nat (Obj.mvpCount a) + 1) ∧
           (m.2.1 = false → t.dev.nat (Obj.csFails a) = min (2 ^ 32 - 1) (s.dev.nat (Obj.csFails a) + 1)) ∧
           (m.2.1 = true → t.dev.nat (Obj.csFails a) = s.dev.nat (Obj.csFails a)) ∧
           (m.2.1 = false → tried.length + 1 < s.dev.nat Obj.maxAttempts →
             s.Leaves t (s.dev.updCls (fun c => { c with running := c.running.set i { x with tries := Tbl.put x.tries key (tried ++ [a]) } }))
               [Obj.mvpCount a, Obj.reruns, Obj.satMvps, Obj.csFails a, Obj.logSeq]) ∧
           (m.2.1 = true → tried = [] → (s.dev.pendingMvps { x with done := Tbl.put x.done key m.1, tries := Tbl.del x.tries key }).isEmpty = false →
             s.Leaves t (s.dev.updCls (fun c => { c with
               running := c.running.set i { x with done := Tbl.put x.done key m.1, tries := Tbl.del x.tries key } }))
               [Obj.mvpCount a, Obj.satMvps, Obj.logSeq]) ∧
           t.dev.stitch = s.dev.stitch ∧ t.dev.seg = s.dev.seg ∧ t.dev.pos = s.dev.pos ∧ t.dev.hbm = s.dev.hbm ∧ t.pending = s.pending))

/-- Retirement and spares (R222 to R224), with the banks that a spare takes for the models that are Ready (R215, R223) and the reads of
their weights (R327). STATE for an array retired already is the model's choice (log entry 74); an array that is absent or off is R21. -/
def Obligations.ArraysAreRetiredAndReplaced : Prop :=
  (∀ (s : State) (ses : Nat) (a : Nat), s.Steady → a < 72 → s.MayWrite ses (Obj.arrayRetire a) [1] →
         Answers (.retire ses a) s (fun t =>
           let l := (s.dev.arr a).logical
           let spare := if l = 0xFF then none else (List.range 72).find? (fun b => b != a && (s.dev.arr b).state == 2)
           if (s.dev.arr a).state = 4 ∨ (s.dev.arr a).state = 0 ∨ s.dev.retireLeaves a = true then t.Answered .state [] ∧ s.Leaves t s.dev []
           else t.Answered .ok [] ∧ t.dev.arr a = { s.dev.arr a with state := 4, logical := 0xFF, unfit := false } ∧
             (∀ b : Nat, b < 72 → b ≠ a → t.dev.arr b = if spare = some b then { s.dev.arr b with state := 3, logical := l } else s.dev.arr b) ∧
             t.dev.nat (Obj.retireTime a) = s.dev.stamp ∧ t.dev.nat Obj.repairsDone = min (2 ^ 32 - 1) (s.dev.nat Obj.repairsDone + 1) ∧
             t.dev.stitch = s.dev.stitch ∧ t.dev.seg = s.dev.seg ∧ t.dev.pos = s.dev.pos ∧ t.dev.hbm = s.dev.hbm ∧ t.dev.ports = s.dev.ports ∧ t.pending = s.pending)) ∧
  (∀ (s : State) (a : Nat), s.Works pdCls → a < 72 → (s.dev.arr a).state = 3 →
         Answers (.spareProgrammed a) s (fun t =>
           t.dev.arr a = { s.dev.arr a with state := 1, banks := (t.dev.arr a).banks } ∧
           (∀ m : Nat, m < 2 → s.dev.nat (Obj.modelSlotState m) ≠ 2 → ∀ k : Nat, k < 2 →
             Tbl.get? (t.dev.arr a).banks (2 * m + k) = Tbl.get? (s.dev.arr a).banks (2 * m + k)) ∧
           (∀ m : Nat, m < 2 → s.dev.nat (Obj.modelSlotState m) = 2 → ∀ k : Nat, k < 2 →
             let i := s.dev.image m
             Tbl.get? (t.dev.arr a).banks (2 * m + k) =
               ((i.tiles.zip (List.range i.tiles.length)).find? (fun e =>
                 e.1.places.any (fun p => p.1 == (s.dev.arr a).logical && p.2 == k))).map (fun e => bankWith (s.dev.slot m).image e.2 e.1)) ∧
           (∀ b : Nat, b < 72 → b ≠ a → t.dev.arr b = s.dev.arr b) ∧
           s.Leaves t { s.dev with
             mem := { s.dev.mem with pcs := t.dev.mem.pcs }, cls := { s.dev.cls with
               arrays := t.dev.cls.arrays, slots := t.dev.cls.slots, queue := t.dev.cls.queue, running := t.dev.cls.running,
               flights := t.dev.cls.flights } }
             [Obj.modelMaxLoad 0, Obj.modelMaxLoad 1, Obj.modelRate 0, Obj.modelRate 1, Obj.logSeq])) ∧
  (∀ (s : State) (a : Nat), s.Works pdCls → a < 72 → (s.dev.arr a).state ≠ 3 →
         Answers (.spareProgrammed a) s (fun t =>
           s.Leaves t s.dev []))

/-- Model slots (R216, R234); an image of which both copies of a block are lost fails its check (R333, R335, R338). -/
def Obligations.ModelSlotsAreLoadedAndUnloaded : Prop :=
  (∀ (s : State) (ses : Nat) (m : Nat), s.Steady → m < 2 → s.MayWrite ses (Obj.modelLoad m) [1] →
         Answers (.modelLoad ses m) s (fun t =>
           if s.dev.modelInUse m = true ∨ s.dev.nat (Obj.modelSlotState 0) = 1 ∨ s.dev.nat (Obj.modelSlotState 1) = 1 ∨ s.dev.nat (Obj.domState pdCls) ≠ 2 ∨ s.dev.cal.boot ≠ [] then
             t.Answered .state [] ∧ s.Leaves t s.dev []
           else t.Answered .ok [] ∧ t.dev.val (Obj.modelSlotState m) = .n 1 ∧ s.Leaves t s.dev [Obj.modelSlotState m])) ∧
  (∀ (s : State) (m : Nat), s.Works pdCls → m < 2 → s.dev.nat (Obj.modelSlotState m) = 1 →
         Answers (.modelLoadComplete m) s (fun t =>
           let bytes := Tbl.getBytes 0 s.dev.hbm (modelBase m) (min 50331648 (leNat (Tbl.getBytes 0 s.dev.hbm (modelBase m + 32) 4)))
           let i := parseImage bytes
           let r := if s.dev.hbmBad (modelBase m) bytes.length = true then .integrity else i.check (s.dev.imageSigned i bytes) s.dev.activeArrays
           t.dev.val (Obj.modelLoadResult m) = .n r.toNat ∧
           (if r = .ok then t.dev.val (Obj.modelSlotState m) = .n 2 ∧ t.dev.val (Obj.modelIdLoaded m) = .n i.modelId ∧
               t.dev.val (Obj.modelVersionLoaded m) = .n i.version ∧ (t.dev.slot m).image = bytes
            else t.dev.val (Obj.modelSlotState m) = .n 4 ∧ (t.dev.slot m).image = (s.dev.slot m).image) ∧ t.dev.stitch = s.dev.stitch ∧ t.dev.seg = s.dev.seg ∧ t.dev.pos = s.dev.pos ∧ t.dev.hbm = s.dev.hbm ∧ t.dev.ports = s.dev.ports ∧ t.pending = s.pending)) ∧
  (∀ (s : State) (ses : Nat) (m : Nat), s.Steady → m < 2 → s.MayWrite ses (Obj.modelUnload m) [1] →
         Answers (.modelUnload ses m) s (fun t =>
           if s.dev.modelInUse m = true ∨ s.dev.nat (Obj.modelSlotState m) = 1 then t.Answered .state [] ∧ s.Leaves t s.dev []
           else t.Answered .ok [] ∧ t.dev.val (Obj.modelSlotState m) = .n 0 ∧
             s.Leaves t (s.dev.updSlot m (fun x => { x with image := [], unusable := false, lost := [] })) [Obj.modelSlotState m]))

/-- The calibration queue (R269). That a head which may not borrow its array stays the head is the model's reading (log entry 43). -/
def Obligations.CalibrationsAreRequestedAndStart : Prop :=
  (∀ (s : State) (ses : Nat) (a : Nat), s.Steady → a < 255 → s.MayWrite ses Obj.calStart [BitVec.ofNat 8 a] →
         Answers (.calStart ses a) s (fun t =>
           if 72 ≤ a then t.Answered .range [] ∧ s.Leaves t s.dev []
           else if (s.dev.arr a).state = 4 then t.Answered .state [] ∧ s.Leaves t s.dev []
           else if (s.dev.arr a).state = 0 ∨ s.dev.borrowed a = true then t.Answered .ok [] ∧ s.Leaves t s.dev []
           else t.Answered .ok [] ∧ s.Leaves t (s.dev.updCal (fun x => { x with queue := betterClass x.queue a 2 })) [])) ∧
  (∀ (s : State) (ses : Nat), s.Steady → s.MayWrite ses Obj.calStart [0xFF] →
         Answers (.calStart ses 0xFF) s (fun t =>
           t.Answered .ok [] ∧ s.Leaves t { s.dev with cal := { s.dev.cal with queue := t.dev.cal.queue } } [] ∧
           ∀ a : Nat, a < 72 → (s.dev.arr a).state ≠ 4 → (s.dev.arr a).state ≠ 0 → s.dev.borrowed a = false →
             t.dev.cal.queue.any (fun e => e.1 == a && decide (e.2 ≤ 2)) = true)) ∧
  (∀ (s : State) (a : Nat), s.Works pdHub → a < 72 →
         Answers (.calInterval a) s (fun t =>
           if (s.dev.calElapsed a).any (fun u => decide (s.dev.nat Obj.calInterval * 1000000000 ≤ u)) = true ∧ s.dev.flag Obj.calEnable = true ∧
               (s.dev.arr a).state ≠ 4 ∧ (s.dev.arr a).state ≠ 0 ∧ s.dev.borrowed a = false then
             s.Leaves t (s.dev.updCal (fun x => { x with queue := betterClass x.queue a 4 })) []
           else s.Leaves t s.dev [])) ∧
  (∀ (s : State) (x : Int), s.Works pdHub →
         Answers (.temperatureChange x) s (fun t =>
           t.dev.val Obj.clsTemp = .n (toSigned 16 (ofSigned 16 x)) ∧ s.Leaves t { s.dev with cal := { s.dev.cal with queue := t.dev.cal.queue } } [Obj.clsTemp] ∧
           (s.dev.flag Obj.calEnable = false → t.dev.cal.queue = s.dev.cal.queue) ∧
           (s.dev.flag Obj.calEnable = true → ∀ a : Nat, a < 72 → (s.dev.arr a).calAt.isSome = true → 10 * s.dev.nat Obj.calTempDelta < (x - (s.dev.arr a).calTemp).natAbs →
             (s.dev.arr a).state ≠ 4 → (s.dev.arr a).state ≠ 0 → s.dev.borrowed a = false → t.dev.cal.queue.any (fun e => e.1 == a && decide (e.2 ≤ 3)) = true))) ∧
  (∀ (s : State) (a : Nat) (k : Nat),
         s.Works pdHub →
         s.dev.domOn pdCls = true →
         s.dev.domOn pdCal = true →
         s.dev.flag Obj.calHold = false →
         s.dev.cal.current = [] →
         s.dev.cal.boot = [] →
         queueHead s.dev.cal.queue = some (a, k) →
         Answers (.arrayCalibrationStart) s (fun t =>
           if (s.dev.arr a).state = 1 ∧ s.dev.mayBorrow a = false then
             t.dev.nat Obj.calDeferred = min (2 ^ 32 - 1) (s.dev.nat Obj.calDeferred + 1) ∧ s.Leaves t s.dev [Obj.calDeferred, Obj.logSeq]
           else s.Leaves t (s.dev.updCal (fun c => { c with
             current := [{ array := a, start := s.dev.now, samples := s.dev.nat Obj.calSamples, boot := false }], queue := c.queue.filter (fun e => e.1 != a),
             cycle := if c.cycle = [] then (List.range 72).filter (fun b => (s.dev.arr b).state != 0 && (s.dev.arr b).state != 4) else c.cycle })) []))

/-- Calibrations (R261 to R279). What a calibration that ends under CalHold counts (nothing), and RANGE for a record with another
SchemaVersion or with a reserved field set, are the model's choices (log entry 74), and so is what log entry 42 says. -/
def Obligations.CalibrationsAreAdopted : Prop :=
  (∀ (s : State) (passes : List (List ColumnSums)) (r : CalRun) (rest : List CalRun),
         s.Works pdHub →
         s.dev.cal.current = r :: rest →
         s.dev.flag Obj.calHold = true →
         s.dev.cal.pendStep = 0 →
         Answers (.arrayCalibrationComplete passes) s (fun t =>
           s.Leaves t (s.dev.updCal (fun c => { c with current := rest })) [])) ∧
  (∀ (s : State) (passes : List (List ColumnSums)) (r : CalRun) (rest : List CalRun),
         s.Works pdHub →
         s.dev.cal.current = r :: rest →
         s.dev.flag Obj.calHold = false →
         r.array < 72 →
         Answers (.arrayCalibrationComplete passes) s (fun t =>
           t.dev.nat Obj.calRuns = min (2 ^ 64 - 1) (s.dev.nat Obj.calRuns + 1) ∧ t.dev.nat (Obj.arrCalCount r.array) = min (2 ^ 32 - 1) (s.dev.nat (Obj.arrCalCount r.array) + 1) ∧
           t.dev.nat Obj.lastCalTime = s.dev.stamp ∧ (t.dev.arr r.array).calAt = some s.dev.now ∧ (∀ c ∈ t.dev.cal.current, c ∈ rest) ∧ t.dev.stitch = s.dev.stitch ∧ t.dev.seg = s.dev.seg ∧ t.dev.pos = s.dev.pos ∧ t.dev.hbm = s.dev.hbm ∧ t.dev.ports = s.dev.ports ∧ t.pending = s.pending)) ∧
  (∀ (s : State), s.Works pdCls →
         Answers (.rampStep) s (fun t =>
           s.Leaves t { s.dev with cls := { s.dev.cls with arrays := t.dev.cls.arrays } } [] ∧
           ∀ a : Nat, a < 72 → t.dev.arr a =
             if (s.dev.arr a).state = 0 ∨ (s.dev.arr a).state = 4 ∨ s.dev.now < (s.dev.arr a).rampAt + s.dev.nat Obj.rampPeriod * 1000 ∨ (s.dev.arr a).ramping = [] then s.dev.arr a
             else { (s.dev.arr a).rampStep (s.dev.nat Obj.rampGainStep) (s.dev.nat Obj.rampOffStep) with
               rampAt := (s.dev.arr a).rampAt + s.dev.nat Obj.rampPeriod * 1000 })) ∧
  (∀ (s : State) (x : Int) (y : Int) (z : Int), s.Works pdHub → s.dev.domOn pdCal = true →
         Answers (.referenceCheck x y z) s (fun t =>
           t.dev.val Obj.bgDiff = .n (toSigned 32 (ofSigned 32 (x - y))) ∧
           (if s.dev.nat Obj.bgLimit < (x - y).natAbs then
             t.dev.val Obj.calHold = .n 1 ∧ t.dev.nat Obj.refFaults = min (2 ^ 32 - 1) (s.dev.nat Obj.refFaults + 1) ∧ t.dev.cal.good = 0
            else t.dev.nat Obj.refFaults = s.dev.nat Obj.refFaults ∧ (s.dev.flag Obj.calHold = false → t.dev.flag Obj.calHold = false)) ∧
           s.Leaves t { s.dev with cal := t.dev.cal } [Obj.bgDiff, Obj.refFaults, Obj.calHold, Obj.refTrim, Obj.recordSeq, Obj.recordWrites, Obj.logSeq])) ∧
  (∀ (s : State) (ses : Nat),
         s.Steady →
         s.MayWrite ses Obj.calRecordLoad [1] →
         s.dev.nat Obj.calRecordSel < 72 →
         s.dev.nat Obj.calStoreMode = 1 →
         Answers (.calRecordLoad ses) s (fun t =>
           let b := s.dev.cal.buf
           let u := s.dev.nat Obj.calRecordSel
           if s.dev.domOn pdCls = true then t.Answered .state [] ∧ s.Leaves t s.dev []
           else if leAt b 0 4 ≠ recMagic ∨ recChecks b = false then t.Answered .integrity [] ∧ s.Leaves t s.dev []
           else if leAt b 29 1 ≠ 1 ∨ b.length < recLen u ∨ recValid u b = false ∨ reservedClear u b = false then t.Answered .range [] ∧ s.Leaves t s.dev []
           else t.Answered .ok [] ∧ t.dev.val (Obj.recordSource u) = .n 2 ∧ t.dev.val (Obj.recordDirty u) = .n 1 ∧
             s.Leaves t (s.dev.updCal (fun c => { c with
               recs := Tbl.put c.recs u (b.take (recLen u)), buf := [], host := if c.host.contains u then c.host else c.host ++ [u] })) [Obj.recordSource u, Obj.recordDirty u, Obj.logSeq]))

/-- The states of a Stall (R248, R253). The order of RANGE and STATE at an open, what a close of a free Stall answers and the notice and
the backfill counted as offered are the model's choices (log entry 44), as is the claim that needs no owner (log entry 29) and the
moment at which the neighbour of a new Stall is asked for (log entry 72). -/
def Obligations.StallsAreClaimedOpenedAndClosed : Prop :=
  (∀ (s : State) (ses : Nat) (n : Nat), s.Steady → n < 512 → s.MayWrite ses (Obj.stallClaim n) [1] →
         Answers (.stallClaim ses n) s (fun t =>
           if s.dev.nat (Obj.stallState n) ≠ 0 then t.Answered .busy [] ∧ s.Leaves t s.dev []
           else t.Answered .ok [] ∧ t.dev.val (Obj.stallState n) = .n 1 ∧ t.dev.val (Obj.stallOwner n) = .n (s.dev.sessionId ses) ∧
             (∀ k ∈ stallCounters n, t.dev.nat k = 0) ∧ s.Leaves t (s.dev.noRestore n) ([Obj.stallState n, Obj.stallOwner n] ++ stallCounters n))) ∧
  (∀ (s : State) (ses : Nat) (n : Nat) (x : Session),
         s.Steady →
         n < 512 →
         s.MayWrite ses (Obj.stallOpen n) [1] →
         s.session? ses = some x →
         s.dev.nat (Obj.lvMask n) = 0 →
         Answers (.stallOpen ses n) s (fun t =>
           if s.dev.nat (Obj.stallState n) ≠ 1 then t.Answered .state [] ∧ s.Leaves t s.dev []
           else if s.dev.stallConfigOk n = false then t.Answered .range [] ∧ s.Leaves t s.dev []
           else if s.dev.stallTransportUp n = false then t.Answered .state [] ∧ s.Leaves t s.dev []
           else t.Answered .ok [] ∧ t.dev.val (Obj.stallState n) = .n 2 ∧ t.dev.val (Obj.creditLimit n) = .n 0 ∧
             t.dev.val (Obj.stallOwner n) = .n (if s.dev.flag (Obj.stallPersistent n) = true then (0 : Nat) else s.dev.nat (Obj.stallOwner n)) ∧
             (t.dev.stall? n).map (fun y => y.key) = some (keyAtOpen n x.d2h) ∧ t.dev.nat (Obj.itemsOffered n) = 1 ∧ (∀ k : Nat, k < 512 → k ≠ n → t.dev.stall? k = s.dev.stall? k) ∧
             (s.dev.nat (Obj.stallTransport n) = 0 → t.dev.net = s.dev.net) ∧
             s.Leaves t { s.dev with pub := { s.dev.pub with stalls := t.dev.pub.stalls }, net := t.dev.net }
               ([Obj.stallState n, Obj.stallOwner n, Obj.creditLimit n, Obj.logSeq] ++ (List.range 6).map Obj.framesOut ++ stallCounters n))) ∧
  (∀ (s : State) (ses : Nat) (n : Nat) (x : Session),
         s.Steady →
         n < 512 →
         s.MayWrite ses (Obj.stallOpen n) [1] →
         s.session? ses = some x →
         s.dev.nat (Obj.stallState n) = 1 →
         s.dev.stallConfigOk n = true →
         s.dev.stallTransportUp n = true →
         Answers (.stallOpen ses n) s (fun t =>
           let tiles := if bit (s.dev.nat (Obj.stallContent n)) 2 = false then 0
             else sumN (((List.range 64).filter (bit (s.dev.nat (Obj.lvMask n)))).map (fun c =>
               sumN ((keepLast (s.dev.nat (Obj.lvHistory c)) (s.dev.lvChan c).history).map (fun b => ceilDiv b.width 256))))
           t.Answered .ok [] ∧ t.dev.val (Obj.stallState n) = .n 2 ∧
             (t.dev.stall? n).map (fun y => y.key) = some (keyAtOpen n x.d2h) ∧
             t.dev.nat (Obj.itemsOffered n) = min (2 ^ 64 - 1) (1 + tiles) ∧ t.dev.nat (Obj.itemsQueued n) = min (2 ^ 64 - 1) (1 + tiles) ∧
             (∀ k : Nat, k < 512 → k ≠ n → t.dev.stall? k = s.dev.stall? k) ∧ t.dev.pub.lv = s.dev.pub.lv ∧
             t.dev.stitch = s.dev.stitch ∧ t.dev.seg = s.dev.seg ∧ t.dev.cls = s.dev.cls ∧ t.dev.pos = s.dev.pos ∧ t.dev.hbm = s.dev.hbm ∧
             t.pending = s.pending)) ∧
  (∀ (s : State) (ses : Nat) (n : Nat), s.Steady → n < 512 → s.MayWrite ses (Obj.stallClose n) [1] →
         Answers (.stallClose ses n) s (fun t =>
           if s.dev.nat (Obj.stallState n) = 2 then
             t.Answered .ok [] ∧ t.dev.val (Obj.stallState n) = .n 0 ∧ t.dev.val (Obj.stallOwner n) = .n 0 ∧
               t.dev.nat (Obj.itemsDropped n) = min (2 ^ 64 - 1) (s.dev.nat (Obj.itemsDropped n) + s.dev.itemsInQueueOf n) ∧
               s.Leaves t { s.dev with pub := { s.dev.pub with
                   stalls := Tbl.del s.dev.pub.stalls n, launch := s.dev.pub.launch.map (fun (q : List LaunchItem) => q.filter (fun l => l.stall != n)) } }
                 [Obj.stallState n, Obj.stallOwner n, Obj.itemsDropped n, Obj.logSeq]
           else t.Answered .ok [] ∧ (s.dev.nat (Obj.stallState n) ≠ 0 → t.dev.val (Obj.stallState n) = .n 0 ∧ t.dev.val (Obj.stallOwner n) = .n 0) ∧
             s.Leaves t s.dev [Obj.stallState n, Obj.stallOwner n]))

/-- Requests of the host to a Stall (R242, R251), and the read of the patch (R327). STATE for a Stall that is not open, and its place
between the tests that answer RANGE, are the model's choices (log entry 74). -/
def Obligations.HostsAskForPatchesAndGiveCredit : Prop :=
  (∀ (s : State) (ses : Nat) (n : Nat) (v : Nat),
         s.Steady →
         n < 512 →
         v < 2 ^ 64 →
         s.MayWrite ses (Obj.patchFetch n) (natLE 8 v) →
         Answers (.patchFetch ses n v) s (fun t =>
           if field v 2 30 ≠ 0 then t.Answered .range [] ∧ s.Leaves t s.dev []
           else if s.dev.nat (Obj.stallState n) ≠ 2 then t.Answered .state [] ∧ s.Leaves t s.dev []
           else if s.dev.candReleased (field v 0 2) (field v 32 32) = false then t.Answered .range [] ∧ s.Leaves t s.dev []
           else if s.dev.storedPatch (field v 0 2) (field v 32 32) (s.dev.sg (field v 0 2)).run = none then t.Answered .late [] ∧ s.Leaves t s.dev []
           else t.Answered .ok [] ∧ t.dev.nat (Obj.itemsOffered n) = min (2 ^ 64 - 1) (s.dev.nat (Obj.itemsOffered n) + 1) ∧
             t.dev.nat (Obj.itemsQueued n) = min (2 ^ 64 - 1) (s.dev.nat (Obj.itemsQueued n) + 1) ∧ (∀ k : Nat, k < 512 → k ≠ n → t.dev.stall? k = s.dev.stall? k) ∧
             s.Leaves t { s.dev with pub := { s.dev.pub with stalls := t.dev.pub.stalls }, mem := { s.dev.mem with pcs := t.dev.mem.pcs } }
               [Obj.itemsOffered n, Obj.itemsQueued n, Obj.itemsDropped n, Obj.queueMaxBytes n, Obj.logSeq])) ∧
  (∀ (s : State) (ses : Nat) (n : Nat) (v : Nat),
         s.Steady →
         n < 512 →
         v < 2 ^ 64 →
         s.MayWrite ses (Obj.creditLimit n) (natLE 8 v) →
         Answers (.creditLimit ses n v) s (fun t =>
           if v < s.dev.nat (Obj.creditLimit n) then t.Answered .range [] ∧ s.Leaves t s.dev []
           else t.Answered .ok [] ∧ t.dev.val (Obj.creditLimit n) = .n v ∧ (∀ k : Nat, k < 512 → k ≠ n → t.dev.stall? k = s.dev.stall? k) ∧ s.Leaves t { s.dev with pub := { s.dev.pub with stalls := t.dev.pub.stalls } } [Obj.creditLimit n])) ∧
  (∀ (s : State) (n : Nat), s.Works pdHub → n < 512 →
         Answers (.stallFlush n) s (fun t =>
           t.dev.stall? n = (s.dev.stall? n).map (fun x => { x with dg := x.dg.map (fun g =>
             if g.since + s.dev.nat (Obj.stallFlush n) * 1000 ≤ s.dev.now then { g with closed := true } else g) }) ∧
           (∀ k : Nat, k < 512 → k ≠ n → t.dev.stall? k = s.dev.stall? k) ∧ s.Leaves t { s.dev with pub := { s.dev.pub with stalls := t.dev.pub.stalls } } []))

/-- Sending (R251 to R254) and launch (R358, R359): of the Stalls that are ready the one of highest priority goes first, and round robin
between those of one priority (R252). When a frame that waits goes out is the model's choice (log entry 72), as is the moment at which
an item counts as sent (log entry 44). -/
def Obligations.DatagramsAreSentAndLaunched : Prop :=
  (∀ (s : State) (q : Nat),
         s.Works pdHub →
         q < 7 →
         s.dev.pair.resume = none →
         q = 0 ∨ s.dev.net.tx.getD (q - 1) [] = [] →
         s.dev.stallsOpen.all (fun n => ! s.dev.dgReady n) = true →
         Answers (.datagramSend q) s (fun t =>
           s.Leaves t s.dev [])) ∧
  (∀ (s : State) (q : Nat) (n : Nat) (x : StallSt) (g : Datagram),
         s.Works pdHub →
         q < 7 →
         s.dev.pair.resume = none →
         s.dev.publishes = true →
         s.dev.stallsOpen.filter (fun m => s.dev.nat (Obj.stallTransport m) == q && s.dev.dgReady m) = [n] →
         s.dev.transportTakes n = true →
         s.dev.stall? n = some x →
         x.dg = some g →
         g.launch = none →
         Answers (.datagramSend q) s (fun t =>
           let bytes := s.dev.datagram n (s.dev.stallKeyNow n x)
               { stall := n, launch := 0, epoch := g.epoch, seq := s.dev.nat (Obj.datagramSeq n) + 1,
                 dropped := min 0xFFFFFFFF (s.dev.nat (Obj.itemsDropped n)), count := g.items.length, payload := g.items.flatten,
                 ends := g.ends, endLen := g.endLen, patches := g.patches, late := false, last := g.last }
           t.dev.nat (Obj.datagramSeq n) = s.dev.nat (Obj.datagramSeq n) + 1 ∧
           t.dev.nat (Obj.itemsSent n) = min (2 ^ 64 - 1) (s.dev.nat (Obj.itemsSent n) + g.ends) ∧
           (∀ k ∈ s.dev.stallsOpen, k ≠ n → t.dev.stall? k = s.dev.stall? k) ∧
           (if q = 0 then
             let r := s.dev.nat (Obj.destPort n)
             let R := s.dev.ring r
             t.dev.out.take 2 = [.hostWrite (R.base + R.tail % R.slots * R.slotSize) bytes, .hostWrite R.tailAddr (natLE 4 ((R.tail + 1) % 2 ^ 32))] ∧
               s.Leaves t { s.dev with pub := t.dev.pub, host := t.dev.host } [Obj.datagramSeq n, Obj.itemsSent n]
            else t.dev.out = [.datagram (q - 1) (s.dev.frameHead (q - 1) (s.dev.bytes (Obj.serviceIp (q - 1)) != [])) bytes] ∧
               s.Leaves t { s.dev with pub := t.dev.pub, net := t.dev.net } [Obj.datagramSeq n, Obj.itemsSent n, Obj.framesOut (q - 1)]))) ∧
  (∀ (s : State) (q : Nat),
         s.Works pdHub →
         q < 7 →
         s.dev.pair.resume = none →
         s.dev.publishes = true →
         q = 0 ∨ s.dev.net.tx.getD (q - 1) [] = [] →
         Tbl.wf s.dev.pub.stalls = true →
         (∀ m ∈ s.dev.stallsOpen, ∀ x ∈ s.dev.stall? m, ∀ g ∈ x.dg, g.launch = none) →
         (s.dev.stallsOpen.any (fun m => s.dev.nat (Obj.stallTransport m) == q && s.dev.dgReady m && s.dev.transportTakes m)) = true →
         Answers (.datagramSend q) s (fun t =>
           let takes := s.dev.stallsOpen.filter (fun m => s.dev.nat (Obj.stallTransport m) == q && s.dev.dgReady m && s.dev.transportTakes m)
           ∃ n ∈ takes,
             let rival (m : Nat) : Prop := m ∈ takes ∧ s.dev.nat (Obj.stallPriority m) = s.dev.nat (Obj.stallPriority n)
             let last := Tbl.get s.dev.pub.turn (4 * q + s.dev.nat (Obj.stallPriority n)) 512
             (∀ m ∈ takes, s.dev.nat (Obj.stallPriority m) ≤ s.dev.nat (Obj.stallPriority n)) ∧
               (last < n → ∀ m, rival m → last < m → n ≤ m) ∧ (n ≤ last → ∀ m, rival m → m ≤ last ∧ n ≤ m) ∧
               t.dev.nat (Obj.datagramSeq n) = s.dev.nat (Obj.datagramSeq n) + 1 ∧
               (∀ m : Nat, m < 512 → m ≠ n → t.dev.nat (Obj.datagramSeq m) = s.dev.nat (Obj.datagramSeq m)))) ∧
  (∀ (s : State) (q : Nat),
         s.Works pdHub →
         q < 6 →
         s.dev.pair.resume = none →
         (s.dev.pub.launch.getD q []).head?.all (fun l => decide ((webNs (s.dev.webAt s.dev.now) : Int) + s.dev.int (Obj.egressLatency q) / 65536 < l.launch)) = true →
         Answers (.launch q) s (fun t =>
           s.Leaves t s.dev [])) ∧
  (∀ (s : State) (q : Nat) (l : LaunchItem) (rest : List LaunchItem) (x : StallSt),
         s.Works pdHub →
         q < 6 →
         s.dev.pair.resume = none →
         s.dev.publishes = true →
         s.dev.portUp q = true →
         s.dev.pub.launch.getD q [] = l :: rest →
         (l.launch : Int) ≤ webNs (s.dev.webAt s.dev.now) + s.dev.int (Obj.egressLatency q) / 65536 →
         s.dev.net.busyUntil.getD q 0 ≤ s.dev.now →
         s.dev.stall? l.stall = some x →
         l.stall < 512 →
         s.dev.nat (Obj.stallTransport l.stall) = q + 1 →
         l.late = false →
         Answers (.launch q) s (fun t =>
           t.dev.out = [.datagram q (s.dev.frameHead q (s.dev.bytes (Obj.serviceIp q) != [])) (s.dev.datagram l.stall (s.dev.stallKeyNow l.stall x) l)] ∧ t.dev.pub.launch = s.dev.pub.launch.set q rest ∧
           t.dev.nat (Obj.itemsSent l.stall) = min (2 ^ 64 - 1) (s.dev.nat (Obj.itemsSent l.stall) + l.ends) ∧
           t.dev.nat (Obj.framesOut q) = min (2 ^ 64 - 1) (s.dev.nat (Obj.framesOut q) + 1) ∧
           (∀ k : Nat, k < 512 → k ≠ l.stall → t.dev.stall? k = s.dev.stall? k) ∧
           s.Leaves t { s.dev with pub := t.dev.pub, net := t.dev.net } [Obj.itemsSent l.stall, Obj.framesOut q, Obj.launchSlips q, Obj.logSeq])) ∧
  (∀ (s : State) (q : Nat) (f : TxFrame),
         s.Works pdHub →
         q < 6 →
         s.dev.pair.resume = none →
         s.dev.net.tx.getD q [] = [f] →
         f.domain = none →
         s.dev.mayStart q f.len = true →
         s.dev.stallsOpen.all (fun n => ! s.dev.dgReady n) = true →
         Answers (.datagramSend (q + 1)) s (fun t =>
           t.dev.out = [f.out] ∧ t.dev.nat (Obj.framesOut q) = min (2 ^ 64 - 1) (s.dev.nat (Obj.framesOut q) + 1) ∧
             s.Leaves t { s.dev with net := t.dev.net } [Obj.framesOut q]))

/-- Live views (R243, R245). That a channel keeps its released bands over LvEnable is the model's choice (log entry 45). -/
def Obligations.LiveViewsStartAndFlush : Prop :=
  (∀ (s : State) (ses : Nat) (c : Nat),
         s.Steady →
         c < 64 →
         s.MayWrite ses (Obj.lvEnable c) [1] →
         s.dev.flag (Obj.lvEnable c) = false →
         Answers (.lvEnable ses c) s (fun t =>
           let md := s.dev.nat (Obj.mdScale c)
           let first := (s.dev.nat (Obj.nextLix (s.dev.viewLcg (s.dev.nat (Obj.lvView c)))) + md - 1) / md * md
           if s.dev.lvOk c = true then
             t.Answered .ok [] ∧ t.dev.val (Obj.lvEnable c) = .n 1 ∧ t.dev.val (Obj.lvFirstLix c) = .n first ∧
               s.Leaves t (s.dev.updLv c LvChan.restart) [Obj.lvEnable c, Obj.lvFirstLix c]
           else t.Answered .range [] ∧ s.Leaves t s.dev [])) ∧
  (∀ (s : State) (c : Nat) (b : LvBand),
         s.Works pdHub →
         c < 64 →
         (s.dev.lvChan c).bands = [b] →
         b.complete = false →
         0 < s.dev.nat (Obj.overlayHold c) →
         Answers (.lvFlush c) s (fun t =>
           if b.started + s.dev.nat (Obj.lvFlush c) * 1000000 ≤ s.dev.now then
             (t.dev.lvChan c).bands = [{ b with complete := true, partialBand := true, hold := s.dev.nat (Obj.overlayHold c) }] ∧
               (∀ k : Nat, k < 64 → k ≠ c → t.dev.lvChan k = s.dev.lvChan k) ∧ s.Leaves t { s.dev with pub := { s.dev.pub with lv := t.dev.pub.lv } } []
           else s.Leaves t s.dev [])) ∧
  (∀ (s : State) (c : Nat) (b : LvBand),
         s.Works pdHub →
         c < 64 →
         (s.dev.lvChan c).bands = [b] →
         b.complete = false →
         s.dev.nat (Obj.overlayHold c) = 0 →
         b.rows ≠ [] →
         0 < s.dev.nat (Obj.mdScale c) →
         b.started + s.dev.nat (Obj.lvFlush c) * 1000000 ≤ s.dev.now →
         Answers (.lvFlush c) s (fun t =>
           (t.dev.lvChan c).bands = [] ∧ (t.dev.lvChan c).shownTo = b.firstLix + s.dev.nat (Obj.mdScale c) * b.rows.length ∧
           t.dev.nat (Obj.tilesOut c) = min (2 ^ 64 - 1) (s.dev.nat (Obj.tilesOut c) + ceilDiv (s.dev.lvWidth c) 256) ∧
           (∀ k : Nat, k < 64 → k ≠ c → t.dev.lvChan k = s.dev.lvChan k) ∧ t.dev.stitch = s.dev.stitch ∧ t.dev.seg = s.dev.seg ∧ t.dev.cls = s.dev.cls ∧
           t.dev.pos = s.dev.pos ∧ t.dev.hbm = s.dev.hbm ∧ t.pending = s.pending))

/-- Corrected errors and row replacement (R284). That the commands act while the domain of the buffer is on is the model's reading (log
entry 46). -/
def Obligations.CorrectedErrorsMarkRowsForReplacement : Prop :=
  (∀ (s : State) (c : Nat) (u : Nat) (row : Nat),
         s.Steady →
         sramBuffers.any (fun b => b.1 == c && decide (u < b.2)) = true →
         s.dev.domOn (bufferDomain c u) = true →
         Answers (.correctedError c u row) s (fun t =>
           let k := rowKey c u row
           let recent := (Tbl.get s.dev.flt.rows k []).filter (fun x => decide (s.dev.now ≤ x + 86400000000000))
           t.dev.flt.marked.contains k = (s.dev.flt.marked.contains k || ! recent.isEmpty) ∧ Tbl.get? t.dev.flt.rows k = some (s.dev.now :: recent) ∧
           (c = 2 ∨ c = 3 → t.dev.nat (Obj.sramErrors u) = min (2 ^ 32 - 1) (s.dev.nat (Obj.sramErrors u) + 1)) ∧
           (c = 4 → t.dev.nat (Obj.skewSramErrors (skewHalf u)) = min (2 ^ 32 - 1) (s.dev.nat (Obj.skewSramErrors (skewHalf u)) + 1)) ∧
           (c = 5 ∨ c = 6 → t.dev.nat Obj.segSramErrors = min (2 ^ 32 - 1) (s.dev.nat Obj.segSramErrors + 1)) ∧
           (c = 7 ∨ c = 8 → t.dev.nat Obj.clsSramErrors = min (2 ^ 32 - 1) (s.dev.nat Obj.clsSramErrors + 1)) ∧
           s.Leaves t { s.dev with flt := { s.dev.flt with rows := t.dev.flt.rows, marked := t.dev.flt.marked } }
             [Obj.sramErrors u, Obj.skewSramErrors (skewHalf u), Obj.segSramErrors, Obj.clsSramErrors, Obj.logSeq])) ∧
  (∀ (s : State) (c : Nat) (u : Nat) (row : Nat),
         s.Steady →
         sramBuffers.any (fun b => b.1 == c && decide (u < b.2)) = true →
         s.dev.domOn (bufferDomain c u) = true →
         Answers (.rowReplacement c u row) s (fun t =>
           let k := rowKey c u row
           if s.dev.flt.marked.contains k = false then s.Leaves t s.dev []
           else if s.dev.spareRows c u = 0 then
             bit (t.dev.nat Obj.deviceHealthHeld) 6 = true ∧
               s.Leaves t (s.dev.updFlt (fun f => { f with marked := f.marked.filter (· != k) })) [Obj.deviceHealthHeld]
           else t.dev.nat Obj.rowsReplaced = min (2 ^ 32 - 1) (s.dev.nat Obj.rowsReplaced + 1) ∧
             s.Leaves t (s.dev.updFlt (fun f => { f with
               marked := f.marked.filter (· != k), rows := Tbl.del f.rows k,
               used := Tbl.upd f.used (c * 65536 + poolUnit c u) 0 (· + 1) })) [Obj.rowsReplaced, Obj.logSeq]))

/-- Uncorrectable errors (R285), by the code of the buffer: 1 the ingress buffer, 2 the store of an engine, 3 another buffer of an
engine, 4 the Skew Buffer, 5 the background, 6 the blob tables, 7 a bank of weights, 8 the store of an inference, 9 the queue of a
Stall, 10 the event log. That lines and inferences are named by `item` as the model names them is log entry 46, the model's choice. -/
def Obligations.UncorrectableErrorsLoseTheirItem : Prop :=
  (∀ (s : State) (c : Nat) (u : Nat) (x : Nat),
         s.Steady →
         sramBuffers.any (fun b => b.1 == c && decide (u < b.2)) = true →
         s.dev.domOn (bufferDomain c u) = true →
         Answers (.uncorrectableError c u x) s (fun t =>
           t.dev.nat Obj.uncorrectableErrors = min (2 ^ 32 - 1) (s.dev.nat Obj.uncorrectableErrors + 1) ∧
           t.dev.flt.marked.contains (rowKey c u x) = true ∧ t.pending = s.pending)) ∧
  (∀ (s : State) (p : Nat) (x : Nat), s.Steady → p < 24 → s.dev.domOn (portDomain p) = true →
         Answers (.uncorrectableError 4 p x) s (fun t =>
           t.dev.nat (Obj.skewOverrunCount p) = min (2 ^ 32 - 1) (s.dev.nat (Obj.skewOverrunCount p) + 1) ∧
           s.Leaves t { s.dev.updSp p (fun y => { y with
                 lines := y.lines.filter (fun c => c.lix != x), hold := y.hold.filter (fun c => c.lix != x),
                 overrun := if y.overrun.contains x then y.overrun else y.overrun ++ [x] }) with
               flt := t.dev.flt } [Obj.uncorrectableErrors, Obj.skewOverrunCount p, Obj.logSeq])) ∧
  (∀ (s : State) (n : Nat) (x : Nat) (y : StallSt),
         s.Works pdHub →
         n < 512 →
         s.dev.stall? n = some y →
         x < y.queue.length →
         Answers (.uncorrectableError 9 n x) s (fun t =>
           t.dev.stall? n = some { y with queue := y.queue.eraseIdx x } ∧
           t.dev.nat (Obj.itemsDropped n) = min (2 ^ 64 - 1) (s.dev.nat (Obj.itemsDropped n) + 1) ∧
           s.Leaves t { s.dev with pub := { s.dev.pub with stalls := t.dev.pub.stalls }, flt := t.dev.flt } [Obj.uncorrectableErrors, Obj.itemsDropped n, Obj.logSeq])) ∧
  (∀ (s : State) (c : Nat) (u : Nat) (x : Nat), s.Steady → s.dev.domOn (bufferDomain c u) = false →
         Answers (.uncorrectableError c u x) s (fun t => s.Leaves t s.dev [])) ∧
  (∀ (s : State) (p : Nat) (x : Nat), s.Steady → p < 24 → s.dev.domOn (portDomain p) = true →
         Answers (.uncorrectableError 1 p x) s (fun t =>
           (t.dev.ep p).bad.contains x = true ∧ (∀ y : Nat, y ≠ x → (t.dev.ep p).bad.contains y = (s.dev.ep p).bad.contains y) ∧
           t.dev.logs.openR.any (fun o => o.isFor (s.dev.portLcg p) true 0 p 3 (x / 256) && o.mask.testBit (x % 256)) = true ∧
           s.Leaves t { s.dev.updEp p (fun e => { e with
                 bad := (t.dev.ep p).bad,
                 window := e.window.map (fun w => if w.lix = x ∧ e.nextEmit.getD 0 ≤ x then
                   { w with raw := { w.raw with missing := true, cause := 8 }, streams := [], replaced := 0, mdLack := false } else w) }) with
               flt := t.dev.flt } [Obj.uncorrectableErrors, Obj.logSeq])) ∧
  (∀ (s : State) (e : Nat) (x : Nat), s.Steady → e < 14 → s.dev.domOn (engineDomain e) = true →
         Answers (.uncorrectableError 2 e x) s (fun t =>
           (∀ p : Nat, p < 24 →
             let hit := s.dev.flag (Obj.portEnable p) && s.dev.engineOf p == e && (s.dev.ep p).window.any (fun w => w.lix == x)
             if hit = true then
               (t.dev.ep p).bad.contains x = true ∧
               (t.dev.ep p).window = (s.dev.ep p).window.map (fun w => if w.lix = x ∧ (s.dev.ep p).nextEmit.getD 0 ≤ x then
                   { w with raw := { w.raw with missing := true, cause := 8 }, streams := [], replaced := 0, mdLack := false } else w) ∧
               (t.dev.ep p).queue = (s.dev.ep p).queue
             else t.dev.ep p = s.dev.ep p) ∧
           s.Leaves t { s.dev with eng := { s.dev.eng with ports := t.dev.eng.ports }, flt := t.dev.flt } [Obj.uncorrectableErrors, Obj.logSeq])) ∧
  (∀ (s : State) (e : Nat) (x : Nat), s.Steady → e < 14 → s.dev.domOn (engineDomain e) = true → (s.dev.engine e).state = 1 →
         Answers (.uncorrectableError 3 e x) s (fun t =>
           (t.dev.engine e).state = 4 ∧ (t.dev.engine e).job = none ∧
           t.dev.nat Obj.uncorrectableErrors = min (2 ^ 32 - 1) (s.dev.nat Obj.uncorrectableErrors + 1) ∧
           t.dev.hbm = s.dev.hbm ∧ t.dev.pos = s.dev.pos ∧ t.dev.ports = s.dev.ports ∧ t.pending = s.pending)) ∧
  (∀ (s : State) (v : Nat) (px : Nat), s.Works pdHub → v < 4 →
         Answers (.uncorrectableError 5 v px) s (fun t =>
           (∀ (k : Nat) (pl : List BgPix), (s.dev.sg v).bg[k]? = some pl → px < pl.length →
             ((t.dev.sg v).bg[k]?).bind (fun l => l[px]?) = some { s := 0, cnt := 0, gated := 0 } ∧
             ∀ i : Nat, i ≠ px → ((t.dev.sg v).bg[k]?).bind (fun l => l[i]?) = pl[i]?) ∧
           s.Leaves t { s.dev.updSg v (fun y => { y with bg := (t.dev.sg v).bg }) with flt := t.dev.flt } [Obj.uncorrectableErrors, Obj.logSeq])) ∧
  (∀ (s : State) (v : Nat) (serial : Nat), s.Works pdHub → v < 4 → (s.dev.sg v).blobs.any (fun b => b.serial == serial) = false →
         Answers (.uncorrectableError 6 v serial) s (fun t => s.Leaves t { s.dev with flt := t.dev.flt } [Obj.uncorrectableErrors, Obj.logSeq])) ∧
  (∀ (s : State) (v : Nat) (b : Blob), s.Works pdHub → v < 4 → (s.dev.sg v).blobs.find? (fun y => y.serial == b.serial) = some b →
         Answers (.uncorrectableError 6 v b.serial) s (fun t =>
           (t.dev.sg v).blobs = (s.dev.sg v).blobs.filter (fun y => y.serial != b.serial) ∧
           (t.dev.sg v).refs = (s.dev.sg v).refs.filter (fun y => y.blob != some b.serial) ∧
           (t.dev.sg v).nextCand = ((s.dev.sg v).nextCand + 1) % 2 ^ 32 ∧ (t.dev.sg v).bg = (s.dev.sg v).bg ∧
           t.dev.nat (Obj.blobsClosed v) = min (2 ^ 64 - 1) (s.dev.nat (Obj.blobsClosed v) + 1) ∧
           t.dev.nat (Obj.blobsEmitted v) = min (2 ^ 64 - 1) (s.dev.nat (Obj.blobsEmitted v) + 1) ∧
           t.dev.nat (Obj.candidatesOut v) = min (2 ^ 64 - 1) (s.dev.nat (Obj.candidatesOut v) + 1) ∧
           (∀ u : Nat, u < 4 → u ≠ v → t.dev.sg u = s.dev.sg u) ∧
           t.dev.stitch = s.dev.stitch ∧ t.dev.ports = s.dev.ports ∧ t.dev.eng = s.dev.eng ∧ t.dev.pos = s.dev.pos ∧ t.pending = s.pending)) ∧
  (∀ (s : State) (a : Nat) (k : Nat), s.Works pdHub → s.dev.domOn pdCls = true → a < 72 →
         (((s.dev.arr a).blames.filter (fun x => decide (s.dev.now ≤ x + s.dev.nat Obj.retireWindow * 1000))).length + 1 < s.dev.nat Obj.retireCount ∨
           (s.dev.arr a).state = 4) →
         Answers (.uncorrectableError 7 a k) s (fun t =>
           let bank := k % 4
           let i := s.dev.image (bank / 2)
           let placed := (i.tiles.zip (List.range i.tiles.length)).find? (fun e =>
             e.1.places.any (fun p => p.1 == (s.dev.arr a).logical && p.2 == bank % 2))
           Tbl.get? (t.dev.arr a).banks bank = placed.map (fun e => bankWith (s.dev.slot (bank / 2)).image e.2 e.1) ∧
           (∀ b : Nat, b ≠ bank → Tbl.get? (t.dev.arr a).banks b = Tbl.get? (s.dev.arr a).banks b) ∧
           t.dev.nat (Obj.blames a) = min (2 ^ 32 - 1) (s.dev.nat (Obj.blames a) + 1) ∧
           s.Leaves t { s.dev.updArr a (fun y => { y with
                 banks := (t.dev.arr a).banks,
                 blames := s.dev.now :: y.blames.filter (fun x => decide (s.dev.now ≤ x + s.dev.nat Obj.retireWindow * 1000)) }) with
               flt := t.dev.flt, mem := { s.dev.mem with pcs := t.dev.mem.pcs }, cal := { s.dev.cal with queue := t.dev.cal.queue } }
             [Obj.uncorrectableErrors, Obj.blames a, Obj.logSeq])) ∧
  (∀ (s : State) (v : Nat) (seq : Nat), s.Works pdHub → s.dev.domOn pdCls = true → seq < 2 ^ 32 →
         Answers (.uncorrectableError 8 0 (v * 2 ^ 32 + seq)) s (fun t =>
           t.dev.cls.running.length = s.dev.cls.running.length ∧
           (∀ (k : Nat) (n m : Inference), s.dev.cls.running[k]? = some n → t.dev.cls.running[k]? = some m →
             (if n.req.cand.view * 2 ^ 32 + n.req.cand.candSeq = v * 2 ^ 32 + seq then
               m = poolOn (s.dev.image n.req.slot) 33 { n with
                 layer := 0, outs := [], done := [], tries := [], verified := n.verified && ! n.again, again := true }
             else m = n)) ∧
           s.Leaves t { s.dev with cls := { s.dev.cls with running := t.dev.cls.running }, flt := t.dev.flt } [Obj.uncorrectableErrors, Obj.logSeq])) ∧
  (∀ (s : State) (x : Nat), s.Works pdHub → x ≠ 0 → x ≠ s.dev.nat Obj.logSeq + 1 →
         Answers (.uncorrectableError 10 0 x) s (fun t =>
           t.dev.logs.entries.any (fun e => e.seq == x) = false ∧
           (∀ e ∈ s.dev.logs.entries, e.seq ≠ x → e ∈ t.dev.logs.entries ∨ t.dev.logs.entries.length = 8192) ∧
           s.Leaves t { s.dev with flt := t.dev.flt } [Obj.uncorrectableErrors, Obj.logSeq]))

/-- Residue and parity errors (R286), and a failed engine that serves no port (R460). The codes that name the block are the model's
choice (log entry 46). -/
def Obligations.ResidueAndParityErrorsAreJudged : Prop :=
  (∀ (s : State) (b : Nat) (v : Nat), s.Works pdHub → v < 4 → b = 4 ∨ b = 5 →
         Answers (.residueError b v) s (fun t =>
           let times := (s.dev.now :: s.dev.flt.webPipe.filter (fun x => decide (s.dev.now ≤ x + 1000000000))).take 3
           t.dev.nat Obj.webPipeErrors = min (2 ^ 32 - 1) (s.dev.nat Obj.webPipeErrors + 1) ∧
           (3 ≤ times.length → bit (t.dev.nat Obj.deviceHealthHeld) 2 = true ∨ bit s.dev.health 2 = true) ∧
           s.Leaves t (s.dev.updFlt (fun f => { f with webPipe := times })) [Obj.webPipeErrors, Obj.deviceHealthHeld, Obj.logSeq])) ∧
  (∀ (s : State) (e : Nat), s.Steady → e < 14 → s.dev.enginePowered e = true → (s.dev.engine e).state = 1 →
         Answers (.residueError 3 e) s (fun t =>
           (t.dev.engine e).state = 4 ∧ (t.dev.engine e).job = none ∧ t.dev.hbm = s.dev.hbm ∧ t.dev.pos = s.dev.pos ∧ t.pending = s.pending)) ∧
  (∀ (s : State) (e : Nat) (c : Instr) (x : Nat), s.Steady → e < 14 → s.dev.domOn (engineDomain e) = true →
         c = .residueError 3 e ∨ c = .uncorrectableError 3 e x →
         (s.dev.engine e).state = 2 ∨ (s.dev.engine e).state = 3 →
         Answers c s (fun t =>
           let duty := if s.dev.flag Obj.auditEnable = true then (s.dev.sparePool.erase e).head? else none
           (t.dev.engine e).state = 4 ∧ (t.dev.engine e).job = (s.dev.engine e).job ∧
           (∀ k : Nat, k < 14 → k ≠ e → (t.dev.engine k).state =
             if s.dev.sparePool.contains k = false then (s.dev.engine k).state else if duty = some k then 3 else 2) ∧
           t.dev.nat Obj.auditEngine = duty.getD 0xFF ∧ t.dev.eng.repairs = s.dev.eng.repairs ∧ t.dev.eng.ports = s.dev.eng.ports ∧
           s.Leaves t { s.dev with eng := { s.dev.eng with engines := t.dev.eng.engines, audit := t.dev.eng.audit }, flt := t.dev.flt }
             [Obj.uncorrectableErrors, Obj.auditEngine, Obj.auditTarget, Obj.logSeq])) ∧
  (∀ (s : State) (e : Nat), s.Steady → e < 14 → s.dev.enginePowered e = false ∨ (s.dev.engine e).state = 0 ∨ (s.dev.engine e).state = 4 →
         Answers (.residueError 3 e) s (fun t => s.Leaves t s.dev [])) ∧
  (∀ (s : State) (b : Nat) (u : Nat) (both : Bool), s.Works 0 →
         Answers (.parityError b u both) s (fun t =>
           if both = true then
             s.Leaves t (s.dev.updFlt (fun f => { f with
               parity := f.parity.filter (fun e => decide (s.dev.now < e.2.2)) ++ [(b, u, s.dev.now + 100000)] })) [Obj.logSeq]
           else s.Leaves t s.dev [Obj.logSeq]))

/-- Engine repair (R291, R292): the choice of the replacement and the moment from which it can accept input, the lines delivered to the
failed engine that leave as Missing with Cause 8, the end of the repair, with a job that starts again from the start of its strip, and
EngineRetire. -/
def Obligations.EnginesAreRepairedAndRetired : Prop :=
  (∀ (s : State) (e : Nat) (r : Repair),
         s.Steady →
         e < 14 →
         s.dev.domOn (engineDomain e) = true →
         s.dev.eng.repairs = [r] →
         r.replacement = some e →
         r.acceptAt ≤ s.dev.now →
         Answers (.replacementAcceptsInput e) s (fun t =>
           t.dev.nat Obj.repairsDone = min (2 ^ 32 - 1) (s.dev.nat Obj.repairsDone + 1) ∧ t.dev.nat Obj.repairInterruption = s.dev.now - r.start ∧
           t.dev.nat Obj.maxInterruption = max (s.dev.nat Obj.maxInterruption) (s.dev.now - r.start) ∧ t.dev.nat Obj.lastRepairTime = s.dev.stamp ∧
           t.dev.eng.repairs = [] ∧
           (r.job = none → ∀ p : Nat, p < 24 → t.dev.ep p = if (s.dev.portsOf e).contains p = true then
               { s.dev.ep p with creditsHeld := false, nr := [], hold := [], since := none }
             else s.dev.ep p) ∧
           (∀ j : Job, r.job = some j →
             (t.dev.engine e).job = (if (s.dev.ep j.port).slots.any (fun x => x.strip == j.strip) = true then some j else (s.dev.engine e).job)) ∧
           (∀ k : Nat, k < 14 → k ≠ e → t.dev.engine k = s.dev.engine k) ∧
           s.Leaves t { s.dev with eng := { s.dev.eng with repairs := [], ports := t.dev.eng.ports, engines := t.dev.eng.engines } }
             [Obj.repairsDone, Obj.repairInterruption, Obj.maxInterruption, Obj.lastRepairTime, Obj.logSeq])) ∧
  (∀ (s : State) (e : Nat) (r : Repair) (rest : List Repair),
         s.Steady →
         e < 14 →
         s.dev.eng.repairs = r :: rest →
         r.replacement ≠ some e ∨ s.dev.now < r.acceptAt →
         Answers (.replacementAcceptsInput e) s (fun t =>
           s.Leaves t s.dev [])) ∧
  (∀ (s : State) (ses : Nat) (e : Nat),
         s.Steady →
         e < 14 →
         s.MayWrite ses Obj.engineRetire (natLE 1 e) →
         (s.dev.engine e).state ≤ 4 →
         Answers (.engineRetire ses e) s (fun t =>
           let st := (s.dev.engine e).state
           if s.dev.enginePowered e = false ∨ st = 0 ∨ st = 4 ∨ (st = 1 ∧ s.dev.replacementFor = none) then t.Answered .state [] ∧ s.Leaves t s.dev []
           else t.Answered .ok [] ∧ (t.dev.engine e).state = 4 ∧ t.dev.hbm = s.dev.hbm ∧ t.dev.pos = s.dev.pos ∧ t.pending = s.pending)) ∧
  (∀ (s : State) (e : Nat) (x : Nat),
         s.Steady →
         e < 14 →
         x < 14 →
         s.dev.enginePowered e = true →
         s.dev.enginePowered x = true →
         (s.dev.engine e).state = 1 →
         ((s.dev.engine x).state = 2 ∧ (∀ k : Nat, k < x → s.dev.enginePowered k = true → (s.dev.engine k).state ≠ 2)) ∨
           ((s.dev.engine x).state = 3 ∧ (∀ k : Nat, k < 14 → s.dev.enginePowered k = true →
             (s.dev.engine k).state ≠ 2 ∧ (k < x → (s.dev.engine k).state ≠ 3))) →
         s.dev.eng.repairs = [] →
         s.dev.portsOf e = [] →
         Answers (.residueError 3 e) s (fun t =>
           t.dev.eng.repairs = [{
             engine := e, start := s.dev.now, replacement := some x, inline := none, acceptAt := s.dev.now + 2000, job := (s.dev.engine e).job }] ∧
           (t.dev.engine x).state = 1 ∧ (t.dev.engine e).state = 4 ∧ (t.dev.engine e).job = none ∧
           t.dev.eng.ports = s.dev.eng.ports ∧ t.dev.stitch = s.dev.stitch ∧ t.dev.hbm = s.dev.hbm ∧ t.dev.pos = s.dev.pos ∧
           t.pending = s.pending)) ∧
  (∀ (s : State) (e : Nat) (p : Nat) (x : Nat),
         s.Steady →
         e < 14 →
         s.dev.enginePowered e = true →
         (s.dev.engine e).state = 1 →
         s.dev.replacementFor = some x →
         s.dev.eng.repairs = [] →
         s.dev.portsOf e = [p] →
         s.dev.nat (Obj.bindMode p) = 1 →
         14 ≤ s.dev.nat Obj.auditEngine →
         s.dev.eng.audit.ended = false →
         (s.dev.ep p).taken = [] →
         (s.dev.ep p).slots = [] →
         (s.dev.ep p).switches = [] →
         (∀ l ∈ (s.dev.ep p).queue, l.lix % 256 ≠ 255) →
         Answers (.residueError 3 e) s (fun t =>
           (t.dev.ep p).queue = [] ∧ (t.dev.ep p).creditsHeld = true ∧
           ((t.dev.stitch.ports.getD p SkewPort.reset).arriving).map (fun c => (c.lix, c.missing, c.cause)) =
             ((s.dev.stitch.ports.getD p SkewPort.reset).arriving).map (fun c => (c.lix, c.missing, c.cause)) ++
               (s.dev.ep p).queue.map (fun l => (l.lix, true, 8)) ∧
           t.dev.nat (Obj.linesDropped e) = min (2 ^ 64 - 1) (s.dev.nat (Obj.linesDropped e) + (s.dev.ep p).queue.length) ∧
           t.dev.eng.repairs = [{
             engine := e, start := s.dev.now, replacement := some x, inline := some p,
             acceptAt := s.dev.now + 2000 + (s.dev.bankSize p + 63) / 64 + (if portDomain p = engineDomain x then 0 else 80),
             job := (s.dev.engine e).job }] ∧
           (t.dev.engine x).state = 1 ∧ (t.dev.engine e).state = 4 ∧ (∀ q : Nat, q < 24 → q ≠ p → t.dev.ep q = s.dev.ep q) ∧
           t.dev.hbm = s.dev.hbm ∧ t.dev.pos = s.dev.pos ∧ t.pending = s.pending))

/-- The deadline monitors (R289, R290). That an item completed before the event is not late, and that with the segmenter off the items
of monitors 2 and 3 count as complete, are the model's choices (log entry 47). -/
def Obligations.LateItemsAreDeadlineFaults : Prop :=
  (∀ (s : State) (v : Nat) (m : Nat),
         s.Works pdHub →
         v < 4 →
         m < 4 →
         (s.dev.vw v).running = true ∨ s.dev.flag (Obj.viewEnable v) = true →
         s.dev.dlExists v (max (s.dev.nat (Obj.viewFirstLix v)) ((s.dev.flt.dlNext.getD v []).getD m 0)) = true →
         s.dev.dlDone v m (max (s.dev.nat (Obj.viewFirstLix v)) ((s.dev.flt.dlNext.getD v []).getD m 0)) = false →
         s.dev.flt.dlLate.contains (v, m, max (s.dev.nat (Obj.viewFirstLix v)) ((s.dev.flt.dlNext.getD v []).getD m 0)) = false →
         s.dev.dlPassed v m (max (s.dev.nat (Obj.viewFirstLix v)) ((s.dev.flt.dlNext.getD v []).getD m 0)) = true →
         s.dev.dlExists v (max (s.dev.nat (Obj.viewFirstLix v)) ((s.dev.flt.dlNext.getD v []).getD m 0) + 1) = false →
         0 ≤ lixDiff (s.dev.curLix (s.dev.viewLcg v)) (max (s.dev.nat (Obj.viewFirstLix v)) ((s.dev.flt.dlNext.getD v []).getD m 0)) →
         Answers (.deadlineFault v m) s (fun t =>
           let start := max (s.dev.nat (Obj.viewFirstLix v)) ((s.dev.flt.dlNext.getD v []).getD m 0)
           t.dev.nat (Obj.dlFaults v m) = min (2 ^ 64 - 1) (s.dev.nat (Obj.dlFaults v m) + 1) ∧
           t.dev.flt = { s.dev.flt with
             dlNext := s.dev.flt.dlNext.modify v (fun l => l.set m (start + 1)),
             dlLate := s.dev.flt.dlLate.filter (fun e => e.1 != v || e.2.1 != m || decide (start + 1 ≤ e.2.2)) } ∧
           (∀ u : Nat, u < 4 → u ≠ v → t.dev.vw u = s.dev.vw u) ∧ (t.dev.vw v).next = (s.dev.vw v).next ∧ (t.dev.vw v).ready = (s.dev.vw v).ready ∧
           s.Leaves t { s.dev with flt := t.dev.flt, stitch := { s.dev.stitch with views := t.dev.stitch.views } } [Obj.dlFaults v m, Obj.logSeq])) ∧
  (∀ (s : State) (v : Nat) (m : Nat),
         s.Works pdHub →
         v < 4 →
         m < 4 →
         (s.dev.vw v).running = true ∨ s.dev.flag (Obj.viewEnable v) = true →
         s.dev.dlExists v (max (s.dev.nat (Obj.viewFirstLix v)) ((s.dev.flt.dlNext.getD v []).getD m 0)) = false ∨
           (s.dev.dlDone v m (max (s.dev.nat (Obj.viewFirstLix v)) ((s.dev.flt.dlNext.getD v []).getD m 0)) = false ∧ s.dev.flt.dlLate.contains (v, m, max (s.dev.nat (Obj.viewFirstLix v)) ((s.dev.flt.dlNext.getD v []).getD m 0)) = false ∧
             s.dev.dlPassed v m (max (s.dev.nat (Obj.viewFirstLix v)) ((s.dev.flt.dlNext.getD v []).getD m 0)) = false ∧
             s.dev.dlExists v (max (s.dev.nat (Obj.viewFirstLix v)) ((s.dev.flt.dlNext.getD v []).getD m 0) + 1) = false) →
         Answers (.deadlineFault v m) s (fun t =>
           let start := max (s.dev.nat (Obj.viewFirstLix v)) ((s.dev.flt.dlNext.getD v []).getD m 0)
           let d := s.dev.updFlt (fun f => { f with
             dlNext := f.dlNext.modify v (fun l => l.set m start),
             dlLate := f.dlLate.filter (fun e => e.1 != v || e.2.1 != m || decide (start ≤ e.2.2)) })
           s.Leaves t (if m = 1 then d.updVw v (fun x => { x with nrLines := x.nrLines.filter (fun k => decide (start ≤ k)) }) else d) [])) ∧
  (∀ (s : State) (v : Nat) (m : Nat),
         s.Works pdHub →
         v < 4 →
         m < 4 →
         (s.dev.vw v).running = true ∨ s.dev.flag (Obj.viewEnable v) = true →
         Answers (.deadlineFault v m) s (fun t =>
           let start := max (s.dev.nat (Obj.viewFirstLix v)) ((s.dev.flt.dlNext.getD v []).getD m 0)
           let lines := ((List.range ((lixDiff (s.dev.curLix (s.dev.viewLcg v)) start).toNat + 1)).map (fun i => start + i)).takeWhile (s.dev.dlExists v)
           let late := lines.filter (fun n => ! s.dev.dlDone v m n && ! s.dev.flt.dlLate.contains (v, m, n) && s.dev.dlPassed v m n)
           t.dev.nat (Obj.dlFaults v m) = min (2 ^ 64 - 1) (s.dev.nat (Obj.dlFaults v m) + late.length) ∧
             Answers (.deadlineFault v m) t (fun u => u.dev.nat (Obj.dlFaults v m) = t.dev.nat (Obj.dlFaults v m)) ∧
             s.Leaves t { s.dev with flt := t.dev.flt, stitch := { s.dev.stitch with views := t.dev.stitch.views } } [Obj.dlFaults v m, Obj.logSeq]))

/-- Pair roles (R306 to R309). That PairEnable cleared leads to role Single from every role, and the moment for which the row of
PAIR_YIELD stands, are the model's choices (log entry 49). -/
def Obligations.PairRolesAreEnteredAndLeft : Prop :=
  (∀ (s : State) (ses : Nat),
         s.Calm →
         s.MayWrite ses Obj.pairEnable [1] →
         s.dev.flag Obj.pairEnable = false →
         s.dev.role = 0 →
         Answers (.pairEnable ses) s (fun t =>
           t.Answered .ok [] ∧ t.dev.val Obj.pairEnable = .n 1 ∧ t.dev.role = 1 ∧ t.dev.pair.seekAt = s.dev.now ∧
             t.dev.tol.sessions = s.dev.tol.sessions.filter (fun e => ! e.2.service) ∧ t.dev.stitch = s.dev.stitch ∧ t.dev.seg = s.dev.seg ∧ t.dev.cls = s.dev.cls ∧ t.dev.ports = s.dev.ports ∧ t.dev.eng = s.dev.eng ∧ t.dev.pos = s.dev.posIdle ∧
             t.dev.hbm = s.dev.hbm ∧ t.pending = s.pending)) ∧
  (∀ (s : State) (ses : Nat), s.Calm → s.MayWrite ses Obj.pairEnable [0] → s.dev.flag Obj.pairEnable = true →
         Answers (.pairDisable ses) s (fun t =>
           t.Answered .ok [] ∧ t.dev.val Obj.pairEnable = .n 0 ∧ t.dev.role = 0 ∧ t.dev.pair.act = false ∧ t.dev.pair.take = false ∧ t.dev.pair.hold = false ∧ t.dev.stitch = s.dev.stitch ∧ t.dev.seg = s.dev.seg ∧ t.dev.cls = s.dev.cls ∧ t.dev.ports = s.dev.ports ∧ t.dev.eng = s.dev.eng ∧ t.dev.pos = s.dev.pos ∧
             t.dev.hbm = s.dev.hbm ∧ t.pending = s.pending)) ∧
  (∀ (s : State),
         s.Calm →
         s.dev.domOn pdHub = true →
         s.dev.role = 1 →
         s.dev.pair.peer = false →
         s.dev.nat Obj.pairPosition ≠ 1 →
         Answers (.seekActivate) s (fun t =>
           t.dev.role = 5 ∧ t.dev.pair.act = true ∧ t.dev.pair.take = false ∧ t.dev.pair.actAt = some s.dev.now ∧ t.dev.pair.mirrored = [] ∧ t.dev.stitch = s.dev.stitch ∧ t.dev.seg = s.dev.seg ∧ t.dev.cls = s.dev.cls ∧ t.dev.ports = s.dev.ports ∧ t.dev.eng = s.dev.eng ∧ t.dev.pos = s.dev.pos ∧
             t.dev.hbm = s.dev.hbm ∧ t.pending = s.pending)) ∧
  (∀ (s : State), s.Calm → s.dev.domOn pdHub = true → s.dev.role ≠ 1 ∨ s.dev.pair.peer = true →
         Answers (.seekActivate) s (fun t =>
           s.Leaves t s.dev [])) ∧
  (∀ (s : State) (high : Bool) (u : Nat),
         s.Calm →
         s.dev.domOn pdHub = true →
         s.dev.pair.actAt = some u →
         s.dev.role = 4 ∨ s.dev.role = 5 →
         u + 200 ≤ s.dev.now →
         Answers (.peerResample high) s (fun t =>
           t.dev.pair.actAt = none ∧ t.dev.pair.peer = high ∧
             (if high = true ∧ s.dev.nat Obj.pairPosition = 1 then t.dev.role = 1 ∧ t.dev.pair.act = false else t.dev.role = s.dev.role ∧ t.dev.pair.act = s.dev.pair.act) ∧ t.dev.stitch = s.dev.stitch ∧ t.dev.seg = s.dev.seg ∧ t.dev.cls = s.dev.cls ∧ t.dev.ports = s.dev.ports ∧ t.dev.eng = s.dev.eng ∧ t.dev.pos = (if high = true ∧ s.dev.nat Obj.pairPosition = 1 then s.dev.posIdle else s.dev.pos) ∧
             t.dev.hbm = s.dev.hbm ∧ t.pending = s.pending)) ∧
  (∀ (s : State) (ses : Nat), s.Calm → s.MayWrite ses Obj.pairSwitch [1] →
         Answers (.pairSwitch ses) s (fun t =>
           if s.dev.flag Obj.pairEnable = false then t.Answered .notPaired [] ∧ s.Leaves t s.dev []
           else if s.dev.role ≠ 4 ∨ s.dev.nat Obj.partnerRole ≠ 3 ∨ s.dev.verdictPending = true then t.Answered .state [] ∧ s.Leaves t s.dev []
           else t.Answered .ok [] ∧ t.dev.role = 3 ∧ t.dev.pair.act = false ∧
             (s.dev.nat Obj.linkState = 2 → t.dev.out.head? = some (.mirror (.yieldFrame 0))) ∧ t.dev.stitch = s.dev.stitch ∧ t.dev.seg = s.dev.seg ∧ t.dev.cls = s.dev.cls ∧ t.dev.ports = s.dev.ports ∧ t.dev.eng = s.dev.eng ∧ t.dev.pos = s.dev.posIdle ∧
             t.dev.hbm = s.dev.hbm ∧ t.pending = s.pending)) ∧
  (∀ (s : State), s.Calm → s.dev.domOn pdPos = true → s.dev.role = 4 ∨ s.dev.role = 5 →
         s.dev.domOn pdHub = true ∨ s.dev.boot.restartFrom + 2000 ≤ s.dev.now →
         Answers (.pairYield) s (fun t =>
           t.dev.role = 1 ∧ t.dev.pair.act = false ∧ t.dev.pair.take = s.dev.pair.take ∧ t.dev.stitch = s.dev.stitch ∧ t.dev.seg = s.dev.seg ∧ t.dev.cls = s.dev.cls ∧ t.dev.ports = s.dev.ports ∧ t.dev.eng = s.dev.eng ∧ t.dev.pos = s.dev.posIdle ∧
             t.dev.hbm = s.dev.hbm ∧ t.pending = s.pending))

/-- The link of a pair (R305, R306), what the mirror carries and what the standby does with it (R58, R313, R316, R357), and the join
(R317). The frames of the link and their order are the model's choices (log entry 48). -/
def Obligations.TheLinkCarriesTheMirrorAndTheJoin : Prop :=
  (∀ (s : State), s.Calm → s.dev.domOn pdHub = true → s.dev.role ≠ 0 → s.dev.nat Obj.linkState = 2 →
         Answers (.heartbeatSend) s (fun t =>
           t.dev.out = [.mirror (.heartbeat s.dev.role s.dev.healthNow ((List.range 4).map s.dev.curLix) s.dev.pair.news
               (s.dev.stallsOpen.map (fun n => (n, (match s.dev.stall? n with | some x => x.last | none => 0), s.dev.nat (Obj.datagramSeq n)))))] ∧
           s.Leaves t (s.dev.updPair (fun x => { x with news := [] })) [])) ∧
  (∀ (s : State) (i : MirrorItem), s.Calm → s.dev.domOn pdHub = true → s.dev.nat Obj.linkState ≠ 2 →
         Answers (.mirrorFrame i) s (fun t =>
           s.Leaves t s.dev [])) ∧
  (∀ (s : State), s.Calm → s.dev.domOn pdHub = true → s.dev.nat Obj.linkState = 2 →
         Answers (.mirrorFrame .badFrame) s (fun t =>
           t.dev.nat Obj.linkErrors = min (2 ^ 32 - 1) (s.dev.nat Obj.linkErrors + 1) ∧ s.Leaves t s.dev [Obj.linkErrors])) ∧
  (∀ (s : State) (c : Nat), s.Calm → s.dev.domOn pdHub = true → s.dev.nat Obj.linkState = 2 →
         Answers (.mirrorFrame (.yieldFrame c)) s (fun t =>
           s.Leaves t (s.dev.updPair (fun x => { x with linkAt := s.dev.now, yieldAt := some (s.dev.now, c) })) [])) ∧
  (∀ (s : State) (x : Nat) (l : List Nat) (w : List (Nat × Nat × Nat)) (q : List (Nat × Nat × Nat)),
         s.Calm →
         s.dev.domOn pdHub = true →
         s.dev.nat Obj.linkState = 2 →
         s.dev.role = 5 →
         Answers (.mirrorFrame (.heartbeat 3 x l w q)) s (fun t =>
           t.dev.role = 4 ∧ t.dev.val Obj.partnerRole = .n 3 ∧ t.dev.pair.linkAt = s.dev.now ∧ t.dev.pair.peer = false ∧ t.dev.stitch = s.dev.stitch ∧ t.dev.seg = s.dev.seg ∧ t.dev.cls = s.dev.cls ∧ t.dev.ports = s.dev.ports ∧ t.dev.eng = s.dev.eng ∧ t.dev.pos = s.dev.pos ∧
             t.dev.hbm = s.dev.hbm ∧ t.pending = s.pending)) ∧
  (∀ (s : State) (h : PartnerHello), s.Calm → s.dev.domOn pdHub = true → s.dev.role = 0 ∨ s.dev.nat Obj.linkState = 2 →
         Answers (.karylvoLinkUp h) s (fun t =>
           s.Leaves t s.dev [])) ∧
  (∀ (s : State) (h : PartnerHello),
         s.Calm →
         s.dev.domOn pdHub = true →
         s.dev.role = 1 →
         s.dev.nat Obj.linkState ≠ 2 →
         h.publicKey = s.dev.bytes Obj.pairPartnerKey →
         h.proofOk = true →
         h.partCode = (if s.dev.rb9212 = true then 0x9212 else 0x9224) →
         h.fwMajor = field (s.dev.nat Obj.fwVersionRun) 24 8 →
         h.linkVersion = Config.linkVersion →
         h.role = 4 ∨ h.role = 5 →
         h.hasStandby = false →
         Answers (.karylvoLinkUp h) s (fun t =>
           t.dev.role = 2 ∧ t.dev.val Obj.linkState = .n 2 ∧ t.dev.val Obj.partnerRole = .n h.role ∧ t.dev.pair.peer = true ∧ t.dev.pair.linkAt = s.dev.now ∧ t.dev.pair.phase = 1 ∧
             t.dev.tol.groups = List.replicate 5 Group.reset ∧ (∀ p : Nat, p < 24 → t.dev.flag (Obj.portEnable p) = false) ∧
             ((∀ p : Nat, p < 24 → s.dev.flag (Obj.portEnable p) = false) →
               t.dev.stitch = s.dev.stitch ∧ t.dev.ports = s.dev.ports ∧ t.dev.eng = s.dev.eng ∧
                  t.dev.pos = { s.dev.posIdle with eyelets := [], trigs := t.dev.pos.trigs } ∧
                  ∀ p : Nat, p < 24 → t.dev.trig p = { s.dev.trig p with
                    lvdsEnd := none, idle := if s.dev.domOn pdPos = true then t.dev.flag (Obj.trigPolarity p) else (s.dev.trig p).idle }) ∧
             t.dev.seg = s.dev.seg ∧ t.dev.cls = s.dev.cls ∧ t.dev.hbm = s.dev.hbm ∧ t.pending = s.pending)) ∧
  (∀ (s : State) (h : PartnerHello),
         s.Calm →
         s.dev.domOn pdHub = true →
         s.dev.role ≠ 0 →
         s.dev.role ≠ 1 →
         s.dev.nat Obj.linkState ≠ 2 →
         h.publicKey ≠ s.dev.bytes Obj.pairPartnerKey ∨ h.proofOk = false →
         Answers (.karylvoLinkUp h) s (fun t =>
           t.dev.val Obj.linkState = .n 0 ∧ s.Leaves t s.dev [Obj.linkState])) ∧
  (∀ (s : State) (h : PartnerHello) (u : Nat),
         s.Calm →
         s.dev.domOn pdHub = true →
         s.dev.pair.retryAt = some u →
         s.dev.role = 1 →
         s.dev.nat Obj.linkState = 2 →
         Answers (.joinRetry h) s (fun t =>
           if s.dev.now < u then s.Leaves t s.dev []
           else if h.partCode ≠ (if s.dev.rb9212 = true then 0x9212 else 0x9224) ∨ h.fwMajor ≠ field (s.dev.nat Obj.fwVersionRun) 24 8 ∨ h.linkVersion ≠ Config.linkVersion then
             t.dev.val Obj.joinResult = .n RCode.range.toNat ∧ t.dev.pair.retryAt = some (s.dev.now + 1000000000) ∧ t.dev.role = 1 ∧ t.dev.stitch = s.dev.stitch ∧ t.dev.seg = s.dev.seg ∧ t.dev.cls = s.dev.cls ∧ t.dev.ports = s.dev.ports ∧ t.dev.eng = s.dev.eng ∧ t.dev.pos = s.dev.pos ∧
             t.dev.hbm = s.dev.hbm ∧ t.pending = s.pending
           else if h.role ≠ 4 ∧ h.role ≠ 5 then t.dev.val Obj.joinResult = .n RCode.state.toNat ∧ t.dev.pair.retryAt = some (s.dev.now + 1000000000) ∧ t.dev.role = 1 ∧ t.dev.stitch = s.dev.stitch ∧ t.dev.seg = s.dev.seg ∧ t.dev.cls = s.dev.cls ∧ t.dev.ports = s.dev.ports ∧ t.dev.eng = s.dev.eng ∧ t.dev.pos = s.dev.pos ∧
             t.dev.hbm = s.dev.hbm ∧ t.pending = s.pending
           else if h.hasStandby = true then t.dev.val Obj.joinResult = .n RCode.busy.toNat ∧ t.dev.pair.retryAt = some (s.dev.now + 1000000000) ∧ t.dev.role = 1 ∧ t.dev.stitch = s.dev.stitch ∧ t.dev.seg = s.dev.seg ∧ t.dev.cls = s.dev.cls ∧ t.dev.ports = s.dev.ports ∧ t.dev.eng = s.dev.eng ∧ t.dev.pos = s.dev.pos ∧
             t.dev.hbm = s.dev.hbm ∧ t.pending = s.pending
           else t.dev.role = 2 ∧ t.dev.pair.phase = 1 ∧ t.dev.pair.retryAt = none ∧ (∀ p : Nat, p < 24 → t.dev.flag (Obj.portEnable p) = false) ∧
             ((∀ p : Nat, p < 24 → s.dev.flag (Obj.portEnable p) = false) →
               t.dev.stitch = s.dev.stitch ∧ t.dev.ports = s.dev.ports ∧ t.dev.eng = s.dev.eng ∧
                  t.dev.pos = { s.dev.posIdle with eyelets := [], trigs := t.dev.pos.trigs } ∧
                  ∀ p : Nat, p < 24 → t.dev.trig p = { s.dev.trig p with
                    lvdsEnd := none, idle := if s.dev.domOn pdPos = true then t.dev.flag (Obj.trigPolarity p) else (s.dev.trig p).idle }) ∧
             t.dev.seg = s.dev.seg ∧ t.dev.cls = s.dev.cls ∧ t.dev.hbm = s.dev.hbm ∧ t.pending = s.pending)) ∧
  (∀ (s : State) (v : Nat) (c : Captured),
         s.Calm →
         v < 4 →
         s.dev.domOn pdHub = true →
         s.dev.role = 2 →
         s.dev.pair.phase = 2 →
         s.dev.pair.installed.length = 4 →
         s.dev.pair.installed.getD v false = false →
         (s.dev.vw v).ready = [] →
         Answers (.capturedStateInstall v c) s (fun t =>
           (t.dev.vw v).gains = c.gains ∧ (t.dev.vw v).targets = c.targets ∧ (t.dev.sg v).blobs = c.blobs ∧ (t.dev.sg v).bg = c.bg ∧ (t.dev.sg v).nextCand = c.nextCand ∧
           t.dev.val (Obj.nextSerial v) = .n c.nextSerial ∧ t.dev.pair.installed.getD v false = true ∧
           (∀ u : Nat, u < 4 → u ≠ v → t.dev.vw u = s.dev.vw u ∧ t.dev.sg u = s.dev.sg u) ∧ t.dev.ports = s.dev.ports ∧ t.dev.eng = s.dev.eng ∧ (t.dev.pos = s.dev.pos ∨ t.dev.pos = s.dev.posIdle) ∧ t.pending = s.pending)) ∧
  (∀ (s : State), s.Calm → s.dev.domOn pdHub = true → s.dev.nat Obj.linkState ≠ 0 →
         Answers (.karylvoLinkLost) s (fun t =>
           t.dev.val Obj.linkState = .n 0 ∧ t.dev.val Obj.partnerRole = .n 0xFF ∧ t.dev.pair.linkDown = s.dev.now ∧
             t.dev.role = (if s.dev.role = 2 then 1 else if s.dev.role = 4 then 5 else s.dev.role) ∧ t.dev.stitch = s.dev.stitch ∧ t.dev.seg = s.dev.seg ∧ t.dev.cls = s.dev.cls ∧ t.dev.ports = s.dev.ports ∧ t.dev.eng = s.dev.eng ∧ t.dev.pos = (if s.dev.role = 2 then s.dev.posIdle else s.dev.pos) ∧
             t.dev.hbm = s.dev.hbm ∧ t.pending = s.pending)) ∧
  (∀ (s : State) (index : Nat) (sub : Nat) (off : Nat) (data : Bytes) (b : ObjBlock) (r : ObjRow) (v : Val),
         s.Follows →
         s.dev.findObject index sub = .ok (b, some r) →
         s.dev.newValue b (index - b.base) sub off r data = some v →
         localKey (256 * index + sub) = false →
         r.app = .staged →
         Answers (.mirrorFrame (.write index sub off data none)) s (fun t =>
           let g := s.dev.blockGroup b.group (index - b.base)
           let sh := (s.dev.group g).shadow
           let key := 256 * (b.base + (index - b.base)) + r.sub
           Tbl.get? sh key ≠ none ∨ sh.length < 4096 →
           s.Leaves t ((s.dev.updPair (fun x => { x with linkAt := s.dev.now })).updGroup g (fun x => { x with shadow := Tbl.put x.shadow key v })) [])) ∧
  (∀ (s : State) (index : Nat) (sub : Nat) (off : Nat) (data : Bytes) (b : ObjBlock) (r : ObjRow) (v : Val) (g : Nat) (n : Nat),
         s.Follows →
         s.dev.findObject index sub = .ok (b, some r) →
         s.dev.newValue b (index - b.base) sub off r data = some v →
         localKey (256 * index + sub) = false →
         r.app = .live →
         g < 4 →
         s.dev.blockGroup b.group (index - b.base) = g →
         ((b.base = 0x3500 ∨ b.base = 0x3C00) → r.sub ≠ 1) →
         s.dev.nat (Obj.nextLix g) ≤ n →
         Answers (.mirrorFrame (.write index sub off data (some n))) s (fun t =>
           s.Leaves t ((s.dev.updPair (fun x => { x with linkAt := s.dev.now })).updGroup g (fun x => { x with
             live := x.live ++ [{ key := 256 * index + sub, lix := n, val := v }] })) [])) ∧
  (∀ (s : State) (x : Nat),
         s.Follows →
         s.dev.boot.recovery = false →
         0 < x →
         x < 256 →
         Answers (.mirrorFrame (.write 0x3800 6 0 [BitVec.ofNat 8 x] none)) s (fun t =>
           t.dev.val Obj.retireCount = .n x ∧
           s.Leaves t { s.dev.updPair (fun y => { y with linkAt := s.dev.now }) with
             boot := { s.dev.boot with held := t.dev.boot.held }, cfgLog := t.dev.cfgLog } [Obj.retireCount])) ∧
  (∀ (s : State) (csn : Nat) (g : Nat) (n : Nat),
         s.Follows →
         g < 4 →
         s.dev.nat (Obj.nextLix g) ≤ n →
         Answers (.mirrorFrame (.commit csn g (some n))) s (fun t =>
           t.dev.nat (Obj.pending g) = (s.dev.group g).pend.length + 1 ∧
           s.Leaves t ((s.dev.updPair (fun x => { x with linkAt := s.dev.now })).updTol (fun z => { z with
             nextCsn := csnAfter csn, groups := z.groups.modify g (fun G => { G with
               shadow := [], pend := G.pend ++ [{ csn := csn, target := some n, issued := s.dev.now, entries := G.shadow }] }) })) [Obj.pending g])) ∧
  (∀ (s : State) (g : Nat) (csn : Nat),
         s.Follows →
         g < 5 →
         Answers (.mirrorFrame (.abort g csn)) s (fun t =>
           s.Leaves t ((s.dev.updPair (fun x => { x with linkAt := s.dev.now })).updGroup g (fun G =>
             if csn = 0 then { G with shadow := [] } else { G with pend := G.pend.filter (fun c => c.csn != csn) })) [Obj.pending g])) ∧
  (∀ (s : State) (g : Nat) (h : Hit) (n : Nat),
         s.Follows →
         g < 4 →
         n < 2 ^ 64 →
         h.lix < 2 ^ 64 →
         s.dev.nat (Obj.nextLix g) < 2 ^ 64 →
         (s.dev.lcg g).hits.find? (fun k => k.pos == h.pos) = some h →
         Answers (.mirrorFrame (.hit g n h.pos)) s (fun t =>
           t.dev.nat Obj.mirrorLagMax = max (s.dev.nat Obj.mirrorLagMax) (s.dev.now - h.time) ∧
           t.dev.nat (Obj.nextLix g) = (s.dev.nat (Obj.nextLix g) + n + (2 ^ 64 - h.lix)) % 2 ^ 64 ∧
           (t.dev.lcg g).hits.find? (fun k => k.pos == h.pos) = some { h with lix := n } ∧
           (t.dev.lcg g).compare = (s.dev.lcg g).compare ∧
           s.Leaves t { s.dev.updPair (fun x => { x with linkAt := s.dev.now }) with pos := t.dev.pos } [Obj.mirrorLagMax, Obj.nextLix g])) ∧
  (∀ (s : State) (g : Nat) (n : Nat) (pos : Int),
         s.Follows →
         g < 4 →
         (s.dev.lcg g).hits.find? (fun k => k.pos == pos) = none →
         Answers (.mirrorFrame (.hit g n pos)) s (fun t =>
           t.dev.val (Obj.nextLix g) = .n n ∧ t.dev.flag (Obj.lcgRun g) = true ∧ (t.dev.lcg g).compare = pos ∧
           (t.dev.lcg g).waitStart = false ∧ (t.dev.lcg g).stopAt = none ∧ (t.dev.lcg g).hits = (s.dev.lcg g).hits ∧
           (∀ k : Nat, k < 4 → k ≠ g → t.dev.lcg k = s.dev.lcg k) ∧ t.dev.pos.axes = s.dev.pos.axes ∧
           s.Leaves t { s.dev.updPair (fun x => { x with linkAt := s.dev.now }) with pos := t.dev.pos } [Obj.nextLix g, Obj.lcgRun g])) ∧
  (∀ (s : State) (p : Nat) (lix : Nat) (f : Nat),
         s.Follows →
         p < 24 →
         Answers (.mirrorFrame (.fire p lix f)) s (fun t =>
           let suspect := s.dev.pair.fires.any (fun e => e.1 == p && e.2.1 == lix && e.2.2.2)
           let soon := match (s.dev.port p).lastKept with
             | some k => decide ((f - k) * s.dev.nat (Obj.maxLineRate p) < 1000000000)
             | none => false
           if s.dev.flag (Obj.portEnable p) = false then s.Leaves t (s.dev.updPair (fun x => { x with linkAt := s.dev.now })) []
           else (s.dev.role = 3 → (s.dev.port p).ledger.length < 256 → (s.dev.port p).held = [] → lix % 256 ≠ 255 →
             (s.dev.port p).ledger.any (fun e => e.lix == lix) = false →
             t.dev.nat Obj.mirrorLagMax = max (s.dev.nat Obj.mirrorLagMax) (s.dev.now - f) ∧
             t.dev.nat (Obj.firedCount p) = min (2 ^ 64 - 1) (s.dev.nat (Obj.firedCount p) + 1) ∧
             ((t.dev.port p).ledger.map (fun e => (e.lix, e.fire, e.suspect, e.closed, e.cause))) =
               ((s.dev.port p).ledger.map (fun e => (e.lix, e.fire, e.suspect, e.closed, e.cause))) ++ [(lix, f, suspect, soon, if soon then 2 else 0)] ∧
             ((t.dev.stitch.ports.getD p SkewPort.reset).fires) = ((lix, f) :: (s.dev.stitch.ports.getD p SkewPort.reset).fires).take 16384 ∧
             (soon = false → t.dev.port p = { (if s.dev.nat (Obj.trigMode p) = 1 ∨ s.dev.nat (Obj.trigMode p) = 3 then
                    (s.dev.port p).expect lix f (f + 25 + 10 * s.dev.nat (Obj.trigPulse p))
                  else s.dev.port p) with ledger := (t.dev.port p).ledger, lastKept := some f } ∧
               (t.dev.nat (Obj.overRateCount p)) = s.dev.nat (Obj.overRateCount p)) ∧
             (soon = true → t.dev.nat (Obj.overRateCount p) = min (2 ^ 32 - 1) (s.dev.nat (Obj.overRateCount p) + 1) ∧
               (t.dev.port p).packets = (s.dev.port p).packets.filter (fun k => k.lix != lix)) ∧
             s.Leaves t { s.dev.updPair (fun x => { x with linkAt := s.dev.now }) with
               ports := s.dev.ports.set p (t.dev.port p), stitch := { s.dev.stitch with ports := t.dev.stitch.ports } }
               [Obj.mirrorLagMax, Obj.firedCount p, Obj.overRateCount p]))) ∧
  (∀ (s : State) (p : Nat) (issue : Nat) (n : Nat) (res : Nat),
         s.Follows →
         p < 24 →
         Answers (.mirrorFrame (.pset p issue n res)) s (fun t =>
           (((s.dev.ep p).armed = none → s.Leaves t (s.dev.updPair (fun x => { x with linkAt := s.dev.now })) []) ∧
           (∀ a : Armed, (s.dev.ep p).armed = some a → res ≠ 5 →
             t.dev.val (Obj.psetIssueLix p) = .n issue ∧ t.dev.val (Obj.psetSwitchLix p) = .n n ∧ t.dev.val (Obj.psetResult p) = .n res ∧
             t.dev.val (Obj.psetArmed p) = .n 0xFF ∧ (t.dev.ep p).armed = none ∧
             (t.dev.ep p).switches = (s.dev.ep p).switches ++ [{ line := n, pset := a.pset, table := a.table }] ∧
             s.Leaves t ((s.dev.updEp p (fun e => { e with
                   armed := none, uncertain := (t.dev.ep p).uncertain, switches := (t.dev.ep p).switches })).updPair (fun x => { x with linkAt := s.dev.now }))
               [Obj.psetIssueLix p, Obj.psetSwitchLix p, Obj.psetResult p, Obj.psetArmed p, Obj.psetState a.pset, Obj.logSeq])))) ∧
  (∀ (s : State) (slot : Nat) (c : Option SessionCopy), s.Follows →
         Answers (.mirrorFrame (.session slot c)) s (fun t =>
           s.Leaves t (s.dev.updPair (fun x => { x with
             linkAt := s.dev.now, mirrored := match c with | some y => Tbl.put x.mirrored slot y | none => Tbl.del x.mirrored slot })) [])) ∧
  (∀ (s : State) (v : Nat) (seq : Nat) (bits : Nat), s.Follows → s.dev.role = 3 → seq < 2 ^ 32 →
         Answers (.mirrorFrame (.result v seq bits)) s (fun t =>
           let key := v * 2 ^ 32 + seq
           match (Tbl.get? s.dev.pair.results key).bind (fun e => e.1) with
           | none => s.Leaves t (s.dev.updPair (fun x => { x with linkAt := s.dev.now, results := Tbl.put x.results key (none, some bits) })) []
           | some (mine, _, early) =>
             (early = true ∨ field mine 29 3 ≠ 0 ∨ bit mine 32 = false ∨ field bits 29 3 ≠ 0 ∨ bit bits 32 = false →
               t.dev.nat Obj.classNotCompared = min (2 ^ 64 - 1) (s.dev.nat Obj.classNotCompared + 1) ∧
               s.Leaves t { s.dev with pair := { s.dev.pair with linkAt := s.dev.now, results := t.dev.pair.results } } [Obj.classNotCompared]) ∧
             (early = false → field mine 29 3 = 0 → bit mine 32 = true → field bits 29 3 = 0 → bit bits 32 = true →
               s.dev.resultsAgree mine bits = true →
               t.dev.nat Obj.classCompared = min (2 ^ 64 - 1) (s.dev.nat Obj.classCompared + 1) ∧
               t.dev.nat Obj.classDisagreed = s.dev.nat Obj.classDisagreed ∧
               s.Leaves t { s.dev with pair := { s.dev.pair with linkAt := s.dev.now, results := t.dev.pair.results } } [Obj.classCompared]))) ∧
  (∀ (s : State) (v : Nat) (k : Nat) (bytes : Bytes), s.Calm → s.dev.domOn pdHub = true → s.dev.nat Obj.linkState = 2 →
         s.dev.role = 4 ∨ s.dev.role = 5 →
         Answers (.mirrorFrame (.digest v k bytes)) s (fun t =>
           (t.dev.pair.digests.find? (fun e => e.view == v && e.strip == k)).map (fun e => (e.own, e.partner)) =
             some ((s.dev.pair.digests.find? (fun e => e.view == v && e.strip == k)).elim none (fun e => e.own), some bytes) ∧
           (∀ e ∈ s.dev.pair.digests, e.view ≠ v ∨ k < e.strip → e ∈ t.dev.pair.digests) ∧
           s.Leaves t (s.dev.updPair (fun x => { x with linkAt := s.dev.now, digests := t.dev.pair.digests })) [])) ∧
  (∀ (s : State) (fi : Int) (fa : Int) (cause : Nat) (web : Nat) (w : Nat),
         s.Follows →
         s.dev.domOn pdNet = true →
         Answers (.mirrorFrame (.webTime fi fa 0 cause (s.dev.nat Obj.epochCount) web w)) s (fun t =>
           t.dev.nat Obj.mirrorLagMax = max (s.dev.nat Obj.mirrorLagMax) (s.dev.now - w) ∧
           t.dev.int Obj.freqInt = fi ∧ t.dev.int Obj.freqApplied = fa ∧
           s.Leaves t { s.dev.updPair (fun x => { x with linkAt := s.dev.now }) with
             clock := { base := web, anchor := w, freq := fa }, net := { s.dev.net with lastUpdate := some w, outliers := 0 } }
             [Obj.mirrorLagMax, Obj.freqInt, Obj.freqApplied]))

/-- Takeover (R310 to R312) and digests (R315). The kind of a failover, the moment of its event and which fires are issued again are the
model's choices (log entries 48, 49 and 51). -/
def Obligations.AStandbyTakesOverAndComparesDigests : Prop :=
  (∀ (s : State), s.Calm → s.dev.domOn pdHub = true → s.dev.role = 3 → s.dev.pair.take = false →
         Answers (.hbTimeout) s (fun t =>
           if s.dev.pair.linkAt + s.dev.nat Obj.hbTimeout ≤ s.dev.now then
             t.dev.out = [.pairPins s.dev.pair.act true] ∧ s.Leaves t (s.dev.updPair (fun x => { x with take := true, takeAt := some s.dev.now })) []
           else s.Leaves t s.dev [])) ∧
  (∀ (s : State) (u : Nat),
         s.Calm →
         s.dev.domOn pdHub = true →
         s.dev.role = 3 →
         s.dev.pair.takeAt = some u →
         u + 1000 ≤ s.dev.now →
         Answers (.linkJudgedDown) s (fun t =>
           t.dev.role = 1 ∧ t.dev.pair.take = false ∧ t.dev.pair.takeAt = none ∧ t.dev.nat Obj.linkState = 0 ∧ t.dev.pair.seekAt = s.dev.now ∧ t.dev.stitch = s.dev.stitch ∧ t.dev.seg = s.dev.seg ∧ t.dev.cls = s.dev.cls ∧ t.dev.ports = s.dev.ports ∧ t.dev.eng = s.dev.eng ∧ t.dev.pos = s.dev.posIdle ∧
             t.dev.hbm = s.dev.hbm ∧ t.pending = s.pending)) ∧
  (∀ (s : State), s.Calm → s.dev.domOn 0 = true → s.dev.role = 3 →
         Answers (.pairPeerFall) s (fun t =>
           let yielded := s.dev.pair.yieldAt.filter (fun y => decide (s.dev.now ≤ y.1 + 1000))
           t.dev.role = (if yielded.map (fun y => y.2) = some 0 then 4 else 5) ∧ t.dev.pair.act = true ∧ t.dev.pair.take = false ∧ t.dev.pair.peer = false ∧ t.dev.pair.hold = true ∧
           t.dev.nat Obj.failovers = min (2 ^ 32 - 1) (s.dev.nat Obj.failovers + 1) ∧ t.dev.val Obj.lastFailoverTime = .n s.dev.stamp ∧
           t.dev.nat Obj.lastFailoverKind = (match yielded with | some y => y.2 | none => if s.dev.pair.take = true then 3 else 4) ∧ t.dev.stitch = s.dev.stitch ∧ t.dev.seg = s.dev.seg ∧ t.dev.cls = s.dev.cls ∧ t.dev.ports = s.dev.ports ∧ t.dev.eng = s.dev.eng ∧ t.dev.pos = s.dev.pos ∧
             t.dev.hbm = s.dev.hbm ∧ t.pending = s.pending)) ∧
  (∀ (s : State), s.Calm → s.dev.domOn 0 = true → s.dev.role ≠ 3 →
         Answers (.pairPeerFall) s (fun t =>
           s.Leaves t { s.dev with pair := t.dev.pair } [] ∧ t.dev.pair.peer = false ∧ t.dev.pair.act = s.dev.pair.act ∧ t.dev.pair.take = s.dev.pair.take)) ∧
  (∀ (s : State),
         s.Calm →
         s.dev.domOn pdHub = true →
         s.dev.pair.gap = none ∨ s.dev.gapEnd.any (fun e => decide (s.dev.now < e)) = true →
         Answers (.gapRefire) s (fun t =>
           s.Leaves t s.dev [])) ∧
  (∀ (s : State) (p : Nat) (lix : Nat) (f : Nat) (b : Bool) (u : Nat) (a : Nat),
         s.Calm →
         s.dev.domOn pdHub = true →
         s.dev.pair.gap = some (a, true) →
         s.dev.pair.actAt = some u →
         u + 50 ≤ s.dev.now →
         s.dev.pair.fires = [(p, lix, f, b)] →
         a ≤ f →
         f ≤ u + 50 →
         p < 24 →
         Answers (.gapRefire) s (fun t =>
           t.dev.pair.gap = none ∧ t.dev.pair.fires = [] ∧ (t.dev.trig p).lastFire = some (u + 50) ∧
           t.dev.nat (Obj.portLateCount p) = min (2 ^ 32 - 1) (s.dev.nat (Obj.portLateCount p) + 1) ∧
           (∀ q : Nat, q < 24 → q ≠ p → t.dev.trig q = s.dev.trig q ∧ t.dev.port q = { s.dev.port q with packets := (t.dev.port q).packets } ∧
             ((s.dev.port q).packets.all (fun k => k.rising || k.answered.isSome) = true → (t.dev.port q).packets = (s.dev.port q).packets)) ∧ t.dev.seg = s.dev.seg ∧ t.dev.cls = s.dev.cls ∧ t.dev.eng = s.dev.eng ∧
           t.dev.hbm = s.dev.hbm ∧ t.pending = s.pending)) ∧
  (∀ (s : State), s.Calm → s.dev.domOn pdHub = true → s.dev.pair.hold = false ∨ s.dev.standby = true →
         Answers (.publishingResume) s (fun t =>
           s.Leaves t s.dev [])) ∧
  (∀ (s : State), s.Calm → s.dev.domOn pdHub = true → s.dev.pair.hold = true → s.dev.standby = false →
         Answers (.publishingResume) s (fun t =>
           t.dev.pair.hold = false ∧ t.dev.pair.mirrored = [] ∧ t.dev.stitch = s.dev.stitch ∧ t.dev.seg = s.dev.seg ∧ t.dev.cls = s.dev.cls ∧ t.dev.ports = s.dev.ports ∧ t.dev.eng = s.dev.eng ∧ t.dev.pos = s.dev.pos ∧
             t.dev.hbm = s.dev.hbm ∧ t.pending = s.pending)) ∧
  (∀ (s : State) (v : Nat) (k : Nat) (e : DigestPair) (own : Bytes) (his : Bytes),
         s.Calm →
         v < 4 →
         s.dev.domOn pdHub = true →
         s.dev.pair.digests.find? (fun e => e.view == v && e.strip == k) = some e →
         e.own = some own →
         e.partner = some his →
         digestBody own = digestBody his →
         Answers (.digestVerdict v k) s (fun t =>
           t.dev.nat Obj.digestsCompared = min (2 ^ 64 - 1) (s.dev.nat Obj.digestsCompared + 1) ∧
           s.Leaves t (s.dev.updPair (fun x => { x with digests := x.digests.erase e })) [Obj.digestsCompared])) ∧
  (∀ (s : State) (v : Nat) (k : Nat) (e : DigestPair) (own : Bytes) (his : Bytes),
         s.Calm →
         v < 4 →
         s.dev.domOn pdHub = true →
         s.dev.pair.digests.find? (fun e => e.view == v && e.strip == k) = some e →
         e.own = some own →
         e.partner = some his →
         slice own 16 8 ≠ slice his 16 8 →
         digestBody own ≠ digestBody his →
         Answers (.digestVerdict v k) s (fun t =>
           t.dev.nat Obj.digestMismatches = min (2 ^ 64 - 1) (s.dev.nat Obj.digestMismatches + 1) ∧
           t.dev.nat Obj.inputDivergences = min (2 ^ 64 - 1) (s.dev.nat Obj.inputDivergences + 1) ∧
           s.Leaves t (s.dev.updPair (fun x => { x with digests := x.digests.erase e })) [Obj.digestMismatches, Obj.inputDivergences, Obj.lastDigest, Obj.logSeq]))

/-- Refresh (R324, R325), command slots (R328) and pages (R326). The phase of the debt of a bulk pseudo-channel, and which requests an
owed refresh of one waits for, are the model's choices (log entry 70); that an unforced refresh takes the idle bank of the largest debt is
log entry 52. -/
def Obligations.MemoryRefreshesServesAndClosesPages : Prop :=
  (∀ (s : State) (n : Nat) (b : Nat),
         s.Steady →
         n < 64 →
         b < 48 →
         s.dev.domOn (if n < 32 then 7 else 8) = true →
         s.dev.pcState n = 2 ∨ s.dev.pcState n = 3 →
         Answers (.refreshDebt n b) s (fun t =>
           let r := if s.dev.mem.doubled.getD (if n < 32 then 0 else 1) false = true then 1950 else 3900
           let due (phase last : Nat) : Bool := (List.range (s.dev.now / r + 1)).any (fun j =>
             decide (48 * last < phase * r + 48 * j * r ∧ phase * r + 48 * j * r ≤ 48 * s.dev.now))
           (if s.dev.realTime n = true then
             ((t.dev.pc n).bank b) = (if due b ((s.dev.pc n).bank b).tick = true then
                 { (s.dev.pc n).bank b with debt := min 8 (((s.dev.pc n).bank b).debt + 1), tick := s.dev.now }
               else (s.dev.pc n).bank b) ∧ (t.dev.pc n).debt = (s.dev.pc n).debt ∧
               (∀ k : Nat, k < 48 → k ≠ b → (t.dev.pc n).bank k = (s.dev.pc n).bank k)
            else t.dev.pc n = (if due 0 (s.dev.pc n).tick = true then { s.dev.pc n with debt := min 8 ((s.dev.pc n).debt + 1), tick := s.dev.now }
              else s.dev.pc n)) ∧
             (∀ m : Nat, m < 64 → m ≠ n → t.dev.pc m = s.dev.pc m) ∧
             s.Leaves t { s.dev with mem := { s.dev.mem with pcs := t.dev.mem.pcs } } [])) ∧
  (∀ (s : State) (n : Nat),
         s.Steady →
         n < 64 →
         s.dev.domOn (if n < 32 then 7 else 8) = true →
         s.dev.takesSlots n = true →
         s.dev.realTime n = false →
         (s.dev.pc n).busy ≤ s.dev.now →
         1 ≤ (s.dev.pc n).debt →
         8 ≤ (s.dev.pc n).debt ∨ (∀ q ∈ (s.dev.pc n).queue, s.dev.urgency q < 2) →
         Answers (.commandSlot n) s (fun t =>
           (t.dev.pc n).debt = (s.dev.pc n).debt - 1 ∧ (∀ k : Nat, k < 48 → ((t.dev.pc n).bank k).row = none) ∧ (t.dev.pc n).queue = (s.dev.pc n).queue ∧
             (t.dev.pc n).busy = s.dev.now + 365 ∧
             t.dev.nat Obj.forcedRefreshes =
               (if 8 ≤ (s.dev.pc n).debt then min (2 ^ 64 - 1) (s.dev.nat Obj.forcedRefreshes + 1) else s.dev.nat Obj.forcedRefreshes) ∧
             (∀ m : Nat, m < 64 → m ≠ n → t.dev.pc m = s.dev.pc m) ∧
             s.Leaves t { s.dev with mem := { s.dev.mem with pcs := t.dev.mem.pcs } } [Obj.forcedRefreshes, Obj.logSeq])) ∧
  (∀ (s : State) (n : Nat) (b : Nat),
         s.Steady →
         n < 64 →
         b < 48 →
         s.dev.domOn (if n < 32 then 7 else 8) = true →
         s.dev.takesSlots n = true →
         s.dev.realTime n = true →
         8 ≤ ((s.dev.pc n).bank b).debt →
         ((s.dev.pc n).bank b).busy ≤ s.dev.now →
         (∀ k : Nat, k < b → ((s.dev.pc n).bank k).debt < 8 ∨ s.dev.now < ((s.dev.pc n).bank k).busy) →
         Answers (.commandSlot n) s (fun t =>
           ((t.dev.pc n).bank b).debt = ((s.dev.pc n).bank b).debt - 1 ∧ ((t.dev.pc n).bank b).row = none ∧
             ((t.dev.pc n).bank b).busy = s.dev.now + 200 + (if ((s.dev.pc n).bank b).row = none then 0 else 15) ∧
             (∀ k : Nat, k < 48 → k ≠ b → (t.dev.pc n).bank k = (s.dev.pc n).bank k) ∧ (t.dev.pc n).queue = (s.dev.pc n).queue ∧
             t.dev.nat Obj.forcedRefreshes = min (2 ^ 64 - 1) (s.dev.nat Obj.forcedRefreshes + 1) ∧
             (∀ m : Nat, m < 64 → m ≠ n → t.dev.pc m = s.dev.pc m) ∧
             s.Leaves t { s.dev with mem := { s.dev.mem with pcs := t.dev.mem.pcs } } [Obj.forcedRefreshes, Obj.logSeq])) ∧
  (∀ (s : State) (n : Nat) (q : MemReq),
         s.Steady →
         n < 64 →
         s.dev.domOn (if n < 32 then 7 else 8) = true →
         s.dev.takesSlots n = true →
         (if s.dev.realTime n = true then ∀ b : Nat, b < 48 → ((s.dev.pc n).bank b).debt < 8 ∨ s.dev.now < ((s.dev.pc n).bank b).busy
          else (s.dev.pc n).debt < 8 ∧ s.dev.bulkRefreshes (s.dev.pc n) = false) →
         s.dev.chooseReq (s.dev.pc n) ((s.dev.pc n).ready s.dev.now) = some q →
         q.port < 12 →
         Answers (.commandSlot n) s (fun t =>
           (∀ k ∈ (s.dev.pc n).ready s.dev.now, s.dev.urgency k ≤ s.dev.urgency q) ∧
             (t.dev.pc n).queue = (s.dev.pc n).queue.erase q ∧ (t.dev.pc n).debt = (s.dev.pc n).debt ∧
             ((t.dev.pc n).bank (bankOf q.offset)).row = (if s.dev.pageIdleOf n = 0 then none else some (rowOfOff q.offset)) ∧
             ((t.dev.pc n).bank (bankOf q.offset)).last = s.dev.now ∧ ((t.dev.pc n).bank (bankOf q.offset)).debt = ((s.dev.pc n).bank (bankOf q.offset)).debt ∧
             (∀ k : Nat, k < 48 → k ≠ bankOf q.offset → (t.dev.pc n).bank k = (s.dev.pc n).bank k) ∧
             t.dev.nat (Obj.portBytes q.port) = min (2 ^ 64 - 1) (s.dev.nat (Obj.portBytes q.port) + 64) ∧
             t.dev.nat (Obj.latMisses q.port) =
               (if s.dev.nat (Obj.latTarget q.port) ≤ s.dev.now - q.arrival then min (2 ^ 64 - 1) (s.dev.nat (Obj.latMisses q.port) + 1)
                else s.dev.nat (Obj.latMisses q.port)) ∧
             (∀ m : Nat, m < 64 → m ≠ n → t.dev.pc m = s.dev.pc m) ∧
             s.Leaves t { s.dev with mem := { s.dev.mem with pcs := t.dev.mem.pcs } } [Obj.portBytes q.port, Obj.latMax q.port, Obj.latMisses q.port, Obj.logSeq])) ∧
  (∀ (s : State) (n : Nat),
         s.Steady →
         n < 64 →
         s.dev.domOn (if n < 32 then 7 else 8) = true →
         s.dev.takesSlots n = true →
         s.dev.realTime n = true →
         (∀ b : Nat, b < 48 → ((s.dev.pc n).bank b).debt < 8 ∨ s.dev.now < ((s.dev.pc n).bank b).busy) →
         (s.dev.pc n).ready s.dev.now = [] →
         Answers (.commandSlot n) s (fun t =>
           let open? (b : Nat) : Prop := ((s.dev.pc n).bank b).row = none ∧ ((s.dev.pc n).bank b).busy ≤ s.dev.now ∧
             (∀ q ∈ (s.dev.pc n).queue, bankOf q.offset ≠ b) ∧
             (1 ≤ ((s.dev.pc n).bank b).debt ∨ (-4 < ((s.dev.pc n).bank b).debt ∧ (s.dev.pc n).queue = []))
           (((∀ b : Nat, b < 48 → ¬ open? b) ∧ t.dev.pc n = s.dev.pc n) ∨
             (∃ b : Nat, b < 48 ∧ open? b ∧
               (t.dev.pc n).bank b = { (s.dev.pc n).bank b with debt := ((s.dev.pc n).bank b).debt - 1, busy := s.dev.now + 200 } ∧
               (∀ k : Nat, k < 48 → k ≠ b → (t.dev.pc n).bank k = (s.dev.pc n).bank k) ∧ (t.dev.pc n).queue = (s.dev.pc n).queue)) ∧
             (∀ m : Nat, m < 64 → m ≠ n → t.dev.pc m = s.dev.pc m) ∧
             s.Leaves t { s.dev with mem := { s.dev.mem with pcs := t.dev.mem.pcs } } [])) ∧
  (∀ (s : State) (n : Nat),
         s.Steady →
         n < 64 →
         s.dev.domOn (if n < 32 then 7 else 8) = true →
         s.dev.takesSlots n = false ∨ (s.dev.realTime n = false ∧
           (s.dev.now < (s.dev.pc n).busy ∨ ((s.dev.pc n).debt < 8 ∧ s.dev.bulkRefreshes (s.dev.pc n) = false ∧ (s.dev.pc n).ready s.dev.now = []))) →
         Answers (.commandSlot n) s (fun t => s.Leaves t s.dev [])) ∧
  (∀ (s : State) (n : Nat) (b : Nat) (r : Nat),
         s.Steady →
         n < 64 →
         b < 48 →
         s.dev.domOn (if n < 32 then 7 else 8) = true →
         ((s.dev.pc n).bank b).row = some r →
         Answers (.pageIdle n b) s (fun t =>
           if ((s.dev.pc n).bank b).last + s.dev.pageIdleOf n ≤ s.dev.now ∧ (s.dev.pc n).queue.all (fun q => ! (bankOf q.offset == b && rowOfOff q.offset == r)) = true then
             ((t.dev.pc n).bank b) = { (s.dev.pc n).bank b with row := none } ∧ (∀ k : Nat, k < 48 → k ≠ b → (t.dev.pc n).bank k = (s.dev.pc n).bank k) ∧
               (∀ m : Nat, m < 64 → m ≠ n → t.dev.pc m = s.dev.pc m) ∧
             s.Leaves t { s.dev with mem := { s.dev.mem with pcs := t.dev.mem.pcs } } []
           else s.Leaves t s.dev [])) ∧
  (∀ (s : State) (k : Nat) (x : Int), s.Steady → k < 2 → s.dev.domOn (7 + k) = true →
         Answers (.refreshRateChange k x) s (fun t =>
           s.Leaves t (s.dev.updMem (fun m => { m with temps := m.temps.set k x, doubled := m.doubled.set k (decide (850 < x)) })) [Obj.logSeq]))

/-- Training (R329, R330), errors (R335) and fences (R336). That a fence finds its way to the copies at once and what counts as the first
error after a retraining are the model's choices (log entry 70), and so is the last step of a retraining (log entry 52). -/
def Obligations.PseudoChannelsTrainAndAreFenced : Prop :=
  (∀ (s : State) (k : Nat) (ms : List (Nat × Nat)),
         s.Works pdHub →
         k < 2 →
         (∃ n ∈ List.range 64, stackOf n = k ∧ s.dev.pcState n = 1) →
         (∀ n ∈ List.range 32, s.dev.marginOk (ms.getD n (0, 0)).1 (ms.getD n (0, 0)).2 = true) →
         Answers (.trainingComplete k ms) s (fun t =>
           (∀ n : Nat, n < 64 → stackOf n = k → s.dev.pcState n = 1 →
             t.dev.pcState n = 2 ∧ t.dev.val (Obj.marginH n) = .n (ms.getD (n % 32) (0, 0)).1 ∧ t.dev.val (Obj.marginV n) = .n (ms.getD (n % 32) (0, 0)).2 ∧ (t.dev.pc n).trainAt = s.dev.now) ∧
           (∀ n : Nat, n < 64 → stackOf n ≠ k ∨ s.dev.pcState n ≠ 1 → t.dev.pcState n = s.dev.pcState n ∧ t.dev.pc n = s.dev.pc n) ∧
           s.Leaves t { s.dev with mem := { s.dev.mem with pcs := t.dev.mem.pcs } }
             ((List.range 64).flatMap (fun n => [Obj.pcState n, Obj.marginH n, Obj.marginV n, Obj.lastTrainTime n]) ++ [Obj.logSeq]))) ∧
  (∀ (s : State) (n : Nat), s.Steady → n < 64 → s.dev.domOn (if n < 32 then 7 else 8) = true →
         Answers (.retrain n) s (fun t =>
           if s.dev.pcState n = 2 ∧ s.dev.retrainDue n = true ∧ (s.dev.classList (s.dev.nat (Obj.pcClass n))).all (fun k => s.dev.pcState k != 3) = true then
             t.dev.val (Obj.pcState n) = .n 3 ∧ s.Leaves t (s.dev.updPc n (fun x => { x with steps := 0, stepAt := 0 })) [Obj.pcState n]
           else s.Leaves t s.dev [])) ∧
  (∀ (s : State) (n : Nat) (h : Nat) (v : Nat),
         s.Steady →
         n < 64 →
         s.dev.domOn (if n < 32 then 7 else 8) = true →
         s.dev.pcState n = 3 →
         s.dev.realTime n = false →
         (s.dev.pc n).debt < 6 →
         (s.dev.pc n).steps = 0 ∨ (s.dev.pc n).stepAt + 10000 ≤ s.dev.now →
         Answers (.retrainStep n h v) s (fun t =>
           (h = 0 ∧ v = 0 ∧ (s.dev.pc n).steps + 1 < 64 → s.Leaves t (s.dev.updPc n (fun x => { x with steps := x.steps + 1, stepAt := s.dev.now })) []) ∧
           (0 < h + v → s.dev.marginOk h v = true →
             t.dev.val (Obj.pcState n) = .n 2 ∧ t.dev.val (Obj.marginH n) = .n h ∧ t.dev.val (Obj.marginV n) = .n v ∧ t.dev.val (Obj.lastTrainTime n) = .n s.dev.stamp ∧
               (t.dev.pc n).trainAt = s.dev.now ∧ (t.dev.pc n).want = false ∧ (∀ m : Nat, m < 64 → m ≠ n → t.dev.pc m = s.dev.pc m) ∧
               s.Leaves t { s.dev with mem := { s.dev.mem with pcs := t.dev.mem.pcs } } [Obj.pcState n, Obj.marginH n, Obj.marginV n, Obj.lastTrainTime n, Obj.logSeq]))) ∧
  (∀ (s : State) (n : Nat), s.Steady → n < 64 → s.dev.domOn (if n < 32 then 7 else 8) = true → s.dev.pcState n = 2 →
         Answers (.patrolScrub n) s (fun t =>
           (t.dev.pc n).queue.take (s.dev.pc n).queue.length = (s.dev.pc n).queue ∧
           ((t.dev.pc n).queue.drop (s.dev.pc n).queue.length).all (fun q => q.port == 11 && ! q.write && q.arrival == s.dev.now) = true ∧
           (∀ m : Nat, m < 64 → m ≠ n → t.dev.pc m = s.dev.pc m) ∧ s.Leaves t { s.dev with mem := { s.dev.mem with pcs := t.dev.mem.pcs, scrub := t.dev.mem.scrub } } [])) ∧
  (∀ (s : State) (n : Nat) (off : Nat),
         s.Steady →
         n < 64 →
         off < pcBytes →
         s.dev.domOn (if n < 32 then 7 else 8) = true →
         s.dev.pcState n = 2 ∨ s.dev.pcState n = 3 →
         Answers (.hbmEccError n off true) s (fun t =>
           t.dev.nat (Obj.ceCount n) = min (2 ^ 32 - 1) (s.dev.nat (Obj.ceCount n) + 1) ∧
           (t.dev.pc n).ces = s.dev.now :: (s.dev.pc n).ces.filter (fun x => decide (s.dev.now ≤ x + 1000000000)) ∧
           (t.dev.pc n).want = ((s.dev.pc n).want || decide (s.dev.nat Obj.ceRetrain ≤ (t.dev.pc n).ces.length)) ∧
           (∀ m : Nat, m < 64 → m ≠ n → t.dev.pc m = s.dev.pc m) ∧ s.Leaves t { s.dev with mem := { s.dev.mem with pcs := t.dev.mem.pcs } } [Obj.ceCount n, Obj.logSeq])) ∧
  (∀ (s : State) (n : Nat) (off : Nat),
         s.Steady →
         n < 64 →
         off < pcBytes →
         s.dev.domOn (if n < 32 then 7 else 8) = true →
         s.dev.pcState n = 2 ∨ s.dev.pcState n = 3 →
         (s.dev.pc n).retrained = none →
         Answers (.hbmEccError n off false) s (fun t =>
           t.dev.nat (Obj.ueCount n) = min (2 ^ 32 - 1) (s.dev.nat (Obj.ueCount n) + 1) ∧ (t.dev.pc n).want = true ∧ t.dev.pcState n = s.dev.pcState n ∧
           t.dev.pos = s.dev.pos ∧ t.dev.ports = s.dev.ports ∧ t.dev.cls = s.dev.cls ∧ t.dev.hbm = s.dev.hbm ∧ t.pending = s.pending)) ∧
  (∀ (s : State) (ses : Nat) (n : Nat), s.Steady → n < 64 → s.MayWrite ses (Obj.pcFence n) [1] →
         Answers (.pcFence ses n) s (fun t =>
           if s.dev.pcState n = 4 ∨ s.dev.pcState n = 0 then t.Answered .state [] ∧ s.Leaves t s.dev []
           else t.Answered .ok [] ∧ t.dev.pcState n = 4 ∧ (t.dev.pc n).queue = [] ∧ t.dev.nat Obj.repairsDone = min (2 ^ 32 - 1) (s.dev.nat Obj.repairsDone + 1) ∧
             bit (t.dev.nat Obj.deviceHealthHeld) 7 = true ∧ t.dev.mem.fences.map (fun f => f.pc) = s.dev.mem.fences.map (fun f => f.pc) ++ [n] ∧
             (∀ v : Nat, v < 4 → (t.dev.sg v).ring = []) ∧ t.dev.pos = s.dev.pos ∧ t.dev.ports = s.dev.ports ∧ t.dev.cls = s.dev.cls ∧ t.dev.hbm = s.dev.hbm ∧
             t.pending = s.pending))

/-- Network ports (R344, R346), the PTP domains (R347 to R349, R356) and WebTime with its servo (R351 to R353). How often a master must be
heard before it counts, the frames that wait at a port and the moment for which the row of SYNC stands are the model's choices (log
entry 72), and so are DomainState 2 and the mean of the delays (log entry 54). -/
def Obligations.PortsAndClocksFollowTheNetwork : Prop :=
  (∀ (s : State) (q : Nat) (f : EthFrame), s.Steady → q < 6 → s.dev.portUp q = true →
         (match f.kind with | .tol u => decide (u ≠ s.dev.nat Obj.udpPort) | _ => true) = true →
         s.dev.net.tx.getD q [] = [] →
         Answers (.ethernetFrame q f) s (fun t =>
           let service := (s.dev.addressed q f).getD false
           let len := if f.kind = .neighbour then s.dev.rawLen q 64 else f.length
           let reply := Out.frame q (if f.kind = .neighbour then .neighbourReply else .echoReply) (s.dev.frameHead q service) f.payload
           if f.fcsOk = false then t.dev.nat (Obj.fcsErrors q) = min (2 ^ 32 - 1) (s.dev.nat (Obj.fcsErrors q) + 1) ∧ s.Leaves t s.dev [Obj.fcsErrors q]
           else if (match f.kind with | .tol _ => true | _ => false) = true ∨ f.kind = .pause ∨ f.kind = .other ∨ s.dev.nat (Obj.maxFrame q) < f.length ∨
               f.vlan ≠ (if s.dev.nat (Obj.vlanId q) = 0 then none else some (s.dev.nat (Obj.vlanId q))) ∨ s.dev.admits q f = false then
             t.dev.nat (Obj.rxDropped q) = min (2 ^ 32 - 1) (s.dev.nat (Obj.rxDropped q) + 1) ∧ s.Leaves t s.dev [Obj.rxDropped q]
           else t.dev.nat (Obj.framesIn q) = min (2 ^ 64 - 1) (s.dev.nat (Obj.framesIn q) + 1) ∧
             (if f.kind = .ptpOther then t.dev.nat (Obj.ptpIgnored q) = min (2 ^ 32 - 1) (s.dev.nat (Obj.ptpIgnored q) + 1) ∧ s.Leaves t s.dev [Obj.framesIn q, Obj.ptpIgnored q]
              else if f.kind = .neighbour ∨ f.kind = .echo then
                (if s.dev.mayStart q len = true then
                  t.dev.out = [reply] ∧ t.dev.nat (Obj.framesOut q) = min (2 ^ 64 - 1) (s.dev.nat (Obj.framesOut q) + 1) ∧ t.dev.net.tx = s.dev.net.tx
                 else (t.dev.net.tx.getD q []).map (fun x => x.out) = [reply] ∧ t.dev.nat (Obj.framesOut q) = s.dev.nat (Obj.framesOut q)) ∧
                s.Leaves t { s.dev with net := { s.dev.net with busyUntil := t.dev.net.busyUntil, tx := t.dev.net.tx } } [Obj.framesIn q, Obj.framesOut q]
              else s.Leaves t { s.dev with net := t.dev.net } [Obj.framesIn q, Obj.framesOut q]))) ∧
  (∀ (s : State) (q : Nat) (up : Bool), s.Steady → q < 6 →
         Answers (.linkUpDown q up) s (fun t =>
           if s.dev.domOn pdNet = false ∨ s.dev.flag (Obj.netEnable q) = false ∨ up = s.dev.flag (Obj.linkUp q) then s.Leaves t s.dev []
           else t.dev.flag (Obj.linkUp q) = up ∧ t.dev.net.domains = s.dev.net.domains ∧ t.dev.tol = s.dev.tol ∧ t.dev.pos = s.dev.pos ∧ t.dev.hbm = s.dev.hbm ∧
             (up = false → s.Leaves t { s.dev with net := { s.dev.net with tx := s.dev.net.tx.set q [], neigh := s.dev.net.neigh.filter (fun e => e.1 != q) } } [Obj.linkUp q, Obj.logSeq]))) ∧
  (∀ (s : State) (k : Nat) (q : Nat) (h : PtpHead) (frac : Nat) (m : Bytes) (t1 : Int) (cs : Int) (li : Int),
         s.Steady →
         k < 2 →
         q < 6 →
         s.dev.vlanOk q h.vlan = true →
         s.dev.domainFor q h.transport h.number = some k →
         (s.dev.dom k).chosen = some m →
         -7 ≤ li →
         li ≤ 4 →
         (s.dev.dom k).lastSync.all (fun u => decide (u + 7800000 ≤ s.dev.now)) = true →
         s.dev.delays k q = [] ∨ s.dev.nat Obj.selectedDomain ≠ k →
         Answers (.sync q h frac m t1 cs li) s (fun t =>
           let ds := s.dev.delays k q
           let fwd := (s.dev.webAt s.dev.now : Int) + (frac : Int) - s.dev.int (Obj.ingressLatency q) - t1 - cs
           t.dev.nat (Obj.framesIn q) = min (2 ^ 64 - 1) (s.dev.nat (Obj.framesIn q) + 1) ∧
           t.dev.nat (Obj.syncCount k) = min (2 ^ 32 - 1) (s.dev.nat (Obj.syncCount k) + 1) ∧
           (if ds = [] then t.dev.nat (Obj.domainState k) = s.dev.nat (Obj.domainState k)
            else t.dev.nat (Obj.domainState k) = 2 ∧ t.dev.int (Obj.domainOffset k) = fwd - sumI ds / (ds.length : Int) - s.dev.int (Obj.delayAsymmetry q)) ∧
           (s.dev.nat Obj.selectedDomain = 1 - k → t.dev.nat Obj.selectedDomain =
             (if ds ≠ [] ∧ s.dev.flag Obj.autoSwitch = true ∧ s.dev.nat (Obj.domainState (1 - k)) = 3 then k else 1 - k)) ∧
           s.Leaves t (s.dev.updDom k (fun x => { x with
               lastSync := some s.dev.now, logSync := li, fwd := some fwd
               lastTheta := if ds = [] then x.lastTheta else some s.dev.now }))
             [Obj.framesIn q, Obj.syncCount k, Obj.domainState k, Obj.domainOffset k, Obj.selectedDomain, Obj.switchCount, Obj.servoOffset, Obj.utcOffset,
              Obj.timescale, Obj.logSeq])) ∧
  (∀ (s : State) (k : Nat) (q : Nat) (h : PtpHead) (frac : Nat) (m : Bytes) (t1 : Int) (cs : Int) (li : Int),
         s.Steady →
         k < 2 →
         q < 6 →
         s.dev.vlanOk q h.vlan = true →
         s.dev.domainFor q h.transport h.number = some k →
         (s.dev.dom k).chosen = some m →
         -7 ≤ li →
         li ≤ 4 →
         (s.dev.dom k).lastSync.all (fun u => decide (u + 7800000 ≤ s.dev.now)) = true →
         s.dev.delays k q ≠ [] →
         s.dev.nat Obj.selectedDomain = k →
         s.dev.nat Obj.servoState = 0 →
         s.dev.pub.launch.all (fun q => q.isEmpty) = true →
         Answers (.sync q h frac m t1 cs li) s (fun t =>
           let ds := s.dev.delays k q
           let theta := (s.dev.webAt s.dev.now : Int) + (frac : Int) - s.dev.int (Obj.ingressLatency q) - t1 - cs - sumI ds / (ds.length : Int) -
             s.dev.int (Obj.delayAsymmetry q)
           t.dev.int Obj.servoOffset = theta ∧ t.dev.nat Obj.servoState = 1 ∧ t.dev.flag Obj.timeValid = true ∧ t.dev.int Obj.freqApplied = 0 ∧
           t.dev.nat Obj.epochCount = min (2 ^ 32 - 1) (s.dev.nat Obj.epochCount + 1) ∧ (0 ≤ (s.dev.clock.at s.dev.now : Int) - theta → (t.dev.clock.at s.dev.now : Int) = s.dev.clock.at s.dev.now - theta) ∧
           (∀ j : Nat, j < 2 → j ≠ k → t.dev.dom j = s.dev.dom j) ∧ t.dev.pos = s.dev.pos ∧ t.dev.ports = s.dev.ports ∧ t.dev.hbm = s.dev.hbm ∧ t.pending = s.pending)) ∧
  (∀ (s : State) (k : Nat) (q : Nat) (h : PtpHead) (frac : Nat) (m : Bytes) (t1 : Int) (cs : Int) (li : Int) (st : Nat),
         s.Steady →
         k < 2 →
         q < 6 →
         s.dev.vlanOk q h.vlan = true →
         s.dev.domainFor q h.transport h.number = some k →
         (s.dev.dom k).chosen = some m →
         -7 ≤ li →
         li ≤ 4 →
         (s.dev.dom k).lastSync.all (fun u => decide (u + 7800000 ≤ s.dev.now)) = true →
         s.dev.delays k q ≠ [] →
         s.dev.nat Obj.selectedDomain = k →
         s.dev.nat Obj.servoState = st →
         st = 1 ∨ st = 2 ∨ st = 3 →
         s.dev.pub.launch.all (fun q => q.isEmpty) = true →
         Answers (.sync q h frac m t1 cs li) s (fun t =>
           let ds := s.dev.delays k q
           let fwd := (s.dev.webAt s.dev.now : Int) + (frac : Int) - s.dev.int (Obj.ingressLatency q) - t1 - cs
           let theta := fwd - sumI ds / (ds.length : Int) - s.dev.int (Obj.delayAsymmetry q)
           let n := if s.dev.nat Obj.stepThreshold * 65536 < theta.natAbs then s.dev.net.outliers + 1 else 0
           let net (n' : Nat) (held : Option Nat) : NetState := { s.dev.net with
             domains := s.dev.net.domains.modify k (fun x => { x with
               lastSync := some s.dev.now, logSync := li, fwd := some fwd, lastTheta := some s.dev.now })
             outliers := n', lastUpdate := some s.dev.now, holdSince := held }
           let keys := [Obj.framesIn q, Obj.syncCount k, Obj.domainState k, Obj.domainOffset k, Obj.servoOffset, Obj.logSeq]
           t.dev.int Obj.servoOffset = theta ∧ t.dev.int (Obj.domainOffset k) = theta ∧
           (if 0 < n ∧ n < s.dev.nat Obj.stepConfirm then
             t.dev.nat Obj.outlierCount = min (2 ^ 32 - 1) (s.dev.nat Obj.outlierCount + 1) ∧
               s.Leaves t { s.dev with net := net n s.dev.net.holdSince } (keys ++ [Obj.outlierCount])
            else if 0 < n ∧ theta < 0 ∧ s.dev.flag Obj.stepForward = true then
             (t.dev.clock.at s.dev.now : Int) = s.dev.clock.at s.dev.now - theta ∧ t.dev.clock.freq = s.dev.clock.freq ∧
               t.dev.nat Obj.epochCount = min (2 ^ 32 - 1) (s.dev.nat Obj.epochCount + 1) ∧
               t.dev.nat Obj.stepCount = min (2 ^ 32 - 1) (s.dev.nat Obj.stepCount + 1) ∧
               s.Leaves t { s.dev with net := net 0 s.dev.net.holdSince, clock := t.dev.clock } (keys ++ [Obj.epochCount, Obj.stepCount])
            else
             let p := (s.dev.nat Obj.kp : Int) * theta
             let max : Int := s.dev.nat Obj.slewMax
             let slewing := decide (max * 268435456 < (p.natAbs : Int))
             let limit : Int := s.dev.nat Obj.freqLimit * 16
             let dt : Int := match s.dev.net.lastUpdate with | some u => (s.dev.now : Int) - u | none => 0
             let i := if slewing = true then s.dev.int Obj.freqInt
               else clamp (s.dev.int Obj.freqInt - (s.dev.nat Obj.ki : Int) * theta * dt * 16 / 268435456000000000) (-limit) limit
             t.dev.nat Obj.servoState = (if slewing = true then 2 else 1) ∧ t.dev.flag Obj.timeValid = true ∧ t.dev.int Obj.freqInt = i ∧
               t.dev.int Obj.freqApplied = i - (if slewing = true then (if 0 < theta then max * 16 else -(max * 16)) else p * 16 / 268435456) ∧
               t.dev.clock.freq = t.dev.int Obj.freqApplied ∧ t.dev.clock.at s.dev.now = s.dev.clock.at s.dev.now ∧
               s.Leaves t { s.dev with net := net n none, clock := t.dev.clock }
                 (keys ++ [Obj.servoState, Obj.timeValid, Obj.freqInt, Obj.freqApplied])))) ∧
  (∀ (s : State) (k : Nat) (q : Nat) (h : PtpHead) (frac : Nat) (m : Bytes) (t4 : Int) (cs : Int) (t3 : Int) (fwd : Int),
         s.Steady →
         k < 2 →
         q < 6 →
         s.dev.vlanOk q h.vlan = true →
         s.dev.domainFor q h.transport h.number = some k →
         s.dev.nat (Obj.delayMech k) = 0 →
         (s.dev.dom k).fwd = some fwd →
         (s.dev.dom k).chosen = some m →
         Tbl.get? (s.dev.dom k).sent q = some t3 →
         Answers (.delayResp q h frac m (.endToEnd t4) cs) s (fun t =>
           let mpd := (fwd + (t4 - t3 - cs)) / 2
           let ms := (mpd :: (s.dev.dom k).mpds).take 8
           t.dev.int (Obj.meanPathDelay k) = sumI ms / (ms.length : Int) ∧
             t.dev.nat (Obj.framesIn q) = min (2 ^ 64 - 1) (s.dev.nat (Obj.framesIn q) + 1) ∧
             s.Leaves t (s.dev.updDom k (fun x => { x with sent := Tbl.del x.sent q, mpds := ms })) [Obj.meanPathDelay k, Obj.framesIn q])) ∧
  (∀ (s : State) (k : Nat) (q : Nat) (h : PtpHead) (frac : Nat) (m : Bytes) (ta : Int) (cs : Int) (t3 : Int),
         s.Steady →
         k < 2 →
         q < 6 →
         s.dev.vlanOk q h.vlan = true →
         s.dev.domainFor q h.transport h.number = some k →
         s.dev.nat (Obj.delayMech k) = 1 →
         Tbl.get? (s.dev.dom k).sent q = some t3 →
         Answers (.delayResp q h frac m (.peerToPeer ta) cs) s (fun t =>
           let link := ((s.dev.webAt s.dev.now : Int) + (frac : Int) - s.dev.int (Obj.ingressLatency q) - t3 - ta - cs) / 2
           let ms := (link :: Tbl.get (s.dev.dom k).links q []).take 8
           t.dev.int (Obj.meanPathDelay k) = sumI ms / (ms.length : Int) ∧ t.dev.nat (Obj.framesIn q) = min (2 ^ 64 - 1) (s.dev.nat (Obj.framesIn q) + 1) ∧
             s.Leaves t (s.dev.updDom k (fun x => { x with sent := Tbl.del x.sent q, links := Tbl.put x.links q ms })) [Obj.meanPathDelay k, Obj.framesIn q])) ∧
  (∀ (s : State) (a : AnnounceMsg) (k : Nat), s.Steady → a.port < 6 → k < 2 →
         s.dev.domainFor a.port a.head.transport a.head.number = (if s.dev.domainHears k a.port = true then some k else none) →
         Answers (.announce a) s (fun t =>
           if s.dev.portUp a.port = false then s.Leaves t s.dev []
           else if s.dev.vlanOk a.port a.head.vlan = false ∨ s.dev.listens a.port a.head.transport = false then
             t.dev.nat (Obj.rxDropped a.port) = min (2 ^ 32 - 1) (s.dev.nat (Obj.rxDropped a.port) + 1) ∧ s.Leaves t s.dev [Obj.rxDropped a.port]
           else t.dev.nat (Obj.framesIn a.port) = min (2 ^ 64 - 1) (s.dev.nat (Obj.framesIn a.port) + 1) ∧
             (if s.dev.domainHears k a.port = false then s.Leaves t s.dev [Obj.framesIn a.port]
              else if 255 ≤ a.stepsRemoved then s.Leaves t s.dev [Obj.framesIn a.port]
              else if (s.dev.dom k).masters = [] then
                (t.dev.dom k).masters = [{ msg := a, seen := s.dev.now, qualified := false }] ∧ (t.dev.dom k).chosen = none ∧
                  s.Leaves t { s.dev with net := { s.dev.net with domains := t.dev.net.domains } } [Obj.framesIn a.port]
              else (∀ (m : Master), (s.dev.dom k).masters = [m] → m.msg.master = a.master →
                  s.dev.now < m.seen + s.dev.nat (Obj.announceTimeout k) * secsLog m.msg.logInterval →
                  m.qualified = true ∨ s.dev.now ≤ m.seen + 4 * secsLog a.logInterval →
                  (t.dev.dom k).masters = [{ msg := a, seen := s.dev.now, qualified := true }] ∧ (t.dev.dom k).chosen = some a.master ∧
                  t.dev.nat (Obj.grandmasterId k) = a.grandmaster % 2 ^ 64 ∧ t.dev.nat (Obj.stepsRemoved k) = a.stepsRemoved % 65536 ∧
                  s.Leaves t { s.dev with net := { s.dev.net with domains := t.dev.net.domains } }
                    [Obj.framesIn a.port, Obj.grandmasterId k, Obj.masterPort k, Obj.stepsRemoved k, Obj.servoOffset, Obj.utcOffset, Obj.timescale, Obj.logSeq]) ∧ t.dev.dom (1 - k) = s.dev.dom (1 - k) ∧ t.dev.clock = s.dev.clock ∧ t.dev.pos = s.dev.pos ∧ t.pending = s.pending))) ∧
  (∀ (s : State) (k : Nat) (q : Nat), s.Steady → k < 2 → q < 6 → s.dev.net.tx.getD q [] = [] →
         Answers (.delayReq k q) s (fun t =>
           let p2p : Bool := s.dev.nat (Obj.delayMech k) == 1
           let out := Out.frame q (if p2p = true then .pdelayReq else .delayReq) (s.dev.frameHead q false)
             [BitVec.ofNat 8 (s.dev.nat (Obj.ptpTransport k)), BitVec.ofNat 8 (s.dev.nat (Obj.domainNumber k))]
           if s.dev.domainHears k q = false ∨ (p2p = false ∧ (s.dev.dom k).chosen = none) ∨ s.dev.now < Tbl.get (s.dev.dom k).nextReq q 0 then s.Leaves t s.dev []
           else Tbl.get (t.dev.dom k).nextReq q 0 = s.dev.now + secsLog (s.dev.int (Obj.logDelayReqInterval k)) ∧
             (if s.dev.mayStart q (s.dev.rawLen q (if p2p = true then 104 else 90)) = true then
               t.dev.out = [out] ∧ Tbl.get? (t.dev.dom k).sent q = some (s.dev.webAt s.dev.now + s.dev.int (Obj.egressLatency q)) ∧
                 t.dev.nat (Obj.framesOut q) = min (2 ^ 64 - 1) (s.dev.nat (Obj.framesOut q) + 1) ∧ t.dev.net.tx = s.dev.net.tx
              else (t.dev.net.tx.getD q []).map (fun x => x.out) = [out] ∧ t.dev.nat (Obj.framesOut q) = s.dev.nat (Obj.framesOut q)) ∧
             (∀ j : Nat, j < 2 → j ≠ k → t.dev.dom j = s.dev.dom j) ∧ s.Leaves t { s.dev with net := t.dev.net } [Obj.framesOut q])) ∧
  (∀ (s : State) (k : Nat) (u : Nat),
         s.Steady →
         k < 2 →
         (s.dev.dom k).lastSync.getD (s.dev.dom k).chosenAt = u →
         (s.dev.dom k).masters.all (s.dev.heard k) = true →
         (s.dev.dom k).chosen.all (fun m => (s.dev.dom k).masters.any (fun e => e.msg.master == m)) = true →
         Answers (.domainLost k) s (fun t =>
           if s.dev.domOn pdNet = false ∨ s.dev.flag (Obj.domainEnable k) = false ∨ (s.dev.dom k).chosen = none ∨ s.dev.now < u + 4 * secsLog (s.dev.dom k).logSync ∨ s.dev.nat (Obj.domainState k) = 3 ∨ s.dev.nat (Obj.domainState k) = 0 then
             s.Leaves t s.dev []
           else t.dev.nat (Obj.domainState k) = 3 ∧ t.dev.nat (Obj.lossCount k) = min (2 ^ 32 - 1) (s.dev.nat (Obj.lossCount k) + 1) ∧
             (s.dev.nat Obj.selectedDomain < 2 → t.dev.nat Obj.selectedDomain =
               (if s.dev.flag Obj.autoSwitch = true ∧ s.dev.nat Obj.selectedDomain = k ∧ s.dev.nat (Obj.domainState (1 - k)) = 2 then 1 - k
                else s.dev.nat Obj.selectedDomain)) ∧
             s.Leaves t s.dev [Obj.domainState k, Obj.lossCount k, Obj.selectedDomain, Obj.switchCount, Obj.servoOffset, Obj.utcOffset, Obj.timescale, Obj.logSeq])) ∧
  (∀ (s : State) (u : Nat), s.Works pdNet → max s.dev.net.fedFrom ((s.dev.dom (s.dev.nat Obj.selectedDomain)).lastTheta.getD 0) = u → s.dev.nat Obj.selectedDomain < 2 →
         Answers (.holdover) s (fun t =>
           if (s.dev.nat Obj.servoState = 1 ∨ s.dev.nat Obj.servoState = 2) ∧ u + 4 * secsLog (s.dev.dom (s.dev.nat Obj.selectedDomain)).logSync ≤ s.dev.now then
             t.dev.nat Obj.servoState = 3 ∧ t.dev.int Obj.freqApplied = s.dev.int Obj.freqInt ∧ t.dev.clock.at s.dev.now = s.dev.clock.at s.dev.now ∧
               s.Leaves t { s.dev with
                 net := { s.dev.net with holdSince := some s.dev.now }
                 clock := t.dev.clock } [Obj.servoState, Obj.freqApplied, Obj.logSeq]
           else s.Leaves t s.dev [])) ∧
  (∀ (s : State) (u : Nat), s.Works pdNet → s.dev.net.holdSince = some u →
         Answers (.holdoverLimit) s (fun t =>
           (s.dev.nat Obj.servoState = 3 → u + s.dev.nat Obj.holdoverLimit * 1000000000 ≤ s.dev.now → t.dev.flag Obj.timeValid = false) ∧
           (s.dev.nat Obj.servoState ≠ 3 ∨ s.dev.now < u + s.dev.nat Obj.holdoverLimit * 1000000000 → t.dev.val Obj.timeValid = s.dev.val Obj.timeValid) ∧ s.Leaves t s.dev [Obj.timeValid])) ∧
  (∀ (s : State) (ses : Nat) (ns : Int),
         s.Steady →
         -(2 ^ 63) ≤ ns →
         ns < 2 ^ 63 →
         s.MayWrite ses Obj.timeStep (natLE 8 (ofSigned 64 ns)) →
         Answers (.timeStep ses ns) s (fun t =>
           if s.dev.nat Obj.servoState = 0 ∨ s.dev.nat Obj.servoState = 4 ∨ s.dev.domOn pdNet = false then t.Answered .state [] ∧ s.Leaves t s.dev []
           else if (s.dev.clock.at s.dev.now : Int) + ns * 65536 < 0 then t.Answered .range [] ∧ s.Leaves t s.dev []
           else t.Answered .ok [] ∧ (t.dev.clock.at s.dev.now : Int) = s.dev.clock.at s.dev.now + ns * 65536 ∧ t.dev.clock.freq = s.dev.clock.freq ∧ t.dev.nat Obj.epochCount = min (2 ^ 32 - 1) (s.dev.nat Obj.epochCount + 1) ∧
             t.dev.nat Obj.stepCount = min (2 ^ 32 - 1) (s.dev.nat Obj.stepCount + 1) ∧ t.dev.pos = s.dev.pos ∧ t.dev.net.domains = s.dev.net.domains ∧ t.dev.hbm = s.dev.hbm ∧ t.pending = s.pending)) ∧
  (∀ (s : State) (ses : Nat) (k : Nat), s.Steady → k < 256 → s.MayWrite ses Obj.selectedDomain [BitVec.ofNat 8 k] →
         Answers (.selectedDomain ses k) s (fun t =>
           if 1 < k then t.Answered .range [] ∧ s.Leaves t s.dev []
           else if s.dev.nat (Obj.domainState k) ≠ 2 then t.Answered .state [] ∧ s.Leaves t s.dev []
           else t.Answered .ok [] ∧ t.dev.nat Obj.selectedDomain = k ∧ s.Leaves t s.dev [Obj.selectedDomain, Obj.servoOffset, Obj.utcOffset, Obj.timescale, Obj.logSeq])) ∧
  (∀ (s : State) (q : Nat) (left : Nat) (due : Nat),
         s.Steady →
         q < 6 →
         s.dev.net.arp.find? (fun e => e.1 == q) = some (q, left, due) →
         s.dev.net.tx.getD q [] = [] →
         Answers (.gratuitousArp q) s (fun t =>
           if s.dev.portUp q = false ∨ s.dev.now < due then s.Leaves t s.dev []
           else
             let ip := s.dev.bytes (Obj.serviceIp q)
             let out := Out.frame q .announceAddress (s.dev.frameHead q true) ip
             (if s.dev.mayStart q (s.dev.rawLen q (if ip.length = 16 then 90 else 64)) = true then
               t.dev.out = [out] ∧ t.dev.nat (Obj.framesOut q) = min (2 ^ 64 - 1) (s.dev.nat (Obj.framesOut q) + 1) ∧ t.dev.net.tx = s.dev.net.tx
              else (t.dev.net.tx.getD q []).map (fun x => x.out) = [out] ∧ t.dev.nat (Obj.framesOut q) = s.dev.nat (Obj.framesOut q)) ∧
             t.dev.net.arp.find? (fun e => e.1 == q) = (if left ≤ 1 then none else some (q, left - 1, due + 1000000)) ∧
             s.Leaves t { s.dev with net := t.dev.net } [Obj.framesOut q, Obj.logSeq]))

/-- The channels (R368 to R378) and the engines (R382, R383). The order in which a descriptor is judged, the credit of a pace event and the
turn of a channel are the model's choices (log entry 56), as are the end of a drained channel and of a descriptor that ends at its fetch
(log entry 73); what a read of a region without a layout shows is free (log entries 18 and 73). -/
def Obligations.ChannelsStartFetchMoveAndEnd : Prop :=
  (∀ (s : State) (ses : Nat) (c : Nat), s.Steady → c < 64 → s.MayWrite ses (Obj.chanStart c) [1] →
         Answers (.chanStart ses c) s (fun t =>
           let hbm : Bool := s.dev.nat (Obj.chanDescSpace c) == 1
           let addr := s.dev.nat (Obj.chanDescAddr c)
           if s.dev.chanState c = 1 ∨ s.dev.chanState c = 2 ∨ s.dev.flag (Obj.eocFlag c) = true then t.Answered .state [] ∧ s.Leaves t s.dev []
           else t.Answered .ok [] ∧ ((∀ k ∈ List.range 64, s.dev.nat (Obj.paceEvent k) ≠ 2) → ∀ k : Nat, k < 64 → k ≠ c → t.dev.chan k = s.dev.chan k) ∧
             (if s.dev.spaceOff hbm = true then t.dev.chanState c = 3 ∧ t.dev.nat (Obj.chanLastStatus c) = stPowerDown ∧
                t.dev.nat (Obj.chanDescDone c) = min (2 ^ 64 - 1) (s.dev.nat (Obj.chanDescDone c) + 1) ∧ t.dev.pos = s.dev.pos ∧ t.dev.ports = s.dev.ports ∧ t.dev.hbm = s.dev.hbm ∧ t.dev.tol = s.dev.tol ∧ t.pending = s.pending
              else t.dev.nat (Obj.eventCredit c) = 0 ∧ t.dev.chanState c = 1 ∧ (t.dev.chan c).fetching = true ∧ (t.dev.chan c).next = (addr, hbm) ∧ (t.dev.chan c).cur = none ∧
                (∀ k : Nat, k < 64 → k ≠ c → t.dev.chan k = s.dev.chan k) ∧
                (s.dev.flag (Obj.eocMode c) = true → t.dev.nat (Obj.eocRemaining c) = s.dev.nat (Obj.eocCount c)) ∧
                s.Leaves t { s.dev with host := { s.dev.host with chans := t.dev.host.chans } } [Obj.eventCredit c, Obj.chanState c, Obj.eocRemaining c]))) ∧
  (∀ (s : State) (ses : Nat) (c : Nat), s.Steady → c < 64 → s.MayWrite ses (Obj.chanKick c) [1] →
         Answers (.chanKick ses c) s (fun t =>
           t.Answered .ok [] ∧
           (if s.dev.chanState c = 2 then t.dev.chanState c = 1 ∧ s.Leaves t (s.dev.updChan c (fun x => { x with fetching := true })) [Obj.chanState c]
            else if s.dev.chanState c = 1 then s.Leaves t (s.dev.updChan c (fun x => { x with kick := true })) []
            else s.Leaves t s.dev []))) ∧
  (∀ (s : State) (ses : Nat) (c : Nat), s.Steady → c < 64 → s.MayWrite ses (Obj.chanAbort c) [1] →
         Answers (.chanAbort ses c) s (fun t =>
           t.Answered .ok [] ∧
           (if s.dev.chanState c ≠ 1 ∧ s.dev.chanState c ≠ 2 then s.Leaves t s.dev []
            else if (s.dev.chan c).cur = none then t.dev.chanState c = 3 ∧ t.dev.nat (Obj.chanLastStatus c) = stAborted ∧ bit (t.dev.nat (Obj.chanIrqCause c)) 2 = true ∧ (t.dev.chan c).fetching = false ∧ s.Leaves t { s.dev with host := { s.dev.host with chans := t.dev.host.chans } } [Obj.chanState c, Obj.chanLastStatus c, Obj.dmaHostErrors, Obj.chanIrqCause c, Obj.powerDrainMax, Obj.logSeq]
            else (t.dev.chan c).cur = (s.dev.chan c).cur ∧ (t.dev.chan c).stop = some ((s.dev.chan c).stop.getD stAborted) ∧ (∀ k : Nat, k < 64 → k ≠ c → t.dev.chan k = s.dev.chan k) ∧ s.Leaves t { s.dev with host := { s.dev.host with chans := t.dev.host.chans } } []))) ∧
  (∀ (s : State) (ses : Nat) (c : Nat) (x : Nat),
         s.Steady →
         c < 64 →
         x < 256 →
         s.MayWrite ses (Obj.chanIrqAck c) [BitVec.ofNat 8 x] →
         Answers (.chanIrqAck ses c x) s (fun t =>
           t.Answered .ok [] ∧ (∀ k : Nat, k < 8 → bit (t.dev.nat (Obj.chanIrqCause c)) k = (bit (s.dev.nat (Obj.chanIrqCause c)) k && ! bit x k)) ∧
           s.Leaves t s.dev [Obj.chanIrqCause c])) ∧
  (∀ (s : State) (ses : Nat) (c : Nat), s.Steady → c < 64 → s.MayWrite ses (Obj.eocAck c) [1] →
         Answers (.eocAck ses c) s (fun t =>
           t.Answered .ok [] ∧ t.dev.flag (Obj.eocFlag c) = false ∧ t.dev.nat (Obj.chanIrqCause c) = setBit (s.dev.nat (Obj.chanIrqCause c)) 3 false ∧
           s.Leaves t s.dev [Obj.eocFlag c, Obj.chanIrqCause c])) ∧
  (∀ (s : State) (c : Nat) (ok : Bool) (data : Bytes),
         s.Works pdHub →
         c < 64 →
         s.dev.chanState c ≠ 1 ∨ (s.dev.chan c).fetching = false ∨ (s.dev.chan c).drain ≠ [] →
         Answers (.descriptorFetch c ok data) s (fun t =>
           s.Leaves t s.dev [])) ∧
  (∀ (s : State) (c : Nat) (ok : Bool) (data : Bytes),
         s.Works pdHub →
         c < 64 →
         s.dev.chanState c = 1 →
         (s.dev.chan c).fetching = true →
         (s.dev.chan c).drain = [] →
         (s.dev.chan c).next.2 = false →
         s.dev.domOn pdPcie = true →
         s.dev.nat (Obj.paceEvent c) = 0 →
         Answers (.descriptorFetch c ok data) s (fun t =>
           let q := parseDesc (s.dev.chan c).next.1 false (data.take 64)
           t.dev.nat (Obj.chanCurDesc c) = (s.dev.chan c).next.1 ∧
           ((∀ k ∈ List.range 64, s.dev.nat (Obj.paceEvent k) ≠ 2) → ∀ k : Nat, k < 64 → k ≠ c → t.dev.chan k = s.dev.chan k) ∧
           (if ok = false ∨ data.length < 64 then t.dev.chanState c = 3 ∧ t.dev.nat (Obj.chanLastStatus c) = stHostError ∧
              t.dev.nat (Obj.chanDescDone c) = min (2 ^ 64 - 1) (s.dev.nat (Obj.chanDescDone c) + 1) ∧ t.dev.pos = s.dev.pos ∧ t.dev.ports = s.dev.ports ∧ t.dev.hbm = s.dev.hbm ∧ t.dev.tol = s.dev.tol ∧ t.pending = s.pending
            else if bit (leAt data 0 1) 0 = false then
              (if (s.dev.chan c).kick = true then t.dev.chanState c = 1 ∧ (t.dev.chan c).kick = false ∧ (t.dev.chan c).fetching = true
               else t.dev.chanState c = 2 ∧ (t.dev.chan c).fetching = false) ∧ s.Leaves t { s.dev with host := { s.dev.host with chans := t.dev.host.chans } } [Obj.chanCurDesc c, Obj.chanState c]
            else t.dev.chanState c = 1 ∧ (t.dev.chan c).cur = some q ∧ (t.dev.chan c).fetching = false ∧ (t.dev.chan c).inDone = 0 ∧ (t.dev.chan c).outDone = 0 ∧
              (q.badFormat = true → (t.dev.chan c).stop = some stFormat ∧ (t.dev.chan c).started = false) ∧
              (q.badFormat = false → q.uses true = false → (t.dev.chan c).stop = none ∧ (q.op = 0 → (t.dev.chan c).started = true)) ∧
              s.Leaves t { s.dev with host := t.dev.host } [Obj.chanCurDesc c]))) ∧
  (∀ (s : State) (c : Nat) (ok : Bool) (bad : Bool) (data : Bytes),
         s.Works pdHub →
         c < 64 →
         (s.dev.chan c).cur = none ∨ s.dev.chanState c ≠ 1 ∧ (s.dev.chan c).started = true ∨ (s.dev.chan c).stop.isSome = true →
         Answers (.burst c ok data bad) s (fun t =>
           s.Leaves t s.dev [])) ∧
  (∀ (s : State) (c : Nat) (bad : Bool) (data : Bytes) (q : Desc),
         s.Works pdHub →
         c < 64 →
         s.dev.chanState c = 1 →
         (s.dev.chan c).cur = some q →
         (s.dev.chan c).started = true →
         (s.dev.chan c).stop = none →
         (s.dev.chan c).drain = [] →
         q.op = 0 →
         s.dev.burstTurn c = true →
         q.srcHbm = false →
         q.dstHbm = false →
         q.pattern = 0 →
         q.rows = 1 →
         (s.dev.chan c).row = 0 →
         (s.dev.chan c).off < q.rowBytes →
         s.dev.nat (Obj.chanRateLimit c) = 0 →
         q.rowBytes ≤ (s.dev.chan c).off + data.length →
         Answers (.burst c true data bad) s (fun t =>
           let x := s.dev.chan c
           let dst := (q.dst % 2 ^ 64 + x.off) % 2 ^ 64
           let n := min (q.rowBytes - x.off) (256 - dst % 256)
           t.dev.out.head? = some (.hostWrite dst (data.take n)) ∧
           (t.dev.chan c).inDone = x.inDone + n ∧ (t.dev.chan c).outDone = x.outDone + n ∧ (t.dev.chan c).stop = (if x.off + n < q.rowBytes then none else some stOk) ∧
           (x.off + n < q.rowBytes → (t.dev.chan c).off = x.off + n) ∧
           t.dev.nat (Obj.chanBytes c) = min (2 ^ 64 - 1) (s.dev.nat (Obj.chanBytes c) + n) ∧ t.dev.nat Obj.dmaBytesTotal = min (2 ^ 64 - 1) (s.dev.nat Obj.dmaBytesTotal + n) ∧
           (∀ k : Nat, k < 64 → k ≠ c → t.dev.chan k = s.dev.chan k) ∧ s.Leaves t { s.dev with host := { s.dev.host with chans := t.dev.host.chans, turn := Tbl.put s.dev.host.turn (s.dev.nat (Obj.chanPriority c)) c } }
             [Obj.chanBytes c, Obj.dmaBytesTotal, Obj.chanIrqCause c])) ∧
  (∀ (s : State) (c : Nat) (bad : Bool) (data : Bytes) (q : Desc),
         s.Works pdHub →
         c < 64 →
         s.dev.chanState c = 1 →
         (s.dev.chan c).cur = some q →
         (s.dev.chan c).started = true →
         (s.dev.chan c).stop = none →
         (s.dev.chan c).drain = [] →
         q.op = 0 →
         s.dev.burstTurn c = true →
         (if q.pattern = 2 then (s.dev.chan c).table.any (fun l => match l with
             | e :: _ => decide (e.2.2 = 0 ∧ (s.dev.chan c).off < e.2.1)
             | [] => false) = true
           else (s.dev.chan c).row < q.rows ∧ (s.dev.chan c).off < q.rowBytes) →
         s.dev.nat (Obj.chanRateLimit c) = 0 →
         256 ≤ data.length →
         Memory.wf s.dev.hbm = true →
         Answers (.burst c true data bad) s (fun t =>
           let x := s.dev.chan c
           let entry := (x.table.getD []).headD (0, 0, 0)
           let at' (base : Nat) (stride : Int) : Nat := (((base : Int) + x.row * stride) % (2 ^ 64 : Nat)).toNat + x.off
           let src := (if q.pattern = 2 then (if q.idxDst = true then q.src + x.lin else entry.1 + x.off) else at' q.src q.srcStride) % 2 ^ 64
           let dst := (if q.pattern = 2 then (if q.idxDst = true then entry.1 + x.off else q.dst + x.lin) else at' q.dst q.dstStride) % 2 ^ 64
           let left := if q.pattern = 2 then entry.2.1 - x.off else q.rowBytes - x.off
           let n := min left (256 - dst % 256)
           let served := s.dev.updHost (fun h => { h with turn := Tbl.put h.turn (s.dev.nat (Obj.chanPriority c)) c })
           if q.srcHbm = true ∧ s.dev.inRegion src n = false then s.Leaves t (served.stopChan c stProtection) []
           else if q.srcHbm = true ∧ (bad = true ∨ s.dev.hbmBad src n = true) then s.Leaves t (served.stopChan c stMemoryError) []
           else if q.dstHbm = true ∧ s.dev.dmaWritable dst n = false then s.Leaves t (served.stopChan c stProtection) []
           else
             let bs := if q.srcHbm = true then s.dev.hbmSeen src n else data.take n
             (q.dstHbm = false → t.dev.out.head? = some (.hostWrite dst bs) ∧ t.dev.hbm = s.dev.hbm) ∧
             (q.dstHbm = true → Memory.wf t.dev.hbm = true ∧
               ((blocksOf dst n).all (fun k => ! s.dev.blockLost (256 * k)) = true → Tbl.getBytes 0 t.dev.hbm dst n = bs) ∧
               t.dev.hbm.filter (fun e => e.1 < dst || dst + n ≤ e.1) = s.dev.hbm.filter (fun e => e.1 < dst || dst + n ≤ e.1) ∧
               (dst / 2 ^ 36 = 1 → t.dev.bankValid (dst % 2 ^ 36 / 524288 / 4) (dst % 2 ^ 36 / 524288 % 4) = false) ∧
               (let p := s.dev.translate (dst / 64 * 64)
                p.1 < 64 → p.2.1 < pcBytes → (t.dev.pc p.1).queue.any (fun k =>
                  decide (k.port = 10 ∧ k.offset = p.2.1 ∧ k.arrival = s.dev.now) && k.write) = true)) ∧
             (q.srcHbm = true →
               (let p := s.dev.translate (src / 64 * 64)
                p.1 < 64 → p.2.1 < pcBytes → (t.dev.pc p.1).queue.any (fun k =>
                  decide (k.port = 10 ∧ k.offset = p.2.1 ∧ k.arrival = s.dev.now) && ! k.write) = true)) ∧
             (∀ m : Nat, m < 64 → t.dev.pc m = { s.dev.pc m with queue := (t.dev.pc m).queue } ∧
               (t.dev.pc m).queue.take (s.dev.pc m).queue.length = (s.dev.pc m).queue) ∧
             (t.dev.chan c).inDone = x.inDone + n ∧ (t.dev.chan c).outDone = x.outDone + n ∧
             (q.pattern ≠ 2 → (t.dev.chan c).row = (if n < left then x.row else x.row + 1) ∧ (t.dev.chan c).off = (if n < left then x.off + n else 0) ∧
               (t.dev.chan c).stop = (if n < left ∨ x.row + 1 < q.rows then none else some stOk)) ∧
             (q.pattern = 2 → (t.dev.chan c).lin = x.lin + n ∧ (t.dev.chan c).off = (if n < left then x.off + n else 0) ∧
               (n < left → (t.dev.chan c).stop = none)) ∧
             t.dev.nat (Obj.chanBytes c) = min (2 ^ 64 - 1) (s.dev.nat (Obj.chanBytes c) + n) ∧
             t.dev.nat Obj.dmaBytesTotal = min (2 ^ 64 - 1) (s.dev.nat Obj.dmaBytesTotal + n) ∧
             (∀ k : Nat, k < 64 → k ≠ c → t.dev.chan k = s.dev.chan k) ∧
             s.Leaves t { served with
               host := { served.host with chans := t.dev.host.chans }, hbm := t.dev.hbm,
               mem := { s.dev.mem with pcs := t.dev.mem.pcs, bad := t.dev.mem.bad, written := t.dev.mem.written } }
               ([Obj.chanBytes c, Obj.dmaBytesTotal, Obj.chanIrqCause c] ++ (List.range 24).map Obj.tableValid))) ∧
  (∀ (s : State) (c : Nat) (data : Bytes) (q : Desc),
         s.Works pdHub →
         c < 64 →
         s.dev.chanState c = 1 →
         (s.dev.chan c).cur = some q →
         (s.dev.chan c).started = true →
         (s.dev.chan c).stop = none →
         (s.dev.chan c).drain = [] →
         q.op = 1 →
         s.dev.burstTurn c = true →
         q.engine < 4 →
         q.srcHbm = false →
         q.dstHbm = false →
         q.pattern = 0 →
         q.rows = 1 →
         (s.dev.chan c).row = 0 →
         (s.dev.chan c).off < q.rowBytes →
         s.dev.nat (Obj.chanRateLimit c) = 0 →
         0 < (s.dev.chan c).blockSize →
         q.rowBytes ≤ (s.dev.chan c).off + data.length →
         Answers (.compressBlock c data) s (fun t =>
           let x := s.dev.chan c
           let n := min x.blockSize (q.rowBytes - x.off)
           let b := Sys2Proof.Machine.compressBlock (q.endStream && decide (q.rowBytes ≤ x.off + n)) (data.take n)
           if q.outLimit < x.outDone + b.2.length then (t.dev.chan c).stop = some stOutputLimit ∧ s.Leaves t { s.dev with host := { s.dev.host with chans := t.dev.host.chans, turn := Tbl.put s.dev.host.turn (s.dev.nat (Obj.chanPriority c)) c } }
               []
           else ((t.dev.out.filterMap (fun o => match o with | .hostWrite _ x => some x | _ => none)).flatten) = b.2 ∧ (t.dev.chan c).inDone = x.inDone + n ∧ (t.dev.chan c).outDone = x.outDone + b.2.length ∧
             (t.dev.chan c).stop = (if x.off + n < q.rowBytes then none else some stOk) ∧
             t.dev.nat (Obj.chanBytes c) = min (2 ^ 64 - 1) (s.dev.nat (Obj.chanBytes c) + b.2.length) ∧
             t.dev.nat (Obj.cmpBytesIn q.engine) = min (2 ^ 64 - 1) (s.dev.nat (Obj.cmpBytesIn q.engine) + n) ∧ (∀ k : Nat, k < 64 → k ≠ c → t.dev.chan k = s.dev.chan k) ∧
             s.Leaves t { s.dev with host := { s.dev.host with chans := t.dev.host.chans, turn := Tbl.put s.dev.host.turn (s.dev.nat (Obj.chanPriority c)) c } }
               [Obj.chanBytes c, Obj.dmaBytesTotal, Obj.chanIrqCause c, Obj.cmpBytesIn q.engine, Obj.cmpBytesOut q.engine, Obj.cmpBlocksStored q.engine, Obj.cmpBlocksRun q.engine])) ∧
  (∀ (s : State) (c : Nat) (data : Bytes) (q : Desc) (e : Nat),
         s.Works pdHub →
         c < 64 →
         s.dev.chanState c = 1 →
         (s.dev.chan c).cur = some q →
         (s.dev.chan c).started = true →
         (s.dev.chan c).stop = none →
         (s.dev.chan c).drain = [] →
         q.op = 2 →
         s.dev.burstTurn c = true →
         q.srcHbm = false →
         (s.dev.chan c).inDone + 16 ≤ q.rowBytes →
         q.rowBytes ≤ (s.dev.chan c).inDone + data.length →
         qpkHead (data.take 16) = .error e →
         Answers (.decompressBlock c data) s (fun t =>
           (t.dev.chan c).stop = some (inputError e) ∧ s.Leaves t (s.dev.stopChan c (inputError e)) [])) ∧
  (∀ (s : State) (c : Nat) (data : Bytes) (q : Desc) (h : QpkHead),
         s.Works pdHub →
         c < 64 →
         s.dev.chanState c = 1 →
         (s.dev.chan c).cur = some q →
         (s.dev.chan c).started = true →
         (s.dev.chan c).stop = none →
         (s.dev.chan c).drain = [] →
         q.op = 2 →
         s.dev.burstTurn c = true →
         q.engine < 4 →
         q.srcHbm = false →
         q.dstHbm = false →
         (s.dev.chan c).inDone + 16 ≤ q.rowBytes →
         s.dev.nat (Obj.chanRateLimit c) = 0 →
         q.rowBytes ≤ (s.dev.chan c).inDone + data.length →
         qpkHead (data.take 16) = .ok h →
         Answers (.decompressBlock c data) s (fun t =>
           let x := s.dev.chan c
           let r := decodePayload h ((data.drop 16).take h.len)
           if q.outLimit < x.outDone + h.orig then (t.dev.chan c).stop = some stOutputLimit ∧ s.Leaves t { s.dev with host := { s.dev.host with chans := t.dev.host.chans } } []
           else if q.rowBytes - x.inDone < 16 + h.len then (t.dev.chan c).stop = some (inputError 11) ∧ s.Leaves t { s.dev with host := { s.dev.host with chans := t.dev.host.chans } } []
           else
             ((t.dev.out.filterMap (fun o => match o with | .hostWrite _ x => some x | _ => none)).flatten) = r.1 ∧
             (if r.2 = none then (t.dev.chan c).inDone = x.inDone + (16 + h.len) ∧ (t.dev.chan c).outDone = x.outDone + h.orig ∧
                  (16 + h.len < q.rowBytes - x.inDone → (t.dev.chan c).stop = none) ∧ (t.dev.chan c).lastBlock = h.last
              else (t.dev.chan c).stop = r.2.map inputError) ∧ (∀ k : Nat, k < 64 → k ≠ c → t.dev.chan k = s.dev.chan k) ∧
             s.Leaves t { s.dev with host := { s.dev.host with chans := t.dev.host.chans, turn := Tbl.put s.dev.host.turn (s.dev.nat (Obj.chanPriority c)) c } }
               [Obj.chanBytes c, Obj.dmaBytesTotal, Obj.chanIrqCause c, Obj.dcmBytesIn q.engine, Obj.dcmBytesOut q.engine])) ∧
  (∀ (s : State) (c : Nat) (ok : Bool), s.Works pdHub → c < 64 → (s.dev.chan c).cur = none ∨ (s.dev.chan c).stop = none →
         Answers (.descriptorEnd c ok) s (fun t =>
           s.Leaves t s.dev [])) ∧
  (∀ (s : State) (c : Nat) (status : Nat) (q : Desc),
         s.Works pdHub →
         c < 64 →
         (s.dev.chan c).cur = some q →
         (s.dev.chan c).stop = some status →
         q.hbm = false →
         q.engine < 4 →
         s.dev.domOn pdPcie = true →
         s.dev.flag (Obj.eocMode c) = false →
         (∀ k ∈ List.range 64, s.dev.nat (Obj.paceEvent k) ≠ 2) →
         (∀ k ∈ List.range 64, k ≠ c → (s.dev.chan k).cur = none ∨ (s.dev.chan k).started = true) →
         Answers (.descriptorEnd c true) s (fun t =>
           let x := s.dev.chan c
           t.dev.out.head? = some (.hostWrite q.addr (q.writeBack status x.inDone x.outDone)) ∧
           t.dev.nat (Obj.chanDescDone c) = min (2 ^ 64 - 1) (s.dev.nat (Obj.chanDescDone c) + 1) ∧ t.dev.nat (Obj.chanLastStatus c) = status ∧
           (t.dev.chan c).cur = none ∧ (t.dev.chan c).stop = none ∧ t.dev.host.engines = s.dev.host.engines.map (fun e => if e = some c then none else e) ∧
           (if status ≠ stOk then t.dev.chanState c = 3 ∧ bit (t.dev.nat (Obj.chanIrqCause c)) 2 = true
            else (if x.drain ≠ [] then t.dev.chanState c = 3 ∧ (t.dev.chan c).drain = [] ∧ (t.dev.chan c).fetching = false else if q.last = true then t.dev.chanState c = 4 else if x.abort = true then t.dev.chanState c = 3
              else t.dev.chanState c = s.dev.chanState c ∧ (t.dev.chan c).fetching = true ∧ (t.dev.chan c).next = (q.next, q.nextHbm)) ∧
              (q.irqFull = true → bit (t.dev.nat (Obj.chanIrqCause c)) 1 = true)) ∧
           (q.irqHalf = true → x.halfDue = true → bit (t.dev.nat (Obj.chanIrqCause c)) 0 = true) ∧
           (∀ k : Nat, k < 64 → k ≠ c → t.dev.chan k = s.dev.chan k) ∧ t.dev.pos = s.dev.pos ∧ t.dev.ports = s.dev.ports ∧ t.dev.hbm = s.dev.hbm ∧ t.dev.tol = s.dev.tol ∧ t.pending = s.pending)) ∧
  (∀ (s : State) (c : Nat) (q : Desc),
         s.Works pdHub →
         c < 64 →
         (s.dev.chan c).cur = some q →
         (s.dev.chan c).stop = some stOk →
         q.hbm = false →
         s.dev.domOn pdPcie = true →
         s.dev.flag (Obj.eocMode c) = true →
         1 ≤ s.dev.nat (Obj.eocRemaining c) →
         (s.dev.chan c).drain = [] →
         (s.dev.chan c).abort = false →
         (∀ k ∈ List.range 64, s.dev.nat (Obj.paceEvent k) ≠ 2) →
         s.dev.host.engines.contains (some c) = false →
         Answers (.descriptorEnd c true) s (fun t =>
           let ends := decide (s.dev.nat (Obj.eocRemaining c) = 1)
           t.dev.nat (Obj.eocRemaining c) = s.dev.nat (Obj.eocRemaining c) - 1 ∧
           t.dev.flag (Obj.eocFlag c) = (s.dev.flag (Obj.eocFlag c) || ends) ∧
           t.dev.nat (Obj.chanIrqCause c) = (s.dev.nat (Obj.chanIrqCause c) ||| (if ends = true then 8 else 0)) ∧
           t.dev.nat (Obj.chanDescDone c) = min (2 ^ 64 - 1) (s.dev.nat (Obj.chanDescDone c) + 1) ∧ t.dev.nat (Obj.chanLastStatus c) = stOk ∧
           t.dev.chanState c = (if ends = true ∨ q.last = true then 4 else s.dev.chanState c) ∧
           (t.dev.chan c).fetching = (! ends && ! q.last) ∧ (t.dev.chan c).cur = none ∧ (t.dev.chan c).next = (q.next, q.nextHbm) ∧
           (∀ k : Nat, k < 64 → k ≠ c → t.dev.chan k = s.dev.chan k) ∧
           s.Leaves t { s.dev with host := { s.dev.host with chans := t.dev.host.chans } }
             [Obj.eocRemaining c, Obj.eocFlag c, Obj.chanIrqCause c, Obj.chanDescDone c, Obj.chanLastStatus c, Obj.chanState c, Obj.logSeq])) ∧
  (∀ (s : State) (c : Nat), s.Works pdHub → c < 64 → (s.dev.chan c).cur = none →
         Answers (.paceEvent c) s (fun t =>
           if s.dev.nat (Obj.paceEvent c) = 0 then s.Leaves t s.dev []
           else if 255 ≤ s.dev.nat (Obj.eventCredit c) then
             t.dev.nat (Obj.eventsLost c) = min (2 ^ 32 - 1) (s.dev.nat (Obj.eventsLost c) + 1) ∧ s.Leaves t s.dev [Obj.eventsLost c, Obj.logSeq]
           else t.dev.nat (Obj.eventCredit c) = s.dev.nat (Obj.eventCredit c) + 1 ∧ s.Leaves t s.dev [Obj.eventCredit c])) ∧
  (∀ (s : State) (c : Nat), s.Works pdHub → c < 64 → (s.dev.chan c).cur = none → s.dev.nat (Obj.eventCredit c) < 255 →
         Answers (.paceTimerTick c) s (fun t =>
           if s.dev.nat (Obj.paceEvent c) ≠ 1 ∨ (s.dev.chanState c ≠ 1 ∧ s.dev.chanState c ≠ 2) ∨ s.dev.now < (s.dev.chan c).startAt + ((s.dev.chan c).ticks + 1) * s.dev.nat (Obj.paceArg c) * 1000 then s.Leaves t s.dev []
           else t.dev.nat (Obj.eventCredit c) = s.dev.nat (Obj.eventCredit c) + 1 ∧ s.Leaves t (s.dev.updChan c (fun x => { x with ticks := x.ticks + 1 })) [Obj.eventCredit c])) ∧
  (∀ (s : State) (k : Nat),
         s.Works pdHub →
         k < 11 →
         (∀ c ∈ List.range 64, s.dev.nat (Obj.paceEvent c) ≠ 2) →
         (∀ c ∈ List.range 64, (s.dev.chan c).cur = none ∨ (s.dev.chan c).started = true ∨ (s.dev.chan c).drain ≠ []) →
         Answers (.powerDrainTimeout k) s (fun t =>
           (∀ c : Nat, c < 64 →
             (if (s.dev.chan c).drain.any (fun e => e.1 == k && decide (e.2 + 100000 ≤ s.dev.now)) = true then
                t.dev.chanState c = 3 ∧ t.dev.nat (Obj.chanLastStatus c) = stHostError ∧ (t.dev.chan c).drain = [] ∧ (t.dev.chan c).cur = none ∧
                  t.dev.nat (Obj.chanDescDone c) = min (2 ^ 64 - 1) (s.dev.nat (Obj.chanDescDone c) + 1)
              else t.dev.chan c = s.dev.chan c ∧ t.dev.chanState c = s.dev.chanState c)) ∧ t.dev.pos = s.dev.pos ∧ t.dev.ports = s.dev.ports ∧
           ((∀ c ∈ List.range 64, ∀ q ∈ (s.dev.chan c).cur, q.hbm = false) → t.dev.hbm = s.dev.hbm) ∧ t.dev.tol = s.dev.tol ∧ t.pending = s.pending))

/-- PCI Express (R390 to R399) and the two-wire buses (R400 to R407). The model's choices: a doorbell while TOL is not yet served is counted
as an overrun (log entry 75); a frame is taken at once, a write to the buffer while H2dBusy is 1 counts nothing, low bits of RingBase and
TailAddr are ignored, a read of a bad block gives no data, TwcOp with TwcEnable clear answers STATE, and what TwcBytesDone and TwtCommits
count (log entry 57). -/
def Obligations.TheHostAndBoardBusesDoAsTold : Prop :=
  (∀ (s : State) (n : Nat) (frame : Bytes), s.Works pdPcie → n < 16 ∨ 4096 < n ∨ s.dev.mbxReady = false ∨ s.dev.host.mbx.h2dBusy = true →
         Answers (.mbxH2dLength n frame) s (fun t =>
           t.dev.nat Obj.mbxOverruns = min (2 ^ 32 - 1) (s.dev.nat Obj.mbxOverruns + 1) ∧
             (s.dev.host.mbx.h2dBusy = true → t.dev.host.mbx.h2dBuf = s.dev.host.mbx.h2dBuf) ∧
             s.Leaves t { s.dev with host := { s.dev.host with mbx := { s.dev.host.mbx with h2dBuf := t.dev.host.mbx.h2dBuf } } } [Obj.mbxOverruns, Obj.logSeq])) ∧
  (∀ (s : State) (n : Nat) (frame : Bytes) (slot : Nat) (x : Session) (f : TolFrame),
         s.Works pdPcie →
         16 ≤ n →
         n ≤ 4096 →
         n ≤ frame.length →
         s.dev.host.mbx.h2dBusy = false →
         s.dev.mbxReady = true →
         (s.dev.sessionFrame 0 (frame.take n)).2 = some (slot, x, f) →
         f.kind = 6 →
         (∀ k : Nat, k < 512 → s.dev.nat (Obj.stallOwner k) ≠ x.id) →
         Answers (.mbxH2dLength n frame) s (fun t =>
           t.dev.host.mbx.h2dBusy = false ∧
             s.Leaves t { s.dev with
               tol := { s.dev.tol with sessions := Tbl.del s.dev.tol.sessions slot }
               host := { s.dev.host with mbx := { s.dev.host.mbx with h2dBuf := t.dev.host.mbx.h2dBuf } } } [])) ∧
  (∀ (s : State), s.Works pdPcie →
         Answers (.mbxD2hAck) s (fun t =>
           t.dev.host.mbx.d2h = s.dev.host.mbx.waiting.head? ∧ t.dev.host.mbx.waiting = s.dev.host.mbx.waiting.drop 1 ∧
           t.dev.out.head? = s.dev.host.mbx.waiting.head?.map (fun f => .tol 0 none f) ∧ s.Leaves t { s.dev with host := { s.dev.host with mbx := t.dev.host.mbx } } [])) ∧
  (∀ (s : State) (r : Nat) (off : Nat) (v : Nat),
         s.Works pdPcie →
         r < 64 →
         (s.dev.ring r).enabled = false →
         v < 2 ^ 32 →
         off ≠ 16 →
         off ≠ 24 →
         Answers (.ringCtl r off (.w32 v)) s (fun t =>
           let x := s.dev.ring r
           if off % 4 ≠ 0 ∨ 64 ≤ off then t.dev.nat Obj.pcieBadAccess = min (2 ^ 32 - 1) (s.dev.nat Obj.pcieBadAccess + 1) ∧ s.Leaves t s.dev [Obj.pcieBadAccess]
           else if off = 0 then s.Leaves t (s.dev.updRing r (fun _ => { x with base := (x.base / 2 ^ 32 * 2 ^ 32 + v) / 4096 * 4096 })) []
           else if off = 4 then s.Leaves t (s.dev.updRing r (fun _ => { x with base := (v * 2 ^ 32 + x.base % 2 ^ 32) / 4096 * 4096 })) []
           else if off = 8 then s.Leaves t (s.dev.updRing r (fun _ => { x with tailAddr := (x.tailAddr / 2 ^ 32 * 2 ^ 32 + v) / 4 * 4 })) []
           else if off = 12 then s.Leaves t (s.dev.updRing r (fun _ => { x with tailAddr := (v * 2 ^ 32 + x.tailAddr % 2 ^ 32) / 4 * 4 })) []
           else s.Leaves t s.dev [])) ∧
  (∀ (s : State) (r : Nat) (off : Nat) (v : Nat),
         s.Works pdPcie →
         r < 64 →
         s.dev.pub.restore = [] →
         (s.dev.ring r).enabled = false →
         v < 2 ^ 64 →
         off = 0 ∨ off = 8 ∨ off = 16 →
         Answers (.ringCtl r off (.w64 v)) s (fun t =>
           let c := v % 2 ^ 32
           if off = 0 then s.Leaves t (s.dev.updRing r (fun x => { x with base := v / 4096 * 4096 })) []
           else if off = 8 then s.Leaves t (s.dev.updRing r (fun x => { x with tailAddr := v / 4 * 4 })) []
           else if bit c 7 = false ∧ field c 10 6 = 0 ∧ c < 2 ^ 24 ∧ field c 0 4 ≤ 13 ∧ field c 4 3 ≤ 6 then
             s.Leaves t (s.dev.updRing r (fun x => { x with ctl := c, head := if bit c 8 = true then 0 else x.head, tail := if bit c 8 = true then 0 else x.tail })) []
           else t.dev.nat Obj.pcieBadAccess = min (2 ^ 32 - 1) (s.dev.nat Obj.pcieBadAccess + 1) ∧ s.Leaves t s.dev [Obj.pcieBadAccess])) ∧
  (∀ (s : State) (r : Nat) (v : Nat), s.Works pdPcie → r < 64 → v < 2 ^ 32 →
         Answers (.ringHead r v) s (fun t =>
           if (s.dev.ring r).slots < subMod (2 ^ 32) (s.dev.ring r).tail v then t.dev.nat Obj.pcieBadAccess = min (2 ^ 32 - 1) (s.dev.nat Obj.pcieBadAccess + 1) ∧ s.Leaves t s.dev [Obj.pcieBadAccess]
           else s.Leaves t (s.dev.updRing r (fun x => { x with head := v })) [])) ∧
  (∀ (s : State) (v : Nat), s.Works pdPcie → v < 256 → s.dev.msix.enabled = true → s.dev.msix.fmask = false →
         Answers (.msixUnmask (.vector v false)) s (fun t =>
           let e := Tbl.get s.dev.msix.table v (0, 0)
           bit t.dev.msix.masked v = false ∧ (if bit s.dev.msix.pending v = true then t.dev.out = [.msix v e.1 e.2] ∧ bit t.dev.msix.pending v = false else t.dev.out = [] ∧ t.dev.msix.pending = s.dev.msix.pending) ∧ s.Leaves t s.dev [])) ∧
  (∀ (s : State) (a : Nat) (data : Bytes) (n : Nat) (c : Nat),
         s.Works pdPcie →
         s.dev.domOn 7 = true →
         s.dev.domOn 8 = true →
         s.dev.mem.fences = [] →
         s.dev.hbmBad (6 * 2 ^ 36 + a) n = false →
         0 < n →
         Answers (.bar2Access a false data { length := n, corrected := c }) s (fun t =>
           t.dev.nat Obj.aerCorrectable = min (2 ^ 32 - 1) (s.dev.nat Obj.aerCorrectable + c) ∧
           if s.dev.regionBytes 6 < a + n then t.dev.out = [.bar (List.replicate n 0xFF)] ∧ t.dev.nat Obj.pcieWinMisses = min (2 ^ 32 - 1) (s.dev.nat Obj.pcieWinMisses + 1) ∧ s.Leaves t s.dev [Obj.pcieWinMisses, Obj.aerCorrectable]
           else t.dev.out = [.bar (Tbl.getBytes 0 s.dev.hbm (6 * 2 ^ 36 + a) n)] ∧ s.Leaves t { s.dev with mem := { s.dev.mem with pcs := t.dev.mem.pcs } } [Obj.aerCorrectable])) ∧
  (∀ (s : State) (a : Nat) (data : Bytes), s.Works pdPcie → s.dev.domOn 7 = true → s.dev.domOn 8 = true → s.dev.mem.fences = [] →
         a + data.length ≤ s.dev.regionBytes 6 →
         Answers (.bar2Access a true data { length := 0, corrected := 0 }) s (fun t =>
           (∀ i : Nat, i < data.length → Tbl.get t.dev.hbm (6 * 2 ^ 36 + a + i) 0 = data.getD i 0) ∧
           (∀ x : Nat, x < 6 * 2 ^ 36 + a ∨ 6 * 2 ^ 36 + a + data.length ≤ x → Tbl.get t.dev.hbm x 0 = Tbl.get s.dev.hbm x 0) ∧
           (Tbl.byteWf 0 s.dev.hbm = true → Tbl.byteWf 0 t.dev.hbm = true) ∧
           s.Leaves t { s.dev with
             hbm := t.dev.hbm
             mem := { s.dev.mem with
               pcs := t.dev.mem.pcs
               bad := s.dev.mem.bad.filter (fun b => ! (blocksOf (6 * 2 ^ 36 + a) data.length).contains b) } } [])) ∧
  (∀ (s : State) (a : Nat) (n : Nat) (data : Bytes), s.Works pdPcie → s.dev.domOn 7 = true → s.dev.domOn 8 = true → 0 < n →
         a + n ≤ s.dev.regionBytes 6 → s.dev.mem.fences = [] → s.dev.hbmBad (6 * 2 ^ 36 + a) n = true →
         Answers (.bar2Access a false data { length := n, corrected := 0 }) s (fun t =>
           t.dev.out = [.bar []] ∧ s.Leaves t { s.dev with mem := { s.dev.mem with pcs := t.dev.mem.pcs } } [])) ∧
  (∀ (s : State) (a : Nat) (n : Nat), s.Works pdPcie →
         Answers (.bar0BadAccess a (.read n)) s (fun t =>
           if bar0Bad a n = false then t.dev.out = [.bar ((List.range n).map (fun i => s.dev.bar0Byte (a + i)))] ∧ s.Leaves t s.dev []
           else t.dev.out = [.bar (List.replicate n 0xFF)] ∧ t.dev.nat Obj.pcieBadAccess = min (2 ^ 32 - 1) (s.dev.nat Obj.pcieBadAccess + 1) ∧ s.Leaves t s.dev [Obj.pcieBadAccess])) ∧
  (∀ (s : State) (a : Nat) (bs : Bytes), s.Works pdPcie → bar0Bad a bs.length = true ∨ (4096 ≤ a ∧ a < 8192 ∧ s.dev.host.mbx.h2dBusy = true) →
         Answers (.bar0BadAccess a (.write bs)) s (fun t =>
           t.dev.out = [] ∧ (if bar0Bad a bs.length = true then t.dev.nat Obj.pcieBadAccess = min (2 ^ 32 - 1) (s.dev.nat Obj.pcieBadAccess + 1) ∧ s.Leaves t s.dev [Obj.pcieBadAccess]
             else s.Leaves t s.dev []))) ∧
  (∀ (s : State), s.Works pdPcie →
         Answers (.functionLevelReset) s (fun t =>
           t.dev.nat Obj.flrCount = min (2 ^ 32 - 1) (s.dev.nat Obj.flrCount + 1) ∧ t.dev.host.mbx = Mailbox.reset ∧ (∀ r : Nat, r < 64 → (t.dev.ring r).enabled = false) ∧ (t.dev.tol.sessions.all (fun e => e.2.transport != 0)) = true ∧
             t.dev.pos = s.dev.pos ∧ t.dev.ports = s.dev.ports ∧ t.dev.stitch = s.dev.stitch ∧ t.dev.eng = s.dev.eng ∧ t.dev.cls = s.dev.cls ∧ t.pending = s.pending)) ∧
  (∀ (s : State) (low : Bool), s.Works pdPcie →
         Answers (.pciePerst low) s (fun t =>
           if low = false then s.Leaves t s.dev []
           else t.dev.nat Obj.pcieSpeed = 0 ∧ t.dev.nat Obj.flrCount = s.dev.nat Obj.flrCount ∧ t.dev.host.mbx = Mailbox.reset ∧ (∀ r : Nat, r < 64 → (t.dev.ring r).enabled = false) ∧ (t.dev.tol.sessions.all (fun e => e.2.transport != 0)) = true ∧
             t.dev.pos = s.dev.pos ∧ t.dev.ports = s.dev.ports ∧ t.dev.stitch = s.dev.stitch ∧ t.dev.eng = s.dev.eng ∧ t.dev.cls = s.dev.cls ∧ t.pending = s.pending)) ∧
  (∀ (s : State) (sp : Nat) (w : Nat), s.Works pdPcie →
         Answers (.pcieLinkUpDown sp w) s (fun t =>
           let up : Bool := decide (1 ≤ sp ∧ sp ≤ s.dev.nat Obj.pcieMaxSpeed) && [1, 2, 4, 8, 16].contains w
           t.dev.nat Obj.pcieSpeed = (if up = true then sp else 0) ∧ t.dev.nat Obj.pcieWidth = (if up = true then w else 0) ∧ s.Leaves t s.dev [Obj.pcieSpeed, Obj.pcieWidth, Obj.logSeq])) ∧
  (∀ (s : State), s.Works pdPcie →
         Answers (.aerUncorrectableError) s (fun t =>
           t.dev.nat Obj.aerUncorrectable = min (2 ^ 32 - 1) (s.dev.nat Obj.aerUncorrectable + 1) ∧ s.Leaves t s.dev [Obj.aerUncorrectable, Obj.logSeq])) ∧
  (∀ (s : State) (ses : Nat) (k : Nat) (bus : Option BusReply),
         s.Steady →
         k < 2 →
         s.MayWrite ses (Obj.twcOp k) [1] →
         bus = none →
         Answers (.twcWrite ses k bus) s (fun t =>
           if s.dev.nat (Obj.twcStatus k) = 1 then t.Answered .busy [] ∧ s.Leaves t s.dev []
           else if s.dev.flag (Obj.twcEnable k) = false then t.Answered .state [] ∧ s.Leaves t s.dev []
           else t.Answered .ok [] ∧ t.dev.nat (Obj.twcStatus k) = 1 ∧ t.dev.out = [] ∧
             s.Leaves t (s.dev.setTwc k (some { op := 1, addr := s.dev.nat (Obj.twcAddr k), tx := s.dev.bytes (Obj.twcTxData k), rxLen := s.dev.nat (Obj.twcRxLen k), retries := s.dev.nat (Obj.twcRetries k) })) [Obj.twcStatus k])) ∧
  (∀ (s : State) (ses : Nat) (k : Nat) (bus : Option BusReply) (r : BusReply),
         s.Steady →
         k < 2 →
         s.MayWrite ses (Obj.twcOp k) [1] →
         (some r : Option BusReply) = bus →
         r.loss = none →
         s.dev.flag (Obj.twcEnable k) = true →
         s.dev.nat (Obj.twcStatus k) ≠ 1 →
         Answers (.twcWrite ses k bus) s (fun t =>
           t.dev.out = [.twoWire k 1 (s.dev.nat (Obj.twcAddr k)) (s.dev.bytes (Obj.twcTxData k)) (s.dev.nat (Obj.twcRxLen k))] ∧
           (if r.addrAck = false then t.dev.nat (Obj.twcStatus k) = 2 ∧ t.dev.nat (Obj.twcBytesDone k) = 0
            else if r.dataAcks < (s.dev.bytes (Obj.twcTxData k)).length then t.dev.nat (Obj.twcStatus k) = 3 ∧ t.dev.nat (Obj.twcBytesDone k) = r.dataAcks
            else t.dev.nat (Obj.twcStatus k) = 0 ∧ t.dev.nat (Obj.twcBytesDone k) = (s.dev.bytes (Obj.twcTxData k)).length) ∧ s.Leaves t (s.dev.setTwc k none) [Obj.twcStatus k, Obj.twcBytesDone k, Obj.twcRxData k, Obj.twcArbLost k, Obj.twcLossDetail k, Obj.logSeq])) ∧
  (∀ (s : State) (ses : Nat) (k : Nat) (bus : Option BusReply) (r : BusReply),
         s.Steady →
         k < 2 →
         s.MayWrite ses (Obj.twcOp k) [2] →
         (some r : Option BusReply) = bus →
         r.loss = none →
         s.dev.flag (Obj.twcEnable k) = true →
         s.dev.nat (Obj.twcStatus k) ≠ 1 →
         r.addrAck = true →
         Answers (.twcRead ses k bus) s (fun t =>
           t.dev.out = [.twoWire k 2 (s.dev.nat (Obj.twcAddr k)) (s.dev.bytes (Obj.twcTxData k)) (s.dev.nat (Obj.twcRxLen k))] ∧ t.dev.nat (Obj.twcStatus k) = 0 ∧ t.dev.nat (Obj.twcBytesDone k) = s.dev.nat (Obj.twcRxLen k) ∧
           t.dev.bytes (Obj.twcRxData k) = ((r.rx ++ List.replicate (s.dev.nat (Obj.twcRxLen k)) 0xFF).take (s.dev.nat (Obj.twcRxLen k))) ∧ s.Leaves t (s.dev.setTwc k none) [Obj.twcStatus k, Obj.twcBytesDone k, Obj.twcRxData k, Obj.twcArbLost k, Obj.twcLossDetail k, Obj.logSeq])) ∧
  (∀ (s : State) (ses : Nat) (k : Nat) (bus : Option BusReply) (r : BusReply),
         s.Steady →
         k < 2 →
         s.MayWrite ses (Obj.twcOp k) [3] →
         (some r : Option BusReply) = bus →
         r.loss = none →
         s.dev.flag (Obj.twcEnable k) = true →
         s.dev.nat (Obj.twcStatus k) ≠ 1 →
         r.addrAck = true →
         r.readAck = true →
         (s.dev.bytes (Obj.twcTxData k)).length ≤ r.dataAcks →
         Answers (.twcWriteRead ses k bus) s (fun t =>
           t.dev.out = [.twoWire k 3 (s.dev.nat (Obj.twcAddr k)) (s.dev.bytes (Obj.twcTxData k)) (s.dev.nat (Obj.twcRxLen k))] ∧ t.dev.nat (Obj.twcStatus k) = 0 ∧ t.dev.nat (Obj.twcBytesDone k) = (s.dev.bytes (Obj.twcTxData k)).length + s.dev.nat (Obj.twcRxLen k) ∧
           t.dev.bytes (Obj.twcRxData k) = ((r.rx ++ List.replicate (s.dev.nat (Obj.twcRxLen k)) 0xFF).take (s.dev.nat (Obj.twcRxLen k))) ∧ s.Leaves t (s.dev.setTwc k none) [Obj.twcStatus k, Obj.twcBytesDone k, Obj.twcRxData k, Obj.twcArbLost k, Obj.twcLossDetail k, Obj.logSeq])) ∧
  (∀ (s : State) (k : Nat) (x : TwcTx) (r : BusReply),
         s.Works pdHub →
         k < 2 →
         s.dev.twc k = some x →
         x.op = 1 →
         s.dev.flag (Obj.twcEnable k) = true →
         r.loss = none →
         r.addrAck = true →
         x.tx.length ≤ r.dataAcks →
         Answers (.busFree k r) s (fun t =>
           t.dev.out = [.twoWire k 1 x.addr x.tx x.rxLen] ∧ t.dev.nat (Obj.twcStatus k) = 0 ∧ t.dev.nat (Obj.twcBytesDone k) = x.tx.length ∧ s.Leaves t (s.dev.setTwc k none) [Obj.twcStatus k, Obj.twcBytesDone k, Obj.twcRxData k, Obj.twcArbLost k, Obj.twcLossDetail k, Obj.logSeq])) ∧
  (∀ (s : State) (k : Nat) (r : BusReply), s.Works pdHub → k < 2 → s.dev.twc k = none ∨ s.dev.flag (Obj.twcEnable k) = false →
         Answers (.busFree k r) s (fun t =>
           s.Leaves t s.dev [])) ∧
  (∀ (s : State) (k : Nat) (p : Nat) (x : TwcTx) (r : BusReply),
         s.Works pdHub →
         k < 2 →
         s.dev.twc k = some x →
         x.op = 1 →
         s.dev.flag (Obj.twcEnable k) = true →
         r.loss = none →
         r.addrAck = true →
         x.tx.length ≤ r.dataAcks →
         Answers (.busClear k p r) s (fun t =>
           if p = 0 then s.Leaves t s.dev []
           else if 9 < p then t.dev.nat (Obj.twcStatus k) = 5 ∧ s.Leaves t (s.dev.setTwc k none) [Obj.twcStatus k, Obj.logSeq]
           else t.dev.nat (Obj.twcBusClears k) = min (2 ^ 32 - 1) (s.dev.nat (Obj.twcBusClears k) + 1) ∧ t.dev.nat (Obj.twcStatus k) = 0 ∧ s.Leaves t (s.dev.setTwc k none) (Obj.twcBusClears k :: [Obj.twcStatus k, Obj.twcBytesDone k, Obj.twcRxData k, Obj.twcArbLost k, Obj.twcLossDetail k, Obj.logSeq]))) ∧
  (∀ (s : State) (k : Nat), s.Works pdHub → k < 2 →
         Answers (.sclTimeout k) s (fun t =>
           if s.dev.twc k = none ∨ s.dev.flag (Obj.twcEnable k) = false then s.Leaves t s.dev []
           else t.dev.nat (Obj.twcStatus k) = 6 ∧ s.Leaves t (s.dev.setTwc k none) [Obj.twcStatus k, Obj.logSeq])) ∧
  (∀ (s : State) (a : Nat) (rd : Bool) (n : Nat), s.Works pdHub →
         Answers (.twtAddress a rd n) s (fun t =>
           if s.dev.flag Obj.twtEnable = false ∨ a ≠ s.dev.nat Obj.twtAddr then s.Leaves t s.dev []
           else if rd = false then s.Leaves t (s.dev.updHost (fun h => { h with twtWrite := true })) []
           else t.dev.out = [.twtData ((List.range n).map (fun i => s.dev.twtByte s.dev.statusPage ((s.dev.nat Obj.twtPointer + i) % 65536)))] ∧
             t.dev.nat Obj.twtPointer = (s.dev.nat Obj.twtPointer + n) % 65536 ∧ s.Leaves t (s.dev.updHost (fun h => { h with twtWrite := false })) [Obj.twtPointer])) ∧
  (∀ (s : State) (bs : List Byte) (broken : Option Nat), s.Works pdHub → bs.length ≤ 2 →
         Answers (.twtCommit bs broken) s (fun t =>
           if s.dev.flag Obj.twtEnable = false ∨ s.dev.host.twtWrite = false ∨ broken.any (fun n => decide (n < s.dev.nat Obj.twtFilter)) = true then s.Leaves t s.dev []
           else (if bs = [] then t.dev.nat Obj.twtCommits = s.dev.nat Obj.twtCommits else t.dev.nat Obj.twtCommits = min (2 ^ 32 - 1) (s.dev.nat Obj.twtCommits + 1)) ∧
             (bs.length = 2 → t.dev.nat Obj.twtPointer = (bs.getD 0 0).toNat * 256 + (bs.getD 1 0).toNat) ∧
             s.Leaves t (s.dev.updHost (fun h => { h with twtWrite := false })) [Obj.twtPointer, Obj.twtCommits, Obj.twtDiscarded])) ∧
  (∀ (s : State) (bs : List Byte) (hi : Byte) (lo : Byte) (x : Byte),
         s.Works pdHub →
         s.dev.flag Obj.twtEnable = true →
         s.dev.host.twtWrite = true →
         bs = [hi, lo, x] →
         64 ≤ hi.toNat * 256 + lo.toNat →
         hi.toNat < 16 →
         Answers (.twtCommit bs none) s (fun t =>
           let p := hi.toNat * 256 + lo.toNat
           t.dev.scratch.getD (p - 64) 0 = x ∧ (∀ i : Nat, i < 4032 → i ≠ p - 64 → t.dev.scratch.getD i 0 = s.dev.scratch.getD i 0) ∧
           t.dev.nat Obj.twtPointer = p / 64 * 64 + (p % 64 + 1) % 64 ∧ s.Leaves t (s.dev.updHost (fun h => { h with twtWrite := false })) [Obj.twtPointer, Obj.twtCommits, Obj.twtScratch])) ∧
  (∀ (s : State) (n : Nat), s.Works pdHub →
         Answers (.twtTimeout n) s (fun t =>
           if s.dev.flag Obj.twtEnable = false then s.Leaves t s.dev []
           else t.dev.nat Obj.twtDiscarded = min (2 ^ 32 - 1) (s.dev.nat Obj.twtDiscarded + n) ∧ t.dev.nat Obj.twtTimeouts = min (2 ^ 32 - 1) (s.dev.nat Obj.twtTimeouts + 1) ∧
             s.Leaves t (s.dev.updHost (fun h => { h with twtWrite := false })) [Obj.twtDiscarded, Obj.twtTimeouts, Obj.logSeq]))

/-- Firmware (R416 to R422), settings (R425), attestation (R427) and the power domains (R439 to R441). What is written to the flash ends with
a command at or after a free time: POWER_ON_RESET, which does nothing to a device that RST_POR_N does not hold, shows it. The model's choices
(log entry 58): FwVerify leaves FwState alone in 3 and 4, a Keep that does not check ends the activation, a FwRevert of a Keep that does
not decompress is not refused. And (log entry 59): domains 9 and 10 always wait for DRAIN_END, a domain that no rail feeds does not come up;
boot steps that no command ends take no time (log entry 62). -/
def Obligations.FirmwareAndDomainsFollowTheirCommands : Prop :=
  (∀ (s : State) (ses : Nat) (off : Nat) (data : Bytes), s.Steady → (s.judged ses 0x6000 5 off data).isSome = true →
         Answers (.fwData ses off data) s (fun t =>
           if s.dev.nat Obj.fwState = 3 ∨ s.dev.nat Obj.fwState = 4 then t.Answered .state [] ∧ s.Leaves t s.dev []
           else if off ≠ 0 ∧ off ≠ s.dev.boot.download.length ∨ 16777216 < off + data.length then t.Answered .range [] ∧ s.Leaves t s.dev []
           else t.Answered .ok [] ∧ (off = 0 → t.dev.nat Obj.fwState = 1) ∧ (off ≠ 0 → t.dev.val Obj.fwState = s.dev.val Obj.fwState) ∧
             s.Leaves t (s.dev.updBoot (fun x => { x with download := if off = 0 then data else x.download ++ data, verified := false })) [Obj.fwState, Obj.fwVersionDownload, Obj.fwDownloadKind])) ∧
  (∀ (s : State) (ses : Nat), s.Steady → s.MayWrite ses Obj.fwVerify [1] →
         Answers (.fwVerify ses) s (fun t =>
           let c := imageCheck s.dev.boot.download s.dev.boot.minSecurity
           t.Answered .ok [] ∧ t.dev.nat Obj.fwLastResult = c.toNat ∧
             (if s.dev.nat Obj.fwState = 3 ∨ s.dev.nat Obj.fwState = 4 then t.dev.val Obj.fwState = s.dev.val Obj.fwState
              else t.dev.nat Obj.fwState = (if c = .ok then 2 else 1)) ∧
             (c = .ok → t.dev.nat Obj.fwVersionDownload = leAt s.dev.boot.download 28 4 ∧ t.dev.nat Obj.fwDownloadKind = leAt s.dev.boot.download 27 1) ∧
             (c ≠ .ok → t.dev.val Obj.fwVersionDownload = s.dev.val Obj.fwVersionDownload ∧ t.dev.val Obj.fwDownloadKind = s.dev.val Obj.fwDownloadKind) ∧
             s.Leaves t (s.dev.updBoot (fun x => { x with verified := decide (c = .ok) })) [Obj.fwLastResult, Obj.fwState, Obj.fwVersionDownload, Obj.fwDownloadKind, Obj.logSeq])) ∧
  (∀ (s : State) (ses : Nat) (e : RCode × Nat),
         s.Steady →
         s.MayWrite ses Obj.fwActivate [1] →
         s.dev.activateCase false = some e →
         Answers (.fwActivate ses) s (fun t =>
           t.Answered e.1 [] ∧ t.dev.nat Obj.fwRefuseCause = e.2 ∧ s.Leaves t s.dev [Obj.fwRefuseCause, Obj.logSeq])) ∧
  (∀ (s : State) (ses : Nat),
         s.Steady →
         s.MayWrite ses Obj.fwActivate [1] →
         s.dev.activateCase false = none →
         s.dev.nat Obj.fwDownloadKind = 1 ∨ s.dev.boot.recovery = true →
         Answers (.fwActivate ses) s (fun t =>
           t.Answered .ok [] ∧ t.dev.nat Obj.fwRefuseCause = 0 ∧ t.dev.nat Obj.fwState = 3 ∧
           (∃ due : Nat, s.dev.now < due ∧
             t.dev.boot.work = some (if s.dev.nat Obj.fwDownloadKind = 1 then .loader (1 - s.dev.boot.copy) false false else .run, due)) ∧
           s.Leaves t (s.dev.updBoot (fun x => { x with work := t.dev.boot.work })) [Obj.fwState, Obj.fwRefuseCause, Obj.logSeq])) ∧
  (∀ (s : State) (ses : Nat),
         s.Steady →
         s.MayWrite ses Obj.fwActivate [1] →
         s.dev.activateCase false = none →
         s.dev.nat Obj.fwDownloadKind ≠ 1 →
         s.dev.boot.recovery = false →
         Answers (.fwActivate ses) s (fun t =>
           t.Answered .ok [] ∧ t.dev.nat Obj.fwRefuseCause = 0 ∧ t.dev.nat Obj.fwState = 3 ∧
           (∃ due : Nat, s.dev.now < due ∧ t.dev.boot.work = some (.keep, due)) ∧
           (s.FlashTakes → t.dev.record0.stage = 1 ∧ t.dev.record0.keepValid = false ∧ t.dev.record0.seq = s.dev.record0.seq + 1) ∧
           s.Leaves t (s.dev.updBoot (fun x => { x with slots := t.dev.boot.slots, recorded := t.dev.boot.recorded, work := t.dev.boot.work }))
             [Obj.fwState, Obj.fwRefuseCause, Obj.fwVersionRun, Obj.fwVersionKeep, Obj.keepValid, Obj.trialCount, Obj.minSecurity, Obj.logSeq])) ∧
  (∀ (s : State) (b : BootStraps) (due : Nat),
         s.Shaped →
         s.Bounded →
         s.dev.role = 0 →
         s.dev.nat Obj.fwState = 3 →
         s.dev.boot.work = some (.keep, due) →
         due ≤ s.dev.now →
         s.dev.boot.saving = none →
         s.dev.boot.heldIn = 0 →
         s.dev.boot.waitCopy = false →
         Answers (.powerOnReset b) s (fun t =>
           let kept := (s.dev.flashed 3 0 (qpkStream (imageBytes 0 s.dev.boot.run))).take 16777216
           let good : Bool := (qpkUnpack (kept.length + 1) kept).any (fun k => loaderOk (asStored k))
           t.dev.boot.keep = kept ∧ t.dev.boot.work = none ∧ t.dev.boot.run = s.dev.boot.run ∧ t.dev.boot.download = s.dev.boot.download ∧
           (if ¬ good = true then
              t.dev.nat Obj.fwState = 2 ∧ t.dev.nat Obj.fwLastResult = RCode.integrity.toNat ∧
                s.Leaves t (s.dev.updBoot (fun x => { x with work := none, keep := kept })) [Obj.fwState, Obj.fwLastResult]
            else s.Restarted t 4 ∧ t.BootsOn ∧
              (s.FlashTakes → s.dev.loaderValid = true → imageCheck s.dev.boot.download s.dev.boot.minSecurity = .ok →
                t.dev.record0.stage = 2 ∧ t.dev.record0.keepValid = true ∧ t.dev.record0.keepVersion = imageVersion s.dev.boot.run ∧
                  t.dev.nat Obj.fwState = 3 ∧ t.dev.boot.waitCopy = true)))) ∧
  (∀ (s : State) (b : BootStraps) (c : Nat) (second : Bool) (again : Bool) (due : Nat),
         s.Shaped →
         s.Bounded →
         s.dev.role = 0 →
         s.dev.nat Obj.fwState = 3 →
         c < 2 →
         s.dev.boot.loaders.length = 2 →
         s.dev.boot.work = some (.loader c second again, due) →
         due ≤ s.dev.now →
         s.dev.boot.saving = none →
         s.dev.boot.heldIn = 0 →
         s.dev.boot.recovery = false →
         Answers (.powerOnReset b) s (fun t =>
           let stored := (s.dev.flashed (4 + c) (if again = true then 1 else 0) s.dev.boot.download).take 1048576
           t.dev.boot.loaders.getD c none = some stored ∧ t.dev.boot.loaders.getD (1 - c) none = s.dev.boot.loaders.getD (1 - c) none ∧
           (if imageSigOk stored = false ∧ again = true then
              t.dev.nat Obj.fwState = 2 ∧ t.dev.nat Obj.fwLastResult = RCode.integrity.toNat ∧ t.dev.boot.work = none
            else if imageSigOk stored = true ∧ second = true then
              t.dev.nat Obj.fwState = 0 ∧ t.dev.nat Obj.fwLastResult = 0 ∧ t.dev.boot.work = none
            else t.dev.nat Obj.fwState = 3 ∧ t.dev.val Obj.fwLastResult = s.dev.val Obj.fwLastResult ∧
              ∃ u : Nat, s.dev.now < u ∧
                t.dev.boot.work = some (if imageSigOk stored = false then .loader c second true else .loader (1 - c) true false, u)) ∧
           s.Leaves t (s.dev.updBoot (fun x => { x with loaders := t.dev.boot.loaders, work := t.dev.boot.work })) [Obj.fwState, Obj.fwLastResult])) ∧
  (∀ (s : State) (b : BootStraps) (due : Nat),
         s.Shaped →
         s.Bounded →
         s.dev.role = 0 →
         s.dev.nat Obj.fwState = 3 →
         s.dev.boot.work = some (.run, due) →
         due ≤ s.dev.now →
         s.dev.boot.saving = none →
         s.dev.boot.heldIn = 0 →
         s.dev.boot.recovery = true →
         s.dev.boot.waitCopy = false →
         Answers (.powerOnReset b) s (fun t =>
           t.dev.boot.run = some (s.dev.flashed 2 0 s.dev.boot.download) ∧ t.dev.boot.download = s.dev.boot.download ∧ t.dev.nat Obj.resetCause = 4 ∧
             t.dev.tol.sessions = [] ∧ t.dev.pos.axes = s.dev.pos.axes ∧ t.dev.pos.lcgs = s.dev.pos.lcgs ∧ t.dev.cal.mram = s.dev.cal.mram ∧ t.pending = s.pending ∧
             (s.FlashTakes → s.dev.loaderValid = true → imageCheck s.dev.boot.download s.dev.boot.minSecurity = .ok →
               t.dev.boot.recovery = false ∧ t.dev.record0.stage = 0 ∧ t.dev.record0.keepValid = false ∧
                 t.dev.record0.runVersion = leAt s.dev.boot.download 28 4))) ∧
  (∀ (s : State) (ses : Nat), s.Steady → s.MayWrite ses Obj.fwConfirm [1] →
         Answers (.fwConfirm ses) s (fun t =>
           if s.dev.nat Obj.fwState ≠ 4 then t.Answered .state [] ∧ s.Leaves t s.dev []
           else t.Answered .ok [] ∧ t.dev.nat Obj.fwState = 0 ∧
             (s.FlashTakes → t.dev.record0.stage = 0 ∧ t.dev.record0.confirmed = true ∧ t.dev.record0.seq = s.dev.record0.seq + 1) ∧
             s.Leaves t (s.dev.updBoot (fun x => { x with
               slots := t.dev.boot.slots, recorded := t.dev.boot.recorded, trialEnd := none, trialBank := none,
               minSecurity := min 1023 (max x.minSecurity (imageSecurity 0 x.run)) }))
               [Obj.fwState, Obj.fwVersionRun, Obj.fwVersionKeep, Obj.keepValid, Obj.trialCount, Obj.minSecurity, Obj.logSeq])) ∧
  (∀ (s : State) (u : Nat),
         s.Works pdHub →
         s.dev.boot.trialEnd = some u →
         Answers (.trialTimeout) s (fun t =>
           if s.dev.nat Obj.fwState ≠ 4 ∨ s.dev.now < u then s.Leaves t s.dev []
           else if s.dev.webMoving = true then t.dev.nat Obj.fwState = 5 ∧ s.Leaves t s.dev [Obj.fwState, Obj.logSeq]
           else s.Reverts t)) ∧
  (∀ (s : State) (ses : Nat),
         s.Steady →
         s.MayWrite ses Obj.fwRevert [1] →
         Answers (.fwRevert ses) s (fun t =>
           if s.dev.flag Obj.keepValid = false then t.Answered .state [] ∧ s.Leaves t s.dev []
           else if (match s.dev.keepImage with | some b => leAt b 34 2 | none => 0) < s.dev.boot.minSecurity then t.Answered .integrity [] ∧ s.Leaves t s.dev []
           else if (s.dev.activateCase true).isSome = true then
             t.dev.opCode = ((s.dev.activateCase true).map (fun e => e.1)).getD .ok ∧ t.dev.nat Obj.fwRefuseCause = ((s.dev.activateCase true).map (fun e => e.2)).getD 0 ∧ s.Leaves t s.dev [Obj.fwRefuseCause]
           else s.Reverts t)) ∧
  (∀ (s : State) (ses : Nat),
         s.Steady →
         s.MayWrite ses Obj.fwRevert [1] →
         s.dev.flag Obj.keepValid = true →
         (match s.dev.keepImage with | some b => leAt b 34 2 | none => 0) < s.dev.boot.minSecurity →
         Answers (.fwRevert ses) s (fun t =>
           t.Answered .integrity [] ∧ s.Leaves t s.dev [])) ∧
  (∀ (s : State) (ses : Nat), s.Steady → s.MayWrite ses Obj.settingsSave [1] →
         Answers (.settingsSave ses) s (fun t =>
           if s.dev.boot.saving.isSome = true then t.Answered .busy [] ∧ s.Leaves t s.dev []
           else t.Answered .ok [] ∧
             (∃ due : Nat, s.dev.now < due ∧ due ≤ s.dev.now + 2000000000 ∧
               t.dev.boot.saving = some {
                 place := s.dev.savePlace, seq := s.dev.bankSeq + 1, due := due
                 bytes := (SettingsBank.bytes { seq := s.dev.bankSeq + 1, schema := imageSchema s.dev.boot.run, entries := s.dev.savedValues }).take 2097152 }) ∧
             s.Leaves t (s.dev.updBoot (fun x => { x with saving := t.dev.boot.saving })) [])) ∧
  (∀ (s : State) (b : BootStraps) (x : Saving),
         s.Shaped →
         s.Bounded →
         s.dev.role = 0 →
         s.dev.nat Obj.fwState ≠ 5 →
         s.dev.boot.saving = some x →
         x.due ≤ s.dev.now →
         s.dev.boot.work = none →
         s.dev.boot.heldIn ≠ 1 →
         Answers (.powerOnReset b) s (fun t =>
           t.dev.nat Obj.settingsSeq = x.seq ∧ t.dev.nat Obj.settingsSaves = min (2 ^ 32 - 1) (s.dev.nat Obj.settingsSaves + 1) ∧
             s.Leaves t (s.dev.updBoot (fun y => { y with
               saving := none, banks := y.banks.set x.place (s.dev.flashed (6 + x.place) 0 x.bytes),
               trialBank := if s.dev.nat Obj.fwState = 4 then some x.place else y.trialBank })) [Obj.settingsSeq, Obj.settingsSaves])) ∧
  (∀ (s : State) (ses : Nat) (nonce : Bytes), s.Steady → s.MayWrite ses Obj.attestNonce nonce → nonce.length = 32 →
         Answers (.attestNonce ses nonce) s (fun t =>
           t.Answered .ok [] ∧ (t.dev.bytes Obj.attestReport).length = 3437 ∧ ((t.dev.bytes Obj.attestReport).drop 96).take 32 = nonce ∧ s.Leaves t s.dev [Obj.attestReport])) ∧
  (∀ (s : State) (ses : Nat) (k : Nat), s.Steady → k < 11 → s.MayWrite ses (Obj.domPower k) [1] →
         Answers (.domPowerOn ses k) s (fun t =>
           let st := s.dev.nat (Obj.domState k)
           if st = 3 ∨ st = 4 then t.Answered .busy [] ∧ s.Leaves t s.dev []
           else if st ≠ 0 then t.Answered .ok [] ∧ t.dev.flag (Obj.domPower k) = true ∧ s.Leaves t s.dev [Obj.domPower k]
           else if (k = pdCls ∧ s.dev.domOn pdCal = false) ∨ (s.dev.domOn pdHub = false ∧ k ≠ pdPcie ∧ k ≠ pdPos ∧ k ≠ pdCal) then t.Answered .state [] ∧ s.Leaves t s.dev []
           else if s.dev.fed k = false then t.Answered .ok [] ∧ t.dev.flag (Obj.domPower k) = true ∧ s.Leaves t s.dev [Obj.domPower k]
           else t.Answered .ok [] ∧ t.dev.flag (Obj.domPower k) = true ∧ t.dev.nat (Obj.domState k) = 1 ∧ Tbl.get? t.dev.boot.powering k = some s.dev.now ∧
             t.dev.pos = s.dev.pos ∧ t.dev.ports = s.dev.ports ∧ t.dev.eng = s.dev.eng ∧ t.dev.cls = s.dev.cls ∧ t.dev.tol = s.dev.tol ∧ t.dev.hbm = s.dev.hbm ∧ t.pending = s.pending)) ∧
  (∀ (s : State) (ses : Nat) (k : Nat), s.Steady → k < 11 → s.MayWrite ses (Obj.domPower k) [0] →
         Answers (.domPowerOff ses k) s (fun t =>
           let st := s.dev.nat (Obj.domState k)
           if st = 0 then t.Answered .ok [] ∧ t.dev.flag (Obj.domPower k) = false ∧ s.Leaves t s.dev [Obj.domPower k]
           else if st = 3 ∨ st = 4 then t.Answered .ok [] ∧ s.Leaves t s.dev []
           else if s.dev.powerOffRefused k = true then t.Answered .state [] ∧ s.Leaves t s.dev []
           else t.Answered .ok [] ∧ t.dev.flag (Obj.domPower k) = false ∧
             (k = 9 → t.dev.nat (Obj.domState k) = 3 ∧ Tbl.get? t.dev.boot.drains k = some s.dev.now ∧ s.Leaves t { s.dev with boot := t.dev.boot } [Obj.domPower k, Obj.domState k]) ∧
             (t.dev.nat (Obj.domState k) = 0 ∨ t.dev.nat (Obj.domState k) = 3) ∧
             (k = 1 ∨ k = 6 → t.dev.nat (Obj.domState k) = 0 ∧ t.dev.ports = s.dev.ports ∧ t.dev.cls = s.dev.cls ∧ t.dev.hbm = s.dev.hbm))) ∧
  (∀ (s : State) (k : Nat),
         s.Steady →
         k < 11 →
         s.dev.boot.waitCopy = false ∨ s.dev.holdupHigh = false →
         s.dev.nat (Obj.domState k) ≠ 1 ∨ (k = pdCls ∧ s.dev.domOn pdCal = false) ∨
           ((k = 7 ∨ k = 8) ∧ (List.range 64).any (fun n => stackDomain (stackOf n) == k && s.dev.pcState n == 1) = true) →
         Answers (.domainPowerUpComplete k) s (fun t =>
           s.Leaves t s.dev [])) ∧
  (∀ (s : State) (k : Nat),
         s.Steady →
         k < 11 →
         s.dev.boot.waitCopy = false ∨ s.dev.holdupHigh = false →
         s.dev.nat (Obj.domState k) = 1 →
         (k = pdCls → s.dev.domOn pdCal = true) →
         (k = 7 ∨ k = 8 → (List.range 64).any (fun n => stackDomain (stackOf n) == k && s.dev.pcState n == 1) = false) →
         Answers (.domainPowerUpComplete k) s (fun t =>
           t.dev.nat (Obj.domState k) = 2 ∧ Tbl.get? t.dev.boot.powering k = none ∧ t.dev.hbm = s.dev.hbm ∧ t.pending = s.pending ∧
           (k = 1 → t.dev.pos.axes = s.dev.pos.axes ∧ t.dev.pos.lcgs = s.dev.pos.lcgs ∧
             ∀ p : Nat, p < 24 → (t.dev.trig p).idle = t.dev.flag (Obj.trigPolarity p)) ∧
           (k = 6 → s.dev.nat Obj.bootPhase = 8 → s.dev.flag (Obj.domPower pdCls) = true → s.dev.nat (Obj.domState pdCls) = 0 → s.dev.fed pdCls = true →
             t.dev.nat (Obj.domState pdCls) = 1) ∧
           (k = 10 ∨ (k = 6 ∧ s.dev.nat Obj.bootPhase ≠ 8) → s.dev.boot.held = [] → s.dev.pub.restore = [] →
             s.Leaves t (s.dev.updBoot (fun x => { x with powering := Tbl.del x.powering k })) [Obj.domState k, Obj.logSeq]))) ∧
  (∀ (s : State) (k : Nat), s.Steady → k < 11 →
         Answers (.drainEnd k) s (fun t =>
           if s.dev.nat (Obj.domState k) ≠ 3 ∨ s.dev.deferCause k ≠ 0 ∨ s.dev.answerWaits k = true then s.Leaves t s.dev []
           else t.dev.nat (Obj.domState k) = 0 ∧ (k ≠ 0 → t.dev.nat (Obj.domCycles k) = min (2 ^ 32 - 1) (s.dev.nat (Obj.domCycles k) + 1)) ∧ Tbl.get? t.dev.boot.drains k = none ∧ t.pending = s.pending)) ∧
  (∀ (s : State) (k : Nat), s.Steady → k < 11 →
         Answers (.drainLimit k) s (fun t =>
           if s.dev.nat (Obj.domState k) ≠ 3 ∨ s.dev.deferCause k = 0 ∨ s.dev.now < Tbl.get s.dev.boot.drains k s.dev.now + s.dev.drainLimitNs k then s.Leaves t s.dev []
           else if s.dev.answerWaits k = true then t.dev.nat (Obj.domState k) = 3 ∧ t.pending = s.pending
           else t.dev.nat (Obj.domState k) = 0 ∧ Tbl.get? t.dev.boot.drains k = none ∧ t.pending = s.pending))

/-- Start-up and reset (R433 to R438), supplies (R432), clocks (R434) and temperature (R454). The model's choices (log entry 59): RST_HUB_N while
the Hub has no power does nothing, THERMAL_COOLDOWN and SUPPLY_RETURN restart a device whose Hub has power again, sensors 16 and 17 are
those of the stacks. And (log entry 58): a fall of HOLDUP_OK during the loader's copy leaves a free number of its bytes; (log entry 62)
boot steps that no command ends take no time; (log entry 55) loaderGood is given from outside. -/
def Obligations.ResetsSuppliesAndClocksRestartTheDevice : Prop :=
  (∀ (s : State) (b : BootStraps), s.Steady → s.dev.boot.heldIn ≠ 1 →
         Answers (.powerOnReset b) s (fun t =>
           s.Leaves t s.dev [])) ∧
  (∀ (s : State) (b : BootStraps),
         s.Steady →
         s.dev.boot.heldIn = 1 →
         s.dev.boot.waitCopy = false →
         s.dev.boot.recovery = false →
         Answers (.powerOnReset b) s (fun t =>
           if s.dev.stillHeld = 0 then s.Released t b (if s.dev.boot.cold = true then 0 else 1)
           else s.Leaves t (s.dev.updBoot (fun x => { x with straps := b, heldIn := s.dev.stillHeld })) [])) ∧
  (∀ (s : State),
         s.Steady →
         s.dev.boot.waitCopy = false ∨ s.dev.holdupHigh = false →
         Answers (.inspectionReady) s (fun t =>
           if s.dev.readyToInspect = false then s.Leaves t s.dev []
           else t.dev.nat Obj.bootPhase = 10 ∧ t.dev.flag Obj.inspectionReady = true ∧ t.dev.nat Obj.bootTime = (s.dev.now - s.dev.boot.restartFrom) / 1000 ∧
             t.dev.boot.restarting = false ∧ t.dev.boot.saved = [] ∧ s.KeepsStores t ∧
             (s.dev.nat Obj.fwState = 4 → t.dev.boot.trialEnd = some (s.dev.now + t.dev.nat Obj.fwConfirmWindow * 1000000000)) ∧
             (s.dev.boot.saved = [] → t.dev.pos.axes = s.dev.pos.axes ∧ t.dev.pos.lcgs = s.dev.pos.lcgs ∧ t.dev.ports = s.dev.ports ∧ t.dev.tol = s.dev.tol ∧ t.dev.hbm = s.dev.hbm))) ∧
  (∀ (s : State), s.Steady →
         Answers (.hubRestart) s (fun t =>
           if s.dev.boot.heldIn ≠ 0 ∨ s.dev.fed pdHub = false then s.Leaves t s.dev []
           else s.Restarted t 2 ∧ s.Boots t)) ∧
  (∀ (s : State),
         s.Steady →
         Answers (.watchdog) s (fun t =>
           if s.dev.runs = false ∨ s.dev.boot.waitCopy = true ∨ s.dev.domOn pdHub = false then s.Leaves t s.dev []
           else s.Restarted t 3 ∧ s.Boots t ∧
             (s.dev.boot.notes = [] → s.dev.nat Obj.logMinSeverity ≤ 2 → s.dev.boot.run = none → s.dev.boot.slots = [[], []] →
               s.dev.boot.loaders = [none, none] → s.dev.boot.minSecurity = 0 → s.dev.boot.straps.loaderGood = true →
               (t.dev.logs.faults.any (fun e => e.code == eventCode 0x10 sevFault 0 0x0003)) = true))) ∧
  (∀ (s : State) (r : Nat), s.Steady → 8 ≤ r → r ≤ 11 →
         Answers (.brownout r) s (fun t =>
           t.dev.boot.railsDown.contains r = true ∧
           (if s.dev.boot.heldIn = 1 then s.Leaves t (s.dev.railOut r) [] else s.Held t 2))) ∧
  (∀ (s : State) (r : Nat), s.Steady → 1 ≤ r → r ≤ 12 → aonRail r = false →
         Answers (.brownout r) s (fun t =>
           if s.dev.boot.heldIn ≠ 0 then s.Leaves t (s.dev.railOut r) []
           else t.dev.boot.railsDown.contains r = true ∧ (∀ k ∈ railDomains r, t.dev.nat (Obj.domState k) = 0) ∧
             t.dev.nat (Obj.domState pdPos) = s.dev.nat (Obj.domState pdPos) ∧ t.dev.nat (Obj.domState pdCal) = s.dev.nat (Obj.domState pdCal) ∧
             t.dev.pos.axes = s.dev.pos.axes ∧ t.dev.pos.lcgs = s.dev.pos.lcgs ∧ s.KeepsStores t)) ∧
  (∀ (s : State) (r : Nat), s.Steady → r = 4 ∨ r = 5 → s.dev.boot.heldIn = 0 →
         Answers (.brownout r) s (fun t =>
           t.dev.nat (Obj.domState pdCls) = 0 ∧ t.dev.boot.railsDown.contains r = true ∧ (∀ k : Nat, k < 11 → k ≠ pdCls → t.dev.nat (Obj.domState k) = s.dev.nat (Obj.domState k)) ∧
           t.dev.pos = s.dev.pos ∧ t.dev.ports = s.dev.ports ∧ t.dev.hbm = s.dev.hbm ∧ t.dev.tol = s.dev.tol ∧ t.dev.boot.slots = s.dev.boot.slots ∧ s.KeepsStores t)) ∧
  (∀ (s : State) (r : Nat), s.Steady → 1 ≤ r → r ≤ 12 → s.dev.boot.heldIn ≠ 2 →
         Answers (.supplyReturn r) s (fun t =>
           let back := s.dev.updBoot (fun x => { x with railsDown := x.railsDown.filter (fun y => y != r) })
           if s.dev.boot.railsDown.contains r = false then s.Leaves t s.dev []
           else if s.dev.boot.heldIn = 0 ∧ back.fed pdHub = true then
             s.Restarted t 6 ∧ s.Boots t ∧ t.dev.boot.railsDown = back.boot.railsDown
           else s.Leaves t back [])) ∧
  (∀ (s : State) (r : Nat),
         s.Steady →
         1 ≤ r →
         r ≤ 12 →
         s.dev.boot.heldIn = 2 →
         s.dev.boot.waitCopy = false →
         s.dev.boot.recovery = false →
         Answers (.supplyReturn r) s (fun t =>
           let rest := s.dev.boot.railsDown.filter (fun y => y != r)
           if s.dev.boot.railsDown.contains r = false then s.Leaves t s.dev []
           else if rest.any aonRail = true then s.Leaves t (s.dev.updBoot (fun x => { x with railsDown := rest })) []
           else if s.dev.boot.refLost = true then s.Leaves t (s.dev.updBoot (fun x => { x with railsDown := rest, heldIn := 3 })) []
           else s.Released t s.dev.boot.straps 6)) ∧
  (∀ (s : State) (c : Nat), s.Steady → c < 2 →
         Answers (.referenceClockLost c) s (fun t =>
           if c = 0 then
             t.dev.boot.refLost = true ∧
               (if s.dev.boot.heldIn = 1 ∨ s.dev.boot.heldIn = 2 then s.Leaves t (s.dev.updBoot (fun x => { x with refLost := true })) []
                else s.Held t 3)
           else if s.dev.boot.heldIn ≠ 0 then s.Leaves t s.dev []
           else if s.dev.boot.straps.pcieSris = true ∨ s.dev.domOn pdPcie = false then s.Leaves t s.dev [Obj.logSeq]
           else t.dev.nat Obj.pcieSpeed = 0 ∧ t.dev.nat Obj.pcieWidth = 0 ∧ s.Leaves t s.dev [Obj.pcieSpeed, Obj.pcieWidth, Obj.logSeq])) ∧
  (∀ (s : State),
         s.Steady →
         s.dev.boot.waitCopy = false →
         s.dev.boot.recovery = false →
         Answers (.referenceClockReturn) s (fun t =>
           t.dev.boot.refLost = false ∧
           (if s.dev.boot.heldIn ≠ 3 then s.Leaves t (s.dev.updBoot (fun x => { x with refLost := false })) []
            else if s.dev.boot.railsDown.any aonRail = true then
              s.Leaves t (s.dev.updBoot (fun x => { x with refLost := false, heldIn := 2 })) [Obj.logSeq]
            else s.Released t s.dev.boot.straps 5))) ∧
  (∀ (s : State) (high : Bool), s.Steady → high = true ∨ s.dev.boot.waitCopy = false ∨ s.dev.holdupHigh = false →
         Answers (.holdupOk high) s (fun t =>
           s.Leaves t (s.dev.updBoot (fun x => { x with
             holdup := high, holdupAt := if high = true ∧ x.holdup = false then s.dev.now else x.holdupAt })) [])) ∧
  (∀ (s : State), s.Steady → s.dev.boot.waitCopy = true → s.dev.holdupHigh = true →
         Answers (.holdupOk false) s (fun t =>
           (∃ n : Nat, t.dev.boot.run = some (flashCut s.dev.copySource (imageBytes 0 s.dev.boot.run) n)) ∧
             s.Leaves t (s.dev.updBoot (fun x => { x with holdup := false, run := t.dev.boot.run })) [])) ∧
  (∀ (s : State) (n : Nat) (x : Int), s.Steady → n < 18 → s.dev.boot.heldIn = 0 → s.dev.boot.tripped = false →
         1150 ≤ x ∨ ((n = 16 ∨ n = 17) ∧ 1050 ≤ x) →
         Answers (.thermalTrip n x) s (fun t =>
           t.dev.boot.tripped = true ∧ t.dev.nat Obj.resetCause = 6 ∧ group3.all (fun k => t.dev.nat (Obj.domState k) == 0) = true ∧
             t.dev.nat (Obj.domState pdPos) = s.dev.nat (Obj.domState pdPos) ∧ t.dev.nat (Obj.domState pdCal) = s.dev.nat (Obj.domState pdCal) ∧
             t.dev.pos.axes = s.dev.pos.axes ∧ t.dev.pos.lcgs = s.dev.pos.lcgs ∧ t.dev.boot.slots = s.dev.boot.slots ∧ s.KeepsStores t)) ∧
  (∀ (s : State) (n : Nat) (x : Int), s.Steady → n < 18 →
         s.dev.boot.heldIn ≠ 0 ∨ s.dev.boot.tripped = true ∨ ¬ (1150 ≤ x ∨ ((n = 16 ∨ n = 17) ∧ 1050 ≤ x)) →
         Answers (.thermalTrip n x) s (fun t =>
           let mem := if (n = 16 ∨ n = 17) ∧ s.dev.domOn (7 + (n - 16)) = true then
               { s.dev.mem with temps := s.dev.mem.temps.set (n - 16) x, doubled := s.dev.mem.doubled.set (n - 16) (decide (850 < x)) }
             else s.dev.mem
           if s.dev.boot.heldIn ≠ 0 then s.Leaves t { s.dev with mem := mem } [Obj.logSeq]
           else if 1050 < x then
             (Tbl.get? t.dev.boot.hot n).isSome = true ∧
               s.Leaves t { s.dev with mem := mem, boot := { s.dev.boot with hot := t.dev.boot.hot } } [Obj.logSeq]
           else s.Leaves t { s.dev with mem := mem, boot := { s.dev.boot with hot := Tbl.del s.dev.boot.hot n } } [Obj.logSeq])) ∧
  (∀ (s : State), s.Steady →
         Answers (.thermalCooldown) s (fun t =>
           let cool := s.dev.updBoot (fun x => { x with tripped := false, hot := [] })
           if s.dev.boot.tripped = false then s.Leaves t s.dev []
           else if s.dev.boot.heldIn = 0 ∧ cool.fed pdHub = true then s.Restarted t 6 ∧ s.Boots t ∧ t.dev.boot.tripped = false
           else s.Leaves t cool [])) ∧
  (∀ (s : State), s.Steady →
         Answers (.rstPorNLow) s (fun t =>
           t.dev.boot.cold = false ∧ s.Held t 1))
end

