-- ==== Sys2Proof/Laws/State.lean ====
section
/-! SUPPORT. What each update of the device leaves as it was: one lemma per field per update. -/

namespace Sys2Proof.Machine

variable (d : Dev)

/-- The value of an object follows from the objects alone. -/
theorem Dev.val_congr {d e : Dev} (h : d.objs = e.objs) (k : Nat) : d.val k = e.val k := by
  unfold Dev.val
  rw [h]

/-! ## put -/

@[simp] theorem Dev.put_now (k : Nat) (v : Val) : (d.put k v).now = d.now := rfl
@[simp] theorem Dev.put_rb9212 (k : Nat) (v : Val) : (d.put k v).rb9212 = d.rb9212 := rfl
@[simp] theorem Dev.put_cfgLog (k : Nat) (v : Val) : (d.put k v).cfgLog = d.cfgLog := rfl
@[simp] theorem Dev.put_logs (k : Nat) (v : Val) : (d.put k v).logs = d.logs := rfl
@[simp] theorem Dev.put_tol (k : Nat) (v : Val) : (d.put k v).tol = d.tol := rfl
@[simp] theorem Dev.put_pos (k : Nat) (v : Val) : (d.put k v).pos = d.pos := rfl
@[simp] theorem Dev.put_ports (k : Nat) (v : Val) : (d.put k v).ports = d.ports := rfl
@[simp] theorem Dev.put_eng (k : Nat) (v : Val) : (d.put k v).eng = d.eng := rfl
@[simp] theorem Dev.put_flt (k : Nat) (v : Val) : (d.put k v).flt = d.flt := rfl
@[simp] theorem Dev.put_stitch (k : Nat) (v : Val) : (d.put k v).stitch = d.stitch := rfl
@[simp] theorem Dev.put_seg (k : Nat) (v : Val) : (d.put k v).seg = d.seg := rfl
@[simp] theorem Dev.put_cls (k : Nat) (v : Val) : (d.put k v).cls = d.cls := rfl
@[simp] theorem Dev.put_cal (k : Nat) (v : Val) : (d.put k v).cal = d.cal := rfl
@[simp] theorem Dev.put_pub (k : Nat) (v : Val) : (d.put k v).pub = d.pub := rfl
@[simp] theorem Dev.put_net (k : Nat) (v : Val) : (d.put k v).net = d.net := rfl
@[simp] theorem Dev.put_host (k : Nat) (v : Val) : (d.put k v).host = d.host := rfl
@[simp] theorem Dev.put_mem (k : Nat) (v : Val) : (d.put k v).mem = d.mem := rfl
@[simp] theorem Dev.put_pair (k : Nat) (v : Val) : (d.put k v).pair = d.pair := rfl
@[simp] theorem Dev.put_boot (k : Nat) (v : Val) : (d.put k v).boot = d.boot := rfl
@[simp] theorem Dev.put_hbm (k : Nat) (v : Val) : (d.put k v).hbm = d.hbm := rfl
@[simp] theorem Dev.put_clock (k : Nat) (v : Val) : (d.put k v).clock = d.clock := rfl
@[simp] theorem Dev.put_msix (k : Nat) (v : Val) : (d.put k v).msix = d.msix := rfl
@[simp] theorem Dev.put_out (k : Nat) (v : Val) : (d.put k v).out = d.out := rfl
@[simp] theorem Dev.put_opCode (k : Nat) (v : Val) : (d.put k v).opCode = d.opCode := rfl
@[simp] theorem Dev.put_opData (k : Nat) (v : Val) : (d.put k v).opData = d.opData := rfl
@[simp] theorem Dev.blocks_put (k : Nat) (v : Val) : (d.put k v).blocks = d.blocks := rfl

/-! ## clear -/

@[simp] theorem Dev.clear_now (k : Nat) : (d.clear k).now = d.now := rfl
@[simp] theorem Dev.clear_rb9212 (k : Nat) : (d.clear k).rb9212 = d.rb9212 := rfl
@[simp] theorem Dev.clear_cfgLog (k : Nat) : (d.clear k).cfgLog = d.cfgLog := rfl
@[simp] theorem Dev.clear_logs (k : Nat) : (d.clear k).logs = d.logs := rfl
@[simp] theorem Dev.clear_tol (k : Nat) : (d.clear k).tol = d.tol := rfl
@[simp] theorem Dev.clear_pos (k : Nat) : (d.clear k).pos = d.pos := rfl
@[simp] theorem Dev.clear_ports (k : Nat) : (d.clear k).ports = d.ports := rfl
@[simp] theorem Dev.clear_eng (k : Nat) : (d.clear k).eng = d.eng := rfl
@[simp] theorem Dev.clear_flt (k : Nat) : (d.clear k).flt = d.flt := rfl
@[simp] theorem Dev.clear_stitch (k : Nat) : (d.clear k).stitch = d.stitch := rfl
@[simp] theorem Dev.clear_seg (k : Nat) : (d.clear k).seg = d.seg := rfl
@[simp] theorem Dev.clear_cls (k : Nat) : (d.clear k).cls = d.cls := rfl
@[simp] theorem Dev.clear_cal (k : Nat) : (d.clear k).cal = d.cal := rfl
@[simp] theorem Dev.clear_pub (k : Nat) : (d.clear k).pub = d.pub := rfl
@[simp] theorem Dev.clear_net (k : Nat) : (d.clear k).net = d.net := rfl
@[simp] theorem Dev.clear_host (k : Nat) : (d.clear k).host = d.host := rfl
@[simp] theorem Dev.clear_mem (k : Nat) : (d.clear k).mem = d.mem := rfl
@[simp] theorem Dev.clear_pair (k : Nat) : (d.clear k).pair = d.pair := rfl
@[simp] theorem Dev.clear_boot (k : Nat) : (d.clear k).boot = d.boot := rfl
@[simp] theorem Dev.clear_hbm (k : Nat) : (d.clear k).hbm = d.hbm := rfl
@[simp] theorem Dev.clear_clock (k : Nat) : (d.clear k).clock = d.clock := rfl
@[simp] theorem Dev.clear_msix (k : Nat) : (d.clear k).msix = d.msix := rfl
@[simp] theorem Dev.clear_out (k : Nat) : (d.clear k).out = d.out := rfl
@[simp] theorem Dev.clear_opCode (k : Nat) : (d.clear k).opCode = d.opCode := rfl
@[simp] theorem Dev.clear_opData (k : Nat) : (d.clear k).opData = d.opData := rfl
@[simp] theorem Dev.blocks_clear (k : Nat) : (d.clear k).blocks = d.blocks := rfl

/-! ## updTol -/

@[simp] theorem Dev.updTol_now (f : TolState → TolState) : (d.updTol f).now = d.now := rfl
@[simp] theorem Dev.updTol_rb9212 (f : TolState → TolState) : (d.updTol f).rb9212 = d.rb9212 := rfl
@[simp] theorem Dev.updTol_objs (f : TolState → TolState) : (d.updTol f).objs = d.objs := rfl
@[simp] theorem Dev.updTol_cfgLog (f : TolState → TolState) : (d.updTol f).cfgLog = d.cfgLog := rfl
@[simp] theorem Dev.updTol_logs (f : TolState → TolState) : (d.updTol f).logs = d.logs := rfl
@[simp] theorem Dev.updTol_pos (f : TolState → TolState) : (d.updTol f).pos = d.pos := rfl
@[simp] theorem Dev.updTol_ports (f : TolState → TolState) : (d.updTol f).ports = d.ports := rfl
@[simp] theorem Dev.updTol_eng (f : TolState → TolState) : (d.updTol f).eng = d.eng := rfl
@[simp] theorem Dev.updTol_flt (f : TolState → TolState) : (d.updTol f).flt = d.flt := rfl
@[simp] theorem Dev.updTol_stitch (f : TolState → TolState) : (d.updTol f).stitch = d.stitch := rfl
@[simp] theorem Dev.updTol_seg (f : TolState → TolState) : (d.updTol f).seg = d.seg := rfl
@[simp] theorem Dev.updTol_cls (f : TolState → TolState) : (d.updTol f).cls = d.cls := rfl
@[simp] theorem Dev.updTol_cal (f : TolState → TolState) : (d.updTol f).cal = d.cal := rfl
@[simp] theorem Dev.updTol_pub (f : TolState → TolState) : (d.updTol f).pub = d.pub := rfl
@[simp] theorem Dev.updTol_net (f : TolState → TolState) : (d.updTol f).net = d.net := rfl
@[simp] theorem Dev.updTol_host (f : TolState → TolState) : (d.updTol f).host = d.host := rfl
@[simp] theorem Dev.updTol_mem (f : TolState → TolState) : (d.updTol f).mem = d.mem := rfl
@[simp] theorem Dev.updTol_pair (f : TolState → TolState) : (d.updTol f).pair = d.pair := rfl
@[simp] theorem Dev.updTol_boot (f : TolState → TolState) : (d.updTol f).boot = d.boot := rfl
@[simp] theorem Dev.updTol_hbm (f : TolState → TolState) : (d.updTol f).hbm = d.hbm := rfl
@[simp] theorem Dev.updTol_clock (f : TolState → TolState) : (d.updTol f).clock = d.clock := rfl
@[simp] theorem Dev.updTol_msix (f : TolState → TolState) : (d.updTol f).msix = d.msix := rfl
@[simp] theorem Dev.updTol_out (f : TolState → TolState) : (d.updTol f).out = d.out := rfl
@[simp] theorem Dev.updTol_opCode (f : TolState → TolState) : (d.updTol f).opCode = d.opCode := rfl
@[simp] theorem Dev.updTol_opData (f : TolState → TolState) : (d.updTol f).opData = d.opData := rfl
@[simp] theorem Dev.val_updTol (f : TolState → TolState) (j : Nat) : (d.updTol f).val j = d.val j := Dev.val_congr rfl j
@[simp] theorem Dev.nat_updTol (f : TolState → TolState) (j : Nat) : (d.updTol f).nat j = d.nat j := by simp [Dev.nat]
@[simp] theorem Dev.int_updTol (f : TolState → TolState) (j : Nat) : (d.updTol f).int j = d.int j := by simp [Dev.int]
@[simp] theorem Dev.flag_updTol (f : TolState → TolState) (j : Nat) : (d.updTol f).flag j = d.flag j := by simp [Dev.flag]
@[simp] theorem Dev.bytes_updTol (f : TolState → TolState) (j : Nat) : (d.updTol f).bytes j = d.bytes j := by simp [Dev.bytes]
@[simp] theorem Dev.domOn_updTol (f : TolState → TolState) (j : Nat) : (d.updTol f).domOn j = d.domOn j := by simp [Dev.domOn]
@[simp] theorem Dev.role_updTol (f : TolState → TolState) : (d.updTol f).role = d.role := by simp [Dev.role]
@[simp] theorem Dev.blocks_updTol (f : TolState → TolState) : (d.updTol f).blocks = d.blocks.updTol f := rfl

/-! ## updPos -/

@[simp] theorem Dev.updPos_now (f : PosState → PosState) : (d.updPos f).now = d.now := rfl
@[simp] theorem Dev.updPos_rb9212 (f : PosState → PosState) : (d.updPos f).rb9212 = d.rb9212 := rfl
@[simp] theorem Dev.updPos_objs (f : PosState → PosState) : (d.updPos f).objs = d.objs := rfl
@[simp] theorem Dev.updPos_cfgLog (f : PosState → PosState) : (d.updPos f).cfgLog = d.cfgLog := rfl
@[simp] theorem Dev.updPos_logs (f : PosState → PosState) : (d.updPos f).logs = d.logs := rfl
@[simp] theorem Dev.updPos_tol (f : PosState → PosState) : (d.updPos f).tol = d.tol := rfl
@[simp] theorem Dev.updPos_ports (f : PosState → PosState) : (d.updPos f).ports = d.ports := rfl
@[simp] theorem Dev.updPos_eng (f : PosState → PosState) : (d.updPos f).eng = d.eng := rfl
@[simp] theorem Dev.updPos_flt (f : PosState → PosState) : (d.updPos f).flt = d.flt := rfl
@[simp] theorem Dev.updPos_stitch (f : PosState → PosState) : (d.updPos f).stitch = d.stitch := rfl
@[simp] theorem Dev.updPos_seg (f : PosState → PosState) : (d.updPos f).seg = d.seg := rfl
@[simp] theorem Dev.updPos_cls (f : PosState → PosState) : (d.updPos f).cls = d.cls := rfl
@[simp] theorem Dev.updPos_cal (f : PosState → PosState) : (d.updPos f).cal = d.cal := rfl
@[simp] theorem Dev.updPos_pub (f : PosState → PosState) : (d.updPos f).pub = d.pub := rfl
@[simp] theorem Dev.updPos_net (f : PosState → PosState) : (d.updPos f).net = d.net := rfl
@[simp] theorem Dev.updPos_host (f : PosState → PosState) : (d.updPos f).host = d.host := rfl
@[simp] theorem Dev.updPos_mem (f : PosState → PosState) : (d.updPos f).mem = d.mem := rfl
@[simp] theorem Dev.updPos_pair (f : PosState → PosState) : (d.updPos f).pair = d.pair := rfl
@[simp] theorem Dev.updPos_boot (f : PosState → PosState) : (d.updPos f).boot = d.boot := rfl
@[simp] theorem Dev.updPos_hbm (f : PosState → PosState) : (d.updPos f).hbm = d.hbm := rfl
@[simp] theorem Dev.updPos_clock (f : PosState → PosState) : (d.updPos f).clock = d.clock := rfl
@[simp] theorem Dev.updPos_msix (f : PosState → PosState) : (d.updPos f).msix = d.msix := rfl
@[simp] theorem Dev.updPos_out (f : PosState → PosState) : (d.updPos f).out = d.out := rfl
@[simp] theorem Dev.updPos_opCode (f : PosState → PosState) : (d.updPos f).opCode = d.opCode := rfl
@[simp] theorem Dev.updPos_opData (f : PosState → PosState) : (d.updPos f).opData = d.opData := rfl
@[simp] theorem Dev.val_updPos (f : PosState → PosState) (j : Nat) : (d.updPos f).val j = d.val j := Dev.val_congr rfl j
@[simp] theorem Dev.nat_updPos (f : PosState → PosState) (j : Nat) : (d.updPos f).nat j = d.nat j := by simp [Dev.nat]
@[simp] theorem Dev.int_updPos (f : PosState → PosState) (j : Nat) : (d.updPos f).int j = d.int j := by simp [Dev.int]
@[simp] theorem Dev.flag_updPos (f : PosState → PosState) (j : Nat) : (d.updPos f).flag j = d.flag j := by simp [Dev.flag]
@[simp] theorem Dev.bytes_updPos (f : PosState → PosState) (j : Nat) : (d.updPos f).bytes j = d.bytes j := by simp [Dev.bytes]
@[simp] theorem Dev.domOn_updPos (f : PosState → PosState) (j : Nat) : (d.updPos f).domOn j = d.domOn j := by simp [Dev.domOn]
@[simp] theorem Dev.role_updPos (f : PosState → PosState) : (d.updPos f).role = d.role := by simp [Dev.role]
@[simp] theorem Dev.blocks_updPos (f : PosState → PosState) : (d.updPos f).blocks = d.blocks.updPos f := rfl

/-! ## updEng -/

@[simp] theorem Dev.updEng_now (f : EngState → EngState) : (d.updEng f).now = d.now := rfl
@[simp] theorem Dev.updEng_rb9212 (f : EngState → EngState) : (d.updEng f).rb9212 = d.rb9212 := rfl
@[simp] theorem Dev.updEng_objs (f : EngState → EngState) : (d.updEng f).objs = d.objs := rfl
@[simp] theorem Dev.updEng_cfgLog (f : EngState → EngState) : (d.updEng f).cfgLog = d.cfgLog := rfl
@[simp] theorem Dev.updEng_logs (f : EngState → EngState) : (d.updEng f).logs = d.logs := rfl
@[simp] theorem Dev.updEng_tol (f : EngState → EngState) : (d.updEng f).tol = d.tol := rfl
@[simp] theorem Dev.updEng_pos (f : EngState → EngState) : (d.updEng f).pos = d.pos := rfl
@[simp] theorem Dev.updEng_ports (f : EngState → EngState) : (d.updEng f).ports = d.ports := rfl
@[simp] theorem Dev.updEng_flt (f : EngState → EngState) : (d.updEng f).flt = d.flt := rfl
@[simp] theorem Dev.updEng_stitch (f : EngState → EngState) : (d.updEng f).stitch = d.stitch := rfl
@[simp] theorem Dev.updEng_seg (f : EngState → EngState) : (d.updEng f).seg = d.seg := rfl
@[simp] theorem Dev.updEng_cls (f : EngState → EngState) : (d.updEng f).cls = d.cls := rfl
@[simp] theorem Dev.updEng_cal (f : EngState → EngState) : (d.updEng f).cal = d.cal := rfl
@[simp] theorem Dev.updEng_pub (f : EngState → EngState) : (d.updEng f).pub = d.pub := rfl
@[simp] theorem Dev.updEng_net (f : EngState → EngState) : (d.updEng f).net = d.net := rfl
@[simp] theorem Dev.updEng_host (f : EngState → EngState) : (d.updEng f).host = d.host := rfl
@[simp] theorem Dev.updEng_mem (f : EngState → EngState) : (d.updEng f).mem = d.mem := rfl
@[simp] theorem Dev.updEng_pair (f : EngState → EngState) : (d.updEng f).pair = d.pair := rfl
@[simp] theorem Dev.updEng_boot (f : EngState → EngState) : (d.updEng f).boot = d.boot := rfl
@[simp] theorem Dev.updEng_hbm (f : EngState → EngState) : (d.updEng f).hbm = d.hbm := rfl
@[simp] theorem Dev.updEng_clock (f : EngState → EngState) : (d.updEng f).clock = d.clock := rfl
@[simp] theorem Dev.updEng_msix (f : EngState → EngState) : (d.updEng f).msix = d.msix := rfl
@[simp] theorem Dev.updEng_out (f : EngState → EngState) : (d.updEng f).out = d.out := rfl
@[simp] theorem Dev.updEng_opCode (f : EngState → EngState) : (d.updEng f).opCode = d.opCode := rfl
@[simp] theorem Dev.updEng_opData (f : EngState → EngState) : (d.updEng f).opData = d.opData := rfl
@[simp] theorem Dev.val_updEng (f : EngState → EngState) (j : Nat) : (d.updEng f).val j = d.val j := Dev.val_congr rfl j
@[simp] theorem Dev.nat_updEng (f : EngState → EngState) (j : Nat) : (d.updEng f).nat j = d.nat j := by simp [Dev.nat]
@[simp] theorem Dev.int_updEng (f : EngState → EngState) (j : Nat) : (d.updEng f).int j = d.int j := by simp [Dev.int]
@[simp] theorem Dev.flag_updEng (f : EngState → EngState) (j : Nat) : (d.updEng f).flag j = d.flag j := by simp [Dev.flag]
@[simp] theorem Dev.bytes_updEng (f : EngState → EngState) (j : Nat) : (d.updEng f).bytes j = d.bytes j := by simp [Dev.bytes]
@[simp] theorem Dev.domOn_updEng (f : EngState → EngState) (j : Nat) : (d.updEng f).domOn j = d.domOn j := by simp [Dev.domOn]
@[simp] theorem Dev.role_updEng (f : EngState → EngState) : (d.updEng f).role = d.role := by simp [Dev.role]
@[simp] theorem Dev.blocks_updEng (f : EngState → EngState) : (d.updEng f).blocks = d.blocks.updEng f := rfl

/-! ## updStitch -/

@[simp] theorem Dev.updStitch_now (f : StitchState → StitchState) : (d.updStitch f).now = d.now := rfl
@[simp] theorem Dev.updStitch_rb9212 (f : StitchState → StitchState) : (d.updStitch f).rb9212 = d.rb9212 := rfl
@[simp] theorem Dev.updStitch_objs (f : StitchState → StitchState) : (d.updStitch f).objs = d.objs := rfl
@[simp] theorem Dev.updStitch_cfgLog (f : StitchState → StitchState) : (d.updStitch f).cfgLog = d.cfgLog := rfl
@[simp] theorem Dev.updStitch_logs (f : StitchState → StitchState) : (d.updStitch f).logs = d.logs := rfl
@[simp] theorem Dev.updStitch_tol (f : StitchState → StitchState) : (d.updStitch f).tol = d.tol := rfl
@[simp] theorem Dev.updStitch_pos (f : StitchState → StitchState) : (d.updStitch f).pos = d.pos := rfl
@[simp] theorem Dev.updStitch_ports (f : StitchState → StitchState) : (d.updStitch f).ports = d.ports := rfl
@[simp] theorem Dev.updStitch_eng (f : StitchState → StitchState) : (d.updStitch f).eng = d.eng := rfl
@[simp] theorem Dev.updStitch_flt (f : StitchState → StitchState) : (d.updStitch f).flt = d.flt := rfl
@[simp] theorem Dev.updStitch_seg (f : StitchState → StitchState) : (d.updStitch f).seg = d.seg := rfl
@[simp] theorem Dev.updStitch_cls (f : StitchState → StitchState) : (d.updStitch f).cls = d.cls := rfl
@[simp] theorem Dev.updStitch_cal (f : StitchState → StitchState) : (d.updStitch f).cal = d.cal := rfl
@[simp] theorem Dev.updStitch_pub (f : StitchState → StitchState) : (d.updStitch f).pub = d.pub := rfl
@[simp] theorem Dev.updStitch_net (f : StitchState → StitchState) : (d.updStitch f).net = d.net := rfl
@[simp] theorem Dev.updStitch_host (f : StitchState → StitchState) : (d.updStitch f).host = d.host := rfl
@[simp] theorem Dev.updStitch_mem (f : StitchState → StitchState) : (d.updStitch f).mem = d.mem := rfl
@[simp] theorem Dev.updStitch_pair (f : StitchState → StitchState) : (d.updStitch f).pair = d.pair := rfl
@[simp] theorem Dev.updStitch_boot (f : StitchState → StitchState) : (d.updStitch f).boot = d.boot := rfl
@[simp] theorem Dev.updStitch_hbm (f : StitchState → StitchState) : (d.updStitch f).hbm = d.hbm := rfl
@[simp] theorem Dev.updStitch_clock (f : StitchState → StitchState) : (d.updStitch f).clock = d.clock := rfl
@[simp] theorem Dev.updStitch_msix (f : StitchState → StitchState) : (d.updStitch f).msix = d.msix := rfl
@[simp] theorem Dev.updStitch_out (f : StitchState → StitchState) : (d.updStitch f).out = d.out := rfl
@[simp] theorem Dev.updStitch_opCode (f : StitchState → StitchState) : (d.updStitch f).opCode = d.opCode := rfl
@[simp] theorem Dev.updStitch_opData (f : StitchState → StitchState) : (d.updStitch f).opData = d.opData := rfl
@[simp] theorem Dev.val_updStitch (f : StitchState → StitchState) (j : Nat) : (d.updStitch f).val j = d.val j := Dev.val_congr rfl j
@[simp] theorem Dev.nat_updStitch (f : StitchState → StitchState) (j : Nat) : (d.updStitch f).nat j = d.nat j := by simp [Dev.nat]
@[simp] theorem Dev.int_updStitch (f : StitchState → StitchState) (j : Nat) : (d.updStitch f).int j = d.int j := by simp [Dev.int]
@[simp] theorem Dev.flag_updStitch (f : StitchState → StitchState) (j : Nat) : (d.updStitch f).flag j = d.flag j := by simp [Dev.flag]
@[simp] theorem Dev.bytes_updStitch (f : StitchState → StitchState) (j : Nat) : (d.updStitch f).bytes j = d.bytes j := by simp [Dev.bytes]
@[simp] theorem Dev.domOn_updStitch (f : StitchState → StitchState) (j : Nat) : (d.updStitch f).domOn j = d.domOn j := by simp [Dev.domOn]
@[simp] theorem Dev.role_updStitch (f : StitchState → StitchState) : (d.updStitch f).role = d.role := by simp [Dev.role]
@[simp] theorem Dev.blocks_updStitch (f : StitchState → StitchState) : (d.updStitch f).blocks = d.blocks.updStitch f := rfl

/-! ## updSeg -/

@[simp] theorem Dev.updSeg_now (f : SegState → SegState) : (d.updSeg f).now = d.now := rfl
@[simp] theorem Dev.updSeg_rb9212 (f : SegState → SegState) : (d.updSeg f).rb9212 = d.rb9212 := rfl
@[simp] theorem Dev.updSeg_objs (f : SegState → SegState) : (d.updSeg f).objs = d.objs := rfl
@[simp] theorem Dev.updSeg_cfgLog (f : SegState → SegState) : (d.updSeg f).cfgLog = d.cfgLog := rfl
@[simp] theorem Dev.updSeg_logs (f : SegState → SegState) : (d.updSeg f).logs = d.logs := rfl
@[simp] theorem Dev.updSeg_tol (f : SegState → SegState) : (d.updSeg f).tol = d.tol := rfl
@[simp] theorem Dev.updSeg_pos (f : SegState → SegState) : (d.updSeg f).pos = d.pos := rfl
@[simp] theorem Dev.updSeg_ports (f : SegState → SegState) : (d.updSeg f).ports = d.ports := rfl
@[simp] theorem Dev.updSeg_eng (f : SegState → SegState) : (d.updSeg f).eng = d.eng := rfl
@[simp] theorem Dev.updSeg_flt (f : SegState → SegState) : (d.updSeg f).flt = d.flt := rfl
@[simp] theorem Dev.updSeg_stitch (f : SegState → SegState) : (d.updSeg f).stitch = d.stitch := rfl
@[simp] theorem Dev.updSeg_cls (f : SegState → SegState) : (d.updSeg f).cls = d.cls := rfl
@[simp] theorem Dev.updSeg_cal (f : SegState → SegState) : (d.updSeg f).cal = d.cal := rfl
@[simp] theorem Dev.updSeg_pub (f : SegState → SegState) : (d.updSeg f).pub = d.pub := rfl
@[simp] theorem Dev.updSeg_net (f : SegState → SegState) : (d.updSeg f).net = d.net := rfl
@[simp] theorem Dev.updSeg_host (f : SegState → SegState) : (d.updSeg f).host = d.host := rfl
@[simp] theorem Dev.updSeg_mem (f : SegState → SegState) : (d.updSeg f).mem = d.mem := rfl
@[simp] theorem Dev.updSeg_pair (f : SegState → SegState) : (d.updSeg f).pair = d.pair := rfl
@[simp] theorem Dev.updSeg_boot (f : SegState → SegState) : (d.updSeg f).boot = d.boot := rfl
@[simp] theorem Dev.updSeg_hbm (f : SegState → SegState) : (d.updSeg f).hbm = d.hbm := rfl
@[simp] theorem Dev.updSeg_clock (f : SegState → SegState) : (d.updSeg f).clock = d.clock := rfl
@[simp] theorem Dev.updSeg_msix (f : SegState → SegState) : (d.updSeg f).msix = d.msix := rfl
@[simp] theorem Dev.updSeg_out (f : SegState → SegState) : (d.updSeg f).out = d.out := rfl
@[simp] theorem Dev.updSeg_opCode (f : SegState → SegState) : (d.updSeg f).opCode = d.opCode := rfl
@[simp] theorem Dev.updSeg_opData (f : SegState → SegState) : (d.updSeg f).opData = d.opData := rfl
@[simp] theorem Dev.val_updSeg (f : SegState → SegState) (j : Nat) : (d.updSeg f).val j = d.val j := Dev.val_congr rfl j
@[simp] theorem Dev.nat_updSeg (f : SegState → SegState) (j : Nat) : (d.updSeg f).nat j = d.nat j := by simp [Dev.nat]
@[simp] theorem Dev.int_updSeg (f : SegState → SegState) (j : Nat) : (d.updSeg f).int j = d.int j := by simp [Dev.int]
@[simp] theorem Dev.flag_updSeg (f : SegState → SegState) (j : Nat) : (d.updSeg f).flag j = d.flag j := by simp [Dev.flag]
@[simp] theorem Dev.bytes_updSeg (f : SegState → SegState) (j : Nat) : (d.updSeg f).bytes j = d.bytes j := by simp [Dev.bytes]
@[simp] theorem Dev.domOn_updSeg (f : SegState → SegState) (j : Nat) : (d.updSeg f).domOn j = d.domOn j := by simp [Dev.domOn]
@[simp] theorem Dev.role_updSeg (f : SegState → SegState) : (d.updSeg f).role = d.role := by simp [Dev.role]
@[simp] theorem Dev.blocks_updSeg (f : SegState → SegState) : (d.updSeg f).blocks = d.blocks.updSeg f := rfl

/-! ## updCls -/

@[simp] theorem Dev.updCls_now (f : ClsState → ClsState) : (d.updCls f).now = d.now := rfl
@[simp] theorem Dev.updCls_rb9212 (f : ClsState → ClsState) : (d.updCls f).rb9212 = d.rb9212 := rfl
@[simp] theorem Dev.updCls_objs (f : ClsState → ClsState) : (d.updCls f).objs = d.objs := rfl
@[simp] theorem Dev.updCls_cfgLog (f : ClsState → ClsState) : (d.updCls f).cfgLog = d.cfgLog := rfl
@[simp] theorem Dev.updCls_logs (f : ClsState → ClsState) : (d.updCls f).logs = d.logs := rfl
@[simp] theorem Dev.updCls_tol (f : ClsState → ClsState) : (d.updCls f).tol = d.tol := rfl
@[simp] theorem Dev.updCls_pos (f : ClsState → ClsState) : (d.updCls f).pos = d.pos := rfl
@[simp] theorem Dev.updCls_ports (f : ClsState → ClsState) : (d.updCls f).ports = d.ports := rfl
@[simp] theorem Dev.updCls_eng (f : ClsState → ClsState) : (d.updCls f).eng = d.eng := rfl
@[simp] theorem Dev.updCls_flt (f : ClsState → ClsState) : (d.updCls f).flt = d.flt := rfl
@[simp] theorem Dev.updCls_stitch (f : ClsState → ClsState) : (d.updCls f).stitch = d.stitch := rfl
@[simp] theorem Dev.updCls_seg (f : ClsState → ClsState) : (d.updCls f).seg = d.seg := rfl
@[simp] theorem Dev.updCls_cal (f : ClsState → ClsState) : (d.updCls f).cal = d.cal := rfl
@[simp] theorem Dev.updCls_pub (f : ClsState → ClsState) : (d.updCls f).pub = d.pub := rfl
@[simp] theorem Dev.updCls_net (f : ClsState → ClsState) : (d.updCls f).net = d.net := rfl
@[simp] theorem Dev.updCls_host (f : ClsState → ClsState) : (d.updCls f).host = d.host := rfl
@[simp] theorem Dev.updCls_mem (f : ClsState → ClsState) : (d.updCls f).mem = d.mem := rfl
@[simp] theorem Dev.updCls_pair (f : ClsState → ClsState) : (d.updCls f).pair = d.pair := rfl
@[simp] theorem Dev.updCls_boot (f : ClsState → ClsState) : (d.updCls f).boot = d.boot := rfl
@[simp] theorem Dev.updCls_hbm (f : ClsState → ClsState) : (d.updCls f).hbm = d.hbm := rfl
@[simp] theorem Dev.updCls_clock (f : ClsState → ClsState) : (d.updCls f).clock = d.clock := rfl
@[simp] theorem Dev.updCls_msix (f : ClsState → ClsState) : (d.updCls f).msix = d.msix := rfl
@[simp] theorem Dev.updCls_out (f : ClsState → ClsState) : (d.updCls f).out = d.out := rfl
@[simp] theorem Dev.updCls_opCode (f : ClsState → ClsState) : (d.updCls f).opCode = d.opCode := rfl
@[simp] theorem Dev.updCls_opData (f : ClsState → ClsState) : (d.updCls f).opData = d.opData := rfl
@[simp] theorem Dev.val_updCls (f : ClsState → ClsState) (j : Nat) : (d.updCls f).val j = d.val j := Dev.val_congr rfl j
@[simp] theorem Dev.nat_updCls (f : ClsState → ClsState) (j : Nat) : (d.updCls f).nat j = d.nat j := by simp [Dev.nat]
@[simp] theorem Dev.int_updCls (f : ClsState → ClsState) (j : Nat) : (d.updCls f).int j = d.int j := by simp [Dev.int]
@[simp] theorem Dev.flag_updCls (f : ClsState → ClsState) (j : Nat) : (d.updCls f).flag j = d.flag j := by simp [Dev.flag]
@[simp] theorem Dev.bytes_updCls (f : ClsState → ClsState) (j : Nat) : (d.updCls f).bytes j = d.bytes j := by simp [Dev.bytes]
@[simp] theorem Dev.domOn_updCls (f : ClsState → ClsState) (j : Nat) : (d.updCls f).domOn j = d.domOn j := by simp [Dev.domOn]
@[simp] theorem Dev.role_updCls (f : ClsState → ClsState) : (d.updCls f).role = d.role := by simp [Dev.role]
@[simp] theorem Dev.blocks_updCls (f : ClsState → ClsState) : (d.updCls f).blocks = d.blocks.updCls f := rfl

/-! ## updPub -/

@[simp] theorem Dev.updPub_now (f : PubState → PubState) : (d.updPub f).now = d.now := rfl
@[simp] theorem Dev.updPub_rb9212 (f : PubState → PubState) : (d.updPub f).rb9212 = d.rb9212 := rfl
@[simp] theorem Dev.updPub_objs (f : PubState → PubState) : (d.updPub f).objs = d.objs := rfl
@[simp] theorem Dev.updPub_cfgLog (f : PubState → PubState) : (d.updPub f).cfgLog = d.cfgLog := rfl
@[simp] theorem Dev.updPub_logs (f : PubState → PubState) : (d.updPub f).logs = d.logs := rfl
@[simp] theorem Dev.updPub_tol (f : PubState → PubState) : (d.updPub f).tol = d.tol := rfl
@[simp] theorem Dev.updPub_pos (f : PubState → PubState) : (d.updPub f).pos = d.pos := rfl
@[simp] theorem Dev.updPub_ports (f : PubState → PubState) : (d.updPub f).ports = d.ports := rfl
@[simp] theorem Dev.updPub_eng (f : PubState → PubState) : (d.updPub f).eng = d.eng := rfl
@[simp] theorem Dev.updPub_flt (f : PubState → PubState) : (d.updPub f).flt = d.flt := rfl
@[simp] theorem Dev.updPub_stitch (f : PubState → PubState) : (d.updPub f).stitch = d.stitch := rfl
@[simp] theorem Dev.updPub_seg (f : PubState → PubState) : (d.updPub f).seg = d.seg := rfl
@[simp] theorem Dev.updPub_cls (f : PubState → PubState) : (d.updPub f).cls = d.cls := rfl
@[simp] theorem Dev.updPub_cal (f : PubState → PubState) : (d.updPub f).cal = d.cal := rfl
@[simp] theorem Dev.updPub_net (f : PubState → PubState) : (d.updPub f).net = d.net := rfl
@[simp] theorem Dev.updPub_host (f : PubState → PubState) : (d.updPub f).host = d.host := rfl
@[simp] theorem Dev.updPub_mem (f : PubState → PubState) : (d.updPub f).mem = d.mem := rfl
@[simp] theorem Dev.updPub_pair (f : PubState → PubState) : (d.updPub f).pair = d.pair := rfl
@[simp] theorem Dev.updPub_boot (f : PubState → PubState) : (d.updPub f).boot = d.boot := rfl
@[simp] theorem Dev.updPub_hbm (f : PubState → PubState) : (d.updPub f).hbm = d.hbm := rfl
@[simp] theorem Dev.updPub_clock (f : PubState → PubState) : (d.updPub f).clock = d.clock := rfl
@[simp] theorem Dev.updPub_msix (f : PubState → PubState) : (d.updPub f).msix = d.msix := rfl
@[simp] theorem Dev.updPub_out (f : PubState → PubState) : (d.updPub f).out = d.out := rfl
@[simp] theorem Dev.updPub_opCode (f : PubState → PubState) : (d.updPub f).opCode = d.opCode := rfl
@[simp] theorem Dev.updPub_opData (f : PubState → PubState) : (d.updPub f).opData = d.opData := rfl
@[simp] theorem Dev.val_updPub (f : PubState → PubState) (j : Nat) : (d.updPub f).val j = d.val j := Dev.val_congr rfl j
@[simp] theorem Dev.nat_updPub (f : PubState → PubState) (j : Nat) : (d.updPub f).nat j = d.nat j := by simp [Dev.nat]
@[simp] theorem Dev.int_updPub (f : PubState → PubState) (j : Nat) : (d.updPub f).int j = d.int j := by simp [Dev.int]
@[simp] theorem Dev.flag_updPub (f : PubState → PubState) (j : Nat) : (d.updPub f).flag j = d.flag j := by simp [Dev.flag]
@[simp] theorem Dev.bytes_updPub (f : PubState → PubState) (j : Nat) : (d.updPub f).bytes j = d.bytes j := by simp [Dev.bytes]
@[simp] theorem Dev.domOn_updPub (f : PubState → PubState) (j : Nat) : (d.updPub f).domOn j = d.domOn j := by simp [Dev.domOn]
@[simp] theorem Dev.role_updPub (f : PubState → PubState) : (d.updPub f).role = d.role := by simp [Dev.role]
@[simp] theorem Dev.blocks_updPub (f : PubState → PubState) : (d.updPub f).blocks = d.blocks.updPub f := rfl

/-! ## updClock -/

@[simp] theorem Dev.updClock_now (f : Clock → Clock) : (d.updClock f).now = d.now := rfl
@[simp] theorem Dev.updClock_rb9212 (f : Clock → Clock) : (d.updClock f).rb9212 = d.rb9212 := rfl
@[simp] theorem Dev.updClock_objs (f : Clock → Clock) : (d.updClock f).objs = d.objs := rfl
@[simp] theorem Dev.updClock_cfgLog (f : Clock → Clock) : (d.updClock f).cfgLog = d.cfgLog := rfl
@[simp] theorem Dev.updClock_logs (f : Clock → Clock) : (d.updClock f).logs = d.logs := rfl
@[simp] theorem Dev.updClock_tol (f : Clock → Clock) : (d.updClock f).tol = d.tol := rfl
@[simp] theorem Dev.updClock_pos (f : Clock → Clock) : (d.updClock f).pos = d.pos := rfl
@[simp] theorem Dev.updClock_ports (f : Clock → Clock) : (d.updClock f).ports = d.ports := rfl
@[simp] theorem Dev.updClock_eng (f : Clock → Clock) : (d.updClock f).eng = d.eng := rfl
@[simp] theorem Dev.updClock_flt (f : Clock → Clock) : (d.updClock f).flt = d.flt := rfl
@[simp] theorem Dev.updClock_stitch (f : Clock → Clock) : (d.updClock f).stitch = d.stitch := rfl
@[simp] theorem Dev.updClock_seg (f : Clock → Clock) : (d.updClock f).seg = d.seg := rfl
@[simp] theorem Dev.updClock_cls (f : Clock → Clock) : (d.updClock f).cls = d.cls := rfl
@[simp] theorem Dev.updClock_cal (f : Clock → Clock) : (d.updClock f).cal = d.cal := rfl
@[simp] theorem Dev.updClock_pub (f : Clock → Clock) : (d.updClock f).pub = d.pub := rfl
@[simp] theorem Dev.updClock_net (f : Clock → Clock) : (d.updClock f).net = d.net := rfl
@[simp] theorem Dev.updClock_host (f : Clock → Clock) : (d.updClock f).host = d.host := rfl
@[simp] theorem Dev.updClock_mem (f : Clock → Clock) : (d.updClock f).mem = d.mem := rfl
@[simp] theorem Dev.updClock_pair (f : Clock → Clock) : (d.updClock f).pair = d.pair := rfl
@[simp] theorem Dev.updClock_boot (f : Clock → Clock) : (d.updClock f).boot = d.boot := rfl
@[simp] theorem Dev.updClock_hbm (f : Clock → Clock) : (d.updClock f).hbm = d.hbm := rfl
@[simp] theorem Dev.updClock_msix (f : Clock → Clock) : (d.updClock f).msix = d.msix := rfl
@[simp] theorem Dev.updClock_out (f : Clock → Clock) : (d.updClock f).out = d.out := rfl
@[simp] theorem Dev.updClock_opCode (f : Clock → Clock) : (d.updClock f).opCode = d.opCode := rfl
@[simp] theorem Dev.updClock_opData (f : Clock → Clock) : (d.updClock f).opData = d.opData := rfl
@[simp] theorem Dev.val_updClock (f : Clock → Clock) (j : Nat) : (d.updClock f).val j = d.val j := Dev.val_congr rfl j
@[simp] theorem Dev.nat_updClock (f : Clock → Clock) (j : Nat) : (d.updClock f).nat j = d.nat j := by simp [Dev.nat]
@[simp] theorem Dev.int_updClock (f : Clock → Clock) (j : Nat) : (d.updClock f).int j = d.int j := by simp [Dev.int]
@[simp] theorem Dev.flag_updClock (f : Clock → Clock) (j : Nat) : (d.updClock f).flag j = d.flag j := by simp [Dev.flag]
@[simp] theorem Dev.bytes_updClock (f : Clock → Clock) (j : Nat) : (d.updClock f).bytes j = d.bytes j := by simp [Dev.bytes]
@[simp] theorem Dev.domOn_updClock (f : Clock → Clock) (j : Nat) : (d.updClock f).domOn j = d.domOn j := by simp [Dev.domOn]
@[simp] theorem Dev.role_updClock (f : Clock → Clock) : (d.updClock f).role = d.role := by simp [Dev.role]
@[simp] theorem Dev.blocks_updClock (f : Clock → Clock) : (d.updClock f).blocks = d.blocks.updClock f := rfl

/-! ## updMsix -/

@[simp] theorem Dev.updMsix_now (f : Msix → Msix) : (d.updMsix f).now = d.now := rfl
@[simp] theorem Dev.updMsix_rb9212 (f : Msix → Msix) : (d.updMsix f).rb9212 = d.rb9212 := rfl
@[simp] theorem Dev.updMsix_objs (f : Msix → Msix) : (d.updMsix f).objs = d.objs := rfl
@[simp] theorem Dev.updMsix_cfgLog (f : Msix → Msix) : (d.updMsix f).cfgLog = d.cfgLog := rfl
@[simp] theorem Dev.updMsix_logs (f : Msix → Msix) : (d.updMsix f).logs = d.logs := rfl
@[simp] theorem Dev.updMsix_tol (f : Msix → Msix) : (d.updMsix f).tol = d.tol := rfl
@[simp] theorem Dev.updMsix_pos (f : Msix → Msix) : (d.updMsix f).pos = d.pos := rfl
@[simp] theorem Dev.updMsix_ports (f : Msix → Msix) : (d.updMsix f).ports = d.ports := rfl
@[simp] theorem Dev.updMsix_eng (f : Msix → Msix) : (d.updMsix f).eng = d.eng := rfl
@[simp] theorem Dev.updMsix_flt (f : Msix → Msix) : (d.updMsix f).flt = d.flt := rfl
@[simp] theorem Dev.updMsix_stitch (f : Msix → Msix) : (d.updMsix f).stitch = d.stitch := rfl
@[simp] theorem Dev.updMsix_seg (f : Msix → Msix) : (d.updMsix f).seg = d.seg := rfl
@[simp] theorem Dev.updMsix_cls (f : Msix → Msix) : (d.updMsix f).cls = d.cls := rfl
@[simp] theorem Dev.updMsix_cal (f : Msix → Msix) : (d.updMsix f).cal = d.cal := rfl
@[simp] theorem Dev.updMsix_pub (f : Msix → Msix) : (d.updMsix f).pub = d.pub := rfl
@[simp] theorem Dev.updMsix_net (f : Msix → Msix) : (d.updMsix f).net = d.net := rfl
@[simp] theorem Dev.updMsix_host (f : Msix → Msix) : (d.updMsix f).host = d.host := rfl
@[simp] theorem Dev.updMsix_mem (f : Msix → Msix) : (d.updMsix f).mem = d.mem := rfl
@[simp] theorem Dev.updMsix_pair (f : Msix → Msix) : (d.updMsix f).pair = d.pair := rfl
@[simp] theorem Dev.updMsix_boot (f : Msix → Msix) : (d.updMsix f).boot = d.boot := rfl
@[simp] theorem Dev.updMsix_hbm (f : Msix → Msix) : (d.updMsix f).hbm = d.hbm := rfl
@[simp] theorem Dev.updMsix_clock (f : Msix → Msix) : (d.updMsix f).clock = d.clock := rfl
@[simp] theorem Dev.updMsix_out (f : Msix → Msix) : (d.updMsix f).out = d.out := rfl
@[simp] theorem Dev.updMsix_opCode (f : Msix → Msix) : (d.updMsix f).opCode = d.opCode := rfl
@[simp] theorem Dev.updMsix_opData (f : Msix → Msix) : (d.updMsix f).opData = d.opData := rfl
@[simp] theorem Dev.val_updMsix (f : Msix → Msix) (j : Nat) : (d.updMsix f).val j = d.val j := Dev.val_congr rfl j
@[simp] theorem Dev.nat_updMsix (f : Msix → Msix) (j : Nat) : (d.updMsix f).nat j = d.nat j := by simp [Dev.nat]
@[simp] theorem Dev.int_updMsix (f : Msix → Msix) (j : Nat) : (d.updMsix f).int j = d.int j := by simp [Dev.int]
@[simp] theorem Dev.flag_updMsix (f : Msix → Msix) (j : Nat) : (d.updMsix f).flag j = d.flag j := by simp [Dev.flag]
@[simp] theorem Dev.bytes_updMsix (f : Msix → Msix) (j : Nat) : (d.updMsix f).bytes j = d.bytes j := by simp [Dev.bytes]
@[simp] theorem Dev.domOn_updMsix (f : Msix → Msix) (j : Nat) : (d.updMsix f).domOn j = d.domOn j := by simp [Dev.domOn]
@[simp] theorem Dev.role_updMsix (f : Msix → Msix) : (d.updMsix f).role = d.role := by simp [Dev.role]
@[simp] theorem Dev.blocks_updMsix (f : Msix → Msix) : (d.updMsix f).blocks = d.blocks := rfl

/-! ## updHbm -/

@[simp] theorem Dev.updHbm_now (f : Tbl Byte → Tbl Byte) : (d.updHbm f).now = d.now := rfl
@[simp] theorem Dev.updHbm_rb9212 (f : Tbl Byte → Tbl Byte) : (d.updHbm f).rb9212 = d.rb9212 := rfl
@[simp] theorem Dev.updHbm_objs (f : Tbl Byte → Tbl Byte) : (d.updHbm f).objs = d.objs := rfl
@[simp] theorem Dev.updHbm_cfgLog (f : Tbl Byte → Tbl Byte) : (d.updHbm f).cfgLog = d.cfgLog := rfl
@[simp] theorem Dev.updHbm_logs (f : Tbl Byte → Tbl Byte) : (d.updHbm f).logs = d.logs := rfl
@[simp] theorem Dev.updHbm_tol (f : Tbl Byte → Tbl Byte) : (d.updHbm f).tol = d.tol := rfl
@[simp] theorem Dev.updHbm_pos (f : Tbl Byte → Tbl Byte) : (d.updHbm f).pos = d.pos := rfl
@[simp] theorem Dev.updHbm_ports (f : Tbl Byte → Tbl Byte) : (d.updHbm f).ports = d.ports := rfl
@[simp] theorem Dev.updHbm_eng (f : Tbl Byte → Tbl Byte) : (d.updHbm f).eng = d.eng := rfl
@[simp] theorem Dev.updHbm_flt (f : Tbl Byte → Tbl Byte) : (d.updHbm f).flt = d.flt := rfl
@[simp] theorem Dev.updHbm_stitch (f : Tbl Byte → Tbl Byte) : (d.updHbm f).stitch = d.stitch := rfl
@[simp] theorem Dev.updHbm_seg (f : Tbl Byte → Tbl Byte) : (d.updHbm f).seg = d.seg := rfl
@[simp] theorem Dev.updHbm_cls (f : Tbl Byte → Tbl Byte) : (d.updHbm f).cls = d.cls := rfl
@[simp] theorem Dev.updHbm_cal (f : Tbl Byte → Tbl Byte) : (d.updHbm f).cal = d.cal := rfl
@[simp] theorem Dev.updHbm_pub (f : Tbl Byte → Tbl Byte) : (d.updHbm f).pub = d.pub := rfl
@[simp] theorem Dev.updHbm_net (f : Tbl Byte → Tbl Byte) : (d.updHbm f).net = d.net := rfl
@[simp] theorem Dev.updHbm_host (f : Tbl Byte → Tbl Byte) : (d.updHbm f).host = d.host := rfl
@[simp] theorem Dev.updHbm_mem (f : Tbl Byte → Tbl Byte) : (d.updHbm f).mem = d.mem := rfl
@[simp] theorem Dev.updHbm_pair (f : Tbl Byte → Tbl Byte) : (d.updHbm f).pair = d.pair := rfl
@[simp] theorem Dev.updHbm_boot (f : Tbl Byte → Tbl Byte) : (d.updHbm f).boot = d.boot := rfl
@[simp] theorem Dev.updHbm_clock (f : Tbl Byte → Tbl Byte) : (d.updHbm f).clock = d.clock := rfl
@[simp] theorem Dev.updHbm_msix (f : Tbl Byte → Tbl Byte) : (d.updHbm f).msix = d.msix := rfl
@[simp] theorem Dev.updHbm_out (f : Tbl Byte → Tbl Byte) : (d.updHbm f).out = d.out := rfl
@[simp] theorem Dev.updHbm_opCode (f : Tbl Byte → Tbl Byte) : (d.updHbm f).opCode = d.opCode := rfl
@[simp] theorem Dev.updHbm_opData (f : Tbl Byte → Tbl Byte) : (d.updHbm f).opData = d.opData := rfl
@[simp] theorem Dev.val_updHbm (f : Tbl Byte → Tbl Byte) (j : Nat) : (d.updHbm f).val j = d.val j := Dev.val_congr rfl j
@[simp] theorem Dev.nat_updHbm (f : Tbl Byte → Tbl Byte) (j : Nat) : (d.updHbm f).nat j = d.nat j := by simp [Dev.nat]
@[simp] theorem Dev.int_updHbm (f : Tbl Byte → Tbl Byte) (j : Nat) : (d.updHbm f).int j = d.int j := by simp [Dev.int]
@[simp] theorem Dev.flag_updHbm (f : Tbl Byte → Tbl Byte) (j : Nat) : (d.updHbm f).flag j = d.flag j := by simp [Dev.flag]
@[simp] theorem Dev.bytes_updHbm (f : Tbl Byte → Tbl Byte) (j : Nat) : (d.updHbm f).bytes j = d.bytes j := by simp [Dev.bytes]
@[simp] theorem Dev.domOn_updHbm (f : Tbl Byte → Tbl Byte) (j : Nat) : (d.updHbm f).domOn j = d.domOn j := by simp [Dev.domOn]
@[simp] theorem Dev.role_updHbm (f : Tbl Byte → Tbl Byte) : (d.updHbm f).role = d.role := by simp [Dev.role]
@[simp] theorem Dev.blocks_updHbm (f : Tbl Byte → Tbl Byte) : (d.updHbm f).blocks = d.blocks.updHbm f := rfl

/-! ## updCfgLog -/

@[simp] theorem Dev.updCfgLog_now (f : Tbl (List CfgEntry) → Tbl (List CfgEntry)) : (d.updCfgLog f).now = d.now := rfl
@[simp] theorem Dev.updCfgLog_rb9212 (f : Tbl (List CfgEntry) → Tbl (List CfgEntry)) : (d.updCfgLog f).rb9212 = d.rb9212 := rfl
@[simp] theorem Dev.updCfgLog_objs (f : Tbl (List CfgEntry) → Tbl (List CfgEntry)) : (d.updCfgLog f).objs = d.objs := rfl
@[simp] theorem Dev.updCfgLog_logs (f : Tbl (List CfgEntry) → Tbl (List CfgEntry)) : (d.updCfgLog f).logs = d.logs := rfl
@[simp] theorem Dev.updCfgLog_tol (f : Tbl (List CfgEntry) → Tbl (List CfgEntry)) : (d.updCfgLog f).tol = d.tol := rfl
@[simp] theorem Dev.updCfgLog_pos (f : Tbl (List CfgEntry) → Tbl (List CfgEntry)) : (d.updCfgLog f).pos = d.pos := rfl
@[simp] theorem Dev.updCfgLog_ports (f : Tbl (List CfgEntry) → Tbl (List CfgEntry)) : (d.updCfgLog f).ports = d.ports := rfl
@[simp] theorem Dev.updCfgLog_eng (f : Tbl (List CfgEntry) → Tbl (List CfgEntry)) : (d.updCfgLog f).eng = d.eng := rfl
@[simp] theorem Dev.updCfgLog_flt (f : Tbl (List CfgEntry) → Tbl (List CfgEntry)) : (d.updCfgLog f).flt = d.flt := rfl
@[simp] theorem Dev.updCfgLog_stitch (f : Tbl (List CfgEntry) → Tbl (List CfgEntry)) : (d.updCfgLog f).stitch = d.stitch := rfl
@[simp] theorem Dev.updCfgLog_seg (f : Tbl (List CfgEntry) → Tbl (List CfgEntry)) : (d.updCfgLog f).seg = d.seg := rfl
@[simp] theorem Dev.updCfgLog_cls (f : Tbl (List CfgEntry) → Tbl (List CfgEntry)) : (d.updCfgLog f).cls = d.cls := rfl
@[simp] theorem Dev.updCfgLog_cal (f : Tbl (List CfgEntry) → Tbl (List CfgEntry)) : (d.updCfgLog f).cal = d.cal := rfl
@[simp] theorem Dev.updCfgLog_pub (f : Tbl (List CfgEntry) → Tbl (List CfgEntry)) : (d.updCfgLog f).pub = d.pub := rfl
@[simp] theorem Dev.updCfgLog_net (f : Tbl (List CfgEntry) → Tbl (List CfgEntry)) : (d.updCfgLog f).net = d.net := rfl
@[simp] theorem Dev.updCfgLog_host (f : Tbl (List CfgEntry) → Tbl (List CfgEntry)) : (d.updCfgLog f).host = d.host := rfl
@[simp] theorem Dev.updCfgLog_mem (f : Tbl (List CfgEntry) → Tbl (List CfgEntry)) : (d.updCfgLog f).mem = d.mem := rfl
@[simp] theorem Dev.updCfgLog_pair (f : Tbl (List CfgEntry) → Tbl (List CfgEntry)) : (d.updCfgLog f).pair = d.pair := rfl
@[simp] theorem Dev.updCfgLog_boot (f : Tbl (List CfgEntry) → Tbl (List CfgEntry)) : (d.updCfgLog f).boot = d.boot := rfl
@[simp] theorem Dev.updCfgLog_hbm (f : Tbl (List CfgEntry) → Tbl (List CfgEntry)) : (d.updCfgLog f).hbm = d.hbm := rfl
@[simp] theorem Dev.updCfgLog_clock (f : Tbl (List CfgEntry) → Tbl (List CfgEntry)) : (d.updCfgLog f).clock = d.clock := rfl
@[simp] theorem Dev.updCfgLog_msix (f : Tbl (List CfgEntry) → Tbl (List CfgEntry)) : (d.updCfgLog f).msix = d.msix := rfl
@[simp] theorem Dev.updCfgLog_out (f : Tbl (List CfgEntry) → Tbl (List CfgEntry)) : (d.updCfgLog f).out = d.out := rfl
@[simp] theorem Dev.updCfgLog_opCode (f : Tbl (List CfgEntry) → Tbl (List CfgEntry)) : (d.updCfgLog f).opCode = d.opCode := rfl
@[simp] theorem Dev.updCfgLog_opData (f : Tbl (List CfgEntry) → Tbl (List CfgEntry)) : (d.updCfgLog f).opData = d.opData := rfl
@[simp] theorem Dev.val_updCfgLog (f : Tbl (List CfgEntry) → Tbl (List CfgEntry)) (j : Nat) : (d.updCfgLog f).val j = d.val j := Dev.val_congr rfl j
@[simp] theorem Dev.nat_updCfgLog (f : Tbl (List CfgEntry) → Tbl (List CfgEntry)) (j : Nat) : (d.updCfgLog f).nat j = d.nat j := by simp [Dev.nat]
@[simp] theorem Dev.int_updCfgLog (f : Tbl (List CfgEntry) → Tbl (List CfgEntry)) (j : Nat) : (d.updCfgLog f).int j = d.int j := by simp [Dev.int]
@[simp] theorem Dev.flag_updCfgLog (f : Tbl (List CfgEntry) → Tbl (List CfgEntry)) (j : Nat) : (d.updCfgLog f).flag j = d.flag j := by simp [Dev.flag]
@[simp] theorem Dev.bytes_updCfgLog (f : Tbl (List CfgEntry) → Tbl (List CfgEntry)) (j : Nat) : (d.updCfgLog f).bytes j = d.bytes j := by simp [Dev.bytes]
@[simp] theorem Dev.domOn_updCfgLog (f : Tbl (List CfgEntry) → Tbl (List CfgEntry)) (j : Nat) : (d.updCfgLog f).domOn j = d.domOn j := by simp [Dev.domOn]
@[simp] theorem Dev.role_updCfgLog (f : Tbl (List CfgEntry) → Tbl (List CfgEntry)) : (d.updCfgLog f).role = d.role := by simp [Dev.role]
@[simp] theorem Dev.blocks_updCfgLog (f : Tbl (List CfgEntry) → Tbl (List CfgEntry)) : (d.updCfgLog f).blocks = d.blocks.updCfgLog f := rfl

/-! ## updLogs -/

@[simp] theorem Dev.updLogs_now (f : Logs → Logs) : (d.updLogs f).now = d.now := rfl
@[simp] theorem Dev.updLogs_rb9212 (f : Logs → Logs) : (d.updLogs f).rb9212 = d.rb9212 := rfl
@[simp] theorem Dev.updLogs_objs (f : Logs → Logs) : (d.updLogs f).objs = d.objs := rfl
@[simp] theorem Dev.updLogs_cfgLog (f : Logs → Logs) : (d.updLogs f).cfgLog = d.cfgLog := rfl
@[simp] theorem Dev.updLogs_tol (f : Logs → Logs) : (d.updLogs f).tol = d.tol := rfl
@[simp] theorem Dev.updLogs_pos (f : Logs → Logs) : (d.updLogs f).pos = d.pos := rfl
@[simp] theorem Dev.updLogs_ports (f : Logs → Logs) : (d.updLogs f).ports = d.ports := rfl
@[simp] theorem Dev.updLogs_eng (f : Logs → Logs) : (d.updLogs f).eng = d.eng := rfl
@[simp] theorem Dev.updLogs_flt (f : Logs → Logs) : (d.updLogs f).flt = d.flt := rfl
@[simp] theorem Dev.updLogs_stitch (f : Logs → Logs) : (d.updLogs f).stitch = d.stitch := rfl
@[simp] theorem Dev.updLogs_seg (f : Logs → Logs) : (d.updLogs f).seg = d.seg := rfl
@[simp] theorem Dev.updLogs_cls (f : Logs → Logs) : (d.updLogs f).cls = d.cls := rfl
@[simp] theorem Dev.updLogs_cal (f : Logs → Logs) : (d.updLogs f).cal = d.cal := rfl
@[simp] theorem Dev.updLogs_pub (f : Logs → Logs) : (d.updLogs f).pub = d.pub := rfl
@[simp] theorem Dev.updLogs_net (f : Logs → Logs) : (d.updLogs f).net = d.net := rfl
@[simp] theorem Dev.updLogs_host (f : Logs → Logs) : (d.updLogs f).host = d.host := rfl
@[simp] theorem Dev.updLogs_mem (f : Logs → Logs) : (d.updLogs f).mem = d.mem := rfl
@[simp] theorem Dev.updLogs_pair (f : Logs → Logs) : (d.updLogs f).pair = d.pair := rfl
@[simp] theorem Dev.updLogs_boot (f : Logs → Logs) : (d.updLogs f).boot = d.boot := rfl
@[simp] theorem Dev.updLogs_hbm (f : Logs → Logs) : (d.updLogs f).hbm = d.hbm := rfl
@[simp] theorem Dev.updLogs_clock (f : Logs → Logs) : (d.updLogs f).clock = d.clock := rfl
@[simp] theorem Dev.updLogs_msix (f : Logs → Logs) : (d.updLogs f).msix = d.msix := rfl
@[simp] theorem Dev.updLogs_out (f : Logs → Logs) : (d.updLogs f).out = d.out := rfl
@[simp] theorem Dev.updLogs_opCode (f : Logs → Logs) : (d.updLogs f).opCode = d.opCode := rfl
@[simp] theorem Dev.updLogs_opData (f : Logs → Logs) : (d.updLogs f).opData = d.opData := rfl
@[simp] theorem Dev.val_updLogs (f : Logs → Logs) (j : Nat) : (d.updLogs f).val j = d.val j := Dev.val_congr rfl j
@[simp] theorem Dev.nat_updLogs (f : Logs → Logs) (j : Nat) : (d.updLogs f).nat j = d.nat j := by simp [Dev.nat]
@[simp] theorem Dev.int_updLogs (f : Logs → Logs) (j : Nat) : (d.updLogs f).int j = d.int j := by simp [Dev.int]
@[simp] theorem Dev.flag_updLogs (f : Logs → Logs) (j : Nat) : (d.updLogs f).flag j = d.flag j := by simp [Dev.flag]
@[simp] theorem Dev.bytes_updLogs (f : Logs → Logs) (j : Nat) : (d.updLogs f).bytes j = d.bytes j := by simp [Dev.bytes]
@[simp] theorem Dev.domOn_updLogs (f : Logs → Logs) (j : Nat) : (d.updLogs f).domOn j = d.domOn j := by simp [Dev.domOn]
@[simp] theorem Dev.role_updLogs (f : Logs → Logs) : (d.updLogs f).role = d.role := by simp [Dev.role]
@[simp] theorem Dev.blocks_updLogs (f : Logs → Logs) : (d.updLogs f).blocks = d.blocks := rfl

/-! ## opResult -/

@[simp] theorem Dev.opResult_now (c : RCode) (bs : Bytes) : (d.opResult c bs).now = d.now := rfl
@[simp] theorem Dev.opResult_rb9212 (c : RCode) (bs : Bytes) : (d.opResult c bs).rb9212 = d.rb9212 := rfl
@[simp] theorem Dev.opResult_objs (c : RCode) (bs : Bytes) : (d.opResult c bs).objs = d.objs := rfl
@[simp] theorem Dev.opResult_cfgLog (c : RCode) (bs : Bytes) : (d.opResult c bs).cfgLog = d.cfgLog := rfl
@[simp] theorem Dev.opResult_logs (c : RCode) (bs : Bytes) : (d.opResult c bs).logs = d.logs := rfl
@[simp] theorem Dev.opResult_tol (c : RCode) (bs : Bytes) : (d.opResult c bs).tol = d.tol := rfl
@[simp] theorem Dev.opResult_pos (c : RCode) (bs : Bytes) : (d.opResult c bs).pos = d.pos := rfl
@[simp] theorem Dev.opResult_ports (c : RCode) (bs : Bytes) : (d.opResult c bs).ports = d.ports := rfl
@[simp] theorem Dev.opResult_eng (c : RCode) (bs : Bytes) : (d.opResult c bs).eng = d.eng := rfl
@[simp] theorem Dev.opResult_flt (c : RCode) (bs : Bytes) : (d.opResult c bs).flt = d.flt := rfl
@[simp] theorem Dev.opResult_stitch (c : RCode) (bs : Bytes) : (d.opResult c bs).stitch = d.stitch := rfl
@[simp] theorem Dev.opResult_seg (c : RCode) (bs : Bytes) : (d.opResult c bs).seg = d.seg := rfl
@[simp] theorem Dev.opResult_cls (c : RCode) (bs : Bytes) : (d.opResult c bs).cls = d.cls := rfl
@[simp] theorem Dev.opResult_cal (c : RCode) (bs : Bytes) : (d.opResult c bs).cal = d.cal := rfl
@[simp] theorem Dev.opResult_pub (c : RCode) (bs : Bytes) : (d.opResult c bs).pub = d.pub := rfl
@[simp] theorem Dev.opResult_net (c : RCode) (bs : Bytes) : (d.opResult c bs).net = d.net := rfl
@[simp] theorem Dev.opResult_host (c : RCode) (bs : Bytes) : (d.opResult c bs).host = d.host := rfl
@[simp] theorem Dev.opResult_mem (c : RCode) (bs : Bytes) : (d.opResult c bs).mem = d.mem := rfl
@[simp] theorem Dev.opResult_pair (c : RCode) (bs : Bytes) : (d.opResult c bs).pair = d.pair := rfl
@[simp] theorem Dev.opResult_boot (c : RCode) (bs : Bytes) : (d.opResult c bs).boot = d.boot := rfl
@[simp] theorem Dev.opResult_hbm (c : RCode) (bs : Bytes) : (d.opResult c bs).hbm = d.hbm := rfl
@[simp] theorem Dev.opResult_clock (c : RCode) (bs : Bytes) : (d.opResult c bs).clock = d.clock := rfl
@[simp] theorem Dev.opResult_msix (c : RCode) (bs : Bytes) : (d.opResult c bs).msix = d.msix := rfl
@[simp] theorem Dev.opResult_out (c : RCode) (bs : Bytes) : (d.opResult c bs).out = d.out := rfl
@[simp] theorem Dev.val_opResult (c : RCode) (bs : Bytes) (j : Nat) : (d.opResult c bs).val j = d.val j := Dev.val_congr rfl j
@[simp] theorem Dev.nat_opResult (c : RCode) (bs : Bytes) (j : Nat) : (d.opResult c bs).nat j = d.nat j := by simp [Dev.nat]
@[simp] theorem Dev.int_opResult (c : RCode) (bs : Bytes) (j : Nat) : (d.opResult c bs).int j = d.int j := by simp [Dev.int]
@[simp] theorem Dev.flag_opResult (c : RCode) (bs : Bytes) (j : Nat) : (d.opResult c bs).flag j = d.flag j := by simp [Dev.flag]
@[simp] theorem Dev.bytes_opResult (c : RCode) (bs : Bytes) (j : Nat) : (d.opResult c bs).bytes j = d.bytes j := by simp [Dev.bytes]
@[simp] theorem Dev.domOn_opResult (c : RCode) (bs : Bytes) (j : Nat) : (d.opResult c bs).domOn j = d.domOn j := by simp [Dev.domOn]
@[simp] theorem Dev.role_opResult (c : RCode) (bs : Bytes) : (d.opResult c bs).role = d.role := by simp [Dev.role]
@[simp] theorem Dev.blocks_opResult (c : RCode) (bs : Bytes) : (d.opResult c bs).blocks = d.blocks := rfl

/-! ## emit -/

@[simp] theorem Dev.emit_now (o : Out) : (d.emit o).now = d.now := rfl
@[simp] theorem Dev.emit_rb9212 (o : Out) : (d.emit o).rb9212 = d.rb9212 := rfl
@[simp] theorem Dev.emit_objs (o : Out) : (d.emit o).objs = d.objs := rfl
@[simp] theorem Dev.emit_cfgLog (o : Out) : (d.emit o).cfgLog = d.cfgLog := rfl
@[simp] theorem Dev.emit_logs (o : Out) : (d.emit o).logs = d.logs := rfl
@[simp] theorem Dev.emit_tol (o : Out) : (d.emit o).tol = d.tol := rfl
@[simp] theorem Dev.emit_pos (o : Out) : (d.emit o).pos = d.pos := rfl
@[simp] theorem Dev.emit_ports (o : Out) : (d.emit o).ports = d.ports := rfl
@[simp] theorem Dev.emit_eng (o : Out) : (d.emit o).eng = d.eng := rfl
@[simp] theorem Dev.emit_flt (o : Out) : (d.emit o).flt = d.flt := rfl
@[simp] theorem Dev.emit_stitch (o : Out) : (d.emit o).stitch = d.stitch := rfl
@[simp] theorem Dev.emit_seg (o : Out) : (d.emit o).seg = d.seg := rfl
@[simp] theorem Dev.emit_cls (o : Out) : (d.emit o).cls = d.cls := rfl
@[simp] theorem Dev.emit_cal (o : Out) : (d.emit o).cal = d.cal := rfl
@[simp] theorem Dev.emit_pub (o : Out) : (d.emit o).pub = d.pub := rfl
@[simp] theorem Dev.emit_net (o : Out) : (d.emit o).net = d.net := rfl
@[simp] theorem Dev.emit_host (o : Out) : (d.emit o).host = d.host := rfl
@[simp] theorem Dev.emit_mem (o : Out) : (d.emit o).mem = d.mem := rfl
@[simp] theorem Dev.emit_pair (o : Out) : (d.emit o).pair = d.pair := rfl
@[simp] theorem Dev.emit_boot (o : Out) : (d.emit o).boot = d.boot := rfl
@[simp] theorem Dev.emit_hbm (o : Out) : (d.emit o).hbm = d.hbm := rfl
@[simp] theorem Dev.emit_clock (o : Out) : (d.emit o).clock = d.clock := rfl
@[simp] theorem Dev.emit_msix (o : Out) : (d.emit o).msix = d.msix := rfl
@[simp] theorem Dev.emit_opCode (o : Out) : (d.emit o).opCode = d.opCode := rfl
@[simp] theorem Dev.emit_opData (o : Out) : (d.emit o).opData = d.opData := rfl
@[simp] theorem Dev.val_emit (o : Out) (j : Nat) : (d.emit o).val j = d.val j := Dev.val_congr rfl j
@[simp] theorem Dev.nat_emit (o : Out) (j : Nat) : (d.emit o).nat j = d.nat j := by simp [Dev.nat]
@[simp] theorem Dev.int_emit (o : Out) (j : Nat) : (d.emit o).int j = d.int j := by simp [Dev.int]
@[simp] theorem Dev.flag_emit (o : Out) (j : Nat) : (d.emit o).flag j = d.flag j := by simp [Dev.flag]
@[simp] theorem Dev.bytes_emit (o : Out) (j : Nat) : (d.emit o).bytes j = d.bytes j := by simp [Dev.bytes]
@[simp] theorem Dev.domOn_emit (o : Out) (j : Nat) : (d.emit o).domOn j = d.domOn j := by simp [Dev.domOn]
@[simp] theorem Dev.role_emit (o : Out) : (d.emit o).role = d.role := by simp [Dev.role]
@[simp] theorem Dev.blocks_emit (o : Out) : (d.emit o).blocks = d.blocks := rfl

/-! ## updGroup -/

@[simp] theorem Dev.updGroup_now (g : Nat) (f : Group → Group) : (d.updGroup g f).now = d.now := rfl
@[simp] theorem Dev.updGroup_rb9212 (g : Nat) (f : Group → Group) : (d.updGroup g f).rb9212 = d.rb9212 := rfl
@[simp] theorem Dev.updGroup_objs (g : Nat) (f : Group → Group) : (d.updGroup g f).objs = d.objs := rfl
@[simp] theorem Dev.updGroup_cfgLog (g : Nat) (f : Group → Group) : (d.updGroup g f).cfgLog = d.cfgLog := rfl
@[simp] theorem Dev.updGroup_logs (g : Nat) (f : Group → Group) : (d.updGroup g f).logs = d.logs := rfl
@[simp] theorem Dev.updGroup_pos (g : Nat) (f : Group → Group) : (d.updGroup g f).pos = d.pos := rfl
@[simp] theorem Dev.updGroup_ports (g : Nat) (f : Group → Group) : (d.updGroup g f).ports = d.ports := rfl
@[simp] theorem Dev.updGroup_eng (g : Nat) (f : Group → Group) : (d.updGroup g f).eng = d.eng := rfl
@[simp] theorem Dev.updGroup_flt (g : Nat) (f : Group → Group) : (d.updGroup g f).flt = d.flt := rfl
@[simp] theorem Dev.updGroup_stitch (g : Nat) (f : Group → Group) : (d.updGroup g f).stitch = d.stitch := rfl
@[simp] theorem Dev.updGroup_seg (g : Nat) (f : Group → Group) : (d.updGroup g f).seg = d.seg := rfl
@[simp] theorem Dev.updGroup_cls (g : Nat) (f : Group → Group) : (d.updGroup g f).cls = d.cls := rfl
@[simp] theorem Dev.updGroup_cal (g : Nat) (f : Group → Group) : (d.updGroup g f).cal = d.cal := rfl
@[simp] theorem Dev.updGroup_pub (g : Nat) (f : Group → Group) : (d.updGroup g f).pub = d.pub := rfl
@[simp] theorem Dev.updGroup_net (g : Nat) (f : Group → Group) : (d.updGroup g f).net = d.net := rfl
@[simp] theorem Dev.updGroup_host (g : Nat) (f : Group → Group) : (d.updGroup g f).host = d.host := rfl
@[simp] theorem Dev.updGroup_mem (g : Nat) (f : Group → Group) : (d.updGroup g f).mem = d.mem := rfl
@[simp] theorem Dev.updGroup_pair (g : Nat) (f : Group → Group) : (d.updGroup g f).pair = d.pair := rfl
@[simp] theorem Dev.updGroup_boot (g : Nat) (f : Group → Group) : (d.updGroup g f).boot = d.boot := rfl
@[simp] theorem Dev.updGroup_hbm (g : Nat) (f : Group → Group) : (d.updGroup g f).hbm = d.hbm := rfl
@[simp] theorem Dev.updGroup_clock (g : Nat) (f : Group → Group) : (d.updGroup g f).clock = d.clock := rfl
@[simp] theorem Dev.updGroup_msix (g : Nat) (f : Group → Group) : (d.updGroup g f).msix = d.msix := rfl
@[simp] theorem Dev.updGroup_out (g : Nat) (f : Group → Group) : (d.updGroup g f).out = d.out := rfl
@[simp] theorem Dev.updGroup_opCode (g : Nat) (f : Group → Group) : (d.updGroup g f).opCode = d.opCode := rfl
@[simp] theorem Dev.updGroup_opData (g : Nat) (f : Group → Group) : (d.updGroup g f).opData = d.opData := rfl
@[simp] theorem Dev.val_updGroup (g : Nat) (f : Group → Group) (j : Nat) : (d.updGroup g f).val j = d.val j := Dev.val_congr rfl j
@[simp] theorem Dev.nat_updGroup (g : Nat) (f : Group → Group) (j : Nat) : (d.updGroup g f).nat j = d.nat j := by simp [Dev.nat]
@[simp] theorem Dev.int_updGroup (g : Nat) (f : Group → Group) (j : Nat) : (d.updGroup g f).int j = d.int j := by simp [Dev.int]
@[simp] theorem Dev.flag_updGroup (g : Nat) (f : Group → Group) (j : Nat) : (d.updGroup g f).flag j = d.flag j := by simp [Dev.flag]
@[simp] theorem Dev.bytes_updGroup (g : Nat) (f : Group → Group) (j : Nat) : (d.updGroup g f).bytes j = d.bytes j := by simp [Dev.bytes]
@[simp] theorem Dev.domOn_updGroup (g : Nat) (f : Group → Group) (j : Nat) : (d.updGroup g f).domOn j = d.domOn j := by simp [Dev.domOn]
@[simp] theorem Dev.role_updGroup (g : Nat) (f : Group → Group) : (d.updGroup g f).role = d.role := by simp [Dev.role]
@[simp] theorem Dev.blocks_updGroup (g : Nat) (f : Group → Group) : (d.updGroup g f).blocks = d.blocks.updGroup g f := rfl

/-! ## updAxis -/

@[simp] theorem Dev.updAxis_now (a : Nat) (f : Axis → Axis) : (d.updAxis a f).now = d.now := rfl
@[simp] theorem Dev.updAxis_rb9212 (a : Nat) (f : Axis → Axis) : (d.updAxis a f).rb9212 = d.rb9212 := rfl
@[simp] theorem Dev.updAxis_objs (a : Nat) (f : Axis → Axis) : (d.updAxis a f).objs = d.objs := rfl
@[simp] theorem Dev.updAxis_cfgLog (a : Nat) (f : Axis → Axis) : (d.updAxis a f).cfgLog = d.cfgLog := rfl
@[simp] theorem Dev.updAxis_logs (a : Nat) (f : Axis → Axis) : (d.updAxis a f).logs = d.logs := rfl
@[simp] theorem Dev.updAxis_tol (a : Nat) (f : Axis → Axis) : (d.updAxis a f).tol = d.tol := rfl
@[simp] theorem Dev.updAxis_ports (a : Nat) (f : Axis → Axis) : (d.updAxis a f).ports = d.ports := rfl
@[simp] theorem Dev.updAxis_eng (a : Nat) (f : Axis → Axis) : (d.updAxis a f).eng = d.eng := rfl
@[simp] theorem Dev.updAxis_flt (a : Nat) (f : Axis → Axis) : (d.updAxis a f).flt = d.flt := rfl
@[simp] theorem Dev.updAxis_stitch (a : Nat) (f : Axis → Axis) : (d.updAxis a f).stitch = d.stitch := rfl
@[simp] theorem Dev.updAxis_seg (a : Nat) (f : Axis → Axis) : (d.updAxis a f).seg = d.seg := rfl
@[simp] theorem Dev.updAxis_cls (a : Nat) (f : Axis → Axis) : (d.updAxis a f).cls = d.cls := rfl
@[simp] theorem Dev.updAxis_cal (a : Nat) (f : Axis → Axis) : (d.updAxis a f).cal = d.cal := rfl
@[simp] theorem Dev.updAxis_pub (a : Nat) (f : Axis → Axis) : (d.updAxis a f).pub = d.pub := rfl
@[simp] theorem Dev.updAxis_net (a : Nat) (f : Axis → Axis) : (d.updAxis a f).net = d.net := rfl
@[simp] theorem Dev.updAxis_host (a : Nat) (f : Axis → Axis) : (d.updAxis a f).host = d.host := rfl
@[simp] theorem Dev.updAxis_mem (a : Nat) (f : Axis → Axis) : (d.updAxis a f).mem = d.mem := rfl
@[simp] theorem Dev.updAxis_pair (a : Nat) (f : Axis → Axis) : (d.updAxis a f).pair = d.pair := rfl
@[simp] theorem Dev.updAxis_boot (a : Nat) (f : Axis → Axis) : (d.updAxis a f).boot = d.boot := rfl
@[simp] theorem Dev.updAxis_hbm (a : Nat) (f : Axis → Axis) : (d.updAxis a f).hbm = d.hbm := rfl
@[simp] theorem Dev.updAxis_clock (a : Nat) (f : Axis → Axis) : (d.updAxis a f).clock = d.clock := rfl
@[simp] theorem Dev.updAxis_msix (a : Nat) (f : Axis → Axis) : (d.updAxis a f).msix = d.msix := rfl
@[simp] theorem Dev.updAxis_out (a : Nat) (f : Axis → Axis) : (d.updAxis a f).out = d.out := rfl
@[simp] theorem Dev.updAxis_opCode (a : Nat) (f : Axis → Axis) : (d.updAxis a f).opCode = d.opCode := rfl
@[simp] theorem Dev.updAxis_opData (a : Nat) (f : Axis → Axis) : (d.updAxis a f).opData = d.opData := rfl
@[simp] theorem Dev.val_updAxis (a : Nat) (f : Axis → Axis) (j : Nat) : (d.updAxis a f).val j = d.val j := Dev.val_congr rfl j
@[simp] theorem Dev.nat_updAxis (a : Nat) (f : Axis → Axis) (j : Nat) : (d.updAxis a f).nat j = d.nat j := by simp [Dev.nat]
@[simp] theorem Dev.int_updAxis (a : Nat) (f : Axis → Axis) (j : Nat) : (d.updAxis a f).int j = d.int j := by simp [Dev.int]
@[simp] theorem Dev.flag_updAxis (a : Nat) (f : Axis → Axis) (j : Nat) : (d.updAxis a f).flag j = d.flag j := by simp [Dev.flag]
@[simp] theorem Dev.bytes_updAxis (a : Nat) (f : Axis → Axis) (j : Nat) : (d.updAxis a f).bytes j = d.bytes j := by simp [Dev.bytes]
@[simp] theorem Dev.domOn_updAxis (a : Nat) (f : Axis → Axis) (j : Nat) : (d.updAxis a f).domOn j = d.domOn j := by simp [Dev.domOn]
@[simp] theorem Dev.role_updAxis (a : Nat) (f : Axis → Axis) : (d.updAxis a f).role = d.role := by simp [Dev.role]
@[simp] theorem Dev.blocks_updAxis (a : Nat) (f : Axis → Axis) : (d.updAxis a f).blocks = d.blocks.updAxis a f := rfl

/-! ## updLcg -/

@[simp] theorem Dev.updLcg_now (g : Nat) (f : Lcg → Lcg) : (d.updLcg g f).now = d.now := rfl
@[simp] theorem Dev.updLcg_rb9212 (g : Nat) (f : Lcg → Lcg) : (d.updLcg g f).rb9212 = d.rb9212 := rfl
@[simp] theorem Dev.updLcg_objs (g : Nat) (f : Lcg → Lcg) : (d.updLcg g f).objs = d.objs := rfl
@[simp] theorem Dev.updLcg_cfgLog (g : Nat) (f : Lcg → Lcg) : (d.updLcg g f).cfgLog = d.cfgLog := rfl
@[simp] theorem Dev.updLcg_logs (g : Nat) (f : Lcg → Lcg) : (d.updLcg g f).logs = d.logs := rfl
@[simp] theorem Dev.updLcg_tol (g : Nat) (f : Lcg → Lcg) : (d.updLcg g f).tol = d.tol := rfl
@[simp] theorem Dev.updLcg_ports (g : Nat) (f : Lcg → Lcg) : (d.updLcg g f).ports = d.ports := rfl
@[simp] theorem Dev.updLcg_eng (g : Nat) (f : Lcg → Lcg) : (d.updLcg g f).eng = d.eng := rfl
@[simp] theorem Dev.updLcg_flt (g : Nat) (f : Lcg → Lcg) : (d.updLcg g f).flt = d.flt := rfl
@[simp] theorem Dev.updLcg_stitch (g : Nat) (f : Lcg → Lcg) : (d.updLcg g f).stitch = d.stitch := rfl
@[simp] theorem Dev.updLcg_seg (g : Nat) (f : Lcg → Lcg) : (d.updLcg g f).seg = d.seg := rfl
@[simp] theorem Dev.updLcg_cls (g : Nat) (f : Lcg → Lcg) : (d.updLcg g f).cls = d.cls := rfl
@[simp] theorem Dev.updLcg_cal (g : Nat) (f : Lcg → Lcg) : (d.updLcg g f).cal = d.cal := rfl
@[simp] theorem Dev.updLcg_pub (g : Nat) (f : Lcg → Lcg) : (d.updLcg g f).pub = d.pub := rfl
@[simp] theorem Dev.updLcg_net (g : Nat) (f : Lcg → Lcg) : (d.updLcg g f).net = d.net := rfl
@[simp] theorem Dev.updLcg_host (g : Nat) (f : Lcg → Lcg) : (d.updLcg g f).host = d.host := rfl
@[simp] theorem Dev.updLcg_mem (g : Nat) (f : Lcg → Lcg) : (d.updLcg g f).mem = d.mem := rfl
@[simp] theorem Dev.updLcg_pair (g : Nat) (f : Lcg → Lcg) : (d.updLcg g f).pair = d.pair := rfl
@[simp] theorem Dev.updLcg_boot (g : Nat) (f : Lcg → Lcg) : (d.updLcg g f).boot = d.boot := rfl
@[simp] theorem Dev.updLcg_hbm (g : Nat) (f : Lcg → Lcg) : (d.updLcg g f).hbm = d.hbm := rfl
@[simp] theorem Dev.updLcg_clock (g : Nat) (f : Lcg → Lcg) : (d.updLcg g f).clock = d.clock := rfl
@[simp] theorem Dev.updLcg_msix (g : Nat) (f : Lcg → Lcg) : (d.updLcg g f).msix = d.msix := rfl
@[simp] theorem Dev.updLcg_out (g : Nat) (f : Lcg → Lcg) : (d.updLcg g f).out = d.out := rfl
@[simp] theorem Dev.updLcg_opCode (g : Nat) (f : Lcg → Lcg) : (d.updLcg g f).opCode = d.opCode := rfl
@[simp] theorem Dev.updLcg_opData (g : Nat) (f : Lcg → Lcg) : (d.updLcg g f).opData = d.opData := rfl
@[simp] theorem Dev.val_updLcg (g : Nat) (f : Lcg → Lcg) (j : Nat) : (d.updLcg g f).val j = d.val j := Dev.val_congr rfl j
@[simp] theorem Dev.nat_updLcg (g : Nat) (f : Lcg → Lcg) (j : Nat) : (d.updLcg g f).nat j = d.nat j := by simp [Dev.nat]
@[simp] theorem Dev.int_updLcg (g : Nat) (f : Lcg → Lcg) (j : Nat) : (d.updLcg g f).int j = d.int j := by simp [Dev.int]
@[simp] theorem Dev.flag_updLcg (g : Nat) (f : Lcg → Lcg) (j : Nat) : (d.updLcg g f).flag j = d.flag j := by simp [Dev.flag]
@[simp] theorem Dev.bytes_updLcg (g : Nat) (f : Lcg → Lcg) (j : Nat) : (d.updLcg g f).bytes j = d.bytes j := by simp [Dev.bytes]
@[simp] theorem Dev.domOn_updLcg (g : Nat) (f : Lcg → Lcg) (j : Nat) : (d.updLcg g f).domOn j = d.domOn j := by simp [Dev.domOn]
@[simp] theorem Dev.role_updLcg (g : Nat) (f : Lcg → Lcg) : (d.updLcg g f).role = d.role := by simp [Dev.role]
@[simp] theorem Dev.blocks_updLcg (g : Nat) (f : Lcg → Lcg) : (d.updLcg g f).blocks = d.blocks.updLcg g f := rfl

/-! ## updTrig -/

@[simp] theorem Dev.updTrig_now (p : Nat) (f : Trig → Trig) : (d.updTrig p f).now = d.now := rfl
@[simp] theorem Dev.updTrig_rb9212 (p : Nat) (f : Trig → Trig) : (d.updTrig p f).rb9212 = d.rb9212 := rfl
@[simp] theorem Dev.updTrig_objs (p : Nat) (f : Trig → Trig) : (d.updTrig p f).objs = d.objs := rfl
@[simp] theorem Dev.updTrig_cfgLog (p : Nat) (f : Trig → Trig) : (d.updTrig p f).cfgLog = d.cfgLog := rfl
@[simp] theorem Dev.updTrig_logs (p : Nat) (f : Trig → Trig) : (d.updTrig p f).logs = d.logs := rfl
@[simp] theorem Dev.updTrig_tol (p : Nat) (f : Trig → Trig) : (d.updTrig p f).tol = d.tol := rfl
@[simp] theorem Dev.updTrig_ports (p : Nat) (f : Trig → Trig) : (d.updTrig p f).ports = d.ports := rfl
@[simp] theorem Dev.updTrig_eng (p : Nat) (f : Trig → Trig) : (d.updTrig p f).eng = d.eng := rfl
@[simp] theorem Dev.updTrig_flt (p : Nat) (f : Trig → Trig) : (d.updTrig p f).flt = d.flt := rfl
@[simp] theorem Dev.updTrig_stitch (p : Nat) (f : Trig → Trig) : (d.updTrig p f).stitch = d.stitch := rfl
@[simp] theorem Dev.updTrig_seg (p : Nat) (f : Trig → Trig) : (d.updTrig p f).seg = d.seg := rfl
@[simp] theorem Dev.updTrig_cls (p : Nat) (f : Trig → Trig) : (d.updTrig p f).cls = d.cls := rfl
@[simp] theorem Dev.updTrig_cal (p : Nat) (f : Trig → Trig) : (d.updTrig p f).cal = d.cal := rfl
@[simp] theorem Dev.updTrig_pub (p : Nat) (f : Trig → Trig) : (d.updTrig p f).pub = d.pub := rfl
@[simp] theorem Dev.updTrig_net (p : Nat) (f : Trig → Trig) : (d.updTrig p f).net = d.net := rfl
@[simp] theorem Dev.updTrig_host (p : Nat) (f : Trig → Trig) : (d.updTrig p f).host = d.host := rfl
@[simp] theorem Dev.updTrig_mem (p : Nat) (f : Trig → Trig) : (d.updTrig p f).mem = d.mem := rfl
@[simp] theorem Dev.updTrig_pair (p : Nat) (f : Trig → Trig) : (d.updTrig p f).pair = d.pair := rfl
@[simp] theorem Dev.updTrig_boot (p : Nat) (f : Trig → Trig) : (d.updTrig p f).boot = d.boot := rfl
@[simp] theorem Dev.updTrig_hbm (p : Nat) (f : Trig → Trig) : (d.updTrig p f).hbm = d.hbm := rfl
@[simp] theorem Dev.updTrig_clock (p : Nat) (f : Trig → Trig) : (d.updTrig p f).clock = d.clock := rfl
@[simp] theorem Dev.updTrig_msix (p : Nat) (f : Trig → Trig) : (d.updTrig p f).msix = d.msix := rfl
@[simp] theorem Dev.updTrig_out (p : Nat) (f : Trig → Trig) : (d.updTrig p f).out = d.out := rfl
@[simp] theorem Dev.updTrig_opCode (p : Nat) (f : Trig → Trig) : (d.updTrig p f).opCode = d.opCode := rfl
@[simp] theorem Dev.updTrig_opData (p : Nat) (f : Trig → Trig) : (d.updTrig p f).opData = d.opData := rfl
@[simp] theorem Dev.val_updTrig (p : Nat) (f : Trig → Trig) (j : Nat) : (d.updTrig p f).val j = d.val j := Dev.val_congr rfl j
@[simp] theorem Dev.nat_updTrig (p : Nat) (f : Trig → Trig) (j : Nat) : (d.updTrig p f).nat j = d.nat j := by simp [Dev.nat]
@[simp] theorem Dev.int_updTrig (p : Nat) (f : Trig → Trig) (j : Nat) : (d.updTrig p f).int j = d.int j := by simp [Dev.int]
@[simp] theorem Dev.flag_updTrig (p : Nat) (f : Trig → Trig) (j : Nat) : (d.updTrig p f).flag j = d.flag j := by simp [Dev.flag]
@[simp] theorem Dev.bytes_updTrig (p : Nat) (f : Trig → Trig) (j : Nat) : (d.updTrig p f).bytes j = d.bytes j := by simp [Dev.bytes]
@[simp] theorem Dev.domOn_updTrig (p : Nat) (f : Trig → Trig) (j : Nat) : (d.updTrig p f).domOn j = d.domOn j := by simp [Dev.domOn]
@[simp] theorem Dev.role_updTrig (p : Nat) (f : Trig → Trig) : (d.updTrig p f).role = d.role := by simp [Dev.role]
@[simp] theorem Dev.blocks_updTrig (p : Nat) (f : Trig → Trig) : (d.updTrig p f).blocks = d.blocks.updTrig p f := rfl

/-! ## updPort -/

@[simp] theorem Dev.updPort_now (p : Nat) (f : Port → Port) : (d.updPort p f).now = d.now := rfl
@[simp] theorem Dev.updPort_rb9212 (p : Nat) (f : Port → Port) : (d.updPort p f).rb9212 = d.rb9212 := rfl
@[simp] theorem Dev.updPort_objs (p : Nat) (f : Port → Port) : (d.updPort p f).objs = d.objs := rfl
@[simp] theorem Dev.updPort_cfgLog (p : Nat) (f : Port → Port) : (d.updPort p f).cfgLog = d.cfgLog := rfl
@[simp] theorem Dev.updPort_logs (p : Nat) (f : Port → Port) : (d.updPort p f).logs = d.logs := rfl
@[simp] theorem Dev.updPort_tol (p : Nat) (f : Port → Port) : (d.updPort p f).tol = d.tol := rfl
@[simp] theorem Dev.updPort_pos (p : Nat) (f : Port → Port) : (d.updPort p f).pos = d.pos := rfl
@[simp] theorem Dev.updPort_eng (p : Nat) (f : Port → Port) : (d.updPort p f).eng = d.eng := rfl
@[simp] theorem Dev.updPort_flt (p : Nat) (f : Port → Port) : (d.updPort p f).flt = d.flt := rfl
@[simp] theorem Dev.updPort_stitch (p : Nat) (f : Port → Port) : (d.updPort p f).stitch = d.stitch := rfl
@[simp] theorem Dev.updPort_seg (p : Nat) (f : Port → Port) : (d.updPort p f).seg = d.seg := rfl
@[simp] theorem Dev.updPort_cls (p : Nat) (f : Port → Port) : (d.updPort p f).cls = d.cls := rfl
@[simp] theorem Dev.updPort_cal (p : Nat) (f : Port → Port) : (d.updPort p f).cal = d.cal := rfl
@[simp] theorem Dev.updPort_pub (p : Nat) (f : Port → Port) : (d.updPort p f).pub = d.pub := rfl
@[simp] theorem Dev.updPort_net (p : Nat) (f : Port → Port) : (d.updPort p f).net = d.net := rfl
@[simp] theorem Dev.updPort_host (p : Nat) (f : Port → Port) : (d.updPort p f).host = d.host := rfl
@[simp] theorem Dev.updPort_mem (p : Nat) (f : Port → Port) : (d.updPort p f).mem = d.mem := rfl
@[simp] theorem Dev.updPort_pair (p : Nat) (f : Port → Port) : (d.updPort p f).pair = d.pair := rfl
@[simp] theorem Dev.updPort_boot (p : Nat) (f : Port → Port) : (d.updPort p f).boot = d.boot := rfl
@[simp] theorem Dev.updPort_hbm (p : Nat) (f : Port → Port) : (d.updPort p f).hbm = d.hbm := rfl
@[simp] theorem Dev.updPort_clock (p : Nat) (f : Port → Port) : (d.updPort p f).clock = d.clock := rfl
@[simp] theorem Dev.updPort_msix (p : Nat) (f : Port → Port) : (d.updPort p f).msix = d.msix := rfl
@[simp] theorem Dev.updPort_out (p : Nat) (f : Port → Port) : (d.updPort p f).out = d.out := rfl
@[simp] theorem Dev.updPort_opCode (p : Nat) (f : Port → Port) : (d.updPort p f).opCode = d.opCode := rfl
@[simp] theorem Dev.updPort_opData (p : Nat) (f : Port → Port) : (d.updPort p f).opData = d.opData := rfl
@[simp] theorem Dev.val_updPort (p : Nat) (f : Port → Port) (j : Nat) : (d.updPort p f).val j = d.val j := Dev.val_congr rfl j
@[simp] theorem Dev.nat_updPort (p : Nat) (f : Port → Port) (j : Nat) : (d.updPort p f).nat j = d.nat j := by simp [Dev.nat]
@[simp] theorem Dev.int_updPort (p : Nat) (f : Port → Port) (j : Nat) : (d.updPort p f).int j = d.int j := by simp [Dev.int]
@[simp] theorem Dev.flag_updPort (p : Nat) (f : Port → Port) (j : Nat) : (d.updPort p f).flag j = d.flag j := by simp [Dev.flag]
@[simp] theorem Dev.bytes_updPort (p : Nat) (f : Port → Port) (j : Nat) : (d.updPort p f).bytes j = d.bytes j := by simp [Dev.bytes]
@[simp] theorem Dev.domOn_updPort (p : Nat) (f : Port → Port) (j : Nat) : (d.updPort p f).domOn j = d.domOn j := by simp [Dev.domOn]
@[simp] theorem Dev.role_updPort (p : Nat) (f : Port → Port) : (d.updPort p f).role = d.role := by simp [Dev.role]
@[simp] theorem Dev.blocks_updPort (p : Nat) (f : Port → Port) : (d.updPort p f).blocks = d.blocks.updPort p f := rfl

/-! ## updEp -/

@[simp] theorem Dev.updEp_now (p : Nat) (f : EngPort → EngPort) : (d.updEp p f).now = d.now := rfl
@[simp] theorem Dev.updEp_rb9212 (p : Nat) (f : EngPort → EngPort) : (d.updEp p f).rb9212 = d.rb9212 := rfl
@[simp] theorem Dev.updEp_objs (p : Nat) (f : EngPort → EngPort) : (d.updEp p f).objs = d.objs := rfl
@[simp] theorem Dev.updEp_cfgLog (p : Nat) (f : EngPort → EngPort) : (d.updEp p f).cfgLog = d.cfgLog := rfl
@[simp] theorem Dev.updEp_logs (p : Nat) (f : EngPort → EngPort) : (d.updEp p f).logs = d.logs := rfl
@[simp] theorem Dev.updEp_tol (p : Nat) (f : EngPort → EngPort) : (d.updEp p f).tol = d.tol := rfl
@[simp] theorem Dev.updEp_pos (p : Nat) (f : EngPort → EngPort) : (d.updEp p f).pos = d.pos := rfl
@[simp] theorem Dev.updEp_ports (p : Nat) (f : EngPort → EngPort) : (d.updEp p f).ports = d.ports := rfl
@[simp] theorem Dev.updEp_flt (p : Nat) (f : EngPort → EngPort) : (d.updEp p f).flt = d.flt := rfl
@[simp] theorem Dev.updEp_stitch (p : Nat) (f : EngPort → EngPort) : (d.updEp p f).stitch = d.stitch := rfl
@[simp] theorem Dev.updEp_seg (p : Nat) (f : EngPort → EngPort) : (d.updEp p f).seg = d.seg := rfl
@[simp] theorem Dev.updEp_cls (p : Nat) (f : EngPort → EngPort) : (d.updEp p f).cls = d.cls := rfl
@[simp] theorem Dev.updEp_cal (p : Nat) (f : EngPort → EngPort) : (d.updEp p f).cal = d.cal := rfl
@[simp] theorem Dev.updEp_pub (p : Nat) (f : EngPort → EngPort) : (d.updEp p f).pub = d.pub := rfl
@[simp] theorem Dev.updEp_net (p : Nat) (f : EngPort → EngPort) : (d.updEp p f).net = d.net := rfl
@[simp] theorem Dev.updEp_host (p : Nat) (f : EngPort → EngPort) : (d.updEp p f).host = d.host := rfl
@[simp] theorem Dev.updEp_mem (p : Nat) (f : EngPort → EngPort) : (d.updEp p f).mem = d.mem := rfl
@[simp] theorem Dev.updEp_pair (p : Nat) (f : EngPort → EngPort) : (d.updEp p f).pair = d.pair := rfl
@[simp] theorem Dev.updEp_boot (p : Nat) (f : EngPort → EngPort) : (d.updEp p f).boot = d.boot := rfl
@[simp] theorem Dev.updEp_hbm (p : Nat) (f : EngPort → EngPort) : (d.updEp p f).hbm = d.hbm := rfl
@[simp] theorem Dev.updEp_clock (p : Nat) (f : EngPort → EngPort) : (d.updEp p f).clock = d.clock := rfl
@[simp] theorem Dev.updEp_msix (p : Nat) (f : EngPort → EngPort) : (d.updEp p f).msix = d.msix := rfl
@[simp] theorem Dev.updEp_out (p : Nat) (f : EngPort → EngPort) : (d.updEp p f).out = d.out := rfl
@[simp] theorem Dev.updEp_opCode (p : Nat) (f : EngPort → EngPort) : (d.updEp p f).opCode = d.opCode := rfl
@[simp] theorem Dev.updEp_opData (p : Nat) (f : EngPort → EngPort) : (d.updEp p f).opData = d.opData := rfl
@[simp] theorem Dev.val_updEp (p : Nat) (f : EngPort → EngPort) (j : Nat) : (d.updEp p f).val j = d.val j := Dev.val_congr rfl j
@[simp] theorem Dev.nat_updEp (p : Nat) (f : EngPort → EngPort) (j : Nat) : (d.updEp p f).nat j = d.nat j := by simp [Dev.nat]
@[simp] theorem Dev.int_updEp (p : Nat) (f : EngPort → EngPort) (j : Nat) : (d.updEp p f).int j = d.int j := by simp [Dev.int]
@[simp] theorem Dev.flag_updEp (p : Nat) (f : EngPort → EngPort) (j : Nat) : (d.updEp p f).flag j = d.flag j := by simp [Dev.flag]
@[simp] theorem Dev.bytes_updEp (p : Nat) (f : EngPort → EngPort) (j : Nat) : (d.updEp p f).bytes j = d.bytes j := by simp [Dev.bytes]
@[simp] theorem Dev.domOn_updEp (p : Nat) (f : EngPort → EngPort) (j : Nat) : (d.updEp p f).domOn j = d.domOn j := by simp [Dev.domOn]
@[simp] theorem Dev.role_updEp (p : Nat) (f : EngPort → EngPort) : (d.updEp p f).role = d.role := by simp [Dev.role]
@[simp] theorem Dev.blocks_updEp (p : Nat) (f : EngPort → EngPort) : (d.updEp p f).blocks = d.blocks.updEp p f := rfl

/-! ## updEngine -/

@[simp] theorem Dev.updEngine_now (e : Nat) (f : Engine → Engine) : (d.updEngine e f).now = d.now := rfl
@[simp] theorem Dev.updEngine_rb9212 (e : Nat) (f : Engine → Engine) : (d.updEngine e f).rb9212 = d.rb9212 := rfl
@[simp] theorem Dev.updEngine_objs (e : Nat) (f : Engine → Engine) : (d.updEngine e f).objs = d.objs := rfl
@[simp] theorem Dev.updEngine_cfgLog (e : Nat) (f : Engine → Engine) : (d.updEngine e f).cfgLog = d.cfgLog := rfl
@[simp] theorem Dev.updEngine_logs (e : Nat) (f : Engine → Engine) : (d.updEngine e f).logs = d.logs := rfl
@[simp] theorem Dev.updEngine_tol (e : Nat) (f : Engine → Engine) : (d.updEngine e f).tol = d.tol := rfl
@[simp] theorem Dev.updEngine_pos (e : Nat) (f : Engine → Engine) : (d.updEngine e f).pos = d.pos := rfl
@[simp] theorem Dev.updEngine_ports (e : Nat) (f : Engine → Engine) : (d.updEngine e f).ports = d.ports := rfl
@[simp] theorem Dev.updEngine_flt (e : Nat) (f : Engine → Engine) : (d.updEngine e f).flt = d.flt := rfl
@[simp] theorem Dev.updEngine_stitch (e : Nat) (f : Engine → Engine) : (d.updEngine e f).stitch = d.stitch := rfl
@[simp] theorem Dev.updEngine_seg (e : Nat) (f : Engine → Engine) : (d.updEngine e f).seg = d.seg := rfl
@[simp] theorem Dev.updEngine_cls (e : Nat) (f : Engine → Engine) : (d.updEngine e f).cls = d.cls := rfl
@[simp] theorem Dev.updEngine_cal (e : Nat) (f : Engine → Engine) : (d.updEngine e f).cal = d.cal := rfl
@[simp] theorem Dev.updEngine_pub (e : Nat) (f : Engine → Engine) : (d.updEngine e f).pub = d.pub := rfl
@[simp] theorem Dev.updEngine_net (e : Nat) (f : Engine → Engine) : (d.updEngine e f).net = d.net := rfl
@[simp] theorem Dev.updEngine_host (e : Nat) (f : Engine → Engine) : (d.updEngine e f).host = d.host := rfl
@[simp] theorem Dev.updEngine_mem (e : Nat) (f : Engine → Engine) : (d.updEngine e f).mem = d.mem := rfl
@[simp] theorem Dev.updEngine_pair (e : Nat) (f : Engine → Engine) : (d.updEngine e f).pair = d.pair := rfl
@[simp] theorem Dev.updEngine_boot (e : Nat) (f : Engine → Engine) : (d.updEngine e f).boot = d.boot := rfl
@[simp] theorem Dev.updEngine_hbm (e : Nat) (f : Engine → Engine) : (d.updEngine e f).hbm = d.hbm := rfl
@[simp] theorem Dev.updEngine_clock (e : Nat) (f : Engine → Engine) : (d.updEngine e f).clock = d.clock := rfl
@[simp] theorem Dev.updEngine_msix (e : Nat) (f : Engine → Engine) : (d.updEngine e f).msix = d.msix := rfl
@[simp] theorem Dev.updEngine_out (e : Nat) (f : Engine → Engine) : (d.updEngine e f).out = d.out := rfl
@[simp] theorem Dev.updEngine_opCode (e : Nat) (f : Engine → Engine) : (d.updEngine e f).opCode = d.opCode := rfl
@[simp] theorem Dev.updEngine_opData (e : Nat) (f : Engine → Engine) : (d.updEngine e f).opData = d.opData := rfl
@[simp] theorem Dev.val_updEngine (e : Nat) (f : Engine → Engine) (j : Nat) : (d.updEngine e f).val j = d.val j := Dev.val_congr rfl j
@[simp] theorem Dev.nat_updEngine (e : Nat) (f : Engine → Engine) (j : Nat) : (d.updEngine e f).nat j = d.nat j := by simp [Dev.nat]
@[simp] theorem Dev.int_updEngine (e : Nat) (f : Engine → Engine) (j : Nat) : (d.updEngine e f).int j = d.int j := by simp [Dev.int]
@[simp] theorem Dev.flag_updEngine (e : Nat) (f : Engine → Engine) (j : Nat) : (d.updEngine e f).flag j = d.flag j := by simp [Dev.flag]
@[simp] theorem Dev.bytes_updEngine (e : Nat) (f : Engine → Engine) (j : Nat) : (d.updEngine e f).bytes j = d.bytes j := by simp [Dev.bytes]
@[simp] theorem Dev.domOn_updEngine (e : Nat) (f : Engine → Engine) (j : Nat) : (d.updEngine e f).domOn j = d.domOn j := by simp [Dev.domOn]
@[simp] theorem Dev.role_updEngine (e : Nat) (f : Engine → Engine) : (d.updEngine e f).role = d.role := by simp [Dev.role]
@[simp] theorem Dev.blocks_updEngine (e : Nat) (f : Engine → Engine) : (d.updEngine e f).blocks = d.blocks.updEngine e f := rfl

/-! ## updSp -/

@[simp] theorem Dev.updSp_now (p : Nat) (f : SkewPort → SkewPort) : (d.updSp p f).now = d.now := rfl
@[simp] theorem Dev.updSp_rb9212 (p : Nat) (f : SkewPort → SkewPort) : (d.updSp p f).rb9212 = d.rb9212 := rfl
@[simp] theorem Dev.updSp_objs (p : Nat) (f : SkewPort → SkewPort) : (d.updSp p f).objs = d.objs := rfl
@[simp] theorem Dev.updSp_cfgLog (p : Nat) (f : SkewPort → SkewPort) : (d.updSp p f).cfgLog = d.cfgLog := rfl
@[simp] theorem Dev.updSp_logs (p : Nat) (f : SkewPort → SkewPort) : (d.updSp p f).logs = d.logs := rfl
@[simp] theorem Dev.updSp_tol (p : Nat) (f : SkewPort → SkewPort) : (d.updSp p f).tol = d.tol := rfl
@[simp] theorem Dev.updSp_pos (p : Nat) (f : SkewPort → SkewPort) : (d.updSp p f).pos = d.pos := rfl
@[simp] theorem Dev.updSp_ports (p : Nat) (f : SkewPort → SkewPort) : (d.updSp p f).ports = d.ports := rfl
@[simp] theorem Dev.updSp_eng (p : Nat) (f : SkewPort → SkewPort) : (d.updSp p f).eng = d.eng := rfl
@[simp] theorem Dev.updSp_flt (p : Nat) (f : SkewPort → SkewPort) : (d.updSp p f).flt = d.flt := rfl
@[simp] theorem Dev.updSp_seg (p : Nat) (f : SkewPort → SkewPort) : (d.updSp p f).seg = d.seg := rfl
@[simp] theorem Dev.updSp_cls (p : Nat) (f : SkewPort → SkewPort) : (d.updSp p f).cls = d.cls := rfl
@[simp] theorem Dev.updSp_cal (p : Nat) (f : SkewPort → SkewPort) : (d.updSp p f).cal = d.cal := rfl
@[simp] theorem Dev.updSp_pub (p : Nat) (f : SkewPort → SkewPort) : (d.updSp p f).pub = d.pub := rfl
@[simp] theorem Dev.updSp_net (p : Nat) (f : SkewPort → SkewPort) : (d.updSp p f).net = d.net := rfl
@[simp] theorem Dev.updSp_host (p : Nat) (f : SkewPort → SkewPort) : (d.updSp p f).host = d.host := rfl
@[simp] theorem Dev.updSp_mem (p : Nat) (f : SkewPort → SkewPort) : (d.updSp p f).mem = d.mem := rfl
@[simp] theorem Dev.updSp_pair (p : Nat) (f : SkewPort → SkewPort) : (d.updSp p f).pair = d.pair := rfl
@[simp] theorem Dev.updSp_boot (p : Nat) (f : SkewPort → SkewPort) : (d.updSp p f).boot = d.boot := rfl
@[simp] theorem Dev.updSp_hbm (p : Nat) (f : SkewPort → SkewPort) : (d.updSp p f).hbm = d.hbm := rfl
@[simp] theorem Dev.updSp_clock (p : Nat) (f : SkewPort → SkewPort) : (d.updSp p f).clock = d.clock := rfl
@[simp] theorem Dev.updSp_msix (p : Nat) (f : SkewPort → SkewPort) : (d.updSp p f).msix = d.msix := rfl
@[simp] theorem Dev.updSp_out (p : Nat) (f : SkewPort → SkewPort) : (d.updSp p f).out = d.out := rfl
@[simp] theorem Dev.updSp_opCode (p : Nat) (f : SkewPort → SkewPort) : (d.updSp p f).opCode = d.opCode := rfl
@[simp] theorem Dev.updSp_opData (p : Nat) (f : SkewPort → SkewPort) : (d.updSp p f).opData = d.opData := rfl
@[simp] theorem Dev.val_updSp (p : Nat) (f : SkewPort → SkewPort) (j : Nat) : (d.updSp p f).val j = d.val j := Dev.val_congr rfl j
@[simp] theorem Dev.nat_updSp (p : Nat) (f : SkewPort → SkewPort) (j : Nat) : (d.updSp p f).nat j = d.nat j := by simp [Dev.nat]
@[simp] theorem Dev.int_updSp (p : Nat) (f : SkewPort → SkewPort) (j : Nat) : (d.updSp p f).int j = d.int j := by simp [Dev.int]
@[simp] theorem Dev.flag_updSp (p : Nat) (f : SkewPort → SkewPort) (j : Nat) : (d.updSp p f).flag j = d.flag j := by simp [Dev.flag]
@[simp] theorem Dev.bytes_updSp (p : Nat) (f : SkewPort → SkewPort) (j : Nat) : (d.updSp p f).bytes j = d.bytes j := by simp [Dev.bytes]
@[simp] theorem Dev.domOn_updSp (p : Nat) (f : SkewPort → SkewPort) (j : Nat) : (d.updSp p f).domOn j = d.domOn j := by simp [Dev.domOn]
@[simp] theorem Dev.role_updSp (p : Nat) (f : SkewPort → SkewPort) : (d.updSp p f).role = d.role := by simp [Dev.role]
@[simp] theorem Dev.blocks_updSp (p : Nat) (f : SkewPort → SkewPort) : (d.updSp p f).blocks = d.blocks.updSp p f := rfl

/-! ## updVw -/

@[simp] theorem Dev.updVw_now (v : Nat) (f : ViewState → ViewState) : (d.updVw v f).now = d.now := rfl
@[simp] theorem Dev.updVw_rb9212 (v : Nat) (f : ViewState → ViewState) : (d.updVw v f).rb9212 = d.rb9212 := rfl
@[simp] theorem Dev.updVw_objs (v : Nat) (f : ViewState → ViewState) : (d.updVw v f).objs = d.objs := rfl
@[simp] theorem Dev.updVw_cfgLog (v : Nat) (f : ViewState → ViewState) : (d.updVw v f).cfgLog = d.cfgLog := rfl
@[simp] theorem Dev.updVw_logs (v : Nat) (f : ViewState → ViewState) : (d.updVw v f).logs = d.logs := rfl
@[simp] theorem Dev.updVw_tol (v : Nat) (f : ViewState → ViewState) : (d.updVw v f).tol = d.tol := rfl
@[simp] theorem Dev.updVw_pos (v : Nat) (f : ViewState → ViewState) : (d.updVw v f).pos = d.pos := rfl
@[simp] theorem Dev.updVw_ports (v : Nat) (f : ViewState → ViewState) : (d.updVw v f).ports = d.ports := rfl
@[simp] theorem Dev.updVw_eng (v : Nat) (f : ViewState → ViewState) : (d.updVw v f).eng = d.eng := rfl
@[simp] theorem Dev.updVw_flt (v : Nat) (f : ViewState → ViewState) : (d.updVw v f).flt = d.flt := rfl
@[simp] theorem Dev.updVw_seg (v : Nat) (f : ViewState → ViewState) : (d.updVw v f).seg = d.seg := rfl
@[simp] theorem Dev.updVw_cls (v : Nat) (f : ViewState → ViewState) : (d.updVw v f).cls = d.cls := rfl
@[simp] theorem Dev.updVw_cal (v : Nat) (f : ViewState → ViewState) : (d.updVw v f).cal = d.cal := rfl
@[simp] theorem Dev.updVw_pub (v : Nat) (f : ViewState → ViewState) : (d.updVw v f).pub = d.pub := rfl
@[simp] theorem Dev.updVw_net (v : Nat) (f : ViewState → ViewState) : (d.updVw v f).net = d.net := rfl
@[simp] theorem Dev.updVw_host (v : Nat) (f : ViewState → ViewState) : (d.updVw v f).host = d.host := rfl
@[simp] theorem Dev.updVw_mem (v : Nat) (f : ViewState → ViewState) : (d.updVw v f).mem = d.mem := rfl
@[simp] theorem Dev.updVw_pair (v : Nat) (f : ViewState → ViewState) : (d.updVw v f).pair = d.pair := rfl
@[simp] theorem Dev.updVw_boot (v : Nat) (f : ViewState → ViewState) : (d.updVw v f).boot = d.boot := rfl
@[simp] theorem Dev.updVw_hbm (v : Nat) (f : ViewState → ViewState) : (d.updVw v f).hbm = d.hbm := rfl
@[simp] theorem Dev.updVw_clock (v : Nat) (f : ViewState → ViewState) : (d.updVw v f).clock = d.clock := rfl
@[simp] theorem Dev.updVw_msix (v : Nat) (f : ViewState → ViewState) : (d.updVw v f).msix = d.msix := rfl
@[simp] theorem Dev.updVw_out (v : Nat) (f : ViewState → ViewState) : (d.updVw v f).out = d.out := rfl
@[simp] theorem Dev.updVw_opCode (v : Nat) (f : ViewState → ViewState) : (d.updVw v f).opCode = d.opCode := rfl
@[simp] theorem Dev.updVw_opData (v : Nat) (f : ViewState → ViewState) : (d.updVw v f).opData = d.opData := rfl
@[simp] theorem Dev.val_updVw (v : Nat) (f : ViewState → ViewState) (j : Nat) : (d.updVw v f).val j = d.val j := Dev.val_congr rfl j
@[simp] theorem Dev.nat_updVw (v : Nat) (f : ViewState → ViewState) (j : Nat) : (d.updVw v f).nat j = d.nat j := by simp [Dev.nat]
@[simp] theorem Dev.int_updVw (v : Nat) (f : ViewState → ViewState) (j : Nat) : (d.updVw v f).int j = d.int j := by simp [Dev.int]
@[simp] theorem Dev.flag_updVw (v : Nat) (f : ViewState → ViewState) (j : Nat) : (d.updVw v f).flag j = d.flag j := by simp [Dev.flag]
@[simp] theorem Dev.bytes_updVw (v : Nat) (f : ViewState → ViewState) (j : Nat) : (d.updVw v f).bytes j = d.bytes j := by simp [Dev.bytes]
@[simp] theorem Dev.domOn_updVw (v : Nat) (f : ViewState → ViewState) (j : Nat) : (d.updVw v f).domOn j = d.domOn j := by simp [Dev.domOn]
@[simp] theorem Dev.role_updVw (v : Nat) (f : ViewState → ViewState) : (d.updVw v f).role = d.role := by simp [Dev.role]
@[simp] theorem Dev.blocks_updVw (v : Nat) (f : ViewState → ViewState) : (d.updVw v f).blocks = d.blocks.updVw v f := rfl

/-! ## updSg -/

@[simp] theorem Dev.updSg_now (v : Nat) (f : SegView → SegView) : (d.updSg v f).now = d.now := rfl
@[simp] theorem Dev.updSg_rb9212 (v : Nat) (f : SegView → SegView) : (d.updSg v f).rb9212 = d.rb9212 := rfl
@[simp] theorem Dev.updSg_objs (v : Nat) (f : SegView → SegView) : (d.updSg v f).objs = d.objs := rfl
@[simp] theorem Dev.updSg_cfgLog (v : Nat) (f : SegView → SegView) : (d.updSg v f).cfgLog = d.cfgLog := rfl
@[simp] theorem Dev.updSg_logs (v : Nat) (f : SegView → SegView) : (d.updSg v f).logs = d.logs := rfl
@[simp] theorem Dev.updSg_tol (v : Nat) (f : SegView → SegView) : (d.updSg v f).tol = d.tol := rfl
@[simp] theorem Dev.updSg_pos (v : Nat) (f : SegView → SegView) : (d.updSg v f).pos = d.pos := rfl
@[simp] theorem Dev.updSg_ports (v : Nat) (f : SegView → SegView) : (d.updSg v f).ports = d.ports := rfl
@[simp] theorem Dev.updSg_eng (v : Nat) (f : SegView → SegView) : (d.updSg v f).eng = d.eng := rfl
@[simp] theorem Dev.updSg_flt (v : Nat) (f : SegView → SegView) : (d.updSg v f).flt = d.flt := rfl
@[simp] theorem Dev.updSg_stitch (v : Nat) (f : SegView → SegView) : (d.updSg v f).stitch = d.stitch := rfl
@[simp] theorem Dev.updSg_cls (v : Nat) (f : SegView → SegView) : (d.updSg v f).cls = d.cls := rfl
@[simp] theorem Dev.updSg_cal (v : Nat) (f : SegView → SegView) : (d.updSg v f).cal = d.cal := rfl
@[simp] theorem Dev.updSg_pub (v : Nat) (f : SegView → SegView) : (d.updSg v f).pub = d.pub := rfl
@[simp] theorem Dev.updSg_net (v : Nat) (f : SegView → SegView) : (d.updSg v f).net = d.net := rfl
@[simp] theorem Dev.updSg_host (v : Nat) (f : SegView → SegView) : (d.updSg v f).host = d.host := rfl
@[simp] theorem Dev.updSg_mem (v : Nat) (f : SegView → SegView) : (d.updSg v f).mem = d.mem := rfl
@[simp] theorem Dev.updSg_pair (v : Nat) (f : SegView → SegView) : (d.updSg v f).pair = d.pair := rfl
@[simp] theorem Dev.updSg_boot (v : Nat) (f : SegView → SegView) : (d.updSg v f).boot = d.boot := rfl
@[simp] theorem Dev.updSg_hbm (v : Nat) (f : SegView → SegView) : (d.updSg v f).hbm = d.hbm := rfl
@[simp] theorem Dev.updSg_clock (v : Nat) (f : SegView → SegView) : (d.updSg v f).clock = d.clock := rfl
@[simp] theorem Dev.updSg_msix (v : Nat) (f : SegView → SegView) : (d.updSg v f).msix = d.msix := rfl
@[simp] theorem Dev.updSg_out (v : Nat) (f : SegView → SegView) : (d.updSg v f).out = d.out := rfl
@[simp] theorem Dev.updSg_opCode (v : Nat) (f : SegView → SegView) : (d.updSg v f).opCode = d.opCode := rfl
@[simp] theorem Dev.updSg_opData (v : Nat) (f : SegView → SegView) : (d.updSg v f).opData = d.opData := rfl
@[simp] theorem Dev.val_updSg (v : Nat) (f : SegView → SegView) (j : Nat) : (d.updSg v f).val j = d.val j := Dev.val_congr rfl j
@[simp] theorem Dev.nat_updSg (v : Nat) (f : SegView → SegView) (j : Nat) : (d.updSg v f).nat j = d.nat j := by simp [Dev.nat]
@[simp] theorem Dev.int_updSg (v : Nat) (f : SegView → SegView) (j : Nat) : (d.updSg v f).int j = d.int j := by simp [Dev.int]
@[simp] theorem Dev.flag_updSg (v : Nat) (f : SegView → SegView) (j : Nat) : (d.updSg v f).flag j = d.flag j := by simp [Dev.flag]
@[simp] theorem Dev.bytes_updSg (v : Nat) (f : SegView → SegView) (j : Nat) : (d.updSg v f).bytes j = d.bytes j := by simp [Dev.bytes]
@[simp] theorem Dev.domOn_updSg (v : Nat) (f : SegView → SegView) (j : Nat) : (d.updSg v f).domOn j = d.domOn j := by simp [Dev.domOn]
@[simp] theorem Dev.role_updSg (v : Nat) (f : SegView → SegView) : (d.updSg v f).role = d.role := by simp [Dev.role]
@[simp] theorem Dev.blocks_updSg (v : Nat) (f : SegView → SegView) : (d.updSg v f).blocks = d.blocks.updSg v f := rfl

/-! ## updArr -/

@[simp] theorem Dev.updArr_now (a : Nat) (f : ArrayUnit → ArrayUnit) : (d.updArr a f).now = d.now := rfl
@[simp] theorem Dev.updArr_rb9212 (a : Nat) (f : ArrayUnit → ArrayUnit) : (d.updArr a f).rb9212 = d.rb9212 := rfl
@[simp] theorem Dev.updArr_objs (a : Nat) (f : ArrayUnit → ArrayUnit) : (d.updArr a f).objs = d.objs := rfl
@[simp] theorem Dev.updArr_cfgLog (a : Nat) (f : ArrayUnit → ArrayUnit) : (d.updArr a f).cfgLog = d.cfgLog := rfl
@[simp] theorem Dev.updArr_logs (a : Nat) (f : ArrayUnit → ArrayUnit) : (d.updArr a f).logs = d.logs := rfl
@[simp] theorem Dev.updArr_tol (a : Nat) (f : ArrayUnit → ArrayUnit) : (d.updArr a f).tol = d.tol := rfl
@[simp] theorem Dev.updArr_pos (a : Nat) (f : ArrayUnit → ArrayUnit) : (d.updArr a f).pos = d.pos := rfl
@[simp] theorem Dev.updArr_ports (a : Nat) (f : ArrayUnit → ArrayUnit) : (d.updArr a f).ports = d.ports := rfl
@[simp] theorem Dev.updArr_eng (a : Nat) (f : ArrayUnit → ArrayUnit) : (d.updArr a f).eng = d.eng := rfl
@[simp] theorem Dev.updArr_flt (a : Nat) (f : ArrayUnit → ArrayUnit) : (d.updArr a f).flt = d.flt := rfl
@[simp] theorem Dev.updArr_stitch (a : Nat) (f : ArrayUnit → ArrayUnit) : (d.updArr a f).stitch = d.stitch := rfl
@[simp] theorem Dev.updArr_seg (a : Nat) (f : ArrayUnit → ArrayUnit) : (d.updArr a f).seg = d.seg := rfl
@[simp] theorem Dev.updArr_cal (a : Nat) (f : ArrayUnit → ArrayUnit) : (d.updArr a f).cal = d.cal := rfl
@[simp] theorem Dev.updArr_pub (a : Nat) (f : ArrayUnit → ArrayUnit) : (d.updArr a f).pub = d.pub := rfl
@[simp] theorem Dev.updArr_net (a : Nat) (f : ArrayUnit → ArrayUnit) : (d.updArr a f).net = d.net := rfl
@[simp] theorem Dev.updArr_host (a : Nat) (f : ArrayUnit → ArrayUnit) : (d.updArr a f).host = d.host := rfl
@[simp] theorem Dev.updArr_mem (a : Nat) (f : ArrayUnit → ArrayUnit) : (d.updArr a f).mem = d.mem := rfl
@[simp] theorem Dev.updArr_pair (a : Nat) (f : ArrayUnit → ArrayUnit) : (d.updArr a f).pair = d.pair := rfl
@[simp] theorem Dev.updArr_boot (a : Nat) (f : ArrayUnit → ArrayUnit) : (d.updArr a f).boot = d.boot := rfl
@[simp] theorem Dev.updArr_hbm (a : Nat) (f : ArrayUnit → ArrayUnit) : (d.updArr a f).hbm = d.hbm := rfl
@[simp] theorem Dev.updArr_clock (a : Nat) (f : ArrayUnit → ArrayUnit) : (d.updArr a f).clock = d.clock := rfl
@[simp] theorem Dev.updArr_msix (a : Nat) (f : ArrayUnit → ArrayUnit) : (d.updArr a f).msix = d.msix := rfl
@[simp] theorem Dev.updArr_out (a : Nat) (f : ArrayUnit → ArrayUnit) : (d.updArr a f).out = d.out := rfl
@[simp] theorem Dev.updArr_opCode (a : Nat) (f : ArrayUnit → ArrayUnit) : (d.updArr a f).opCode = d.opCode := rfl
@[simp] theorem Dev.updArr_opData (a : Nat) (f : ArrayUnit → ArrayUnit) : (d.updArr a f).opData = d.opData := rfl
@[simp] theorem Dev.val_updArr (a : Nat) (f : ArrayUnit → ArrayUnit) (j : Nat) : (d.updArr a f).val j = d.val j := Dev.val_congr rfl j
@[simp] theorem Dev.nat_updArr (a : Nat) (f : ArrayUnit → ArrayUnit) (j : Nat) : (d.updArr a f).nat j = d.nat j := by simp [Dev.nat]
@[simp] theorem Dev.int_updArr (a : Nat) (f : ArrayUnit → ArrayUnit) (j : Nat) : (d.updArr a f).int j = d.int j := by simp [Dev.int]
@[simp] theorem Dev.flag_updArr (a : Nat) (f : ArrayUnit → ArrayUnit) (j : Nat) : (d.updArr a f).flag j = d.flag j := by simp [Dev.flag]
@[simp] theorem Dev.bytes_updArr (a : Nat) (f : ArrayUnit → ArrayUnit) (j : Nat) : (d.updArr a f).bytes j = d.bytes j := by simp [Dev.bytes]
@[simp] theorem Dev.domOn_updArr (a : Nat) (f : ArrayUnit → ArrayUnit) (j : Nat) : (d.updArr a f).domOn j = d.domOn j := by simp [Dev.domOn]
@[simp] theorem Dev.role_updArr (a : Nat) (f : ArrayUnit → ArrayUnit) : (d.updArr a f).role = d.role := by simp [Dev.role]
@[simp] theorem Dev.blocks_updArr (a : Nat) (f : ArrayUnit → ArrayUnit) : (d.updArr a f).blocks = d.blocks.updArr a f := rfl

/-! ## updSlot -/

@[simp] theorem Dev.updSlot_now (m : Nat) (f : ModelSlot → ModelSlot) : (d.updSlot m f).now = d.now := rfl
@[simp] theorem Dev.updSlot_rb9212 (m : Nat) (f : ModelSlot → ModelSlot) : (d.updSlot m f).rb9212 = d.rb9212 := rfl
@[simp] theorem Dev.updSlot_objs (m : Nat) (f : ModelSlot → ModelSlot) : (d.updSlot m f).objs = d.objs := rfl
@[simp] theorem Dev.updSlot_cfgLog (m : Nat) (f : ModelSlot → ModelSlot) : (d.updSlot m f).cfgLog = d.cfgLog := rfl
@[simp] theorem Dev.updSlot_logs (m : Nat) (f : ModelSlot → ModelSlot) : (d.updSlot m f).logs = d.logs := rfl
@[simp] theorem Dev.updSlot_tol (m : Nat) (f : ModelSlot → ModelSlot) : (d.updSlot m f).tol = d.tol := rfl
@[simp] theorem Dev.updSlot_pos (m : Nat) (f : ModelSlot → ModelSlot) : (d.updSlot m f).pos = d.pos := rfl
@[simp] theorem Dev.updSlot_ports (m : Nat) (f : ModelSlot → ModelSlot) : (d.updSlot m f).ports = d.ports := rfl
@[simp] theorem Dev.updSlot_eng (m : Nat) (f : ModelSlot → ModelSlot) : (d.updSlot m f).eng = d.eng := rfl
@[simp] theorem Dev.updSlot_flt (m : Nat) (f : ModelSlot → ModelSlot) : (d.updSlot m f).flt = d.flt := rfl
@[simp] theorem Dev.updSlot_stitch (m : Nat) (f : ModelSlot → ModelSlot) : (d.updSlot m f).stitch = d.stitch := rfl
@[simp] theorem Dev.updSlot_seg (m : Nat) (f : ModelSlot → ModelSlot) : (d.updSlot m f).seg = d.seg := rfl
@[simp] theorem Dev.updSlot_cal (m : Nat) (f : ModelSlot → ModelSlot) : (d.updSlot m f).cal = d.cal := rfl
@[simp] theorem Dev.updSlot_pub (m : Nat) (f : ModelSlot → ModelSlot) : (d.updSlot m f).pub = d.pub := rfl
@[simp] theorem Dev.updSlot_net (m : Nat) (f : ModelSlot → ModelSlot) : (d.updSlot m f).net = d.net := rfl
@[simp] theorem Dev.updSlot_host (m : Nat) (f : ModelSlot → ModelSlot) : (d.updSlot m f).host = d.host := rfl
@[simp] theorem Dev.updSlot_mem (m : Nat) (f : ModelSlot → ModelSlot) : (d.updSlot m f).mem = d.mem := rfl
@[simp] theorem Dev.updSlot_pair (m : Nat) (f : ModelSlot → ModelSlot) : (d.updSlot m f).pair = d.pair := rfl
@[simp] theorem Dev.updSlot_boot (m : Nat) (f : ModelSlot → ModelSlot) : (d.updSlot m f).boot = d.boot := rfl
@[simp] theorem Dev.updSlot_hbm (m : Nat) (f : ModelSlot → ModelSlot) : (d.updSlot m f).hbm = d.hbm := rfl
@[simp] theorem Dev.updSlot_clock (m : Nat) (f : ModelSlot → ModelSlot) : (d.updSlot m f).clock = d.clock := rfl
@[simp] theorem Dev.updSlot_msix (m : Nat) (f : ModelSlot → ModelSlot) : (d.updSlot m f).msix = d.msix := rfl
@[simp] theorem Dev.updSlot_out (m : Nat) (f : ModelSlot → ModelSlot) : (d.updSlot m f).out = d.out := rfl
@[simp] theorem Dev.updSlot_opCode (m : Nat) (f : ModelSlot → ModelSlot) : (d.updSlot m f).opCode = d.opCode := rfl
@[simp] theorem Dev.updSlot_opData (m : Nat) (f : ModelSlot → ModelSlot) : (d.updSlot m f).opData = d.opData := rfl
@[simp] theorem Dev.val_updSlot (m : Nat) (f : ModelSlot → ModelSlot) (j : Nat) : (d.updSlot m f).val j = d.val j := Dev.val_congr rfl j
@[simp] theorem Dev.nat_updSlot (m : Nat) (f : ModelSlot → ModelSlot) (j : Nat) : (d.updSlot m f).nat j = d.nat j := by simp [Dev.nat]
@[simp] theorem Dev.int_updSlot (m : Nat) (f : ModelSlot → ModelSlot) (j : Nat) : (d.updSlot m f).int j = d.int j := by simp [Dev.int]
@[simp] theorem Dev.flag_updSlot (m : Nat) (f : ModelSlot → ModelSlot) (j : Nat) : (d.updSlot m f).flag j = d.flag j := by simp [Dev.flag]
@[simp] theorem Dev.bytes_updSlot (m : Nat) (f : ModelSlot → ModelSlot) (j : Nat) : (d.updSlot m f).bytes j = d.bytes j := by simp [Dev.bytes]
@[simp] theorem Dev.domOn_updSlot (m : Nat) (f : ModelSlot → ModelSlot) (j : Nat) : (d.updSlot m f).domOn j = d.domOn j := by simp [Dev.domOn]
@[simp] theorem Dev.role_updSlot (m : Nat) (f : ModelSlot → ModelSlot) : (d.updSlot m f).role = d.role := by simp [Dev.role]
@[simp] theorem Dev.blocks_updSlot (m : Nat) (f : ModelSlot → ModelSlot) : (d.updSlot m f).blocks = d.blocks.updSlot m f := rfl

/-! ## updCal -/

@[simp] theorem Dev.updCal_now (f : CalState → CalState) : (d.updCal f).now = d.now := rfl
@[simp] theorem Dev.updCal_rb9212 (f : CalState → CalState) : (d.updCal f).rb9212 = d.rb9212 := rfl
@[simp] theorem Dev.updCal_objs (f : CalState → CalState) : (d.updCal f).objs = d.objs := rfl
@[simp] theorem Dev.updCal_cfgLog (f : CalState → CalState) : (d.updCal f).cfgLog = d.cfgLog := rfl
@[simp] theorem Dev.updCal_logs (f : CalState → CalState) : (d.updCal f).logs = d.logs := rfl
@[simp] theorem Dev.updCal_tol (f : CalState → CalState) : (d.updCal f).tol = d.tol := rfl
@[simp] theorem Dev.updCal_pos (f : CalState → CalState) : (d.updCal f).pos = d.pos := rfl
@[simp] theorem Dev.updCal_ports (f : CalState → CalState) : (d.updCal f).ports = d.ports := rfl
@[simp] theorem Dev.updCal_eng (f : CalState → CalState) : (d.updCal f).eng = d.eng := rfl
@[simp] theorem Dev.updCal_flt (f : CalState → CalState) : (d.updCal f).flt = d.flt := rfl
@[simp] theorem Dev.updCal_stitch (f : CalState → CalState) : (d.updCal f).stitch = d.stitch := rfl
@[simp] theorem Dev.updCal_seg (f : CalState → CalState) : (d.updCal f).seg = d.seg := rfl
@[simp] theorem Dev.updCal_cls (f : CalState → CalState) : (d.updCal f).cls = d.cls := rfl
@[simp] theorem Dev.updCal_pub (f : CalState → CalState) : (d.updCal f).pub = d.pub := rfl
@[simp] theorem Dev.updCal_net (f : CalState → CalState) : (d.updCal f).net = d.net := rfl
@[simp] theorem Dev.updCal_host (f : CalState → CalState) : (d.updCal f).host = d.host := rfl
@[simp] theorem Dev.updCal_mem (f : CalState → CalState) : (d.updCal f).mem = d.mem := rfl
@[simp] theorem Dev.updCal_pair (f : CalState → CalState) : (d.updCal f).pair = d.pair := rfl
@[simp] theorem Dev.updCal_boot (f : CalState → CalState) : (d.updCal f).boot = d.boot := rfl
@[simp] theorem Dev.updCal_hbm (f : CalState → CalState) : (d.updCal f).hbm = d.hbm := rfl
@[simp] theorem Dev.updCal_clock (f : CalState → CalState) : (d.updCal f).clock = d.clock := rfl
@[simp] theorem Dev.updCal_msix (f : CalState → CalState) : (d.updCal f).msix = d.msix := rfl
@[simp] theorem Dev.updCal_out (f : CalState → CalState) : (d.updCal f).out = d.out := rfl
@[simp] theorem Dev.updCal_opCode (f : CalState → CalState) : (d.updCal f).opCode = d.opCode := rfl
@[simp] theorem Dev.updCal_opData (f : CalState → CalState) : (d.updCal f).opData = d.opData := rfl
@[simp] theorem Dev.val_updCal (f : CalState → CalState) (j : Nat) : (d.updCal f).val j = d.val j := Dev.val_congr rfl j
@[simp] theorem Dev.nat_updCal (f : CalState → CalState) (j : Nat) : (d.updCal f).nat j = d.nat j := by simp [Dev.nat]
@[simp] theorem Dev.int_updCal (f : CalState → CalState) (j : Nat) : (d.updCal f).int j = d.int j := by simp [Dev.int]
@[simp] theorem Dev.flag_updCal (f : CalState → CalState) (j : Nat) : (d.updCal f).flag j = d.flag j := by simp [Dev.flag]
@[simp] theorem Dev.bytes_updCal (f : CalState → CalState) (j : Nat) : (d.updCal f).bytes j = d.bytes j := by simp [Dev.bytes]
@[simp] theorem Dev.domOn_updCal (f : CalState → CalState) (j : Nat) : (d.updCal f).domOn j = d.domOn j := by simp [Dev.domOn]
@[simp] theorem Dev.role_updCal (f : CalState → CalState) : (d.updCal f).role = d.role := by simp [Dev.role]
@[simp] theorem Dev.blocks_updCal (f : CalState → CalState) : (d.updCal f).blocks = d.blocks.updCal f := rfl

/-! ## updLv -/

@[simp] theorem Dev.updLv_now (c : Nat) (f : LvChan → LvChan) : (d.updLv c f).now = d.now := rfl
@[simp] theorem Dev.updLv_rb9212 (c : Nat) (f : LvChan → LvChan) : (d.updLv c f).rb9212 = d.rb9212 := rfl
@[simp] theorem Dev.updLv_objs (c : Nat) (f : LvChan → LvChan) : (d.updLv c f).objs = d.objs := rfl
@[simp] theorem Dev.updLv_cfgLog (c : Nat) (f : LvChan → LvChan) : (d.updLv c f).cfgLog = d.cfgLog := rfl
@[simp] theorem Dev.updLv_logs (c : Nat) (f : LvChan → LvChan) : (d.updLv c f).logs = d.logs := rfl
@[simp] theorem Dev.updLv_tol (c : Nat) (f : LvChan → LvChan) : (d.updLv c f).tol = d.tol := rfl
@[simp] theorem Dev.updLv_pos (c : Nat) (f : LvChan → LvChan) : (d.updLv c f).pos = d.pos := rfl
@[simp] theorem Dev.updLv_ports (c : Nat) (f : LvChan → LvChan) : (d.updLv c f).ports = d.ports := rfl
@[simp] theorem Dev.updLv_eng (c : Nat) (f : LvChan → LvChan) : (d.updLv c f).eng = d.eng := rfl
@[simp] theorem Dev.updLv_flt (c : Nat) (f : LvChan → LvChan) : (d.updLv c f).flt = d.flt := rfl
@[simp] theorem Dev.updLv_stitch (c : Nat) (f : LvChan → LvChan) : (d.updLv c f).stitch = d.stitch := rfl
@[simp] theorem Dev.updLv_seg (c : Nat) (f : LvChan → LvChan) : (d.updLv c f).seg = d.seg := rfl
@[simp] theorem Dev.updLv_cls (c : Nat) (f : LvChan → LvChan) : (d.updLv c f).cls = d.cls := rfl
@[simp] theorem Dev.updLv_cal (c : Nat) (f : LvChan → LvChan) : (d.updLv c f).cal = d.cal := rfl
@[simp] theorem Dev.updLv_net (c : Nat) (f : LvChan → LvChan) : (d.updLv c f).net = d.net := rfl
@[simp] theorem Dev.updLv_host (c : Nat) (f : LvChan → LvChan) : (d.updLv c f).host = d.host := rfl
@[simp] theorem Dev.updLv_mem (c : Nat) (f : LvChan → LvChan) : (d.updLv c f).mem = d.mem := rfl
@[simp] theorem Dev.updLv_pair (c : Nat) (f : LvChan → LvChan) : (d.updLv c f).pair = d.pair := rfl
@[simp] theorem Dev.updLv_boot (c : Nat) (f : LvChan → LvChan) : (d.updLv c f).boot = d.boot := rfl
@[simp] theorem Dev.updLv_hbm (c : Nat) (f : LvChan → LvChan) : (d.updLv c f).hbm = d.hbm := rfl
@[simp] theorem Dev.updLv_clock (c : Nat) (f : LvChan → LvChan) : (d.updLv c f).clock = d.clock := rfl
@[simp] theorem Dev.updLv_msix (c : Nat) (f : LvChan → LvChan) : (d.updLv c f).msix = d.msix := rfl
@[simp] theorem Dev.updLv_out (c : Nat) (f : LvChan → LvChan) : (d.updLv c f).out = d.out := rfl
@[simp] theorem Dev.updLv_opCode (c : Nat) (f : LvChan → LvChan) : (d.updLv c f).opCode = d.opCode := rfl
@[simp] theorem Dev.updLv_opData (c : Nat) (f : LvChan → LvChan) : (d.updLv c f).opData = d.opData := rfl
@[simp] theorem Dev.val_updLv (c : Nat) (f : LvChan → LvChan) (j : Nat) : (d.updLv c f).val j = d.val j := Dev.val_congr rfl j
@[simp] theorem Dev.nat_updLv (c : Nat) (f : LvChan → LvChan) (j : Nat) : (d.updLv c f).nat j = d.nat j := by simp [Dev.nat]
@[simp] theorem Dev.int_updLv (c : Nat) (f : LvChan → LvChan) (j : Nat) : (d.updLv c f).int j = d.int j := by simp [Dev.int]
@[simp] theorem Dev.flag_updLv (c : Nat) (f : LvChan → LvChan) (j : Nat) : (d.updLv c f).flag j = d.flag j := by simp [Dev.flag]
@[simp] theorem Dev.bytes_updLv (c : Nat) (f : LvChan → LvChan) (j : Nat) : (d.updLv c f).bytes j = d.bytes j := by simp [Dev.bytes]
@[simp] theorem Dev.domOn_updLv (c : Nat) (f : LvChan → LvChan) (j : Nat) : (d.updLv c f).domOn j = d.domOn j := by simp [Dev.domOn]
@[simp] theorem Dev.role_updLv (c : Nat) (f : LvChan → LvChan) : (d.updLv c f).role = d.role := by simp [Dev.role]
@[simp] theorem Dev.blocks_updLv (c : Nat) (f : LvChan → LvChan) : (d.updLv c f).blocks = d.blocks.updLv c f := rfl

/-! ## updNet -/

@[simp] theorem Dev.updNet_now (f : NetState → NetState) : (d.updNet f).now = d.now := rfl
@[simp] theorem Dev.updNet_rb9212 (f : NetState → NetState) : (d.updNet f).rb9212 = d.rb9212 := rfl
@[simp] theorem Dev.updNet_objs (f : NetState → NetState) : (d.updNet f).objs = d.objs := rfl
@[simp] theorem Dev.updNet_cfgLog (f : NetState → NetState) : (d.updNet f).cfgLog = d.cfgLog := rfl
@[simp] theorem Dev.updNet_logs (f : NetState → NetState) : (d.updNet f).logs = d.logs := rfl
@[simp] theorem Dev.updNet_tol (f : NetState → NetState) : (d.updNet f).tol = d.tol := rfl
@[simp] theorem Dev.updNet_pos (f : NetState → NetState) : (d.updNet f).pos = d.pos := rfl
@[simp] theorem Dev.updNet_ports (f : NetState → NetState) : (d.updNet f).ports = d.ports := rfl
@[simp] theorem Dev.updNet_eng (f : NetState → NetState) : (d.updNet f).eng = d.eng := rfl
@[simp] theorem Dev.updNet_flt (f : NetState → NetState) : (d.updNet f).flt = d.flt := rfl
@[simp] theorem Dev.updNet_stitch (f : NetState → NetState) : (d.updNet f).stitch = d.stitch := rfl
@[simp] theorem Dev.updNet_seg (f : NetState → NetState) : (d.updNet f).seg = d.seg := rfl
@[simp] theorem Dev.updNet_cls (f : NetState → NetState) : (d.updNet f).cls = d.cls := rfl
@[simp] theorem Dev.updNet_cal (f : NetState → NetState) : (d.updNet f).cal = d.cal := rfl
@[simp] theorem Dev.updNet_pub (f : NetState → NetState) : (d.updNet f).pub = d.pub := rfl
@[simp] theorem Dev.updNet_host (f : NetState → NetState) : (d.updNet f).host = d.host := rfl
@[simp] theorem Dev.updNet_mem (f : NetState → NetState) : (d.updNet f).mem = d.mem := rfl
@[simp] theorem Dev.updNet_pair (f : NetState → NetState) : (d.updNet f).pair = d.pair := rfl
@[simp] theorem Dev.updNet_boot (f : NetState → NetState) : (d.updNet f).boot = d.boot := rfl
@[simp] theorem Dev.updNet_hbm (f : NetState → NetState) : (d.updNet f).hbm = d.hbm := rfl
@[simp] theorem Dev.updNet_clock (f : NetState → NetState) : (d.updNet f).clock = d.clock := rfl
@[simp] theorem Dev.updNet_msix (f : NetState → NetState) : (d.updNet f).msix = d.msix := rfl
@[simp] theorem Dev.updNet_out (f : NetState → NetState) : (d.updNet f).out = d.out := rfl
@[simp] theorem Dev.updNet_opCode (f : NetState → NetState) : (d.updNet f).opCode = d.opCode := rfl
@[simp] theorem Dev.updNet_opData (f : NetState → NetState) : (d.updNet f).opData = d.opData := rfl
@[simp] theorem Dev.val_updNet (f : NetState → NetState) (j : Nat) : (d.updNet f).val j = d.val j := Dev.val_congr rfl j
@[simp] theorem Dev.nat_updNet (f : NetState → NetState) (j : Nat) : (d.updNet f).nat j = d.nat j := by simp [Dev.nat]
@[simp] theorem Dev.int_updNet (f : NetState → NetState) (j : Nat) : (d.updNet f).int j = d.int j := by simp [Dev.int]
@[simp] theorem Dev.flag_updNet (f : NetState → NetState) (j : Nat) : (d.updNet f).flag j = d.flag j := by simp [Dev.flag]
@[simp] theorem Dev.bytes_updNet (f : NetState → NetState) (j : Nat) : (d.updNet f).bytes j = d.bytes j := by simp [Dev.bytes]
@[simp] theorem Dev.domOn_updNet (f : NetState → NetState) (j : Nat) : (d.updNet f).domOn j = d.domOn j := by simp [Dev.domOn]
@[simp] theorem Dev.role_updNet (f : NetState → NetState) : (d.updNet f).role = d.role := by simp [Dev.role]
@[simp] theorem Dev.blocks_updNet (f : NetState → NetState) : (d.updNet f).blocks = d.blocks.updNet f := rfl

/-! ## updDom -/

@[simp] theorem Dev.updDom_now (k : Nat) (f : PtpDomain → PtpDomain) : (d.updDom k f).now = d.now := rfl
@[simp] theorem Dev.updDom_rb9212 (k : Nat) (f : PtpDomain → PtpDomain) : (d.updDom k f).rb9212 = d.rb9212 := rfl
@[simp] theorem Dev.updDom_objs (k : Nat) (f : PtpDomain → PtpDomain) : (d.updDom k f).objs = d.objs := rfl
@[simp] theorem Dev.updDom_cfgLog (k : Nat) (f : PtpDomain → PtpDomain) : (d.updDom k f).cfgLog = d.cfgLog := rfl
@[simp] theorem Dev.updDom_logs (k : Nat) (f : PtpDomain → PtpDomain) : (d.updDom k f).logs = d.logs := rfl
@[simp] theorem Dev.updDom_tol (k : Nat) (f : PtpDomain → PtpDomain) : (d.updDom k f).tol = d.tol := rfl
@[simp] theorem Dev.updDom_pos (k : Nat) (f : PtpDomain → PtpDomain) : (d.updDom k f).pos = d.pos := rfl
@[simp] theorem Dev.updDom_ports (k : Nat) (f : PtpDomain → PtpDomain) : (d.updDom k f).ports = d.ports := rfl
@[simp] theorem Dev.updDom_eng (k : Nat) (f : PtpDomain → PtpDomain) : (d.updDom k f).eng = d.eng := rfl
@[simp] theorem Dev.updDom_flt (k : Nat) (f : PtpDomain → PtpDomain) : (d.updDom k f).flt = d.flt := rfl
@[simp] theorem Dev.updDom_stitch (k : Nat) (f : PtpDomain → PtpDomain) : (d.updDom k f).stitch = d.stitch := rfl
@[simp] theorem Dev.updDom_seg (k : Nat) (f : PtpDomain → PtpDomain) : (d.updDom k f).seg = d.seg := rfl
@[simp] theorem Dev.updDom_cls (k : Nat) (f : PtpDomain → PtpDomain) : (d.updDom k f).cls = d.cls := rfl
@[simp] theorem Dev.updDom_cal (k : Nat) (f : PtpDomain → PtpDomain) : (d.updDom k f).cal = d.cal := rfl
@[simp] theorem Dev.updDom_pub (k : Nat) (f : PtpDomain → PtpDomain) : (d.updDom k f).pub = d.pub := rfl
@[simp] theorem Dev.updDom_host (k : Nat) (f : PtpDomain → PtpDomain) : (d.updDom k f).host = d.host := rfl
@[simp] theorem Dev.updDom_mem (k : Nat) (f : PtpDomain → PtpDomain) : (d.updDom k f).mem = d.mem := rfl
@[simp] theorem Dev.updDom_pair (k : Nat) (f : PtpDomain → PtpDomain) : (d.updDom k f).pair = d.pair := rfl
@[simp] theorem Dev.updDom_boot (k : Nat) (f : PtpDomain → PtpDomain) : (d.updDom k f).boot = d.boot := rfl
@[simp] theorem Dev.updDom_hbm (k : Nat) (f : PtpDomain → PtpDomain) : (d.updDom k f).hbm = d.hbm := rfl
@[simp] theorem Dev.updDom_clock (k : Nat) (f : PtpDomain → PtpDomain) : (d.updDom k f).clock = d.clock := rfl
@[simp] theorem Dev.updDom_msix (k : Nat) (f : PtpDomain → PtpDomain) : (d.updDom k f).msix = d.msix := rfl
@[simp] theorem Dev.updDom_out (k : Nat) (f : PtpDomain → PtpDomain) : (d.updDom k f).out = d.out := rfl
@[simp] theorem Dev.updDom_opCode (k : Nat) (f : PtpDomain → PtpDomain) : (d.updDom k f).opCode = d.opCode := rfl
@[simp] theorem Dev.updDom_opData (k : Nat) (f : PtpDomain → PtpDomain) : (d.updDom k f).opData = d.opData := rfl
@[simp] theorem Dev.val_updDom (k : Nat) (f : PtpDomain → PtpDomain) (j : Nat) : (d.updDom k f).val j = d.val j := Dev.val_congr rfl j
@[simp] theorem Dev.nat_updDom (k : Nat) (f : PtpDomain → PtpDomain) (j : Nat) : (d.updDom k f).nat j = d.nat j := by simp [Dev.nat]
@[simp] theorem Dev.int_updDom (k : Nat) (f : PtpDomain → PtpDomain) (j : Nat) : (d.updDom k f).int j = d.int j := by simp [Dev.int]
@[simp] theorem Dev.flag_updDom (k : Nat) (f : PtpDomain → PtpDomain) (j : Nat) : (d.updDom k f).flag j = d.flag j := by simp [Dev.flag]
@[simp] theorem Dev.bytes_updDom (k : Nat) (f : PtpDomain → PtpDomain) (j : Nat) : (d.updDom k f).bytes j = d.bytes j := by simp [Dev.bytes]
@[simp] theorem Dev.domOn_updDom (k : Nat) (f : PtpDomain → PtpDomain) (j : Nat) : (d.updDom k f).domOn j = d.domOn j := by simp [Dev.domOn]
@[simp] theorem Dev.role_updDom (k : Nat) (f : PtpDomain → PtpDomain) : (d.updDom k f).role = d.role := by simp [Dev.role]
@[simp] theorem Dev.blocks_updDom (k : Nat) (f : PtpDomain → PtpDomain) : (d.updDom k f).blocks = d.blocks.updDom k f := rfl

/-! ## updHost -/

@[simp] theorem Dev.updHost_now (f : HostState → HostState) : (d.updHost f).now = d.now := rfl
@[simp] theorem Dev.updHost_rb9212 (f : HostState → HostState) : (d.updHost f).rb9212 = d.rb9212 := rfl
@[simp] theorem Dev.updHost_objs (f : HostState → HostState) : (d.updHost f).objs = d.objs := rfl
@[simp] theorem Dev.updHost_cfgLog (f : HostState → HostState) : (d.updHost f).cfgLog = d.cfgLog := rfl
@[simp] theorem Dev.updHost_logs (f : HostState → HostState) : (d.updHost f).logs = d.logs := rfl
@[simp] theorem Dev.updHost_tol (f : HostState → HostState) : (d.updHost f).tol = d.tol := rfl
@[simp] theorem Dev.updHost_pos (f : HostState → HostState) : (d.updHost f).pos = d.pos := rfl
@[simp] theorem Dev.updHost_ports (f : HostState → HostState) : (d.updHost f).ports = d.ports := rfl
@[simp] theorem Dev.updHost_eng (f : HostState → HostState) : (d.updHost f).eng = d.eng := rfl
@[simp] theorem Dev.updHost_flt (f : HostState → HostState) : (d.updHost f).flt = d.flt := rfl
@[simp] theorem Dev.updHost_stitch (f : HostState → HostState) : (d.updHost f).stitch = d.stitch := rfl
@[simp] theorem Dev.updHost_seg (f : HostState → HostState) : (d.updHost f).seg = d.seg := rfl
@[simp] theorem Dev.updHost_cls (f : HostState → HostState) : (d.updHost f).cls = d.cls := rfl
@[simp] theorem Dev.updHost_cal (f : HostState → HostState) : (d.updHost f).cal = d.cal := rfl
@[simp] theorem Dev.updHost_pub (f : HostState → HostState) : (d.updHost f).pub = d.pub := rfl
@[simp] theorem Dev.updHost_net (f : HostState → HostState) : (d.updHost f).net = d.net := rfl
@[simp] theorem Dev.updHost_mem (f : HostState → HostState) : (d.updHost f).mem = d.mem := rfl
@[simp] theorem Dev.updHost_pair (f : HostState → HostState) : (d.updHost f).pair = d.pair := rfl
@[simp] theorem Dev.updHost_boot (f : HostState → HostState) : (d.updHost f).boot = d.boot := rfl
@[simp] theorem Dev.updHost_hbm (f : HostState → HostState) : (d.updHost f).hbm = d.hbm := rfl
@[simp] theorem Dev.updHost_clock (f : HostState → HostState) : (d.updHost f).clock = d.clock := rfl
@[simp] theorem Dev.updHost_msix (f : HostState → HostState) : (d.updHost f).msix = d.msix := rfl
@[simp] theorem Dev.updHost_out (f : HostState → HostState) : (d.updHost f).out = d.out := rfl
@[simp] theorem Dev.updHost_opCode (f : HostState → HostState) : (d.updHost f).opCode = d.opCode := rfl
@[simp] theorem Dev.updHost_opData (f : HostState → HostState) : (d.updHost f).opData = d.opData := rfl
@[simp] theorem Dev.val_updHost (f : HostState → HostState) (j : Nat) : (d.updHost f).val j = d.val j := Dev.val_congr rfl j
@[simp] theorem Dev.nat_updHost (f : HostState → HostState) (j : Nat) : (d.updHost f).nat j = d.nat j := by simp [Dev.nat]
@[simp] theorem Dev.int_updHost (f : HostState → HostState) (j : Nat) : (d.updHost f).int j = d.int j := by simp [Dev.int]
@[simp] theorem Dev.flag_updHost (f : HostState → HostState) (j : Nat) : (d.updHost f).flag j = d.flag j := by simp [Dev.flag]
@[simp] theorem Dev.bytes_updHost (f : HostState → HostState) (j : Nat) : (d.updHost f).bytes j = d.bytes j := by simp [Dev.bytes]
@[simp] theorem Dev.domOn_updHost (f : HostState → HostState) (j : Nat) : (d.updHost f).domOn j = d.domOn j := by simp [Dev.domOn]
@[simp] theorem Dev.role_updHost (f : HostState → HostState) : (d.updHost f).role = d.role := by simp [Dev.role]
@[simp] theorem Dev.blocks_updHost (f : HostState → HostState) : (d.updHost f).blocks = d.blocks.updHost f := rfl

/-! ## updChan -/

@[simp] theorem Dev.updChan_now (c : Nat) (f : DmaChan → DmaChan) : (d.updChan c f).now = d.now := rfl
@[simp] theorem Dev.updChan_rb9212 (c : Nat) (f : DmaChan → DmaChan) : (d.updChan c f).rb9212 = d.rb9212 := rfl
@[simp] theorem Dev.updChan_objs (c : Nat) (f : DmaChan → DmaChan) : (d.updChan c f).objs = d.objs := rfl
@[simp] theorem Dev.updChan_cfgLog (c : Nat) (f : DmaChan → DmaChan) : (d.updChan c f).cfgLog = d.cfgLog := rfl
@[simp] theorem Dev.updChan_logs (c : Nat) (f : DmaChan → DmaChan) : (d.updChan c f).logs = d.logs := rfl
@[simp] theorem Dev.updChan_tol (c : Nat) (f : DmaChan → DmaChan) : (d.updChan c f).tol = d.tol := rfl
@[simp] theorem Dev.updChan_pos (c : Nat) (f : DmaChan → DmaChan) : (d.updChan c f).pos = d.pos := rfl
@[simp] theorem Dev.updChan_ports (c : Nat) (f : DmaChan → DmaChan) : (d.updChan c f).ports = d.ports := rfl
@[simp] theorem Dev.updChan_eng (c : Nat) (f : DmaChan → DmaChan) : (d.updChan c f).eng = d.eng := rfl
@[simp] theorem Dev.updChan_flt (c : Nat) (f : DmaChan → DmaChan) : (d.updChan c f).flt = d.flt := rfl
@[simp] theorem Dev.updChan_stitch (c : Nat) (f : DmaChan → DmaChan) : (d.updChan c f).stitch = d.stitch := rfl
@[simp] theorem Dev.updChan_seg (c : Nat) (f : DmaChan → DmaChan) : (d.updChan c f).seg = d.seg := rfl
@[simp] theorem Dev.updChan_cls (c : Nat) (f : DmaChan → DmaChan) : (d.updChan c f).cls = d.cls := rfl
@[simp] theorem Dev.updChan_cal (c : Nat) (f : DmaChan → DmaChan) : (d.updChan c f).cal = d.cal := rfl
@[simp] theorem Dev.updChan_pub (c : Nat) (f : DmaChan → DmaChan) : (d.updChan c f).pub = d.pub := rfl
@[simp] theorem Dev.updChan_net (c : Nat) (f : DmaChan → DmaChan) : (d.updChan c f).net = d.net := rfl
@[simp] theorem Dev.updChan_mem (c : Nat) (f : DmaChan → DmaChan) : (d.updChan c f).mem = d.mem := rfl
@[simp] theorem Dev.updChan_pair (c : Nat) (f : DmaChan → DmaChan) : (d.updChan c f).pair = d.pair := rfl
@[simp] theorem Dev.updChan_boot (c : Nat) (f : DmaChan → DmaChan) : (d.updChan c f).boot = d.boot := rfl
@[simp] theorem Dev.updChan_hbm (c : Nat) (f : DmaChan → DmaChan) : (d.updChan c f).hbm = d.hbm := rfl
@[simp] theorem Dev.updChan_clock (c : Nat) (f : DmaChan → DmaChan) : (d.updChan c f).clock = d.clock := rfl
@[simp] theorem Dev.updChan_msix (c : Nat) (f : DmaChan → DmaChan) : (d.updChan c f).msix = d.msix := rfl
@[simp] theorem Dev.updChan_out (c : Nat) (f : DmaChan → DmaChan) : (d.updChan c f).out = d.out := rfl
@[simp] theorem Dev.updChan_opCode (c : Nat) (f : DmaChan → DmaChan) : (d.updChan c f).opCode = d.opCode := rfl
@[simp] theorem Dev.updChan_opData (c : Nat) (f : DmaChan → DmaChan) : (d.updChan c f).opData = d.opData := rfl
@[simp] theorem Dev.val_updChan (c : Nat) (f : DmaChan → DmaChan) (j : Nat) : (d.updChan c f).val j = d.val j := Dev.val_congr rfl j
@[simp] theorem Dev.nat_updChan (c : Nat) (f : DmaChan → DmaChan) (j : Nat) : (d.updChan c f).nat j = d.nat j := by simp [Dev.nat]
@[simp] theorem Dev.int_updChan (c : Nat) (f : DmaChan → DmaChan) (j : Nat) : (d.updChan c f).int j = d.int j := by simp [Dev.int]
@[simp] theorem Dev.flag_updChan (c : Nat) (f : DmaChan → DmaChan) (j : Nat) : (d.updChan c f).flag j = d.flag j := by simp [Dev.flag]
@[simp] theorem Dev.bytes_updChan (c : Nat) (f : DmaChan → DmaChan) (j : Nat) : (d.updChan c f).bytes j = d.bytes j := by simp [Dev.bytes]
@[simp] theorem Dev.domOn_updChan (c : Nat) (f : DmaChan → DmaChan) (j : Nat) : (d.updChan c f).domOn j = d.domOn j := by simp [Dev.domOn]
@[simp] theorem Dev.role_updChan (c : Nat) (f : DmaChan → DmaChan) : (d.updChan c f).role = d.role := by simp [Dev.role]
@[simp] theorem Dev.blocks_updChan (c : Nat) (f : DmaChan → DmaChan) : (d.updChan c f).blocks = d.blocks.updChan c f := rfl

/-! ## updRing -/

@[simp] theorem Dev.updRing_now (r : Nat) (f : Ring → Ring) : (d.updRing r f).now = d.now := rfl
@[simp] theorem Dev.updRing_rb9212 (r : Nat) (f : Ring → Ring) : (d.updRing r f).rb9212 = d.rb9212 := rfl
@[simp] theorem Dev.updRing_objs (r : Nat) (f : Ring → Ring) : (d.updRing r f).objs = d.objs := rfl
@[simp] theorem Dev.updRing_cfgLog (r : Nat) (f : Ring → Ring) : (d.updRing r f).cfgLog = d.cfgLog := rfl
@[simp] theorem Dev.updRing_logs (r : Nat) (f : Ring → Ring) : (d.updRing r f).logs = d.logs := rfl
@[simp] theorem Dev.updRing_tol (r : Nat) (f : Ring → Ring) : (d.updRing r f).tol = d.tol := rfl
@[simp] theorem Dev.updRing_pos (r : Nat) (f : Ring → Ring) : (d.updRing r f).pos = d.pos := rfl
@[simp] theorem Dev.updRing_ports (r : Nat) (f : Ring → Ring) : (d.updRing r f).ports = d.ports := rfl
@[simp] theorem Dev.updRing_eng (r : Nat) (f : Ring → Ring) : (d.updRing r f).eng = d.eng := rfl
@[simp] theorem Dev.updRing_flt (r : Nat) (f : Ring → Ring) : (d.updRing r f).flt = d.flt := rfl
@[simp] theorem Dev.updRing_stitch (r : Nat) (f : Ring → Ring) : (d.updRing r f).stitch = d.stitch := rfl
@[simp] theorem Dev.updRing_seg (r : Nat) (f : Ring → Ring) : (d.updRing r f).seg = d.seg := rfl
@[simp] theorem Dev.updRing_cls (r : Nat) (f : Ring → Ring) : (d.updRing r f).cls = d.cls := rfl
@[simp] theorem Dev.updRing_cal (r : Nat) (f : Ring → Ring) : (d.updRing r f).cal = d.cal := rfl
@[simp] theorem Dev.updRing_pub (r : Nat) (f : Ring → Ring) : (d.updRing r f).pub = d.pub := rfl
@[simp] theorem Dev.updRing_net (r : Nat) (f : Ring → Ring) : (d.updRing r f).net = d.net := rfl
@[simp] theorem Dev.updRing_mem (r : Nat) (f : Ring → Ring) : (d.updRing r f).mem = d.mem := rfl
@[simp] theorem Dev.updRing_pair (r : Nat) (f : Ring → Ring) : (d.updRing r f).pair = d.pair := rfl
@[simp] theorem Dev.updRing_boot (r : Nat) (f : Ring → Ring) : (d.updRing r f).boot = d.boot := rfl
@[simp] theorem Dev.updRing_hbm (r : Nat) (f : Ring → Ring) : (d.updRing r f).hbm = d.hbm := rfl
@[simp] theorem Dev.updRing_clock (r : Nat) (f : Ring → Ring) : (d.updRing r f).clock = d.clock := rfl
@[simp] theorem Dev.updRing_msix (r : Nat) (f : Ring → Ring) : (d.updRing r f).msix = d.msix := rfl
@[simp] theorem Dev.updRing_out (r : Nat) (f : Ring → Ring) : (d.updRing r f).out = d.out := rfl
@[simp] theorem Dev.updRing_opCode (r : Nat) (f : Ring → Ring) : (d.updRing r f).opCode = d.opCode := rfl
@[simp] theorem Dev.updRing_opData (r : Nat) (f : Ring → Ring) : (d.updRing r f).opData = d.opData := rfl
@[simp] theorem Dev.val_updRing (r : Nat) (f : Ring → Ring) (j : Nat) : (d.updRing r f).val j = d.val j := Dev.val_congr rfl j
@[simp] theorem Dev.nat_updRing (r : Nat) (f : Ring → Ring) (j : Nat) : (d.updRing r f).nat j = d.nat j := by simp [Dev.nat]
@[simp] theorem Dev.int_updRing (r : Nat) (f : Ring → Ring) (j : Nat) : (d.updRing r f).int j = d.int j := by simp [Dev.int]
@[simp] theorem Dev.flag_updRing (r : Nat) (f : Ring → Ring) (j : Nat) : (d.updRing r f).flag j = d.flag j := by simp [Dev.flag]
@[simp] theorem Dev.bytes_updRing (r : Nat) (f : Ring → Ring) (j : Nat) : (d.updRing r f).bytes j = d.bytes j := by simp [Dev.bytes]
@[simp] theorem Dev.domOn_updRing (r : Nat) (f : Ring → Ring) (j : Nat) : (d.updRing r f).domOn j = d.domOn j := by simp [Dev.domOn]
@[simp] theorem Dev.role_updRing (r : Nat) (f : Ring → Ring) : (d.updRing r f).role = d.role := by simp [Dev.role]
@[simp] theorem Dev.blocks_updRing (r : Nat) (f : Ring → Ring) : (d.updRing r f).blocks = d.blocks.updRing r f := rfl

/-! ## updMem -/

@[simp] theorem Dev.updMem_now (f : MemState → MemState) : (d.updMem f).now = d.now := rfl
@[simp] theorem Dev.updMem_rb9212 (f : MemState → MemState) : (d.updMem f).rb9212 = d.rb9212 := rfl
@[simp] theorem Dev.updMem_objs (f : MemState → MemState) : (d.updMem f).objs = d.objs := rfl
@[simp] theorem Dev.updMem_cfgLog (f : MemState → MemState) : (d.updMem f).cfgLog = d.cfgLog := rfl
@[simp] theorem Dev.updMem_logs (f : MemState → MemState) : (d.updMem f).logs = d.logs := rfl
@[simp] theorem Dev.updMem_tol (f : MemState → MemState) : (d.updMem f).tol = d.tol := rfl
@[simp] theorem Dev.updMem_pos (f : MemState → MemState) : (d.updMem f).pos = d.pos := rfl
@[simp] theorem Dev.updMem_ports (f : MemState → MemState) : (d.updMem f).ports = d.ports := rfl
@[simp] theorem Dev.updMem_eng (f : MemState → MemState) : (d.updMem f).eng = d.eng := rfl
@[simp] theorem Dev.updMem_flt (f : MemState → MemState) : (d.updMem f).flt = d.flt := rfl
@[simp] theorem Dev.updMem_stitch (f : MemState → MemState) : (d.updMem f).stitch = d.stitch := rfl
@[simp] theorem Dev.updMem_seg (f : MemState → MemState) : (d.updMem f).seg = d.seg := rfl
@[simp] theorem Dev.updMem_cls (f : MemState → MemState) : (d.updMem f).cls = d.cls := rfl
@[simp] theorem Dev.updMem_cal (f : MemState → MemState) : (d.updMem f).cal = d.cal := rfl
@[simp] theorem Dev.updMem_pub (f : MemState → MemState) : (d.updMem f).pub = d.pub := rfl
@[simp] theorem Dev.updMem_net (f : MemState → MemState) : (d.updMem f).net = d.net := rfl
@[simp] theorem Dev.updMem_host (f : MemState → MemState) : (d.updMem f).host = d.host := rfl
@[simp] theorem Dev.updMem_pair (f : MemState → MemState) : (d.updMem f).pair = d.pair := rfl
@[simp] theorem Dev.updMem_boot (f : MemState → MemState) : (d.updMem f).boot = d.boot := rfl
@[simp] theorem Dev.updMem_hbm (f : MemState → MemState) : (d.updMem f).hbm = d.hbm := rfl
@[simp] theorem Dev.updMem_clock (f : MemState → MemState) : (d.updMem f).clock = d.clock := rfl
@[simp] theorem Dev.updMem_msix (f : MemState → MemState) : (d.updMem f).msix = d.msix := rfl
@[simp] theorem Dev.updMem_out (f : MemState → MemState) : (d.updMem f).out = d.out := rfl
@[simp] theorem Dev.updMem_opCode (f : MemState → MemState) : (d.updMem f).opCode = d.opCode := rfl
@[simp] theorem Dev.updMem_opData (f : MemState → MemState) : (d.updMem f).opData = d.opData := rfl
@[simp] theorem Dev.val_updMem (f : MemState → MemState) (j : Nat) : (d.updMem f).val j = d.val j := Dev.val_congr rfl j
@[simp] theorem Dev.nat_updMem (f : MemState → MemState) (j : Nat) : (d.updMem f).nat j = d.nat j := by simp [Dev.nat]
@[simp] theorem Dev.int_updMem (f : MemState → MemState) (j : Nat) : (d.updMem f).int j = d.int j := by simp [Dev.int]
@[simp] theorem Dev.flag_updMem (f : MemState → MemState) (j : Nat) : (d.updMem f).flag j = d.flag j := by simp [Dev.flag]
@[simp] theorem Dev.bytes_updMem (f : MemState → MemState) (j : Nat) : (d.updMem f).bytes j = d.bytes j := by simp [Dev.bytes]
@[simp] theorem Dev.domOn_updMem (f : MemState → MemState) (j : Nat) : (d.updMem f).domOn j = d.domOn j := by simp [Dev.domOn]
@[simp] theorem Dev.role_updMem (f : MemState → MemState) : (d.updMem f).role = d.role := by simp [Dev.role]
@[simp] theorem Dev.blocks_updMem (f : MemState → MemState) : (d.updMem f).blocks = d.blocks.updMem f := rfl

/-! ## updPc -/

@[simp] theorem Dev.updPc_now (n : Nat) (f : Pc → Pc) : (d.updPc n f).now = d.now := rfl
@[simp] theorem Dev.updPc_rb9212 (n : Nat) (f : Pc → Pc) : (d.updPc n f).rb9212 = d.rb9212 := rfl
@[simp] theorem Dev.updPc_objs (n : Nat) (f : Pc → Pc) : (d.updPc n f).objs = d.objs := rfl
@[simp] theorem Dev.updPc_cfgLog (n : Nat) (f : Pc → Pc) : (d.updPc n f).cfgLog = d.cfgLog := rfl
@[simp] theorem Dev.updPc_logs (n : Nat) (f : Pc → Pc) : (d.updPc n f).logs = d.logs := rfl
@[simp] theorem Dev.updPc_tol (n : Nat) (f : Pc → Pc) : (d.updPc n f).tol = d.tol := rfl
@[simp] theorem Dev.updPc_pos (n : Nat) (f : Pc → Pc) : (d.updPc n f).pos = d.pos := rfl
@[simp] theorem Dev.updPc_ports (n : Nat) (f : Pc → Pc) : (d.updPc n f).ports = d.ports := rfl
@[simp] theorem Dev.updPc_eng (n : Nat) (f : Pc → Pc) : (d.updPc n f).eng = d.eng := rfl
@[simp] theorem Dev.updPc_flt (n : Nat) (f : Pc → Pc) : (d.updPc n f).flt = d.flt := rfl
@[simp] theorem Dev.updPc_stitch (n : Nat) (f : Pc → Pc) : (d.updPc n f).stitch = d.stitch := rfl
@[simp] theorem Dev.updPc_seg (n : Nat) (f : Pc → Pc) : (d.updPc n f).seg = d.seg := rfl
@[simp] theorem Dev.updPc_cls (n : Nat) (f : Pc → Pc) : (d.updPc n f).cls = d.cls := rfl
@[simp] theorem Dev.updPc_cal (n : Nat) (f : Pc → Pc) : (d.updPc n f).cal = d.cal := rfl
@[simp] theorem Dev.updPc_pub (n : Nat) (f : Pc → Pc) : (d.updPc n f).pub = d.pub := rfl
@[simp] theorem Dev.updPc_net (n : Nat) (f : Pc → Pc) : (d.updPc n f).net = d.net := rfl
@[simp] theorem Dev.updPc_host (n : Nat) (f : Pc → Pc) : (d.updPc n f).host = d.host := rfl
@[simp] theorem Dev.updPc_pair (n : Nat) (f : Pc → Pc) : (d.updPc n f).pair = d.pair := rfl
@[simp] theorem Dev.updPc_boot (n : Nat) (f : Pc → Pc) : (d.updPc n f).boot = d.boot := rfl
@[simp] theorem Dev.updPc_hbm (n : Nat) (f : Pc → Pc) : (d.updPc n f).hbm = d.hbm := rfl
@[simp] theorem Dev.updPc_clock (n : Nat) (f : Pc → Pc) : (d.updPc n f).clock = d.clock := rfl
@[simp] theorem Dev.updPc_msix (n : Nat) (f : Pc → Pc) : (d.updPc n f).msix = d.msix := rfl
@[simp] theorem Dev.updPc_out (n : Nat) (f : Pc → Pc) : (d.updPc n f).out = d.out := rfl
@[simp] theorem Dev.updPc_opCode (n : Nat) (f : Pc → Pc) : (d.updPc n f).opCode = d.opCode := rfl
@[simp] theorem Dev.updPc_opData (n : Nat) (f : Pc → Pc) : (d.updPc n f).opData = d.opData := rfl
@[simp] theorem Dev.val_updPc (n : Nat) (f : Pc → Pc) (j : Nat) : (d.updPc n f).val j = d.val j := Dev.val_congr rfl j
@[simp] theorem Dev.nat_updPc (n : Nat) (f : Pc → Pc) (j : Nat) : (d.updPc n f).nat j = d.nat j := by simp [Dev.nat]
@[simp] theorem Dev.int_updPc (n : Nat) (f : Pc → Pc) (j : Nat) : (d.updPc n f).int j = d.int j := by simp [Dev.int]
@[simp] theorem Dev.flag_updPc (n : Nat) (f : Pc → Pc) (j : Nat) : (d.updPc n f).flag j = d.flag j := by simp [Dev.flag]
@[simp] theorem Dev.bytes_updPc (n : Nat) (f : Pc → Pc) (j : Nat) : (d.updPc n f).bytes j = d.bytes j := by simp [Dev.bytes]
@[simp] theorem Dev.domOn_updPc (n : Nat) (f : Pc → Pc) (j : Nat) : (d.updPc n f).domOn j = d.domOn j := by simp [Dev.domOn]
@[simp] theorem Dev.role_updPc (n : Nat) (f : Pc → Pc) : (d.updPc n f).role = d.role := by simp [Dev.role]
@[simp] theorem Dev.blocks_updPc (n : Nat) (f : Pc → Pc) : (d.updPc n f).blocks = d.blocks.updPc n f := rfl

/-! ## updPair -/

@[simp] theorem Dev.updPair_now (f : PairState → PairState) : (d.updPair f).now = d.now := rfl
@[simp] theorem Dev.updPair_rb9212 (f : PairState → PairState) : (d.updPair f).rb9212 = d.rb9212 := rfl
@[simp] theorem Dev.updPair_objs (f : PairState → PairState) : (d.updPair f).objs = d.objs := rfl
@[simp] theorem Dev.updPair_cfgLog (f : PairState → PairState) : (d.updPair f).cfgLog = d.cfgLog := rfl
@[simp] theorem Dev.updPair_logs (f : PairState → PairState) : (d.updPair f).logs = d.logs := rfl
@[simp] theorem Dev.updPair_tol (f : PairState → PairState) : (d.updPair f).tol = d.tol := rfl
@[simp] theorem Dev.updPair_pos (f : PairState → PairState) : (d.updPair f).pos = d.pos := rfl
@[simp] theorem Dev.updPair_ports (f : PairState → PairState) : (d.updPair f).ports = d.ports := rfl
@[simp] theorem Dev.updPair_eng (f : PairState → PairState) : (d.updPair f).eng = d.eng := rfl
@[simp] theorem Dev.updPair_flt (f : PairState → PairState) : (d.updPair f).flt = d.flt := rfl
@[simp] theorem Dev.updPair_stitch (f : PairState → PairState) : (d.updPair f).stitch = d.stitch := rfl
@[simp] theorem Dev.updPair_seg (f : PairState → PairState) : (d.updPair f).seg = d.seg := rfl
@[simp] theorem Dev.updPair_cls (f : PairState → PairState) : (d.updPair f).cls = d.cls := rfl
@[simp] theorem Dev.updPair_cal (f : PairState → PairState) : (d.updPair f).cal = d.cal := rfl
@[simp] theorem Dev.updPair_pub (f : PairState → PairState) : (d.updPair f).pub = d.pub := rfl
@[simp] theorem Dev.updPair_net (f : PairState → PairState) : (d.updPair f).net = d.net := rfl
@[simp] theorem Dev.updPair_host (f : PairState → PairState) : (d.updPair f).host = d.host := rfl
@[simp] theorem Dev.updPair_mem (f : PairState → PairState) : (d.updPair f).mem = d.mem := rfl
@[simp] theorem Dev.updPair_boot (f : PairState → PairState) : (d.updPair f).boot = d.boot := rfl
@[simp] theorem Dev.updPair_hbm (f : PairState → PairState) : (d.updPair f).hbm = d.hbm := rfl
@[simp] theorem Dev.updPair_clock (f : PairState → PairState) : (d.updPair f).clock = d.clock := rfl
@[simp] theorem Dev.updPair_msix (f : PairState → PairState) : (d.updPair f).msix = d.msix := rfl
@[simp] theorem Dev.updPair_out (f : PairState → PairState) : (d.updPair f).out = d.out := rfl
@[simp] theorem Dev.updPair_opCode (f : PairState → PairState) : (d.updPair f).opCode = d.opCode := rfl
@[simp] theorem Dev.updPair_opData (f : PairState → PairState) : (d.updPair f).opData = d.opData := rfl
@[simp] theorem Dev.val_updPair (f : PairState → PairState) (j : Nat) : (d.updPair f).val j = d.val j := Dev.val_congr rfl j
@[simp] theorem Dev.nat_updPair (f : PairState → PairState) (j : Nat) : (d.updPair f).nat j = d.nat j := by simp [Dev.nat]
@[simp] theorem Dev.int_updPair (f : PairState → PairState) (j : Nat) : (d.updPair f).int j = d.int j := by simp [Dev.int]
@[simp] theorem Dev.flag_updPair (f : PairState → PairState) (j : Nat) : (d.updPair f).flag j = d.flag j := by simp [Dev.flag]
@[simp] theorem Dev.bytes_updPair (f : PairState → PairState) (j : Nat) : (d.updPair f).bytes j = d.bytes j := by simp [Dev.bytes]
@[simp] theorem Dev.domOn_updPair (f : PairState → PairState) (j : Nat) : (d.updPair f).domOn j = d.domOn j := by simp [Dev.domOn]
@[simp] theorem Dev.role_updPair (f : PairState → PairState) : (d.updPair f).role = d.role := by simp [Dev.role]

/-! ## updFlt -/

@[simp] theorem Dev.updFlt_now (f : FaultState → FaultState) : (d.updFlt f).now = d.now := rfl
@[simp] theorem Dev.updFlt_rb9212 (f : FaultState → FaultState) : (d.updFlt f).rb9212 = d.rb9212 := rfl
@[simp] theorem Dev.updFlt_objs (f : FaultState → FaultState) : (d.updFlt f).objs = d.objs := rfl
@[simp] theorem Dev.updFlt_cfgLog (f : FaultState → FaultState) : (d.updFlt f).cfgLog = d.cfgLog := rfl
@[simp] theorem Dev.updFlt_logs (f : FaultState → FaultState) : (d.updFlt f).logs = d.logs := rfl
@[simp] theorem Dev.updFlt_tol (f : FaultState → FaultState) : (d.updFlt f).tol = d.tol := rfl
@[simp] theorem Dev.updFlt_pos (f : FaultState → FaultState) : (d.updFlt f).pos = d.pos := rfl
@[simp] theorem Dev.updFlt_ports (f : FaultState → FaultState) : (d.updFlt f).ports = d.ports := rfl
@[simp] theorem Dev.updFlt_eng (f : FaultState → FaultState) : (d.updFlt f).eng = d.eng := rfl
@[simp] theorem Dev.updFlt_stitch (f : FaultState → FaultState) : (d.updFlt f).stitch = d.stitch := rfl
@[simp] theorem Dev.updFlt_seg (f : FaultState → FaultState) : (d.updFlt f).seg = d.seg := rfl
@[simp] theorem Dev.updFlt_cls (f : FaultState → FaultState) : (d.updFlt f).cls = d.cls := rfl
@[simp] theorem Dev.updFlt_cal (f : FaultState → FaultState) : (d.updFlt f).cal = d.cal := rfl
@[simp] theorem Dev.updFlt_pub (f : FaultState → FaultState) : (d.updFlt f).pub = d.pub := rfl
@[simp] theorem Dev.updFlt_net (f : FaultState → FaultState) : (d.updFlt f).net = d.net := rfl
@[simp] theorem Dev.updFlt_host (f : FaultState → FaultState) : (d.updFlt f).host = d.host := rfl
@[simp] theorem Dev.updFlt_mem (f : FaultState → FaultState) : (d.updFlt f).mem = d.mem := rfl
@[simp] theorem Dev.updFlt_pair (f : FaultState → FaultState) : (d.updFlt f).pair = d.pair := rfl
@[simp] theorem Dev.updFlt_boot (f : FaultState → FaultState) : (d.updFlt f).boot = d.boot := rfl
@[simp] theorem Dev.updFlt_hbm (f : FaultState → FaultState) : (d.updFlt f).hbm = d.hbm := rfl
@[simp] theorem Dev.updFlt_clock (f : FaultState → FaultState) : (d.updFlt f).clock = d.clock := rfl
@[simp] theorem Dev.updFlt_msix (f : FaultState → FaultState) : (d.updFlt f).msix = d.msix := rfl
@[simp] theorem Dev.updFlt_out (f : FaultState → FaultState) : (d.updFlt f).out = d.out := rfl
@[simp] theorem Dev.updFlt_opCode (f : FaultState → FaultState) : (d.updFlt f).opCode = d.opCode := rfl
@[simp] theorem Dev.updFlt_opData (f : FaultState → FaultState) : (d.updFlt f).opData = d.opData := rfl
@[simp] theorem Dev.val_updFlt (f : FaultState → FaultState) (j : Nat) : (d.updFlt f).val j = d.val j := Dev.val_congr rfl j
@[simp] theorem Dev.nat_updFlt (f : FaultState → FaultState) (j : Nat) : (d.updFlt f).nat j = d.nat j := by simp [Dev.nat]
@[simp] theorem Dev.int_updFlt (f : FaultState → FaultState) (j : Nat) : (d.updFlt f).int j = d.int j := by simp [Dev.int]
@[simp] theorem Dev.flag_updFlt (f : FaultState → FaultState) (j : Nat) : (d.updFlt f).flag j = d.flag j := by simp [Dev.flag]
@[simp] theorem Dev.bytes_updFlt (f : FaultState → FaultState) (j : Nat) : (d.updFlt f).bytes j = d.bytes j := by simp [Dev.bytes]
@[simp] theorem Dev.domOn_updFlt (f : FaultState → FaultState) (j : Nat) : (d.updFlt f).domOn j = d.domOn j := by simp [Dev.domOn]
@[simp] theorem Dev.role_updFlt (f : FaultState → FaultState) : (d.updFlt f).role = d.role := by simp [Dev.role]
@[simp] theorem Dev.blocks_updFlt (f : FaultState → FaultState) : (d.updFlt f).blocks = d.blocks.updFlt f := rfl

/-! ## updBoot -/

@[simp] theorem Dev.updBoot_now (f : BootState → BootState) : (d.updBoot f).now = d.now := rfl
@[simp] theorem Dev.updBoot_rb9212 (f : BootState → BootState) : (d.updBoot f).rb9212 = d.rb9212 := rfl
@[simp] theorem Dev.updBoot_objs (f : BootState → BootState) : (d.updBoot f).objs = d.objs := rfl
@[simp] theorem Dev.updBoot_cfgLog (f : BootState → BootState) : (d.updBoot f).cfgLog = d.cfgLog := rfl
@[simp] theorem Dev.updBoot_logs (f : BootState → BootState) : (d.updBoot f).logs = d.logs := rfl
@[simp] theorem Dev.updBoot_tol (f : BootState → BootState) : (d.updBoot f).tol = d.tol := rfl
@[simp] theorem Dev.updBoot_pos (f : BootState → BootState) : (d.updBoot f).pos = d.pos := rfl
@[simp] theorem Dev.updBoot_ports (f : BootState → BootState) : (d.updBoot f).ports = d.ports := rfl
@[simp] theorem Dev.updBoot_eng (f : BootState → BootState) : (d.updBoot f).eng = d.eng := rfl
@[simp] theorem Dev.updBoot_flt (f : BootState → BootState) : (d.updBoot f).flt = d.flt := rfl
@[simp] theorem Dev.updBoot_stitch (f : BootState → BootState) : (d.updBoot f).stitch = d.stitch := rfl
@[simp] theorem Dev.updBoot_seg (f : BootState → BootState) : (d.updBoot f).seg = d.seg := rfl
@[simp] theorem Dev.updBoot_cls (f : BootState → BootState) : (d.updBoot f).cls = d.cls := rfl
@[simp] theorem Dev.updBoot_cal (f : BootState → BootState) : (d.updBoot f).cal = d.cal := rfl
@[simp] theorem Dev.updBoot_pub (f : BootState → BootState) : (d.updBoot f).pub = d.pub := rfl
@[simp] theorem Dev.updBoot_net (f : BootState → BootState) : (d.updBoot f).net = d.net := rfl
@[simp] theorem Dev.updBoot_host (f : BootState → BootState) : (d.updBoot f).host = d.host := rfl
@[simp] theorem Dev.updBoot_mem (f : BootState → BootState) : (d.updBoot f).mem = d.mem := rfl
@[simp] theorem Dev.updBoot_pair (f : BootState → BootState) : (d.updBoot f).pair = d.pair := rfl
@[simp] theorem Dev.updBoot_hbm (f : BootState → BootState) : (d.updBoot f).hbm = d.hbm := rfl
@[simp] theorem Dev.updBoot_clock (f : BootState → BootState) : (d.updBoot f).clock = d.clock := rfl
@[simp] theorem Dev.updBoot_msix (f : BootState → BootState) : (d.updBoot f).msix = d.msix := rfl
@[simp] theorem Dev.updBoot_out (f : BootState → BootState) : (d.updBoot f).out = d.out := rfl
@[simp] theorem Dev.updBoot_opCode (f : BootState → BootState) : (d.updBoot f).opCode = d.opCode := rfl
@[simp] theorem Dev.updBoot_opData (f : BootState → BootState) : (d.updBoot f).opData = d.opData := rfl
@[simp] theorem Dev.val_updBoot (f : BootState → BootState) (j : Nat) : (d.updBoot f).val j = d.val j := Dev.val_congr rfl j
@[simp] theorem Dev.nat_updBoot (f : BootState → BootState) (j : Nat) : (d.updBoot f).nat j = d.nat j := by simp [Dev.nat]
@[simp] theorem Dev.int_updBoot (f : BootState → BootState) (j : Nat) : (d.updBoot f).int j = d.int j := by simp [Dev.int]
@[simp] theorem Dev.flag_updBoot (f : BootState → BootState) (j : Nat) : (d.updBoot f).flag j = d.flag j := by simp [Dev.flag]
@[simp] theorem Dev.bytes_updBoot (f : BootState → BootState) (j : Nat) : (d.updBoot f).bytes j = d.bytes j := by simp [Dev.bytes]
@[simp] theorem Dev.domOn_updBoot (f : BootState → BootState) (j : Nat) : (d.updBoot f).domOn j = d.domOn j := by simp [Dev.domOn]
@[simp] theorem Dev.role_updBoot (f : BootState → BootState) : (d.updBoot f).role = d.role := by simp [Dev.role]
@[simp] theorem Dev.blocks_updBoot (f : BootState → BootState) : (d.updBoot f).blocks = d.blocks.updBoot f := rfl

end Sys2Proof.Machine
end

