-- ==== Sys2Proof/Laws/Device.lean ====
section
/-! SUPPORT. What a read of an object gives after each update, and what follows a command on a steady device. -/

namespace Sys2Proof.Machine

variable (d : Dev)

/-! ## Values -/

theorem Dev.val_put (k j : Nat) (v : Val) : (d.put k v).val j = if j = k then v else d.val j := by
  unfold Dev.val Dev.put
  by_cases hj : j = k
  · subst hj
    by_cases hv : v = defaultOf j
    · simp [hv, Tbl.get?_del]
    · simp [hv, Tbl.get?_put]
  · by_cases hv : v = defaultOf k
    · simp [hv, hj, Ne.symm hj, Tbl.get?_del]
    · simp [hv, hj, Ne.symm hj, Tbl.get?_put]

@[simp] theorem Dev.val_put_same (k : Nat) (v : Val) : (d.put k v).val k = v := by simp [Dev.val_put]

theorem Dev.val_put_other (k j : Nat) (v : Val) (h : j ≠ k) : (d.put k v).val j = d.val j := by simp [Dev.val_put, h]

theorem Dev.val_clear (k j : Nat) : (d.clear k).val j = if j = k then defaultOf k else d.val j := by
  unfold Dev.val Dev.clear
  by_cases hj : k = j
  · simp [hj, Tbl.get?_del]
  · simp [hj, Tbl.get?_del, Ne.symm hj]

@[simp] theorem Dev.putN_eq (k x : Nat) : d.putN k x = d.put k (.n x) := rfl
@[simp] theorem Dev.putI_eq (k : Nat) (x : Int) : d.putI k x = d.put k (.n x) := rfl
@[simp] theorem Dev.putF_eq (k : Nat) (x : Bool) : d.putF k x = d.put k (.n (b2n x)) := rfl
@[simp] theorem Dev.putB_eq (k : Nat) (x : Bytes) : d.putB k x = d.put k (.b x) := rfl
@[simp] theorem Dev.bump_eq (k n : Nat) : d.bump k n = d.put k (.n (min (2 ^ n - 1) (d.nat k + 1) : Nat)) := rfl
@[simp] theorem Dev.bumpBy_eq (k m n : Nat) : d.bumpBy k m n = d.put k (.n (min (2 ^ n - 1) (d.nat k + m) : Nat)) := rfl

@[simp] theorem Val.int_n (x : Int) : (Val.n x).int = x := rfl
@[simp] theorem Val.int_b (x : Bytes) : (Val.b x).int = 0 := rfl
@[simp] theorem Val.bytes_b (x : Bytes) : (Val.b x).bytes = x := rfl
@[simp] theorem Val.bytes_n (x : Int) : (Val.n x).bytes = [] := rfl

theorem Dev.nat_put (k j : Nat) (v : Val) : (d.put k v).nat j = if j = k then v.int.toNat else d.nat j := by
  simp only [Dev.nat, Dev.val_put]
  split <;> rfl

theorem Dev.int_put (k j : Nat) (v : Val) : (d.put k v).int j = if j = k then v.int else d.int j := by
  simp only [Dev.int, Dev.val_put]
  split <;> rfl

theorem Dev.flag_put (k j : Nat) (v : Val) : (d.put k v).flag j = if j = k then v.int != 0 else d.flag j := by
  simp only [Dev.flag, Dev.val_put]
  split <;> rfl

theorem Dev.bytes_put (k j : Nat) (v : Val) : (d.put k v).bytes j = if j = k then v.bytes else d.bytes j := by
  simp only [Dev.bytes, Dev.val_put]
  split <;> rfl

/-! ## Counters -/

/-- A counter of `bits` bits never passes its maximum, and counts one where it is below it. -/
theorem Dev.nat_bump (k bits : Nat) : (d.bump k bits).nat k = min (2 ^ bits - 1) (d.nat k + 1) := by
  rw [Dev.bump_eq, Dev.nat_put, if_pos rfl, Val.int_n, Int.toNat_natCast]

/-! ## The units' own state -/

@[simp] theorem Dev.blocks_blocks : d.blocks.blocks = d.blocks := rfl
@[simp] theorem Dev.blocks_begin : d.begin.blocks = d.blocks := rfl
@[simp] theorem Dev.begin_objs : d.begin.objs = d.objs := rfl
@[simp] theorem Dev.begin_val (k : Nat) : d.begin.val k = d.val k := rfl
@[simp] theorem Dev.begin_nat (k : Nat) : d.begin.nat k = d.nat k := rfl
@[simp] theorem Dev.begin_int (k : Nat) : d.begin.int k = d.int k := rfl
@[simp] theorem Dev.begin_flag (k : Nat) : d.begin.flag k = d.flag k := rfl
@[simp] theorem Dev.begin_bytes (k : Nat) : d.begin.bytes k = d.bytes k := rfl
@[simp] theorem Dev.begin_role : d.begin.role = d.role := rfl
@[simp] theorem Dev.begin_domOn (k : Nat) : d.begin.domOn k = d.domOn k := rfl
@[simp] theorem Dev.begin_now : d.begin.now = d.now := rfl
@[simp] theorem Dev.begin_boot : d.begin.boot = d.boot := rfl

theorem Dev.blocks_trim : d.trim.blocks = d.blocks.trim := by
  have h1 : d.trim.blocks = { d.blocks.trim with logs := Logs.reset } := by
    unfold Dev.blocks Dev.trim
    rfl
  have h2 : d.blocks.trim.logs = Logs.reset := by
    show Logs.reset.trim = Logs.reset
    simp [Logs.trim, Logs.reset, keepLast]
  rw [h1, ← h2]

/-! ## The event log (R297, R298) -/


theorem Dev.interrupt_objs (v : Nat) : (d.interrupt v).objs = d.objs := by
  unfold Dev.interrupt
  split
  · rfl
  · split <;> rfl

@[simp] theorem Dev.blocks_interrupt (v : Nat) : (d.interrupt v).blocks = d.blocks := by
  unfold Dev.interrupt
  split
  · rfl
  · split <;> rfl

@[simp] theorem Dev.val_interrupt (v k : Nat) : (d.interrupt v).val k = d.val k := Dev.val_congr (Dev.interrupt_objs d v) k

/-- A logged event changes no unit. -/
@[simp] theorem Dev.blocks_logEntry (code : Nat) (g : Option Nat) (items : List Item) (n : Nat) :
    (d.logEntry code g items n).blocks = d.blocks := by
  unfold Dev.logEntry
  simp only
  split
  · rfl
  · split <;> split <;> simp

/-- A logged event changes no object but LogSeq. -/
theorem Dev.logEntry_val (code : Nat) (g : Option Nat) (items : List Item) (n k : Nat) (h : k ≠ Obj.logSeq) :
    (d.logEntry code g items n).val k = d.val k := by
  unfold Dev.logEntry
  simp only
  split
  · rfl
  · split <;> split <;> simp [Dev.val_put, h]

@[simp] theorem Dev.blocks_log (src sev detail : Nat) (items : List Item) (g : Option Nat) (flags : Nat) :
    (d.log src sev detail items g flags).blocks = d.blocks := Dev.blocks_logEntry ..

theorem Dev.log_val (src sev detail : Nat) (items : List Item) (g : Option Nat) (flags k : Nat) (h : k ≠ Obj.logSeq) :
    (d.log src sev detail items g flags).val k = d.val k := Dev.logEntry_val _ _ _ _ _ _ h

@[simp] theorem Dev.blocks_putMark (key : Nat) (m : LogMark) : (d.putMark key m).blocks = d.blocks := rfl

@[simp] theorem Dev.putMark_val (key k : Nat) (m : LogMark) : (d.putMark key m).val k = d.val k := by simp [Dev.putMark]

@[simp] theorem Dev.blocks_logFirst (src sev detail unit : Nat) (mine : List Item) (items : Nat → List Item → List Item)
    (g : Option Nat) (flags : Nat) : (d.logFirst src sev detail unit mine items g flags).blocks = d.blocks := by
  simp only [Dev.logFirst]
  split
  · rfl
  · split <;> simp

/-- A repeating event changes no object but LogSeq. -/
theorem Dev.logFirst_val (src sev detail unit : Nat) (mine : List Item) (items : Nat → List Item → List Item)
    (g : Option Nat) (flags k : Nat) (h : k ≠ Obj.logSeq) :
    (d.logFirst src sev detail unit mine items g flags).val k = d.val k := by
  simp only [Dev.logFirst]
  split
  · rfl
  · split
    · simp
    · simp [Dev.logEntry_val, h]

@[simp] theorem Dev.blocks_logRep (src sev detail unit : Nat) (items : Nat → List Item) (g : Option Nat) (flags : Nat) :
    (d.logRep src sev detail unit items g flags).blocks = d.blocks := Dev.blocks_logFirst ..

theorem Dev.logRep_val (src sev detail unit : Nat) (items : Nat → List Item) (g : Option Nat) (flags k : Nat)
    (h : k ≠ Obj.logSeq) : (d.logRep src sev detail unit items g flags).val k = d.val k := Dev.logFirst_val _ _ _ _ _ _ _ _ _ _ h

/-! ## Outputs and the range log -/

@[simp] theorem Dev.blocks_mirror (m : MirrorItem) : (d.mirror m).blocks = d.blocks := by
  unfold Dev.mirror
  split <;> rfl

@[simp] theorem Dev.val_mirror (m : MirrorItem) (k : Nat) : (d.mirror m).val k = d.val k := by
  unfold Dev.mirror
  split
  · simp
  · rfl

theorem Dev.mirror_single (m : MirrorItem) (h : d.role = 0) : d.mirror m = d := by
  simp [Dev.mirror, h]

@[simp] theorem Dev.blocks_addRange (g : Nat) (lost : Bool) (scope unit cause lix : Nat) :
    (d.addRange g lost scope unit cause lix).blocks = d.blocks := rfl

@[simp] theorem Dev.val_addRange (g : Nat) (lost : Bool) (scope unit cause lix k : Nat) :
    (d.addRange g lost scope unit cause lix).val k = d.val k := by simp [Dev.addRange]

@[simp] theorem Dev.blocks_setHealth (b : Nat) (v : Bool) : (d.setHealth b v).blocks = d.blocks := rfl

theorem Dev.setHealth_val (b : Nat) (v : Bool) (k : Nat) (h : k ≠ Obj.deviceHealthHeld) :
    (d.setHealth b v).val k = d.val k := by simp [Dev.setHealth, Dev.val_put, h]

@[simp] theorem Dev.blocks_addRanges (g : Nat) (lost : Bool) (scope unit cause lix n : Nat) :
    (d.addRanges g lost scope unit cause lix n).blocks = d.blocks := by
  induction n generalizing d lix with
  | zero => rfl
  | succ n ih => simp [Dev.addRanges, ih]

@[simp] theorem Dev.val_addRanges (g : Nat) (lost : Bool) (scope unit cause lix n k : Nat) :
    (d.addRanges g lost scope unit cause lix n).val k = d.val k := by
  induction n generalizing d lix with
  | zero => rfl
  | succ n ih => simp [Dev.addRanges, ih]

/-! ## Lists of units -/

/-- Reading a unit of a list in which one is changed. -/
theorem getD_modify {α : Type} (l : List α) (i j : Nat) (f : α → α) (x : α) :
    (l.modify i f).getD j x = if i = j ∧ j < l.length then f (l.getD j x) else l.getD j x := by
  by_cases hj : j < l.length
  · by_cases hij : i = j
    · simp [List.getD, hj, hij]
    · simp [List.getD, hj, hij]
  · simp [List.getD, hj]

/-- A fold keeps what each of its steps keeps. -/
theorem foldl_keeps {α β γ : Type} (g : α → γ) (f : α → β → α) (l : List β) (a : α)
    (h : ∀ a, ∀ b ∈ l, g (f a b) = g a) : g (l.foldl f a) = g a := by
  induction l generalizing a with
  | nil => rfl
  | cons b t ih =>
    simp only [List.foldl_cons]
    rw [ih _ (fun a b hb => h a b (by simp [hb])), h a b (by simp)]

end Sys2Proof.Machine
end

