-- ==== Sys2Proof/Laws/Flash.lean ====
section
/-! SUPPORT. Numbers as bytes, and what the 64 bytes of a boot record read as (R412). -/

namespace Sys2Proof.Machine

theorem natLE_length (k v : Nat) : (natLE k v).length = k := by
  induction k generalizing v with
  | zero => rfl
  | succ k ih => simp [natLE, ih]

/-- The bytes of a number read as the number, cut to their count. -/
theorem leNat_natLE (k v : Nat) : leNat (natLE k v) = v % 256 ^ k := by
  induction k generalizing v with
  | zero => simp [natLE, leNat, Nat.mod_one]
  | succ k ih =>
    rw [natLE, leNat, ih, BitVec.toNat_ofNat, show (2 : Nat) ^ 8 = 256 from rfl, Nat.pow_succ, Nat.mul_comm (256 ^ k) 256, Nat.mod_mul]

theorem firstBytes_length (n : Nat) (bs : Bytes) : (Config.firstBytes n bs).length = n := by simp [Config.firstBytes]

/-- Bytes that stand behind `a` are read past it. -/
theorem leAt_append (a b : Bytes) (off len : Nat) (h : a.length ≤ off) : leAt (a ++ b) off len = leAt b (off - a.length) len := by
  simp [leAt, slice, List.drop_append, List.drop_eq_nil_of_le h]

theorem slice_append (a b : Bytes) (off len : Nat) (h : a.length ≤ off) : slice (a ++ b) off len = slice b (off - a.length) len := by
  simp [slice, List.drop_append, List.drop_eq_nil_of_le h]

/-- Bytes that fill the front are read there. -/
theorem slice_front (a b : Bytes) : slice (a ++ b) 0 a.length = a := by simp [slice]

theorem leAt_natLE (k v : Nat) (b : Bytes) : leAt (natLE k v ++ b) 0 k = v % 256 ^ k := by
  have h := slice_front (natLE k v) b
  rw [natLE_length] at h
  rw [leAt, h, leNat_natLE]

theorem leAt_cons (x : Byte) (b : Bytes) : leAt (x :: b) 0 1 = x.toNat := by simp [leAt, slice, leNat]

theorem leAt_cons_succ (x : Byte) (b : Bytes) (off len : Nat) : leAt (x :: b) (off + 1) len = leAt b off len := by simp [leAt, slice]

theorem BootRec.bytes_eq (r : BootRec) : r.bytes = r.body ++ natLE 4 (crc32c (r.body ++ [0, 0, 0, 0])) := rfl

theorem BootRec.body_length (r : BootRec) : r.body.length = 60 := by simp [BootRec.body, natLE_length, firstBytes_length]

theorem crcBit_lt (c : Nat) (h : c < 2 ^ 32) : crcBit c < 2 ^ 32 := by
  unfold crcBit
  split
  · exact Nat.xor_lt_two_pow (by omega) (by decide)
  · omega

theorem crcBits_lt (n c : Nat) (h : c < 2 ^ 32) : Nat.repeat crcBit n c < 2 ^ 32 := by
  induction n with
  | zero => exact h
  | succ n ih => exact crcBit_lt _ ih

theorem crcFold_lt (bs : Bytes) (c : Nat) (h : c < 2 ^ 32) :
    bs.foldl (fun c x => Nat.repeat crcBit 8 (c ^^^ x.toNat)) c < 2 ^ 32 := by
  induction bs generalizing c with
  | nil => exact h
  | cons x xs ih => exact ih _ (crcBits_lt 8 _ (Nat.xor_lt_two_pow h (Nat.lt_trans x.isLt (by decide))))

theorem crc32c_lt (bs : Bytes) : crc32c bs < 2 ^ 32 := Nat.xor_lt_two_pow (crcFold_lt bs _ (by decide)) (by decide)

/-- A boot record reads as it was written: its fields within their widths, and its digest of 32 bytes. -/
theorem bootRecOf_bytes (r : BootRec) (h1 : r.seq < 2 ^ 64) (h2 : r.stage < 256) (h3 : r.trial < 256) (h4 : r.runVersion < 2 ^ 32)
    (h5 : r.keepVersion < 2 ^ 32) : bootRecOf r.bytes = some { r with runDigest := Config.firstBytes 32 r.runDigest } := by
  have hb := r.body_length
  have hlen : r.bytes.length = 64 := by rw [r.bytes_eq, List.length_append, hb, natLE_length]
  have hc : leAt r.bytes 60 4 = crc32c (r.bytes.take 60 ++ [0, 0, 0, 0]) := by
    rw [r.bytes_eq, leAt_append _ _ _ _ (by omega), hb, Nat.sub_self, List.take_append, ← hb, List.take_length, hb, Nat.sub_self,
      List.take_zero, List.append_nil]
    have := leAt_natLE 4 (crc32c (r.body ++ [0, 0, 0, 0])) []
    rw [List.append_nil] at this
    rw [this]
    exact Nat.mod_eq_of_lt (crc32c_lt _)
  have hk : ∀ a c : Bool, bit ((128 * b2n a + 64 * b2n c) % 256) 7 = a ∧ bit ((128 * b2n a + 64 * b2n c) % 256) 6 = c := by decide
  unfold bootRecOf
  rw [if_neg (by rw [hlen]; simp [r.bytes_eq, BootRec.body, leAt_natLE]), if_neg (by rw [hc]; simp)]
  simp only [r.bytes_eq, BootRec.body, List.append_assoc, List.cons_append]
  congr 1
  simp [leAt_append, slice_append, natLE_length, firstBytes_length, leAt_natLE, leAt_cons, leAt_cons_succ, hk]
  refine ⟨h1, h2, h3, ?_, h4, h5⟩
  have h := fun x => slice_front (Config.firstBytes 32 r.runDigest) x
  simp only [firstBytes_length] at h
  exact h _

/-- The number of a byte string is below 256 to its length. -/
theorem leNat_lt (bs : Bytes) : leNat bs < 256 ^ bs.length := by
  induction bs with
  | nil => simp [leNat]
  | cons x xs ih =>
    have := x.isLt
    rw [leNat, List.length_cons, Nat.pow_succ]
    omega

theorem leAt_lt (b : Bytes) (off len : Nat) : leAt b off len < 256 ^ len := by
  refine Nat.lt_of_lt_of_le (leNat_lt _) (Nat.pow_le_pow_right (by decide) ?_)
  exact (List.length_take_le _ _)

end Sys2Proof.Machine
end

