-- ==== Sys2Proof/Laws/Memory.lean ====
section
/-! SUPPORT. The sparse byte stores (HBM and MRAM): what a byte reads as after a write, and that every operation over a store keeps
its canonical form. -/

namespace Sys2Proof.Machine

/-- The canonical form, said of the entries: their keys rise, and none holds what an unlisted address reads as. -/
theorem Tbl.byteWf_iff (fill : Byte) (t : Tbl Byte) :
    Tbl.byteWf fill t = true ↔ Tbl.wf t = true ∧ ∀ e ∈ t, e.2 ≠ fill := by
  simp [Tbl.byteWf]

theorem Tbl.byteWf_nil (fill : Byte) : Tbl.byteWf fill [] = true := rfl

theorem Tbl.wf_filter {α : Type} (t : Tbl α) (p : Nat × α → Bool) (h : Tbl.wf t = true) : Tbl.wf (t.filter p) = true := by
  induction t with
  | nil => rfl
  | cons e t ih =>
    obtain ⟨k, v⟩ := e
    obtain ⟨h1, h2⟩ := (Tbl.wf_cons k v t).1 h
    by_cases hp : p (k, v) = true
    · rw [List.filter_cons_of_pos hp]
      exact (Tbl.wf_cons _ _ _).2 ⟨fun e he => h1 e ((List.mem_filter.1 he).1), ih h2⟩
    · rw [List.filter_cons_of_neg hp]
      exact ih h2

/-- What is left of a store keeps the canonical form. -/
theorem Tbl.byteWf_filter (fill : Byte) (t : Tbl Byte) (p : Nat × Byte → Bool) (h : Tbl.byteWf fill t = true) :
    Tbl.byteWf fill (t.filter p) = true := by
  rw [Tbl.byteWf_iff] at *
  exact ⟨Tbl.wf_filter t p h.1, fun e he => h.2 e ((List.mem_filter.1 he).1)⟩

theorem Tbl.wf_append {α : Type} (t u : Tbl α) (ht : Tbl.wf t = true) (hu : Tbl.wf u = true)
    (h : ∀ e ∈ t, ∀ f ∈ u, e.1 < f.1) : Tbl.wf (t ++ u) = true := by
  induction t with
  | nil => exact hu
  | cons e t ih =>
    obtain ⟨k, v⟩ := e
    obtain ⟨h1, h2⟩ := (Tbl.wf_cons k v t).1 ht
    refine (Tbl.wf_cons _ _ _).2 ⟨?_, ih h2 (fun e he => h e (List.mem_cons_of_mem _ he))⟩
    intro e he
    rcases List.mem_append.1 he with he | he
    · exact h1 e he
    · exact h _ List.mem_cons_self e he

/-- The entries of a byte string stand at its addresses and hold no byte that an unlisted address reads as. -/
theorem byteEntries_mem (fill : Byte) (a : Nat) (bs : Bytes) :
    ∀ e ∈ byteEntries fill a bs, a ≤ e.1 ∧ e.1 < a + bs.length ∧ e.2 ≠ fill := by
  induction bs generalizing a with
  | nil => simp [byteEntries]
  | cons x xs ih =>
    intro e he
    simp only [byteEntries] at he
    split at he
    · have := ih (a + 1) e he
      simp only [List.length_cons]
      exact ⟨by omega, by omega, this.2.2⟩
    · rcases List.mem_cons.1 he with rfl | he
      · simp only [List.length_cons]
        refine ⟨Nat.le_refl _, by omega, by assumption⟩
      · have := ih (a + 1) e he
        simp only [List.length_cons]
        exact ⟨by omega, by omega, this.2.2⟩

theorem byteEntries_wf (fill : Byte) (a : Nat) (bs : Bytes) : Tbl.wf (byteEntries fill a bs) = true := by
  induction bs generalizing a with
  | nil => rfl
  | cons x xs ih =>
    simp only [byteEntries]
    split
    · exact ih (a + 1)
    · refine (Tbl.wf_cons _ _ _).2 ⟨?_, ih (a + 1)⟩
      intro e he
      have := byteEntries_mem fill (a + 1) xs e he
      omega

/-- A write of a byte string keeps the canonical form. -/
theorem Tbl.byteWf_putBytes (fill : Byte) (t : Tbl Byte) (a : Nat) (bs : Bytes) (h : Tbl.byteWf fill t = true) :
    Tbl.byteWf fill (Tbl.putBytes fill t a bs) = true := by
  have hlo : ∀ e ∈ t.filter (fun e => decide (e.1 < a)), e.1 < a := fun e he => of_decide_eq_true (List.mem_filter.1 he).2
  have hhi : ∀ e ∈ t.filter (fun e => decide (a + bs.length ≤ e.1)), a + bs.length ≤ e.1 :=
    fun e he => of_decide_eq_true (List.mem_filter.1 he).2
  have hm := byteEntries_mem fill a bs
  obtain ⟨hw, hf⟩ := (Tbl.byteWf_iff fill t).1 h
  refine (Tbl.byteWf_iff _ _).2 ⟨?_, ?_⟩
  · refine Tbl.wf_append _ _ (Tbl.wf_append _ _ (Tbl.wf_filter t _ hw) (byteEntries_wf fill a bs) ?_) (Tbl.wf_filter t _ hw) ?_
    · intro e he f hf'
      have := hlo e he
      have := hm f hf'
      omega
    · intro e he f hf'
      have := hhi f hf'
      rcases List.mem_append.1 he with he | he
      · have := hlo e he
        omega
      · have := hm e he
        omega
  · intro e he
    rcases List.mem_append.1 he with he | he
    · rcases List.mem_append.1 he with he | he
      · exact hf e ((List.mem_filter.1 he).1)
      · exact (hm e he).2.2
    · exact hf e ((List.mem_filter.1 he).1)

/-- A write of one byte keeps the canonical form. -/
theorem Tbl.byteWf_putByte (fill : Byte) (t : Tbl Byte) (i : Nat) (x : Byte) (h : Tbl.byteWf fill t = true) :
    Tbl.byteWf fill (Tbl.putByte fill t i x) = true := by
  obtain ⟨hw, hf⟩ := (Tbl.byteWf_iff fill t).1 h
  unfold Tbl.putByte
  split
  · exact (Tbl.byteWf_iff _ _).2 ⟨Tbl.wf_del t i hw, fun e he => hf e (Tbl.mem_del t i e he)⟩
  · rename_i hx
    refine (Tbl.byteWf_iff _ _).2 ⟨Tbl.wf_put t i x hw, ?_⟩
    clear hw h
    induction t with
    | nil =>
      intro e he
      simp only [Tbl.put, List.mem_singleton] at he
      rw [he]
      exact hx
    | cons a t ih =>
      obtain ⟨k, v⟩ := a
      intro e he
      simp only [Tbl.put] at he
      have ht : ∀ e ∈ t, e.2 ≠ fill := fun e he => hf e (List.mem_cons_of_mem _ he)
      split at he
      · rcases List.mem_cons.1 he with rfl | he
        · exact hx
        · exact hf e he
      · split at he
        · rcases List.mem_cons.1 he with rfl | he
          · exact hx
          · exact ht e he
        · rcases List.mem_cons.1 he with rfl | he
          · exact hf _ List.mem_cons_self
          · exact ih ht e he

theorem Tbl.get?_append {α : Type} (t u : Tbl α) (i : Nat) :
    Tbl.get? (t ++ u) i = (Tbl.get? t i).or (Tbl.get? u i) := by
  induction t with
  | nil => simp
  | cons e t ih =>
    obtain ⟨k, v⟩ := e
    simp only [List.cons_append, Tbl.get?]
    split
    · rfl
    · exact ih

theorem Tbl.get?_filter {α : Type} (t : Tbl α) (p : Nat → Bool) (i : Nat) :
    Tbl.get? (t.filter (fun e => p e.1)) i = if p i = true then Tbl.get? t i else none := by
  induction t with
  | nil => simp
  | cons e t ih =>
    obtain ⟨k, v⟩ := e
    by_cases hp : p k = true
    · rw [List.filter_cons_of_pos (by exact hp)]
      simp only [Tbl.get?, ih]
      by_cases hk : k = i
      · subst hk
        simp [hp]
      · simp [hk]
    · rw [List.filter_cons_of_neg (by simpa using hp)]
      rw [ih]
      by_cases hk : k = i
      · subst hk
        simp [hp]
      · simp [Tbl.get?, hk]

/-- A byte of a string's entries: the byte of the string at its address. -/
theorem byteEntries_get (fill : Byte) (a : Nat) (bs : Bytes) (i : Nat) :
    (Tbl.get? (byteEntries fill a bs) i).getD fill = if a ≤ i then bs.getD (i - a) fill else fill := by
  induction bs generalizing a with
  | nil => simp [byteEntries]
  | cons x xs ih =>
    simp only [byteEntries]
    rcases Nat.lt_trichotomy i a with h | h | h
    · have h1 : ¬ a ≤ i := by omega
      have h2 : ¬ a + 1 ≤ i := by omega
      have h3 : ¬ a = i := by omega
      split <;> simp [Tbl.get?, ih, h1, h2, h3]
    · subst h
      have h2 : ¬ i + 1 ≤ i := by omega
      split
      · rename_i hx
        simp [ih, h2, hx]
      · simp [Tbl.get?]
    · have h1 : a ≤ i := by omega
      have h2 : a + 1 ≤ i := by omega
      have h3 : ¬ a = i := by omega
      have h4 : i - a = (i - (a + 1)) + 1 := by omega
      split <;> simp [Tbl.get?, ih, h1, h2, h3, h4]

/-- A byte after a write of a byte string: the byte written within it, as before outside it. -/
theorem Tbl.get_putBytes (fill : Byte) (t : Tbl Byte) (a : Nat) (bs : Bytes) (i : Nat) :
    Tbl.get (Tbl.putBytes fill t a bs) i fill =
      if a ≤ i ∧ i < a + bs.length then bs.getD (i - a) fill else Tbl.get t i fill := by
  have hlo := Tbl.get?_filter t (fun k => decide (k < a)) i
  have hhi := Tbl.get?_filter t (fun k => decide (a + bs.length ≤ k)) i
  have hm := byteEntries_get fill a bs i
  have hn : ¬ (a ≤ i ∧ i < a + bs.length) → Tbl.get? (byteEntries fill a bs) i = none := by
    intro h
    cases hg : Tbl.get? (byteEntries fill a bs) i with
    | none => rfl
    | some x =>
      exfalso
      have : ∀ (u : Tbl Byte), Tbl.get? u i = some x → (i, x) ∈ u := by
        intro u
        induction u with
        | nil => simp
        | cons e u ih =>
          obtain ⟨k, v⟩ := e
          simp only [Tbl.get?]
          split
          · intro hx
            cases hx
            subst_vars
            exact List.mem_cons_self
          · intro hx
            exact List.mem_cons_of_mem _ (ih hx)
      have := byteEntries_mem fill a bs _ (this _ hg)
      simp only at this
      omega
  unfold Tbl.get Tbl.putBytes
  rw [Tbl.get?_append, Tbl.get?_append, hlo, hhi]
  by_cases h1 : i < a
  · have h2 : ¬ (a ≤ i ∧ i < a + bs.length) := by omega
    have h3 : ¬ a + bs.length ≤ i := by omega
    simp [h1, h2, h3, hn h2]
  · by_cases h2 : a + bs.length ≤ i
    · have h3 : ¬ (a ≤ i ∧ i < a + bs.length) := by omega
      simp [h1, h2, h3, hn h3]
    · have h3 : a ≤ i ∧ i < a + bs.length := by omega
      have h4 : a ≤ i := h3.1
      rw [if_pos h4] at hm
      simp [h1, h2, h3, hm]

/-- A read of one byte of a canonical store. -/
theorem Tbl.get_putByte (fill : Byte) (t : Tbl Byte) (i : Nat) (x : Byte) (j : Nat) :
    Tbl.get (Tbl.putByte fill t i x) j fill = if i = j then x else Tbl.get t j fill := by
  unfold Tbl.putByte
  split
  · subst_vars
    simp only [Tbl.get, Tbl.get?_del]
    split <;> rfl
  · exact Tbl.get_put t i j x fill

/-- HBM and MRAM have the canonical form at reset. -/
theorem State.reset_memory : Tbl.byteWf 0 State.reset.dev.hbm = true ∧ Tbl.byteWf 0 State.reset.dev.cal.mram = true := ⟨rfl, rfl⟩

/-- Stores that fold over blocks keep a property that one block keeps. -/
theorem storeFold_keeps {α β : Type} (p : β → Prop) (f : β → α → β) (h : ∀ d x, p d → p (f d x)) (l : List α) (d : β) (hd : p d) :
    p (l.foldl f d) := by
  induction l generalizing d with
  | nil => exact hd
  | cons x l ih => exact ih (f d x) (h d x hd)

@[simp] theorem Dev.clearBad_hbm (d : Dev) (addr n : Nat) : (d.clearBad addr n).hbm = d.hbm := by unfold Dev.clearBad; split <;> rfl
@[simp] theorem Dev.clearBad_fences (d : Dev) (addr n : Nat) : (d.clearBad addr n).mem.fences = d.mem.fences := by
  unfold Dev.clearBad; split <;> rfl

/-- A write to HBM keeps the canonical form, with or without fenced pseudo-channels. -/
theorem Dev.hbmWrite_wf (d : Dev) (addr : Nat) (bs : Bytes) (h : Memory.wf d.hbm = true) :
    Memory.wf (d.hbmWrite addr bs).hbm = true := by
  have h : Memory.wf (d.clearBad addr bs.length).hbm = true := by simpa using h
  unfold Dev.hbmWrite Dev.hbmStore
  split
  · exact Tbl.byteWf_putBytes 0 _ addr bs h
  · refine storeFold_keeps (fun x : Dev => Memory.wf x.hbm = true) _ ?_ _ _ h
    intro x b hx
    simp only
    split
    · exact hx
    · exact Tbl.byteWf_putBytes 0 x.hbm _ _ hx

/-- A write to HBM with no pseudo-channel fenced: the bytes written read as written, all others as before. -/
theorem Dev.hbmWrite_get (d : Dev) (addr : Nat) (bs : Bytes) (i : Nat) (h : d.mem.fences = []) :
    Tbl.get (d.hbmWrite addr bs).hbm i 0 = if addr ≤ i ∧ i < addr + bs.length then bs.getD (i - addr) 0 else Tbl.get d.hbm i 0 := by
  have h : (d.clearBad addr bs.length).mem.fences = [] := by simpa using h
  unfold Dev.hbmWrite Dev.hbmStore
  simp only [if_pos h, ← Dev.clearBad_hbm d addr bs.length]
  exact Tbl.get_putBytes 0 _ addr bs i

end Sys2Proof.Machine
end

