-- ==== Sys2Proof/Laws/Settle.lean ====
section
/-! SUPPORT. What follows a command on a steady device: nothing but the bounds of the histories, which a steady device keeps. -/

namespace Sys2Proof.Machine

/-! ## Lists of units -/

theorem fixLen_eq {α : Type} (n : Nat) (x : α) (l : List α) (h : l.length = n) : fixLen n x l = l := by simp [fixLen, h]

theorem fixLen_length {α : Type} (n : Nat) (x : α) (l : List α) : (fixLen n x l).length = n := by
  unfold fixLen
  split
  · assumption
  · simp

theorem length_of_fixLen {α : Type} {n : Nat} {x : α} {l : List α} (h : fixLen n x l = l) : l.length = n := by
  rw [← h, fixLen_length]

theorem keepLast_eq {α : Type} (n : Nat) (l : List α) (h : l.length ≤ n) : keepLast n l = l := by
  unfold keepLast
  rw [List.take_of_length_le (by simpa using h), List.reverse_reverse]

theorem keepLast_length {α : Type} (n : Nat) (l : List α) : (keepLast n l).length ≤ n := by
  simp only [keepLast, List.length_reverse, List.length_take]
  omega

theorem map_eq_self {α : Type} (f : α → α) (l : List α) (h : ∀ x ∈ l, f x = x) : l.map f = l := by
  induction l with
  | nil => rfl
  | cons a t ih =>
    simp only [List.map_cons]
    rw [h a (by simp), ih (fun x hx => h x (by simp [hx]))]

theorem Lcg.trim_eq (l : Lcg) (h : l.Bounded) : l.trim = l := by
  unfold Lcg.trim
  rw [List.take_of_length_le h.1, h.2]

theorem Session.trim_eq (x : Session) (h : x.Bounded) : x.trim = x := by
  unfold Session.trim
  rw [List.take_of_length_le h.1, List.take_of_length_le h.2]

theorem Logs.trim_eq (l : Logs) (h : l.Bounded) : l.trim = l := by
  unfold Logs.trim
  rw [keepLast_eq _ _ h.1, List.take_of_length_le h.2.1, keepLast_eq _ _ h.2.2]

/-- A shaped state within its bounds is its own trimmed state. -/
theorem trim_eq (s : State) (hs : s.Shaped) (hb : s.Bounded) : s.dev.trim = s.dev := by
  obtain ⟨h1, h2, h3, h4⟩ := hb
  obtain ⟨a1, a2, a3, a4, a5, a6, a7, a8, a9, a10, a11, a12, a13, a14, a15, a16, a17, a18, a19, a20, a21, a22⟩ := hs
  unfold Dev.trim
  rw [Logs.trim_eq _ h1, fixLen_eq _ _ _ a1, fixLen_eq _ _ _ a2, fixLen_eq _ _ _ a3, fixLen_eq _ _ _ a4, fixLen_eq _ _ _ a5,
    fixLen_eq _ _ _ a6, fixLen_eq _ _ _ a7, fixLen_eq _ _ _ a8, fixLen_eq _ _ _ a9, fixLen_eq _ _ _ a10, fixLen_eq _ _ _ a11,
    fixLen_eq _ _ _ a12, fixLen_eq _ _ _ a13, fixLen_eq _ _ _ a14, fixLen_eq _ _ _ a15, fixLen_eq _ _ _ a16, fixLen_eq _ _ _ a17,
    fixLen_eq _ _ _ a18, fixLen_eq _ _ _ a19, fixLen_eq _ _ _ a20, fixLen_eq _ _ _ a21, fixLen_eq _ _ _ a22,
    map_eq_self _ _ (fun l hl => Lcg.trim_eq l (h2 l hl)),
    map_eq_self _ s.dev.tol.sessions (fun e he => by rw [Session.trim_eq _ (h3 e he)]),
    map_eq_self _ s.dev.stitch.ports (fun p hp => by rw [List.take_of_length_le (h4 p hp)])]

/-! ## Fitting units -/

/-- The units of a device are as many as R4 gives and their histories within their bounds. -/
def Dev.Fit (d : Dev) : Prop := d.blocks.trim = d.blocks

theorem Dev.fit_of_steady (s : State) (h : s.Steady) : s.dev.Fit := by
  unfold Dev.Fit
  rw [← Dev.blocks_trim, trim_eq s h.1 h.2.1]

theorem Dev.fit_congr {d e : Dev} (h : d.blocks = e.blocks) : d.Fit ↔ e.Fit := by
  unfold Dev.Fit
  rw [h]

theorem Dev.Fit.updAxis {d : Dev} (h : d.Fit) (a : Nat) (f : Axis → Axis) : (d.updAxis a f).Fit := by
  have hl := length_of_fixLen (congrArg (fun x => x.pos.axes) h)
  show (d.blocks.updAxis a f).trim = d.blocks.updAxis a f
  have e1 : (d.blocks.updAxis a f).trim = { d.blocks.trim with pos := { d.blocks.trim.pos with axes := fixLen 4 Axis.reset (d.blocks.pos.axes.modify a f) } } := rfl
  have e2 : fixLen 4 Axis.reset (d.blocks.pos.axes.modify a f) = d.blocks.pos.axes.modify a f := fixLen_eq _ _ _ (by simpa using hl)
  rw [e1, e2, h]
  rfl

theorem Dev.Fit.updTrig {d : Dev} (h : d.Fit) (p : Nat) (f : Trig → Trig) : (d.updTrig p f).Fit := by
  have hl := length_of_fixLen (congrArg (fun x => x.pos.trigs) h)
  show (d.blocks.updTrig p f).trim = d.blocks.updTrig p f
  have e1 : (d.blocks.updTrig p f).trim = { d.blocks.trim with pos := { d.blocks.trim.pos with trigs := fixLen 24 Trig.reset (d.blocks.pos.trigs.modify p f) } } := rfl
  have e2 : fixLen 24 Trig.reset (d.blocks.pos.trigs.modify p f) = d.blocks.pos.trigs.modify p f := fixLen_eq _ _ _ (by simpa using hl)
  rw [e1, e2, h]
  rfl

theorem Dev.Fit.updPort {d : Dev} (h : d.Fit) (p : Nat) (f : Port → Port) : (d.updPort p f).Fit := by
  have hl := length_of_fixLen (congrArg (fun x => x.ports) h)
  show (d.blocks.updPort p f).trim = d.blocks.updPort p f
  have e1 : (d.blocks.updPort p f).trim = { d.blocks.trim with ports := fixLen 24 Port.reset (d.blocks.ports.modify p f) } := rfl
  have e2 : fixLen 24 Port.reset (d.blocks.ports.modify p f) = d.blocks.ports.modify p f := fixLen_eq _ _ _ (by simpa using hl)
  rw [e1, e2, h]
  rfl

theorem Dev.Fit.updEp {d : Dev} (h : d.Fit) (p : Nat) (f : EngPort → EngPort) : (d.updEp p f).Fit := by
  have hl := length_of_fixLen (congrArg (fun x => x.eng.ports) h)
  show (d.blocks.updEp p f).trim = d.blocks.updEp p f
  have e1 : (d.blocks.updEp p f).trim = { d.blocks.trim with eng := { d.blocks.trim.eng with ports := fixLen 24 EngPort.reset (d.blocks.eng.ports.modify p f) } } := rfl
  have e2 : fixLen 24 EngPort.reset (d.blocks.eng.ports.modify p f) = d.blocks.eng.ports.modify p f := fixLen_eq _ _ _ (by simpa using hl)
  rw [e1, e2, h]
  rfl

theorem Dev.Fit.updEngine {d : Dev} (h : d.Fit) (e : Nat) (f : Engine → Engine) : (d.updEngine e f).Fit := by
  have hl := length_of_fixLen (congrArg (fun x => x.eng.engines) h)
  show (d.blocks.updEngine e f).trim = d.blocks.updEngine e f
  have e1 : (d.blocks.updEngine e f).trim = { d.blocks.trim with eng := { d.blocks.trim.eng with engines := fixLen 14 { state := 0, job := none } (d.blocks.eng.engines.modify e f) } } := rfl
  have e2 : fixLen 14 { state := 0, job := none } (d.blocks.eng.engines.modify e f) = d.blocks.eng.engines.modify e f := fixLen_eq _ _ _ (by simpa using hl)
  rw [e1, e2, h]
  rfl

theorem Dev.Fit.updVw {d : Dev} (h : d.Fit) (v : Nat) (f : ViewState → ViewState) : (d.updVw v f).Fit := by
  have hl := length_of_fixLen (congrArg (fun x => x.stitch.views) h)
  show (d.blocks.updVw v f).trim = d.blocks.updVw v f
  have e1 : (d.blocks.updVw v f).trim = { d.blocks.trim with stitch := { d.blocks.trim.stitch with views := fixLen 4 ViewState.reset (d.blocks.stitch.views.modify v f) } } := rfl
  have e2 : fixLen 4 ViewState.reset (d.blocks.stitch.views.modify v f) = d.blocks.stitch.views.modify v f := fixLen_eq _ _ _ (by simpa using hl)
  rw [e1, e2, h]
  rfl

theorem Dev.Fit.updSg {d : Dev} (h : d.Fit) (v : Nat) (f : SegView → SegView) : (d.updSg v f).Fit := by
  have hl := length_of_fixLen (congrArg (fun x => x.seg.views) h)
  show (d.blocks.updSg v f).trim = d.blocks.updSg v f
  have e1 : (d.blocks.updSg v f).trim = { d.blocks.trim with seg := { d.blocks.trim.seg with views := fixLen 4 SegView.reset (d.blocks.seg.views.modify v f) } } := rfl
  have e2 : fixLen 4 SegView.reset (d.blocks.seg.views.modify v f) = d.blocks.seg.views.modify v f := fixLen_eq _ _ _ (by simpa using hl)
  rw [e1, e2, h]
  rfl

theorem Dev.Fit.updArr {d : Dev} (h : d.Fit) (a : Nat) (f : ArrayUnit → ArrayUnit) : (d.updArr a f).Fit := by
  have hl := length_of_fixLen (congrArg (fun x => x.cls.arrays) h)
  show (d.blocks.updArr a f).trim = d.blocks.updArr a f
  have e1 : (d.blocks.updArr a f).trim = { d.blocks.trim with cls := { d.blocks.trim.cls with arrays := fixLen 72 (ArrayUnit.reset 0) (d.blocks.cls.arrays.modify a f) } } := rfl
  have e2 : fixLen 72 (ArrayUnit.reset 0) (d.blocks.cls.arrays.modify a f) = d.blocks.cls.arrays.modify a f := fixLen_eq _ _ _ (by simpa using hl)
  rw [e1, e2, h]
  rfl

theorem Dev.Fit.updSlot {d : Dev} (h : d.Fit) (m : Nat) (f : ModelSlot → ModelSlot) : (d.updSlot m f).Fit := by
  have hl := length_of_fixLen (congrArg (fun x => x.cls.slots) h)
  show (d.blocks.updSlot m f).trim = d.blocks.updSlot m f
  have e1 : (d.blocks.updSlot m f).trim = { d.blocks.trim with cls := { d.blocks.trim.cls with slots := fixLen 2 ModelSlot.reset (d.blocks.cls.slots.modify m f) } } := rfl
  have e2 : fixLen 2 ModelSlot.reset (d.blocks.cls.slots.modify m f) = d.blocks.cls.slots.modify m f := fixLen_eq _ _ _ (by simpa using hl)
  rw [e1, e2, h]
  rfl

theorem Dev.Fit.updDom {d : Dev} (h : d.Fit) (k : Nat) (f : PtpDomain → PtpDomain) : (d.updDom k f).Fit := by
  have hl := length_of_fixLen (congrArg (fun x => x.net.domains) h)
  show (d.blocks.updDom k f).trim = d.blocks.updDom k f
  have e1 : (d.blocks.updDom k f).trim = { d.blocks.trim with net := { d.blocks.trim.net with domains := fixLen 2 PtpDomain.reset (d.blocks.net.domains.modify k f) } } := rfl
  have e2 : fixLen 2 PtpDomain.reset (d.blocks.net.domains.modify k f) = d.blocks.net.domains.modify k f := fixLen_eq _ _ _ (by simpa using hl)
  rw [e1, e2, h]
  rfl

theorem Dev.Fit.updChan {d : Dev} (h : d.Fit) (c : Nat) (f : DmaChan → DmaChan) : (d.updChan c f).Fit := by
  have hl := length_of_fixLen (congrArg (fun x => x.host.chans) h)
  show (d.blocks.updChan c f).trim = d.blocks.updChan c f
  have e1 : (d.blocks.updChan c f).trim = { d.blocks.trim with host := { d.blocks.trim.host with chans := fixLen 64 DmaChan.reset (d.blocks.host.chans.modify c f) } } := rfl
  have e2 : fixLen 64 DmaChan.reset (d.blocks.host.chans.modify c f) = d.blocks.host.chans.modify c f := fixLen_eq _ _ _ (by simpa using hl)
  rw [e1, e2, h]
  rfl

theorem Dev.Fit.updRing {d : Dev} (h : d.Fit) (r : Nat) (f : Ring → Ring) : (d.updRing r f).Fit := by
  have hl := length_of_fixLen (congrArg (fun x => x.host.rings) h)
  show (d.blocks.updRing r f).trim = d.blocks.updRing r f
  have e1 : (d.blocks.updRing r f).trim = { d.blocks.trim with host := { d.blocks.trim.host with rings := fixLen 64 (Ring.reset 0) (d.blocks.host.rings.modify r f) } } := rfl
  have e2 : fixLen 64 (Ring.reset 0) (d.blocks.host.rings.modify r f) = d.blocks.host.rings.modify r f := fixLen_eq _ _ _ (by simpa using hl)
  rw [e1, e2, h]
  rfl

theorem Dev.Fit.updPc {d : Dev} (h : d.Fit) (n : Nat) (f : Pc → Pc) : (d.updPc n f).Fit := by
  have hl := length_of_fixLen (congrArg (fun x => x.mem.pcs) h)
  show (d.blocks.updPc n f).trim = d.blocks.updPc n f
  have e1 : (d.blocks.updPc n f).trim = { d.blocks.trim with mem := { d.blocks.trim.mem with pcs := fixLen 64 Pc.reset (d.blocks.mem.pcs.modify n f) } } := rfl
  have e2 : fixLen 64 Pc.reset (d.blocks.mem.pcs.modify n f) = d.blocks.mem.pcs.modify n f := fixLen_eq _ _ _ (by simpa using hl)
  rw [e1, e2, h]
  rfl

theorem Dev.Fit.updGroup {d : Dev} (h : d.Fit) (g : Nat) (f : Group → Group) : (d.updGroup g f).Fit := by
  have hl := length_of_fixLen (congrArg (fun x => x.tol.groups) h)
  show (d.blocks.updGroup g f).trim = d.blocks.updGroup g f
  have e1 : (d.blocks.updGroup g f).trim = { d.blocks.trim with tol := { d.blocks.trim.tol with groups := fixLen 5 Group.reset (d.blocks.tol.groups.modify g f) } } := rfl
  have e2 : fixLen 5 Group.reset (d.blocks.tol.groups.modify g f) = d.blocks.tol.groups.modify g f := fixLen_eq _ _ _ (by simpa using hl)
  rw [e1, e2, h]
  rfl

theorem Dev.Fit.updCal {d : Dev} (h : d.Fit) (f : CalState → CalState) : (d.updCal f).Fit := by
  show (d.blocks.updCal f).trim = d.blocks.updCal f
  have e1 : (d.blocks.updCal f).trim = d.blocks.trim.updCal f := rfl
  rw [e1, h]

theorem Dev.Fit.updFlt {d : Dev} (h : d.Fit) (f : FaultState → FaultState) : (d.updFlt f).Fit := by
  show (d.blocks.updFlt f).trim = d.blocks.updFlt f
  have e1 : (d.blocks.updFlt f).trim = d.blocks.trim.updFlt f := rfl
  rw [e1, h]

theorem Dev.Fit.updBoot {d : Dev} (h : d.Fit) (f : BootState → BootState) : (d.updBoot f).Fit := by
  show (d.blocks.updBoot f).trim = d.blocks.updBoot f
  have e1 : (d.blocks.updBoot f).trim = d.blocks.trim.updBoot f := rfl
  rw [e1, h]

theorem Dev.Fit.withLv {d : Dev} (h : d.Fit) (x : Tbl LvChan) : Dev.Fit { d with pub := { d.pub with lv := x } } := by
  have e1 : Dev.trim { d.blocks with pub := { d.blocks.pub with lv := x } } =
      { d.blocks.trim with pub := { d.blocks.trim.pub with lv := x } } := rfl
  show Dev.trim { d.blocks with pub := { d.blocks.pub with lv := x } } = { d.blocks with pub := { d.blocks.pub with lv := x } }
  rw [e1, h]

theorem Dev.Fit.updLv {d : Dev} (h : d.Fit) (c : Nat) (f : LvChan → LvChan) : (d.updLv c f).Fit := h.withLv _

@[simp] theorem Dev.trim_now (d : Dev) : d.trim.now = d.now := by simp only [Dev.trim]
@[simp] theorem Dev.trim_rb9212 (d : Dev) : d.trim.rb9212 = d.rb9212 := by simp only [Dev.trim]
@[simp] theorem Dev.trim_objs (d : Dev) : d.trim.objs = d.objs := by simp only [Dev.trim]
@[simp] theorem Dev.trim_cfgLog (d : Dev) : d.trim.cfgLog = d.cfgLog := by simp only [Dev.trim]
@[simp] theorem Dev.trim_flt (d : Dev) : d.trim.flt = d.flt := by simp only [Dev.trim]
@[simp] theorem Dev.trim_cal (d : Dev) : d.trim.cal = d.cal := by simp only [Dev.trim]
@[simp] theorem Dev.trim_pair (d : Dev) : d.trim.pair = d.pair := by simp only [Dev.trim]
@[simp] theorem Dev.trim_boot (d : Dev) : d.trim.boot = d.boot := by simp only [Dev.trim]
@[simp] theorem Dev.trim_hbm (d : Dev) : d.trim.hbm = d.hbm := by simp only [Dev.trim]
@[simp] theorem Dev.trim_clock (d : Dev) : d.trim.clock = d.clock := by simp only [Dev.trim]
@[simp] theorem Dev.trim_msix (d : Dev) : d.trim.msix = d.msix := by simp only [Dev.trim]
@[simp] theorem Dev.trim_out (d : Dev) : d.trim.out = d.out := by simp only [Dev.trim]
@[simp] theorem Dev.trim_opCode (d : Dev) : d.trim.opCode = d.opCode := by simp only [Dev.trim]
@[simp] theorem Dev.trim_opData (d : Dev) : d.trim.opData = d.opData := by simp only [Dev.trim]
@[simp] theorem Dev.trim_logs (d : Dev) : d.trim.logs = d.logs.trim := by simp only [Dev.trim]

/-! ## After a command -/

/-- On a steady device nothing follows a command but the note of health and the bounds. -/
theorem Dev.settled_eq (d : Dev) (hr : d.role = 0) (hf : d.nat Obj.fwState ≠ 5) :
    ∃ h, d.settled 0 = (d.updPair (fun x => { x with health := h })).trim := by
  have key : ∀ e : Dev, e.role = 0 → e.nat Obj.fwState ≠ 5 →
      (let d := e.roleEffects 0; (if d.boot.heldIn = 0 then d.pendingRevert else d).trim) = e.trim := by
    intro e h1 h2
    have hre : e.roleEffects 0 = e := by simp [Dev.roleEffects, Dev.standby, h1]
    simp only [hre, Dev.pendingRevert, h2]
    simp
  unfold Dev.settled
  by_cases hh : d.domOn pdHub = true
  · refine ⟨d.healthNow, ?_⟩
    have hf' : d.healthFailover = d.updPair (fun x => { x with health := d.healthNow }) := by
      unfold Dev.healthFailover
      simp [hr]
    rw [if_pos hh, hf']
    exact key _ (by simpa using hr) (by simpa using hf)
  · refine ⟨d.pair.health, ?_⟩
    rw [if_neg hh]
    have : d.updPair (fun x => { x with health := d.pair.health }) = d := rfl
    rw [this]
    exact key _ hr hf

theorem Dev.settled_objs (d : Dev) (hr : d.role = 0) (hf : d.nat Obj.fwState ≠ 5) : (d.settled 0).objs = d.objs := by
  obtain ⟨h, e⟩ := Dev.settled_eq d hr hf
  rw [e]
  simp

theorem Dev.settled_val (d : Dev) (hr : d.role = 0) (hf : d.nat Obj.fwState ≠ 5) (k : Nat) : (d.settled 0).val k = d.val k :=
  Dev.val_congr (Dev.settled_objs d hr hf) k

theorem Dev.settled_blocks (d : Dev) (hr : d.role = 0) (hf : d.nat Obj.fwState ≠ 5) (hd : d.Fit) :
    (d.settled 0).blocks = d.blocks := by
  obtain ⟨h, e⟩ := Dev.settled_eq d hr hf
  have e2 : (d.updPair (fun x => { x with health := h })).blocks = d.blocks := rfl
  rw [e, Dev.blocks_trim, e2]
  exact hd

theorem Dev.settled_logs (d : Dev) (hr : d.role = 0) (hf : d.nat Obj.fwState ≠ 5) : (d.settled 0).logs = d.logs.trim := by
  obtain ⟨h, e⟩ := Dev.settled_eq d hr hf
  rw [e]
  simp

theorem Dev.settled_result (d : Dev) (hr : d.role = 0) (hf : d.nat Obj.fwState ≠ 5) :
    (d.settled 0).out = d.out ∧ (d.settled 0).opCode = d.opCode ∧ (d.settled 0).opData = d.opData ∧
      (d.settled 0).msix = d.msix := by
  obtain ⟨h, e⟩ := Dev.settled_eq d hr hf
  rw [e]
  simp

/-- Where nothing written to the flash is due, a command finds the device as it was. -/
theorem Dev.flashEnds_quiet (d : Dev) (h : d.flashQuiet = true) : d.flashEnds = d := by
  unfold Dev.flashQuiet at h
  rw [Bool.and_eq_true] at h
  obtain ⟨hw, hs⟩ := h
  have h1 : d.saveDone = d := by
    unfold Dev.saveDone
    split
    · rfl
    · rename_i x hx
      rw [hx] at hs
      simp only [decide_eq_true_eq] at hs
      rw [if_pos hs]
  unfold Dev.flashEnds
  simp only [h1]
  split
  · rename_i j due hx
    rw [hx] at hw
    simp only [decide_eq_true_eq] at hw
    rw [if_neg (by omega)]
  · rfl

theorem State.Steady.flash_begin {s : State} (h : s.Steady) : s.dev.begin.flashEnds = s.dev.begin :=
  Dev.flashEnds_quiet _ h.2.2.2.2

/-- What a command that acts on the device answers, from what it does to the device. -/
theorem onDev_steady (s : State) (f : Dev → Dev) (h : s.Steady) (hr : (f s.dev.begin).role = 0)
    (hf : (f s.dev.begin).nat Obj.fwState ≠ 5) :
    ∃ t, onDev s f = .next t ∧ t.pending = s.pending ∧ (∀ k, t.dev.val k = (f s.dev.begin).val k) ∧
      ((f s.dev.begin).Fit → t.dev.blocks = (f s.dev.begin).blocks) ∧ t.dev.logs = (f s.dev.begin).logs.trim ∧
      t.dev.out = (f s.dev.begin).out ∧ t.dev.opCode = (f s.dev.begin).opCode ∧ t.dev.opData = (f s.dev.begin).opData ∧
      t.dev.msix = (f s.dev.begin).msix := by
  refine ⟨{ s with dev := (f s.dev.begin).settled 0 }, ?_, rfl, ?_, ?_, ?_, ?_⟩
  · unfold onDev settle
    rw [h.2.2.1, h.flash_begin]
  · exact fun k => Dev.settled_val _ hr hf k
  · exact fun hd => Dev.settled_blocks _ hr hf hd
  · exact Dev.settled_logs _ hr hf
  · exact Dev.settled_result _ hr hf

/-- The form in which a command is shown to answer: what it does to the device leaves the pair role and the firmware state. -/
theorem onDev_answers (s : State) (f : Dev → Dev) (h : s.Steady) {P : State → Prop}
    (hr : (f s.dev.begin).val Obj.pairRole = s.dev.val Obj.pairRole)
    (hf : (f s.dev.begin).val Obj.fwState = s.dev.val Obj.fwState)
    (hP : ∀ t : State, t.pending = s.pending → (∀ k, t.dev.val k = (f s.dev.begin).val k) →
      ((f s.dev.begin).Fit → t.dev.blocks = (f s.dev.begin).blocks) → t.dev.logs = (f s.dev.begin).logs.trim →
      t.dev.out = (f s.dev.begin).out → t.dev.opCode = (f s.dev.begin).opCode → t.dev.opData = (f s.dev.begin).opData →
      t.dev.msix = (f s.dev.begin).msix →
      (∃ x, t.dev = ((f s.dev.begin).updPair (fun p => { p with health := x })).trim) → P t) :
    ∃ t, onDev s f = .next t ∧ P t := by
  have h1 : (f s.dev.begin).role = 0 := by
    have := h.2.2.1
    simpa [Dev.role, Dev.nat, hr] using this
  have h2 : (f s.dev.begin).nat Obj.fwState ≠ 5 := by
    have := h.2.2.2.1
    simpa [Dev.nat, hf] using this
  obtain ⟨a, b, c, d⟩ := Dev.settled_result (f s.dev.begin) h1 h2
  refine ⟨{ s with dev := (f s.dev.begin).settled 0 }, ?_, ?_⟩
  · unfold onDev settle
    rw [h.2.2.1, h.flash_begin]
  · exact hP _ rfl (fun k => Dev.settled_val _ h1 h2 k) (fun hd => Dev.settled_blocks _ h1 h2 hd)
      (Dev.settled_logs _ h1 h2) a b c d (Dev.settled_eq _ h1 h2)

theorem State.Steady.fit_begin {s : State} (h : s.Steady) : s.dev.begin.Fit :=
  (Dev.fit_congr (d := s.dev.begin) (e := s.dev) rfl).2 (Dev.fit_of_steady s h)

theorem State.Steady.role_begin {s : State} (h : s.Steady) : s.dev.begin.role = 0 := h.2.2.1

theorem State.Steady.fw_begin {s : State} (h : s.Steady) : s.dev.begin.nat Obj.fwState ≠ 5 := h.2.2.2.1

end Sys2Proof.Machine
end

