-- ==== Sys2Proof/Tests/Slice0.lean ====
section
/-! SUPPORT. The model's own tests: ill-formed commands are refused by the well-formedness check, and for every clause of every
statement a state and operands that meet its hypotheses. -/

set_option Elab.async false

open Sys2Proof Sys2Proof.Machine

/-- Objects put into a table. -/
def W.objs (l : List (Nat × Val)) : Tbl Val := l.foldl (fun t e => Tbl.put t e.1 e.2) []

/-- An Owner session over the mailbox. -/
def W.session : Session :=
  { id := 7, level := 3, transport := 0, nextSeq := 1, enrol := false, service := false, h2d := [], d2h := [], lastFrame := 0,
    held := [], kept := [] }

/-- A device ten seconds after reset, every power domain on, with a session in slot 0 and the objects given. -/
def W.st (l : List (Nat × Val)) (f : Dev → Dev := id) : State :=
  { pending := [],
    dev := f { Dev.reset with
      now := 10000000000,
      objs := W.objs (((List.range 11).map (fun k => (Obj.domState k, Val.n 2))) ++ [(Obj.inspectionReady, .n 1)] ++ l),
      tol := { TolState.reset with sessions := [(0, W.session), (3, { W.session with id := 9 })] },
      boot := { BootState.reset with heldIn := 0 } } }

/-- A table as a device needs it to hold more. -/
def W.group (g : Nat) (x : Group) (d : Dev) : Dev := d.updGroup g (fun _ => x)
def W.commit (csn : Nat) (target : Option Nat) (es : List (Nat × Val)) : Commit := { csn := csn, target := target, issued := 0, entries := es }

/-- What passes a check on an option's content is there. -/
theorem W.found {α : Type} (o : Option α) (p : α → Bool) (h : o.any p = true) : ∃ x, o = some x ∧ p x = true := by
  cases o with
  | none => cases h
  | some x => exact ⟨x, rfl, h⟩

theorem W.foundOk {α : Type} (o : Except RCode α) (p : α → Bool) (h : o.toOption.any p = true) : ∃ x, o = .ok x ∧ p x = true := by
  cases o with
  | error _ => cases h
  | ok x => exact ⟨x, rfl, h⟩

/-- A tagged frame of the host for `W.session`. -/
def W.body (kind seq : Nat) (payload : Bytes) : Bytes := tolFrame kind seq 7 1 payload
def W.frame (kind seq : Nat) (payload : Bytes) : Bytes := W.body kind seq payload ++ Config.kmac256 [] (W.body kind seq payload) "TOL" 128
def W.parsed (kind seq : Nat) (payload : Bytes) : TolFrame :=
  { kind := kind, version := 1, fragLast := 0, frag := 0, id := 7, seq := seq, payload := payload, body := W.body kind seq payload,
    tag := Config.kmac256 [] (W.body kind seq payload) "TOL" 128 }
def W.heard : Session := { W.session with lastFrame := 10000000000 }

/-- The device takes a frame of the session whose tag is that of R38. -/
theorem W.taken (s : State) (x : Session) (frame : Bytes) (f : TolFrame) (h1 : parseFrame 0 true frame = some f)
    (h2 : s.dev.tol.sessions.find? (fun e => e.2.id == f.id && e.2.transport == 0) = some (0, x))
    (ht : f.tag = Config.kmac256 x.h2d f.body "TOL" 128) (hv : f.version = 1) (h3 : s.dev.tolHears 0 x.service = true) :
    (s.dev.sessionFrame 0 frame).2 = some (0, { x with lastFrame := s.dev.now }, f) := by
  unfold Dev.sessionFrame
  simp only [h1, h2, h3, ← ht, hv, not_true_eq_false, if_false, ne_eq]

/-- The payload of a request of one DESCRIBE of object 0x1000.01. -/
def W.describe : Bytes := [6, 1, 0, 16] ++ List.replicate 12 0
def W.axis (a : Nat) (f : Axis → Axis) (d : Dev) : Dev := d.updAxis a f
/-- An LCG that stands on a step past its NextCompare. -/
def W.hitting (d : Dev) : Dev :=
  d.updLcg 0 (fun l => { l with
    compare := 5, since := 0,
    trail := [{ t := 1000, pos := 10, fwd := true, p := 5, sv := true, u := 1, jump := false }],
    hits := [{ lix := 0, pos := 4, time := 1000, web := 0, late := false, step := 16, epoch := 0 }] })
/-- A calibration under way. -/
def W.run : CalRun := { array := 63, start := 0, boot := false, samples := 2 }
/-- A port with a fire due. -/
def W.due (p : Nat) (d : Dev) : Dev :=
  (W.hitting d).updTrig p (fun t => { t with
    pend := [{ lix := 3, lcg := 0, target := 5, since := 0, notBefore := 0, hitLate := false }] })
def W.entry : LedgerEntry :=
  { lix := 3, fire := 9999999990, suspect := false, link := false, format := false, overrun := false, corrupt := false,
    cutoff := none, closed := false, cause := 0, planes := [PlaneRx.empty], bytes := 0 }

/-- An enrolment handshake over the mailbox. -/
def W.shake : Handshake :=
  { id := 5, transport := 0, start := 9999999999, level := 3, keyId := 0, enrol := true, anon := true, service := false,
    transcript := [], secret := [], frags := [] }

/-- A missing line, a memory-path slot, its job, an armed parameter set and an acquisition. -/
def W.raw : RawLine :=
  { lix := 5, port := 23, width := 0, planeMask := 0, cause := 2, missing := true, short := false, long := false, suspect := false,
    unacked := false, memPath := false, corrupt := false, planes := [] }
def W.slot : Slot := { strip := 0, real := true, lines := [W.raw], closeAt := some 5 }
def W.job : Job := { port := 23, strip := 0, next := 256, lines := [], pset := 0, table := none, switches := [] }
def W.armed : Armed :=
  { pset := 95, target := 9, issueLix := 9, preload := true, issued := none, step := 0, table := none }
def W.acq : Acq := { mode := 1, bank := 0, lines := 8, used := 0, lastUse := 0, last := none, sums := [] }

/-- A corrected line, a stitched line, a candidate with a patch, and what the cropper and the classifier make of it. -/
def W.corr : CorrLine :=
  { lix := 9, port := 23, width := 0, planeMask := 0, cause := 0, pset := 0, engine := 0, missing := false, short := false,
    long := false, suspect := false, unacked := false, memPath := false, corrupt := false, degraded := false, edge := false,
    uncertain := false, means := [], replaced := 0, saturated := 0, planes := [] }
def W.line : StitchLine :=
  { lix := 9, runFirst := 0, width := 0, invalid := 0, view := 3, lcg := 0, twoPlanes := false, suspect := false, degraded := false,
    uncertain := false, missing := false, notReady := false, fallback := false, psetEdge := false, geomCsn := 0, entries := [],
    valid := [], planes := [], last := false }
def W.cand : Cand :=
  { firstLix := 5, lines := 1, serial := 1, segIndex := 0, candSeq := 7, area := 1, cdFirst := 0, cdLast := 0, peakCd := 0,
    peak := 9, peakLine := 5, peakZone := 0, view := 3, kind := 0, dark := false, continues := false, flags := 0,
    bridged := false, truncated := false, edge := false, merges := 0, sumDev := 9, sumVal := 9, centroidCd := 0,
    centroidMd := 0, mxx := 0, myy := 0, mxy := 0, segCsn := 0, mergedInto := 0, model := 1, line := 6, firstLine := 0, run := 0 }
def W.blob : Blob :=
  { serial := 1, segIndex := 0, dark := false, hold := 0, spans := [(0, 0)], piece := Piece.empty }
def W.crop : CropReq := { view := 3, cand := W.cand, left := 0, top := 0, f := 1, w := 1, h := 1, channels := 1, fill := 0, partialWin := false, last := none }
def W.patch : Patch :=
  { topLix := 0, left := 0, w := 1, h := 1, binning := 1, channels := 1, partialCut := false, bytes := [5] }
def W.wait : WaitRec := { cand := W.cand, ready := true, patch := some W.patch }
def W.req : ClsReq := { cand := W.cand, patch := W.patch, slot := 1, arrival := 0 }
def W.res : ClsRes :=
  { candSeq := 7, conf := 0, conf2 := 0, modelId := 0, cls := 0, cls2 := 0, view := 3, slot := 1, verified := false, reason := 4,
    attempts := 0, reruns := 0 }
def W.flight : Flight := { cand := W.cand, hasPatch := true, partialCut := false, result := some W.res }
/-- A model of one layer with one tile, placed on logical array 63: one input pixel of channel 0, one output (R211 to R214). -/
def W.image : Bytes :=
  List.replicate 12 0 ++ [1, 1] ++ natLE 2 1 ++ natLE 2 1 ++ natLE 2 1 ++ natLE 2 1 ++ natLE 2 1 ++ List.replicate 72 0 ++
  [0, 0xFF] ++ natLE 2 1 ++ natLE 2 1 ++ natLE 2 1 ++ [1, 1, 1, 0] ++ natLE 2 1 ++ [0, 1] ++ natLE 2 1 ++ natLE 2 0 ++
  natLE 4 0 ++ List.replicate 8 0 ++
  natLE 6 0 ++ natLE 2 1 ++ natLE 2 1 ++ natLE 6 0 ++ natLE 4 (63 * 65536 + 4194304)
def W.tile : Tile := { layer := 0, row := 0, col := 0, rows := 1, cols := 1, offset := 0, places := [(63, 1)] }
def W.layer : Layer := parseLayer (slice W.image 96 32)
def W.infer : Inference :=
  { req := W.req, layer := 0, input := [5], outs := [], done := [], tries := [], verified := true, attempts := 0, reruns := 0,
    again := false }
def W.model (d : Dev) : Dev := d.updSlot 1 (fun x => { x with image := W.image })
/-- A datagram that is ready, an open Stall that holds it, and its entry in a launch queue. -/
def W.dgram : Datagram :=
  { items := [[1, 2]], ends := 1, endLen := 2, since := 0, launch := none, epoch := 0, closed := true, patches := [],
    waited := false, last := 0 }
def W.item : StallItem :=
  { kind := 1, run := 0, view := 3, channel := 0, key := 7, compressed := false, object := [1], stamp := none, epoch := 0, sent := 0 }
def W.stall (x : StallSt) (d : Dev) : Dev := d.updPub (fun z => { z with stalls := Tbl.put z.stalls 511 x })
def W.lItem : LaunchItem :=
  { stall := 511, launch := 0, epoch := 0, seq := 1, dropped := 0, count := 1, payload := [1, 2], ends := 1, endLen := 2,
    patches := [], late := false, last := 0 }
def W.band : LvBand :=
  { number := 0, firstLix := 0, rows := [], started := 0, partialBand := false, missing := false, complete := false, hold := 0,
    stamp := 0, epoch := 0, format := 0, view := 0, cdFirst := 0, cdScale := 1, mdScale := 1, pitch := 0, width := 0 }
def W.live (b : LvBand) (d : Dev) : Dev := d.updLv 63 (fun x => { x with bands := [b] })
def W.repair : Repair := { engine := 11, start := 0, replacement := some 13, inline := none, acceptAt := 10000000000, job := none }
def W.fix (l : List Repair) (d : Dev) : Dev := { d with eng := { d.eng with repairs := l } }
/-- The pair logic has seen the health as it is. -/
def W.calm (f : PairState → PairState) (d : Dev) : Dev := d.updPair (fun x => { f x with health := d.healthNow })
/-- A standby whose link is up. -/
def W.follow : State := W.st [(Obj.pairRole, .n 3), (Obj.pairEnable, .n 1), (Obj.linkState, .n 2)] (W.calm id)
def W.hello : PartnerHello :=
  { publicKey := [1], proofOk := true, partCode := 0x9224, fwMajor := 0, linkVersion := Config.linkVersion, role := 5,
    hasStandby := false }
/-- A descriptor in host memory whose one row of 4 bytes has still its last byte to go, the channel that carries it out, and a
QPK block of one byte stored as it is (R379). -/
def W.desc (op : Nat) : Desc :=
  { addr := 64, hbm := false, next := 0, src := 4096, dst := 8447, rowBytes := 20, rows := 1, srcStride := 0, dstStride := 0,
    outLimit := 1, pattern := 0, op := op, srcHbm := false, dstHbm := false, nextHbm := false, idxDst := false, engine := 3,
    endStream := true, irqFull := true, irqHalf := false, last := true, raw := List.replicate 64 0 }
def W.chan (f : DmaChan → DmaChan) (d : Dev) : Dev := d.updChan 63 f
def W.qpkTail : Bytes := [0x80, 0, 0, 0, 0, 0] ++ natLE 4 (crc32c [7])
def W.qpk : Bytes := natLE 4 qpkMagic ++ natLE 2 (crc32c W.qpkTail % 65536) ++ W.qpkTail ++ [7, 0, 0, 0]
def W.reply : BusReply := { addrAck := true, dataAcks := 99, readAck := true, rx := [5, 6, 7], loss := none, lossHeld := 0, lossAtEnd := false }
def W.tx : TwcTx := { op := 1, addr := 5, tx := [1, 2], rxLen := 0, retries := 0 }
def W.boot (f : BootState → BootState) (d : Dev) : Dev := d.updBoot f
def W.straps : BootStraps := { pairPosB := true, pcieSris := false, recovery := false, loaderGood := true }
theorem W.okIs {ε α : Type} (o : Except ε α) (x : α) (h : o.toOption = some x) : o = .ok x := by
  cases o with
  | error _ => cases h
  | ok y => exact congrArg Except.ok (Option.some.inj h)

/-! Own tests: one step each, on a small state. -/

/-- What a command leaves, or nothing where it stops. -/
def W.after {α : Type} (c : Instr) (s : State) (f : State → α) : Option α :=
  match exec c s with
  | .next t => some (f t)
  | _ => none
def W.ethernet : EthFrame := { kind := .other, fcsOk := true, vlan := none, length := 64, mac := 0, ip := [], payload := [1], frac := 0 }
def W.head : PtpHead := { transport := 0, number := 0, vlan := none }
def W.announce : AnnounceMsg :=
  { port := 5, head := W.head, master := [1], grandmaster := 5, dataset := [], stepsRemoved := 0, utcOffset := 37, arb := false,
    logInterval := 0 }
/-- PTP domain 1 hears port 5. -/
def W.ptp : List (Nat × Val) :=
  [(Obj.netEnable 5, .n 1), (Obj.linkUp 5, .n 1), (Obj.domainEnable 1, .n 1), (Obj.domainPorts 1, .n 63), (Obj.ptpTransport 1, .n 0), (Obj.domainNumber 1, .n 0), (Obj.vlanId 5, .n 0)]
def W.captured : Captured := (W.st []).dev.captureStitch 0

/-- The table of operations gives no row bits, so no word spells a command. -/
theorem test_wordsSpellNothing (n w : Nat) : decodeTableWord n w = none := rfl
theorem test_fetchWordLeavesTheQueue (s : State) (n w : Nat) : s.withFetchWord n w = s := rfl
/-- R433: the device comes up held by RST_POR_N, no command waiting. -/
theorem test_resetIsHeld : State.reset.dev.boot.heldIn = 1 ∧ State.reset.pending = [] := by decide +kernel
theorem test_idleStepPassesTime : step State.reset = .next { State.reset with dev := { Dev.reset with now := 1 } } := rfl
/-- The queue is first in, first out. -/
theorem test_queueIsFirstInFirstOut :
    (match step { W.st [] with pending := [.rampStep, .gapRefire] } with | .next t => t.pending | _ => []) = [.gapRefire] := by
  decide +kernel
/-- R4: there are axes 0 to 3. -/
theorem test_unknownAxisIsRefused : exec (.encoderCount 4 true false) (W.st []) = .refused .noSuchUnit := rfl
/-- R2: ports 12 to 23 of an RB9212 are fused off. -/
theorem test_fusedOffPortIsRefused :
    exec (.ackTimeout 12) (W.st [] (fun d => { d with rb9212 := true })) = .refused .noSuchUnit := rfl
/-- R274: CRC-32C; the published check value of the nine digits. -/
theorem test_crc32cCheckValue : crc32c [0x31, 0x32, 0x33, 0x34, 0x35, 0x36, 0x37, 0x38, 0x39] = 0xE3069283 := by decide +kernel
/-- R374: EventCredit counts to 255; further events are lost. -/
theorem test_creditStopsAt255 :
    W.after (.paceEvent 63) (W.st [(Obj.paceEvent 63, .n 3), (Obj.eventCredit 63, .n 255)])
      (fun t => (t.dev.nat (Obj.eventCredit 63), t.dev.nat (Obj.eventsLost 63))) = some (255, 1) := by decide +kernel
/-- R405: the first two bytes of a write set TwtPointer, high byte first. -/
theorem test_twoWirePointerIsHighByteFirst :
    W.after (.twtCommit [15, 255] none)
      (W.st [(Obj.twtEnable, .n 1)] (fun d => d.updHost (fun h => { h with twtWrite := true })))
      (fun t => t.dev.nat Obj.twtPointer) = some 4095 := by decide +kernel
/-- R391: BAR2 shows region 6 alone; a miss reads as ones. -/
theorem test_bar2MissReadsOnes :
    W.after (.bar2Access (2 ^ 20 - 1) false [] { length := 2, corrected := 0 }) (W.st [(Obj.regionSize 6, .n 1)])
      (fun t => (t.dev.out, t.dev.nat Obj.pcieWinMisses)) = some ([.bar [0xFF, 0xFF]], 1) := by decide +kernel
/-- R310: PAIR_TAKE is raised when HbTimeout has passed, not before. -/
theorem test_heartbeatIsAwaited :
    W.after .hbTimeout (W.st [(Obj.pairRole, .n 3), (Obj.linkState, .n 2), (Obj.hbTimeout, .n 10000)]
      (W.calm (fun x => { x with linkAt := 9999990001 }))) (fun t => t.dev.pair.take) = some false := by decide +kernel
/-- R424: the recovery strap starts the boot ROM's recovery. -/
theorem test_recoveryStrap :
    W.after (.powerOnReset { W.straps with recovery := true })
      { State.reset with dev := W.boot (fun x => { x with run := some [] }) State.reset.dev } (fun t => (t.dev.boot.recovery, t.dev.boot.heldIn)) =
      some (true, 0) := by decide +kernel
/-- R454: a die at 115.0 °C trips. -/
theorem test_thermalTrip :
    W.after (.thermalTrip 0 1150) (W.st []) (fun t => t.dev.boot.tripped) = some true ∧
      W.after (.thermalTrip 0 1149) (W.st []) (fun t => t.dev.boot.tripped) = some false := by decide +kernel

/-! The hypotheses of the statements that are no clauses about one command are met. -/

theorem witness_EveryFittingCommandIsCarriedOut : ∃ (s : State) (c : Instr), c.fits s.dev.rb9212 = true :=
  ⟨W.st [] (fun d => { d with rb9212 := true }), .portFire 11, rfl⟩
theorem witness_AStepCarriesOutTheFrontCommand_1 : ∃ s : State, s.pending = [] := ⟨State.reset, rfl⟩
theorem witness_HistoriesStayBounded : ∃ s t : State, s.Bounded ∧ s.Shaped ∧ step s = .next t :=
  ⟨State.reset, State.reset.idle, by decide +kernel, by decide +kernel, rfl⟩
theorem witness_TheHostAndBoardBusesDoAsTold_8 : ∃ (s : State) (a : Nat) (data : Bytes),
    s.Works pdPcie ∧ s.dev.domOn 7 = true ∧ s.dev.domOn 8 = true ∧ s.dev.mem.fences = [] ∧
      a + data.length ≤ s.dev.regionBytes 6 :=
  ⟨W.st [(Obj.regionSize 6, .n 1)], 2 ^ 20 - 1, [9], by decide +kernel⟩

/-! Ill-formed commands, one for each operand that is checked, are refused (R2, R4, R36, R39). -/

theorem test_illFormed_DictionarySessions1 :
    ([.hello 7 false [],
     .hello 0 false (List.replicate 4097 0),
     .finish 7 [],
     .finish 0 (List.replicate 4097 0),
     .close 7 [],
     .close 0 (List.replicate 4097 0),
     .request 7 [],
     .request 0 (List.replicate 4097 0),
     .handshakeTimeout (2 ^ 32),
     .idleTimeout 32,
     .heldRequestExpiry 32 0,
     .heldRequestExpiry 0 (2 ^ 32),
     .read 32 0 0 0 0,
     .read 0 0 0 0 65536,
     .read 0 65536 0 0 0,
     .read 0 0 256 0 0,
     .read 0 0 0 (2 ^ 32) 0,
     .write 32 0 0 0 [],
     .write 0 65536 0 0 [],
     .write 0 0 256 0 [],
     .write 0 0 0 (2 ^ 32) [],
     .readShadow 32 0 0,
     .readShadow 0 65536 0,
     .readShadow 0 0 256,
     .describe 32 0 0,
     .describe 0 65536 0,
     .describe 0 0 256,
     .readDefault 32 0 0,
     .readDefault 0 65536 0,
     .readDefault 0 0 256,
     .commit 32 [],
     .abort 32 [],
     .sesClose 32 0,
     .sesClose 0 32,
     .atOnceHandoverTimeout 5] : List Instr).all (fun c => ! c.wellFormed) = true := by decide +kernel

theorem test_illFormed_PositionUnit1 :
    ([.encoderCount 4 false false,
     .standstill 4,
     .indexLatch 4,
     .signalLoss 4 0 false false false false,
     .signalLoss 0 3 false false false false,
     .lcgHit 4,
     .portFire 24,
     .eyeletFire 256,
     .actionPulseEnd 16,
     .lcgStart 0 4,
     .lcgStart 32 0,
     .lcgStop 0 4,
     .lcgStop 32 0,
     .failback 0 4,
     .failback 32 0,
     .eyeletArm 0 256,
     .eyeletArm 32 0,
     .eyeletDisarm 0 256,
     .eyeletDisarm 32 0,
     .ssiFrame 2 false false [],
     .eventInput 8 false] : List Instr).all (fun c => ! c.wellFormed) = true := by decide +kernel

theorem test_illFormed_Ingress1 :
    ([.portEnable 0 24,
     .portEnable 32 0,
     .portDisable 0 24,
     .portDisable 32 0,
     .ctlRead 0 24,
     .ctlRead 32 0,
     .ctlWrite 0 24,
     .ctlWrite 32 0,
     .discoveryTimeout 24,
     .faultRetry 24,
     .heartbeatTimeout 24,
     .windowExpiry 24,
     .lineDelivery 24,
     .triggerAcknowledge 24,
     .ackTimeout 24,
     .fallingEdgeTrigger 24,
     .triggerPulseEnd 24,
     .eventPacket 24,
     .controlTimeout 24,
     .cameraConfigured 24 false,
     .laneLock 192,
     .laneLockLost 192 0,
     .streamPacket 24 191 0 false false [],
     .streamPacket 23 183 0 false false [],
     .streamPacket 23 191 0 false false [65536],
     .lineStart 24 0 0,
     .controlAcknowledge 24 false [],
     .masterConnectionAnswers 24 [] 0] : List Instr).all (fun c => ! c.wellFormed) = true := by decide +kernel

theorem test_illFormed_StripEngines1 :
    ([.engineLineEmit 24,
     .mpJobLate 24,
     .psetPreloadDone 24,
     .acquisitionTimeout 24,
     .mpJobStart 14,
     .mpJobEnd 14,
     .psetArm 0 24 0,
     .psetArm 0 0 256,
     .psetArm 32 0 0,
     .psetDisarm 0 24,
     .psetDisarm 32 0,
     .tableSeal 0 24,
     .tableSeal 32 0,
     .ffFlat 0 24,
     .ffFlat 32 0,
     .ffDark 0 24,
     .ffDark 32 0,
     .tableData 0 24 0 [],
     .tableData 32 0 0 [],
     .tableData 0 0 (2 ^ 32) []] : List Instr).all (fun c => ! c.wellFormed) = true := by decide +kernel

theorem test_illFormed_WebPipelineClassifier1 :
    ([.correctedLineArrival 24,
     .stitchedLine 4,
     .stitchDeadline 4,
     .segmentLine 4,
     .patchCut 4,
     .classifierRequest 4,
     .resultLeave 4,
     .viewEnable 0 4,
     .viewEnable 32 0,
     .viewDisable 0 4,
     .viewDisable 32 0,
     .segEnable 0 4,
     .segEnable 32 0,
     .segDisable 0 4,
     .segDisable 32 0,
     .bgReset 0 4,
     .bgReset 32 0,
     .mvpComplete 72 [] 0 0,
     .shedTimeout 4 0,
     .shedTimeout 0 (2 ^ 32),
     .retire 0 72,
     .retire 32 0,
     .spareProgrammed 72,
     .calInterval 72,
     .modelLoad 0 2,
     .modelLoad 32 0,
     .modelUnload 0 2,
     .modelUnload 32 0,
     .modelLoadComplete 2,
     .calStart 0 256,
     .calStart 32 0,
     .calRecordLoad 32] : List Instr).all (fun c => ! c.wellFormed) = true := by decide +kernel

theorem test_illFormed_Publishing1 :
    ([.lvFlush 64,
     .lvEnable 0 64,
     .lvEnable 32 0,
     .stallClaim 0 512,
     .stallClaim 32 0,
     .stallOpen 0 512,
     .stallOpen 32 0,
     .stallClose 0 512,
     .stallClose 32 0,
     .patchFetch 0 512 0,
     .patchFetch 32 0 0,
     .patchFetch 0 0 (2 ^ 64),
     .creditLimit 0 512 0,
     .creditLimit 32 0 0,
     .creditLimit 0 0 (2 ^ 64),
     .stallFlush 512,
     .datagramSend 7,
     .launch 6] : List Instr).all (fun c => ! c.wellFormed) = true := by decide +kernel

theorem test_illFormed_CobblerPairOperation1 :
    ([.correctedError 11 0 0,
     .rowReplacement 11 0 0,
     .uncorrectableError 11 0 0,
     .residueError 6 0,
     .residueError 2 0,
     .parityError 256 0 false,
     .replacementAcceptsInput 14,
     .engineRetire 0 256,
     .engineRetire 32 0,
     .deadlineFault 4 0,
     .deadlineFault 0 4,
     .pairEnable 32,
     .pairDisable 32,
     .pairSwitch 32,
     .digestVerdict 4 0,
     .capturedStateInstall 4 W.captured] : List Instr).all (fun c => ! c.wellFormed) = true := by decide +kernel

theorem test_illFormed_MemoryNetwork1 :
    ([.refreshDebt 64 0,
     .refreshDebt 0 48,
     .pageIdle 64 0,
     .pageIdle 0 48,
     .commandSlot 64,
     .retrain 64,
     .patrolScrub 64,
     .trainingComplete 2 [],
     .retrainStep 64 0 0,
     .hbmEccError 64 0 false,
     .hbmEccError 0 805306368 false,
     .pcFence 0 64,
     .pcFence 32 0,
     .refreshRateChange 2 0,
     .ethernetFrame 6 W.ethernet,
     .linkUpDown 6 false,
     .gratuitousArp 6,
     .sync 6 W.head 0 [] 0 0 0,
     .delayResp 6 W.head 0 [] (.endToEnd 0) 0,
     .announce ({ W.announce with port := 6 }),
     .delayReq 2 0,
     .delayReq 0 6,
     .domainLost 2,
     .timeStep 32 0,
     .timeStep 0 (2 ^ 63),
     .timeStep 0 (-(2 ^ 63) - 1),
     .selectedDomain 0 256,
     .selectedDomain 32 0] : List Instr).all (fun c => ! c.wellFormed) = true := by decide +kernel

theorem test_illFormed_DataMovementHostBoardBuses1 :
    ([.chanStart 0 64,
     .chanStart 32 0,
     .chanKick 0 64,
     .chanKick 32 0,
     .chanAbort 0 64,
     .chanAbort 32 0,
     .eocAck 0 64,
     .eocAck 32 0,
     .chanIrqAck 0 64 0,
     .chanIrqAck 0 0 256,
     .chanIrqAck 32 0 0,
     .descriptorFetch 64 false [],
     .descriptorEnd 64 false,
     .paceEvent 64,
     .paceTimerTick 64,
     .compressBlock 64 [],
     .decompressBlock 64 [],
     .burst 64 false [] false,
     .powerDrainTimeout 11,
     .ringCtl 64 0 (.w64 0),
     .ringCtl 0 0 (.w64 (2 ^ 64)),
     .ringCtl 0 0 (.w32 (2 ^ 32)),
     .ringHead 64 0,
     .ringHead 0 (2 ^ 64),
     .msixUnmask (.vector 256 true),
     .twcWrite 0 2 none,
     .twcWrite 32 0 none,
     .twcRead 0 2 none,
     .twcRead 32 0 none,
     .twcWriteRead 0 2 none,
     .twcWriteRead 32 0 none,
     .busFree 2 W.reply,
     .busClear 2 0 W.reply,
     .sclTimeout 2,
     .twtAddress 128 false 0] : List Instr).all (fun c => ! c.wellFormed) = true := by decide +kernel

theorem test_illFormed_FirmwareStartUpPower1 :
    ([.fwData 32 0 [],
     .fwData 0 (2 ^ 32) [],
     .fwVerify 32,
     .fwActivate 32,
     .fwConfirm 32,
     .fwRevert 32,
     .settingsSave 32,
     .attestNonce 32 [],
     .brownout 13,
     .brownout 0,
     .supplyReturn 13,
     .supplyReturn 0,
     .referenceClockLost 2,
     .thermalTrip 18 0,
     .domPowerOn 0 11,
     .domPowerOn 32 0,
     .domPowerOff 0 11,
     .domPowerOff 32 0,
     .domainPowerUpComplete 11,
     .drainEnd 11,
     .drainLimit 11] : List Instr).all (fun c => ! c.wellFormed) = true := by decide +kernel

theorem test_illFormed_longData (data : Bytes) (h : data.length = 65536) :
    (Instr.write 0 0 0 0 data).wellFormed = false ∧
    (Instr.commit 0 data).wellFormed = false ∧
    (Instr.abort 0 data).wellFormed = false ∧
    (Instr.tableData 0 0 0 data).wellFormed = false ∧
    (Instr.fwData 0 0 data).wellFormed = false ∧
    (Instr.attestNonce 0 data).wellFormed = false := by
  simp [Instr.wellFormed, wfData, h]

theorem test_longDataExists : (List.replicate 65536 0 : Bytes).length = 65536 := List.length_replicate

/-! The hypotheses of every statement are met. -/

theorem witness_SessionsEndAsTheSpecSays_0 : ∃ (s : State) (tr : Nat) (frame : Bytes) (slot : Nat) (x : Session) (f : TolFrame),
      s.Steady ∧
      tr < 7 ∧
      (s.dev.sessionFrame tr frame).2 = some (slot, x, f) ∧
      f.kind = 6 ∧
      (∀ k : Nat, k < 512 → s.dev.nat (Obj.stallOwner k) ≠ x.id) :=
  ⟨W.st [], 0, W.frame 6 0 [], 0, W.heard, W.parsed 6 0 [], by decide +kernel, by decide +kernel, W.taken _ W.session _ (W.parsed 6 0 []) rfl rfl rfl rfl (by decide +kernel), rfl, by decide +kernel⟩

theorem witness_SessionsEndAsTheSpecSays_1 : ∃ (s : State) (slot : Nat) (x : Session),
      s.Steady ∧
      slot < 32 ∧
      Tbl.get? s.dev.tol.sessions slot = some x ∧
      (∀ k : Nat, k < 512 → s.dev.nat (Obj.stallOwner k) ≠ x.id) :=
  ⟨W.st [], 0, W.session, by decide +kernel⟩

theorem witness_SessionsEndAsTheSpecSays_2 : ∃ (s : State) (ses : Nat) (slot : Nat) (x : Session),
      s.Steady ∧
      slot < 32 ∧
      s.MayWrite ses (Obj.sesClose slot) [1] ∧
      ses ≠ slot ∧
      Tbl.get? s.dev.tol.sessions slot = some x ∧
      (∀ k : Nat, k < 512 → s.dev.nat (Obj.stallOwner k) ≠ x.id) :=
  ⟨W.st [], 0, 3, ({ W.session with id := 9 } : Session), by decide +kernel⟩

theorem witness_HandshakesOpenSessionsOrFail_0 : ∃ (s : State) (tr : Nat) (service : Bool) (frame : Bytes) (f : TolFrame),
      s.Steady ∧
      tr < 7 ∧
      s.dev.tolHears tr service = true ∧
      parseFrame tr false frame = some f ∧
      f.kind = 1 ∧
      f.id = 0 ∧
      f.version = 1 ∧
      f.frag = 0 ∧
      f.fragLast = 0 ∧
      f.payload.length = 1225 ∧
      (s.dev.admission tr (leAt f.payload 1216 1) (leAt f.payload 1217 8)).toOption.isSome = true ∧
      s.dev.tol.sessions.length < 32 :=
  ⟨W.st [], 0, false, tolFrame 1 0 0 1 (List.replicate 1216 0 ++ [3] ++ List.replicate 8 0), (parseFrame 0 false (tolFrame 1 0 0 1 (List.replicate 1216 0 ++ [3] ++ List.replicate 8 0))).get (by decide +kernel), by decide +kernel⟩

theorem witness_HandshakesOpenSessionsOrFail_1 : ∃ (s : State) (tr : Nat) (frame : Bytes) (f : TolFrame) (h : Handshake),
      s.Steady ∧
      tr < 7 ∧
      parseFrame tr false frame = some f ∧
      s.dev.tol.handshakes.find? (fun h => h.id == f.id && h.transport == tr && decide (s.dev.now ≤ h.start + 2000000000)) = some h ∧
      s.dev.tolHears tr h.service = true ∧
      f.kind = 3 ∧
      f.version = 1 ∧
      f.frag = 0 ∧
      f.fragLast = 0 ∧
      s.dev.finishOk h f.payload = true ∧
      s.dev.freeSlot.isSome = true :=
  ⟨W.st [] (fun d => d.updTol (fun t => { t with handshakes := [W.shake] })), 0, tolFrame 3 0 5 1 [1], (parseFrame 0 false (tolFrame 3 0 5 1 [1])).get (by decide +kernel), W.shake, by decide +kernel⟩

theorem witness_HandshakesOpenSessionsOrFail_2 : ∃ (s : State) (id : Nat),
      s.Steady :=
  ⟨W.st [], 5, by decide +kernel⟩

theorem witness_HandshakesOpenSessionsOrFail_3 : ∃ (s : State) (slot : Nat) (seq : Nat) (x : Session),
      s.Steady ∧
      slot < 32 ∧
      Tbl.get? s.dev.tol.sessions slot = some x :=
  ⟨W.st [], 3, 2, ({ W.session with id := 9 } : Session), by decide +kernel⟩

theorem witness_RequestsRunInSequence_0 : ∃ (s : State) (tr : Nat) (frame : Bytes) (slot : Nat) (x : Session) (f : TolFrame) (o : TolOp),
      s.Steady ∧
      tr < 7 ∧
      (s.dev.sessionFrame tr frame).2 = some (slot, x, f) ∧
      f.kind = 4 ∧
      f.seq = x.nextSeq ∧
      f.seq ≠ 0 ∧
      x.kept.find? (fun e => e.1 == f.seq) = none ∧
      parseOps (f.payload.length + 1) f.payload = [o] ∧
      o.opcode = 6 ∧
      o.short = false ∧
      x.held = [] ∧
      s.dev.tol.selfClose = none :=
  ⟨W.st [], 0, W.frame 4 1 W.describe, 0, W.heard, W.parsed 4 1 W.describe, (parseOps 17 W.describe).headD { opcode := 0, index := 0, sub := 0, offset := 0, length := 0, data := [], short := false }, by decide +kernel, by decide +kernel, W.taken _ W.session _ (W.parsed 4 1 W.describe) rfl rfl rfl rfl (by decide +kernel), rfl, rfl, by decide, rfl, by decide +kernel, rfl, rfl, rfl, rfl⟩

theorem witness_RequestsRunInSequence_1 : ∃ (s : State) (tr : Nat) (frame : Bytes) (slot : Nat) (x : Session) (f : TolFrame),
      s.Steady ∧
      tr < 7 ∧
      (s.dev.sessionFrame tr frame).2 = some (slot, x, f) ∧
      f.kind = 4 ∧
      f.seq ≠ 0 ∧
      (x.kept.find? (fun e => e.1 == f.seq)).isSome = true :=
  ⟨W.st [] (fun d => d.updTol (fun t => { t with sessions := [(0, { W.session with nextSeq := 2, kept := [(1, [])] })] })), 0, W.frame 4 1 [], 0, ({ W.heard with nextSeq := 2, kept := [(1, [])] } : Session), W.parsed 4 1 [], by decide +kernel, by decide +kernel, W.taken _ { W.session with nextSeq := 2, kept := [(1, [])] } _ (W.parsed 4 1 []) rfl rfl rfl rfl (by decide +kernel), rfl, by decide, by decide +kernel⟩

theorem witness_RequestsRunInSequence_2 : ∃ (s : State) (tr : Nat) (frame : Bytes) (slot : Nat) (x : Session) (f : TolFrame),
      s.Steady ∧
      tr < 7 ∧
      (s.dev.sessionFrame tr frame).2 = some (slot, x, f) ∧
      f.kind = 4 ∧
      x.kept.find? (fun e => e.1 == f.seq) = none ∧
      f.seq ≠ x.nextSeq ∧
      f.seq < 2 ^ 32 ∧
      x.nextSeq < 2 ^ 32 ∧
      0 < x.nextSeq :=
  ⟨W.st [], 0, W.frame 4 5 [], 0, W.heard, W.parsed 4 5 [], by decide +kernel, by decide +kernel, W.taken _ W.session _ (W.parsed 4 5 []) rfl rfl rfl rfl (by decide +kernel), rfl, rfl, by decide, by decide, by decide, by decide⟩

theorem witness_ReadsAnswerTheValueAndChangeNothing_1 : ∃ (s : State) (ses : Nat) (index : Nat) (sub : Nat) (off : Nat) (len : Nat) (x : Session),
      s.Steady ∧
      s.session? ses = some x ∧
      blockOf s.dev.rb9212 index = none :=
  ⟨W.st [], 0, 0x0FFF, 1, 0, 0, W.session, by decide +kernel, rfl, by rfl⟩

theorem witness_WritesAreStagedOrTakeForce_2 : ∃ (s : State) (ses : Nat) (index : Nat) (sub : Nat) (off : Nat) (data : Bytes) (x : Session) (c : RCode),
      s.Steady ∧
      s.session? ses = some x ∧
      s.dev.judgeWrite (x.writer ses) index sub off data = .error c :=
  ⟨W.st [], 0, 0x1000, 1, 0, [1, 0], W.session, .access, by decide +kernel, rfl, by rfl⟩

theorem witness_CommitsMoveTheShadow_0 : ∃ (s : State) (ses : Nat) (data : Bytes) (x : Session) (g : Nat) (atOnce : Bool) (target : Nat),
      s.Steady ∧
      g < 4 ∧
      s.session? ses = some x ∧
      data = natLE 16 (target + 2 ^ 64 * g + 2 ^ 72 * b2n atOnce) ∧
      target < 2 ^ 64 ∧
      x.enrol = false ∧
      levelsOk x.level (s.dev.group g).shadow = true ∧
      (s.dev.nat (Obj.nextLix g) ≤ target ∨ atOnce = true) ∧
      (s.dev.group g).pend.length < 8 ∧
      s.dev.commitOk g (if atOnce = true then s.dev.nat (Obj.nextLix g) else target) = true :=
  ⟨W.st [] (W.group 1 { shadow := [(Obj.matchFloor 1, .n 3)], pend := [], live := [] }), 0, natLE 16 (9 + 2 ^ 64 * 1 + 2 ^ 72 * b2n false), W.session, 1, false, 9, by decide +kernel⟩

theorem witness_CommitsMoveTheShadow_1 : ∃ (s : State) (ses : Nat) (data : Bytes) (x : Session) (g : Nat) (atOnce : Bool) (target : Nat),
      s.Steady ∧
      g < 4 ∧
      s.session? ses = some x ∧
      data = natLE 16 (target + 2 ^ 64 * g + 2 ^ 72 * b2n atOnce) ∧
      target < 2 ^ 64 ∧
      x.enrol = false ∧
      levelsOk x.level (s.dev.group g).shadow = true :=
  ⟨W.st [(Obj.nextLix 1, .n 10)] (W.group 1 { shadow := [(Obj.matchFloor 1, .n 3)], pend := [], live := [] }), 0, natLE 16 (9 + 2 ^ 64 * 1 + 2 ^ 72 * b2n false), W.session, 1, false, 9, by decide +kernel⟩

theorem witness_CommitsMoveTheShadow_2 : ∃ (s : State) (ses : Nat) (data : Bytes) (x : Session) (g : Nat) (csn : Nat),
      s.Steady ∧
      g < 5 ∧
      s.session? ses = some x ∧
      data = natLE 8 (g + 2 ^ 32 * csn) ∧
      csn < 2 ^ 32 ∧
      x.enrol = false :=
  ⟨W.st [] (W.group 1 { shadow := [], pend := [W.commit 5 (some 9) []], live := [] }), 0, natLE 8 (1 + 2 ^ 32 * 5), W.session, 1, 5, by decide +kernel⟩

theorem witness_AtOnceCommitsDoNotWait_0 : ∃ (s : State) (g : Nat),
      s.Works pdHub ∧
      g < 4 ∧
      (∀ c ∈ (s.dev.group g).pend, c.target = none → s.dev.now < c.issued + 1000000) :=
  ⟨W.st [] (W.group 1 { shadow := [], pend := [W.commit 5 (some 9) []], live := [] }), 1, by decide +kernel⟩

theorem witness_AtOnceCommitsDoNotWait_1 : ∃ (s : State) (g : Nat) (c : Commit) (k : Nat) (v : Val),
      s.Works pdHub ∧
      g < 4 ∧
      (s.dev.group g).pend = [c] ∧
      c.target = none ∧
      c.entries = [(k, v)] ∧
      c.issued + 1000000 ≤ s.dev.now ∧
      k ∉ [Obj.handedCsn g, Obj.lastHandoverLix g, Obj.pending g, Obj.pairRole, Obj.fwState, Obj.nextLix g, Obj.domState pdHub, Obj.logMinSeverity, Obj.logSeq] :=
  ⟨W.st [] (W.group 1 { shadow := [], pend := [W.commit 5 none [(Obj.matchFloor 1, .n 3)]], live := [] }), 1, W.commit 5 none [(Obj.matchFloor 1, .n 3)], Obj.matchFloor 1, Val.n 3, by decide +kernel⟩

theorem witness_AtOnceCommitsDoNotWait_2 : ∃ (s : State) (ses : Nat) (data : Bytes) (x : Session) (k : Nat) (v : Val),
      s.Steady ∧
      s.session? ses = some x ∧
      data = natLE 16 (2 ^ 64 * 4) ∧
      x.enrol = false ∧
      levelsOk x.level (s.dev.group 4).shadow = true ∧
      (s.dev.group 4).shadow = [(k, v)] ∧
      k ∉ [Obj.handedCsn 4, Obj.pending 4, Obj.pairRole, Obj.fwState, Obj.domState pdHub, Obj.logMinSeverity, Obj.logSeq] ∧
      s.dev.commitOk 4 0 = true :=
  ⟨W.st ((List.range 24).map (fun p => (Obj.trigLcg p, Val.n 0)) ++ (List.range 4).map (fun v => (Obj.viewLcg v, Val.n 0))) (W.group 4 { shadow := [(Obj.matchFloor 1, .n 3)], pend := [], live := [] }), 0, natLE 16 (2 ^ 64 * 4), W.session, Obj.matchFloor 1, Val.n 3, by decide +kernel⟩

theorem witness_AxisEventsActOnTheirAxisAlone_0 : ∃ (s : State) (a : Nat),
      s.Works pdPos ∧
      a < 4 :=
  ⟨W.st [(Obj.axisEnable 1, .n 1)], 3, by decide +kernel⟩

theorem witness_AxisEventsActOnTheirAxisAlone_1 : ∃ (s : State) (a : Nat),
      s.Works pdPos ∧
      a < 4 :=
  ⟨W.st [(Obj.axisEnable 1, .n 1)], 1, by decide +kernel⟩

theorem witness_AxisEventsActOnTheirAxisAlone_2 : ∃ (s : State) (a : Nat) (pair : Nat) (lost : Bool) (la : Bool) (lb : Bool) (lz : Bool),
      s.Works pdPos ∧
      a < 4 ∧
      pair < 3 ∧
      (∀ g : Nat, g < 4 → s.dev.flag (Obj.lcgRun g) = true → s.dev.flag (Obj.failoverEnable g) = false) :=
  ⟨W.st [(Obj.axisEnable 1, .n 1)], 1, 2, true, true, false, false, by decide +kernel⟩

theorem witness_AxisEventsActOnTheirAxisAlone_3 : ∃ (s : State) (a : Nat) (la : Bool) (lb : Bool),
      s.Works pdPos ∧
      a < 4 ∧
      s.dev.flag (Obj.axisEnable a) = true ∧
      (s.dev.axis a).loss = false ∧
      s.dev.edgeHeld a la lb = true ∧
      (la, lb) ≠ ((s.dev.axis a).a, (s.dev.axis a).b) ∧
      s.dev.illegalEdge a la lb = true :=
  ⟨W.st [(Obj.axisEnable 1, .n 1)], 1, true, true, by decide +kernel⟩

theorem witness_AxisEventsActOnTheirAxisAlone_4 : ∃ (s : State) (a : Nat) (la : Bool) (lb : Bool),
      s.Works pdPos ∧
      a < 4 ∧
      s.dev.edgeHeld a la lb = false :=
  ⟨W.st [(Obj.axisEnable 1, .n 1), (Obj.filterLen 1, .n 20)] (W.axis 1 (fun x => { x with edgeA := some 9999999990 })), 1, true, false, by decide +kernel⟩

theorem witness_EveryAcceptedEdgeCountsOnce_0 : ∃ (s : State) (a : Nat) (la : Bool) (lb : Bool),
      s.Works pdPos ∧
      a < 4 ∧
      s.dev.flag (Obj.axisEnable a) = true ∧
      (s.dev.axis a).loss = false ∧
      (la ≠ (s.dev.axis a).a ↔ lb = (s.dev.axis a).b) ∧
      s.dev.edgeHeld a la lb = true ∧
      (la, lb) ≠ ((s.dev.axis a).qa, (s.dev.axis a).qb) ∧
      s.dev.illegalEdge a la lb = false :=
  ⟨W.st [(Obj.axisEnable 1, .n 1)], 1, true, false, by decide +kernel⟩

theorem witness_AHitAssignsTheNextLix_0 : ∃ (s : State) (g : Nat) (r : Nat) (j : Bool),
      s.Works pdPos ∧
      g < 4 ∧
      s.dev.flag (Obj.lcgRun g) = true ∧
      s.dev.hitReached g = some (r, j) ∧
      (s.dev.lcg g).issueTime r ≤ s.dev.now ∧
      (s.dev.lcg g).restart = [] ∧
      s.dev.failoverDue g = false ∧
      (s.dev.group g).pend = [] ∧
      (s.dev.group g).live = [] :=
  ⟨W.st [(Obj.lcgRun 0, .n 1), (Obj.lineStep 0, .n 16)] (W.hitting), 0, 1000, false, by decide +kernel⟩

theorem witness_AHitAssignsTheNextLix_1 : ∃ (s : State) (g : Nat) (r : Nat) (j : Bool) (c : Commit) (k : Nat) (v : Val) (w : LiveWrite),
      s.Works pdPos ∧
      g < 4 ∧
      s.dev.flag (Obj.lcgRun g) = true ∧
      s.dev.hitReached g = some (r, j) ∧
      (s.dev.lcg g).issueTime r ≤ s.dev.now ∧
      (s.dev.lcg g).restart = [] ∧
      s.dev.failoverDue g = false ∧
      (s.dev.group g).pend = [c] ∧
      (∀ n ∈ c.target, n ≤ s.dev.nat (Obj.nextLix g)) ∧
      c.entries = [(k, v)] ∧
      (s.dev.group g).live = [w] ∧
      w.lix ≤ s.dev.nat (Obj.nextLix g) ∧
      (∀ x ∈ [k, w.key], (0x2400 ≤ x / 256 ∨ x = Obj.lineStep g) ∧ x ∉ [Obj.pairRole, Obj.fwState, Obj.domState pdHub, Obj.logMinSeverity] ++ (List.range 64).map Obj.paceEvent ++ (List.range 64).map Obj.paceArg ++ hitKeys g) :=
  ⟨W.st [(Obj.lcgRun 0, .n 1)] (fun d => (W.hitting d).updGroup 0 (fun x => { x with pend := [W.commit 1 (some 0) [(Obj.lineStep 0, .n 7)]], live := [{ key := Obj.viewEnable 3, lix := 0, val := .n 0 }] })), 0, 1000, false, W.commit 1 (some 0) [(Obj.lineStep 0, .n 7)], Obj.lineStep 0, .n 7, { key := Obj.viewEnable 3, lix := 0, val := .n 0 }, by decide +kernel⟩

theorem witness_LcgsStartStopAndFailBack_0 : ∃ (s : State) (ses : Nat) (g : Nat),
      s.Steady ∧
      g < 4 ∧
      s.MayWrite ses (Obj.lcgRun g) [1] ∧
      s.dev.flag (Obj.lcgRun g) = false ∧
      s.dev.flag (Obj.axisEnable (s.dev.nat (Obj.primaryAxis g))) = true ∧
      (s.dev.group g).pend = [] ∧
      (s.dev.group g).live = [] ∧
      (∀ u ∈ (s.dev.lcg g).lastHit, u + 1000 ≤ s.dev.now) ∧
      ((s.dev.lcg g).stopAt = none ∨ s.dev.hitReached g = none) ∧
      (s.dev.flag (Obj.failoverEnable g) = false ∨
           ((s.dev.axis (s.dev.nat (Obj.primaryAxis g))).loss = false ∧
             ((s.dev.lcg g).partSince * s.dev.int (Obj.partnerRatio g)).natAbs ≤ s.dev.nat (Obj.failDetect g))) :=
  ⟨W.st [(Obj.axisEnable 3, .n 1)], 0, 3, by decide +kernel⟩

theorem witness_LcgsStartStopAndFailBack_1 : ∃ (s : State) (ses : Nat) (g : Nat),
      s.Steady ∧
      g < 4 ∧
      s.MayWrite ses (Obj.lcgRun g) [0] ∧
      s.dev.flag (Obj.lcgRun g) = true :=
  ⟨W.st [(Obj.lcgRun 3, .n 1)], 0, 3, by decide +kernel⟩

theorem witness_LcgsStartStopAndFailBack_2 : ∃ (s : State) (a : Nat) (pair : Nat) (la : Bool) (lb : Bool) (lz : Bool) (g : Nat),
      s.Works pdPos ∧
      a < 4 ∧
      pair < 3 ∧
      g < 4 ∧
      s.dev.flag (Obj.lcgRun g) = true ∧
      s.dev.flag (Obj.failoverEnable g) = true ∧
      s.dev.nat (Obj.partnerSource g) < 4 ∧
      s.dev.onPrimary g = true ∧
      s.dev.nat (Obj.primaryAxis g) = a ∧
      (∀ k : Nat, k < 4 → k ≠ g → s.dev.flag (Obj.lcgRun k) = true → s.dev.flag (Obj.failoverEnable k) = false) :=
  ⟨W.st [(Obj.lcgRun 3, .n 1), (Obj.failoverEnable 3, .n 1), (Obj.partnerSource 3, .n 3), (Obj.primaryAxis 3, .n 2)], 2, 2, true, true, true, 3, by decide +kernel⟩

theorem witness_LcgsStartStopAndFailBack_3 : ∃ (s : State) (ses : Nat) (g : Nat),
      s.Steady ∧
      g < 4 ∧
      s.MayWrite ses (Obj.failback g) [1] ∧
      (s.dev.axis (s.dev.nat (Obj.primaryAxis g))).loss = false ∧
      s.dev.nat (Obj.slipWindow g) ≤ (s.dev.lcg g).primMoved ∧
      (s.dev.lcg g).slipOk = true :=
  ⟨W.st [(Obj.lcgRun 3, .n 1)] (fun d => d.updLcg 3 (fun l => { l with partner := some 1, primMoved := 100000000, slipOk := true })), 0, 3, by decide +kernel⟩

theorem witness_PortsFireEveryLixOnce_0 : ∃ (s : State) (p : Nat) (e : PendFire) (u : Nat) (late : Bool),
      s.Works pdPos ∧
      p < 24 ∧
      (s.dev.rb9212 = true → p < 12) ∧
      s.dev.fireDue p = some (e, u, late) ∧
      s.dev.flag (Obj.portEnable p) = false :=
  ⟨W.st [(Obj.trigLcg 23, .n 0)] (W.due 23), 23, ({ lix := 3, lcg := 0, target := 5, since := 0, notBefore := 0, hitLate := false } : PendFire), 1010, false, by decide +kernel⟩

theorem witness_PortsFireEveryLixOnce_1 : ∃ (s : State) (p : Nat) (e : PendFire) (u : Nat) (late : Bool),
      s.Works pdPos ∧
      p < 24 ∧
      (s.dev.rb9212 = true → p < 12) ∧
      s.dev.fireDue p = some (e, u, late) ∧
      s.dev.flag (Obj.portEnable p) = true ∧
      s.dev.gapEnd = none ∧
      (s.dev.port p).ledger.length < 256 ∧
      e.lix % 256 ≠ 255 ∧
      (s.dev.ep p).armed = none :=
  ⟨W.st [(Obj.trigLcg 23, .n 0), (Obj.portEnable 23, .n 1)] (W.due 23), 23, ({ lix := 3, lcg := 0, target := 5, since := 0, notBefore := 0, hitLate := false } : PendFire), 1010, false, by decide +kernel⟩

theorem witness_EyeletsFireAtTheirTarget_0 : ∃ (s : State) (ses : Nat) (k : Nat),
      s.Steady ∧
      k < 256 ∧
      s.MayWrite ses (Obj.eyArm k) [1] ∧
      s.dev.flag (Obj.eyArm k) = false ∧
      s.dev.eyPassed k = none :=
  ⟨W.st [(Obj.eyTarget 255, .n 100)], 0, 255, by decide +kernel⟩

theorem witness_EyeletsFireAtTheirTarget_1 : ∃ (s : State) (ses : Nat) (k : Nat) (late : Nat),
      s.Steady ∧
      k < 256 ∧
      s.MayWrite ses (Obj.eyArm k) [1] ∧
      s.dev.flag (Obj.eyArm k) = false ∧
      s.dev.eyPassed k = some late ∧
      s.dev.nat Obj.lateWindow < late :=
  ⟨W.st [(Obj.eyTarget 255, .n 100), (Obj.nextLix 0, .n 200), (Obj.lateWindow, .n 5)], 0, 255, 99, by decide +kernel⟩

theorem witness_EyeletsFireAtTheirTarget_2 : ∃ (s : State) (ses : Nat) (k : Nat) (late : Nat),
      s.Steady ∧
      k < 256 ∧
      s.MayWrite ses (Obj.eyArm k) [1] ∧
      s.dev.flag (Obj.eyArm k) = false ∧
      s.dev.eyPassed k = some late ∧
      late ≤ s.dev.nat Obj.lateWindow ∧
      s.dev.nat (Obj.eyRepeat k) = 0 ∧
      s.dev.nat (Obj.eyLcg k) < 4 :=
  ⟨W.st [(Obj.eyTarget 255, .n 100), (Obj.nextLix 0, .n 104), (Obj.lateWindow, .n 3)], 0, 255, 3, by decide +kernel⟩

theorem witness_EyeletsFireAtTheirTarget_3 : ∃ (s : State) (ses : Nat) (k : Nat),
      s.Steady ∧
      k < 256 ∧
      s.MayWrite ses (Obj.eyArm k) [0] ∧
      s.dev.flag (Obj.eyArm k) = true :=
  ⟨W.st [(Obj.eyArm 255, .n 1)], 0, 255, by decide +kernel⟩

theorem witness_EyeletsFireAtTheirTarget_4 : ∃ (s : State) (k : Nat) (pos : Int) (since : Nat) (r : Nat),
      s.Works pdPos ∧
      k < 256 ∧
      Tbl.get? s.dev.pos.eyelets k = some { target := some pos, since := since } ∧
      s.dev.reach (s.dev.nat (Obj.eyLcg k)) pos since = some (r, false) ∧
      r + 15 ≤ s.dev.now ∧
      s.dev.eyeletsUpTo k (r + 15) = [k] ∧
      (∀ g : Nat, g < 4 → ∀ h ∈ s.dev.hitReached g, r + 15 < (s.dev.lcg g).issueTime h.1) ∧
      s.dev.nat (Obj.eyRepeat k) = 0 ∧
      s.dev.nat (Obj.eyLcg k) < 4 :=
  ⟨W.st [(Obj.eyArm 255, .n 1)] (fun d => (W.hitting d).updPos (fun x => { x with eyelets := [(255, { target := some 5, since := 0 })] })), 255, 5, 0, 1000, by decide +kernel⟩

theorem witness_EyeletsFireAtTheirTarget_5 : ∃ (s : State) (k : Nat) (pos : Int) (since : Nat) (r : Nat),
      s.Works pdPos ∧
      k < 256 ∧
      Tbl.get? s.dev.pos.eyelets k = some { target := some pos, since := since } ∧
      s.dev.reach (s.dev.nat (Obj.eyLcg k)) pos since = some (r, false) ∧
      r + 15 ≤ s.dev.now ∧
      s.dev.eyeletsUpTo k (r + 15) = [k] ∧
      (∀ g : Nat, g < 4 → ∀ h ∈ s.dev.hitReached g, r + 15 < (s.dev.lcg g).issueTime h.1) ∧
      s.dev.nat (Obj.eyRepeat k) ≠ 0 ∧
      s.dev.nat (Obj.eyLcg k) < 4 ∧
      lixDiff (s.dev.curLix (s.dev.nat (Obj.eyLcg k))) ((s.dev.nat (Obj.eyTarget k) + s.dev.nat (Obj.eyRepeat k)) % 2 ^ 64) < 0 :=
  ⟨W.st [(Obj.eyArm 255, .n 1), (Obj.eyRepeat 255, .n 5)] (fun d => (W.hitting d).updPos (fun x => { x with eyelets := [(255, { target := some 5, since := 0 })] })), 255, 5, 0, 1000, by decide +kernel⟩

theorem witness_EyeletsFireAtTheirTarget_6 : ∃ (s : State) (o : Nat) (u : Nat),
      s.Works pdPos ∧
      o < 16 ∧
      Tbl.get? s.dev.pos.actPulse o = some u ∧
      u ≤ s.dev.now :=
  ⟨W.st [] (fun d => d.updPos (fun x => { x with actPulse := [(15, 77)] })), 15, 77, by decide +kernel⟩

theorem witness_InputsOfTheUnitAreTaken_0 : ∃ (s : State) (i : Nat) (bits : List Bool),
      s.Works pdPos ∧
      i < 2 ∧
      s.dev.flag (Obj.ssiEnable i) = true ∧
      bits.length = s.dev.nat (Obj.ssiBits i) + (if s.dev.nat (Obj.ssiParity i) = 0 then 0 else 1) ∧
      (s.dev.nat (Obj.ssiParity i) = 0 ∨ (bits.filter id).length % 2 = s.dev.nat (Obj.ssiParity i) - 1) :=
  ⟨W.st [(Obj.ssiEnable 1, .n 1), (Obj.ssiBits 1, .n 3)], 1, [true, false, true], by decide +kernel⟩

theorem witness_InputsOfTheUnitAreTaken_1 : ∃ (s : State) (i : Nat) (high : Bool) (low : Bool) (bits : List Bool),
      s.Works pdPos ∧
      i < 2 ∧
      s.dev.flag (Obj.ssiEnable i) = true ∧
      (high = false ∨ low = false ∨
           (bits.length = s.dev.nat (Obj.ssiBits i) + 1 ∧ (s.dev.nat (Obj.ssiParity i) = 1 ∨ s.dev.nat (Obj.ssiParity i) = 2) ∧
             (bits.filter id).length % 2 ≠ s.dev.nat (Obj.ssiParity i) - 1)) :=
  ⟨W.st [(Obj.ssiEnable 1, .n 1), (Obj.ssiBits 1, .n 3)], 1, true, false, [true], by decide +kernel⟩

theorem witness_InputsOfTheUnitAreTaken_2 : ∃ (s : State) (i : Nat) (level : Bool),
      s.Works pdPos ∧
      i < 8 ∧
      s.dev.flag (Obj.evEnable i) = true ∧
      bit s.dev.pos.evLevel i ≠ level ∧
      s.dev.evHeld i = true ∧
      (s.dev.nat (Obj.evEdge i) = 2 ∨ s.dev.nat (Obj.evEdge i) = (if level then 0 else 1)) ∧
      255 < s.dev.nat (Obj.evArmEyelet i) :=
  ⟨W.st [(Obj.evEnable 7, .n 1), (Obj.evArmEyelet 7, .n 65535)], 7, true, by decide +kernel⟩

theorem witness_InputsOfTheUnitAreTaken_3 : ∃ (s : State) (i : Nat) (level : Bool),
      s.Works pdPos ∧
      i < 8 ∧
      s.dev.flag (Obj.evEnable i) = true ∧
      bit s.dev.pos.evLevel i ≠ level ∧
      s.dev.evHeld i = true ∧
      (s.dev.nat (Obj.evEdge i) = 2 ∨ s.dev.nat (Obj.evEdge i) = (if level then 0 else 1)) ∧
      s.dev.nat (Obj.evArmEyelet i) ≤ 255 ∧
      s.dev.flag (Obj.eyArm (s.dev.nat (Obj.evArmEyelet i))) = true :=
  ⟨W.st [(Obj.evEnable 7, .n 1), (Obj.evArmEyelet 7, .n 255), (Obj.eyArm 255, .n 1)], 7, true, by decide +kernel⟩

theorem witness_InputsOfTheUnitAreTaken_4 : ∃ (s : State) (i : Nat) (level : Bool),
      s.Works pdPos ∧
      i < 8 ∧
      (s.dev.flag (Obj.evEnable i) = false ∨ bit s.dev.pos.evLevel i = level ∨ s.dev.evHeld i = false ∨
           (s.dev.nat (Obj.evEdge i) ≠ 2 ∧ s.dev.nat (Obj.evEdge i) ≠ (if level then 0 else 1))) :=
  ⟨W.st [], 7, true, by decide +kernel⟩

theorem witness_PortsFollowTheirStateTable_0 : ∃ (s : State) (p : Nat) (speeds : List Nat) (n : Nat),
      s.Steady ∧
      p < 24 ∧
      s.dev.domOn (portDomain p) = true ∧
      (s.dev.rb9212 = true → p < 12) ∧
      s.dev.portState p = 1 ∧
      s.dev.nat (Obj.linkSpeed p) ≠ 0 ∧
      speeds.contains (s.dev.nat (Obj.linkSpeed p)) = true ∧
      cxpSpeeds.contains (s.dev.nat (Obj.linkSpeed p)) = true ∧
      s.dev.nat (Obj.laneCount p) ≤ n ∧
      s.dev.nat (Obj.laneCount p) ≤ 8 ∧
      s.dev.payloadFits p (s.dev.nat (Obj.linkSpeed p)) = true :=
  ⟨W.st [(Obj.portState 23, .n 1), (Obj.linkSpeed 23, .n 12), (Obj.laneCount 23, .n 4)], 23, [6, 12], 4, by decide +kernel⟩

theorem witness_PortsFollowTheirStateTable_1 : ∃ (s : State) (p : Nat),
      s.Steady ∧
      p < 24 ∧
      s.dev.domOn (portDomain p) = true ∧
      (s.dev.rb9212 = true → p < 12) :=
  ⟨W.st [(Obj.portState 23, .n 1)], 23, by decide +kernel⟩

theorem witness_PortsFollowTheirStateTable_2 : ∃ (s : State) (p : Nat),
      s.Steady ∧
      p < 24 ∧
      s.dev.domOn (portDomain p) = true ∧
      (s.dev.rb9212 = true → p < 12) :=
  ⟨W.st [(Obj.portState 23, .n 5)], 23, by decide +kernel⟩

theorem witness_PortsFollowTheirStateTable_3 : ∃ (s : State) (p : Nat) (accepted : Bool),
      s.Steady ∧
      p < 24 ∧
      s.dev.domOn (portDomain p) = true ∧
      (s.dev.rb9212 = true → p < 12) ∧
      s.dev.portState p = 2 :=
  ⟨W.st [(Obj.portState 0, .n 2)], 0, false, by decide +kernel⟩

theorem witness_PortsFollowTheirStateTable_4 : ∃ (s : State) (p : Nat),
      s.Steady ∧
      p < 24 ∧
      s.dev.domOn (portDomain p) = true ∧
      (s.dev.rb9212 = true → p < 12) ∧
      (s.dev.portState p = 3 ∨ s.dev.portState p = 4) ∧
      (s.dev.port p).heard + s.dev.nat (Obj.heartbeatTimeout p) * 1000000 ≤ s.dev.now ∧
      (s.dev.ep p).acq = none :=
  ⟨W.st [(Obj.portState 23, .n 4)], 23, by decide +kernel⟩

theorem witness_PortsStartAndStop_0 : ∃ (s : State) (ses : Nat) (p : Nat),
      s.Steady ∧
      p < 24 ∧
      (s.dev.rb9212 = true → p < 12) ∧
      s.MayWrite ses (Obj.portEnable p) [1] ∧
      s.dev.flag (Obj.portEnable p) = false ∧
      s.dev.ready (portDomain p) = true ∧
      s.dev.ready (engineDomain (s.dev.engineOf p)) = true ∧
      s.dev.nat (Obj.bindMode p) ≠ 0 ∧
      s.dev.nat (Obj.psetInitial p) < 256 ∧
      s.dev.nat (Obj.psetPort (s.dev.nat (Obj.psetInitial p))) = p ∧
      s.dev.portState p = 0 :=
  ⟨W.st [(Obj.bindMode 11, .n 1), (Obj.psetInitial 11, .n 95), (Obj.psetPort 95, .n 11)], 0, 11, by decide +kernel⟩

theorem witness_PortsStartAndStop_1 : ∃ (s : State) (ses : Nat) (p : Nat),
      s.Steady ∧
      p < 24 ∧
      (s.dev.rb9212 = true → p < 12) ∧
      s.MayWrite ses (Obj.portEnable p) [0] ∧
      s.dev.flag (Obj.portEnable p) = true ∧
      (s.dev.port p).ledger = [] ∧
      s.dev.nat (Obj.bindMode p) = 1 ∧
      (s.dev.ep p).queue = [] ∧
      (s.dev.ep p).slots = [] ∧
      (s.dev.ep p).hold = [] ∧
      (s.dev.ep p).window = [] ∧
      (s.dev.ep p).armed = none ∧
      (s.dev.ep p).acq = none ∧
      (∀ q ∈ s.dev.heldPsets p, q < 256) :=
  ⟨W.st [(Obj.portState 23, .n 3), (Obj.portEnable 23, .n 1), (Obj.bindMode 23, .n 1)], 0, 23, by decide +kernel⟩

theorem witness_LanesAndPacketsAreTaken_0 : ∃ (s : State) (n : Nat),
      s.Steady ∧
      n < 192 ∧
      s.dev.domOn (portDomain (n / 8)) = true ∧
      (s.dev.rb9212 = true → n < 96) ∧
      s.dev.portState (n / 8) ≠ 2 :=
  ⟨W.st [], 191, by decide +kernel⟩

theorem witness_LanesAndPacketsAreTaken_1 : ∃ (s : State) (n : Nat) (k : Nat),
      s.Steady ∧
      n < 192 ∧
      s.dev.domOn (portDomain (n / 8)) = true ∧
      (s.dev.rb9212 = true → n < 96) ∧
      s.dev.nat (Obj.laneCount (n / 8)) ≤ n % 8 ∧
      (s.dev.ep (n / 8)).acq = none :=
  ⟨W.st [(Obj.laneCount 23, .n 4), (Obj.laneLocked 191, .n 1)], 191, 4, by decide +kernel⟩

theorem witness_LanesAndPacketsAreTaken_2 : ∃ (s : State) (n : Nat) (k : Nat),
      s.Steady ∧
      n < 192 ∧
      s.dev.domOn (portDomain (n / 8)) = true ∧
      (s.dev.rb9212 = true → n < 96) ∧
      n % 8 < s.dev.nat (Obj.laneCount (n / 8)) ∧
      1 ≤ s.dev.portState (n / 8) ∧
      s.dev.portState (n / 8) ≤ 4 ∧
      s.dev.flag (Obj.laneLocked n) = true ∧
      4 ≤ k ∧
      (s.dev.ep (n / 8)).acq = none :=
  ⟨W.st [(Obj.laneCount 23, .n 8), (Obj.laneLocked 191, .n 1), (Obj.portState 23, .n 3)], 191, 4, by decide +kernel⟩

theorem witness_LanesAndPacketsAreTaken_3 : ∃ (s : State) (p : Nat) (stream : Nat) (format : Nat) (e : LedgerEntry),
      s.Steady ∧
      p < 24 ∧
      s.dev.domOn (portDomain p) = true ∧
      (s.dev.rb9212 = true → p < 12) ∧
      s.dev.portState p = 4 ∧
      stream < s.dev.portStreams p ∧
      format = s.dev.streamFormat p stream ∧
      Tbl.get? (s.dev.port p).cur stream = none ∧
      (s.dev.port p).held = [] ∧
      s.dev.entryAt p s.dev.now = some e ∧
      (s.dev.streamPlanesOf p stream).any (fun i => (e.planes.getD i PlaneRx.empty).matched) = false :=
  ⟨W.st [(Obj.portState 23, .n 4), (Obj.streamPlanes 23, .n 1), (Obj.pixelFormat 23, .n 1), (Obj.winMax 23, .n 1000)] (fun d => d.updPort 23 (fun x => { x with ledger := [W.entry] })), 23, 0, 1, W.entry, by decide +kernel⟩

theorem witness_LanesAndPacketsAreTaken_4 : ∃ (s : State) (p : Nat) (stream : Nat) (format : Nat),
      s.Steady ∧
      p < 24 ∧
      s.dev.domOn (portDomain p) = true ∧
      (s.dev.rb9212 = true → p < 12) ∧
      s.dev.portState p = 4 ∧
      stream < s.dev.portStreams p ∧
      format = s.dev.streamFormat p stream ∧
      Tbl.get? (s.dev.port p).cur stream = none ∧
      (s.dev.port p).held = [] ∧
      s.dev.entryAt p s.dev.now = none :=
  ⟨W.st [(Obj.portState 23, .n 4), (Obj.streamPlanes 23, .n 1), (Obj.pixelFormat 23, .n 1)], 23, 0, 1, by decide +kernel⟩

theorem witness_LanesAndPacketsAreTaken_5 : ∃ (s : State) (p : Nat) (lane : Nat) (stream : Nat) (crcOk : Bool) (samples : List Nat),
      s.Steady ∧
      p < 24 ∧
      s.dev.domOn (portDomain p) = true ∧
      (s.dev.rb9212 = true → p < 12) ∧
      lane / 8 = p ∧
      (s.dev.portState p = 3 ∨ s.dev.portState p = 4) ∧
      (Tbl.get? (s.dev.port p).cur stream).getD none = none ∧
      (s.dev.port p).held = [] :=
  ⟨W.st [(Obj.portState 23, .n 4)], 23, 191, 0, false, [1], by decide +kernel⟩

theorem witness_LanesAndPacketsAreTaken_6 : ∃ (s : State) (p : Nat) (lane : Nat) (stream : Nat) (samples : List Nat) (lix : Nat) (e : LedgerEntry),
      s.Steady ∧
      p < 24 ∧
      s.dev.domOn (portDomain p) = true ∧
      (s.dev.rb9212 = true → p < 12) ∧
      lane / 8 = p ∧
      (s.dev.portState p = 3 ∨ s.dev.portState p = 4) ∧
      Tbl.get? (s.dev.port p).cur stream = some (some lix) ∧
      (s.dev.port p).held = [] ∧
      (s.dev.port p).ledger = [e] ∧
      e.lix = lix ∧
      e.closed = false ∧
      e.overrun = false ∧
      s.dev.ingressBytes p + ceilDiv (samples.length * (formatBits (s.dev.streamFormat p stream)).1) 8 ≤ 512 * 1024 ∧
      s.dev.streamPlanesOf p stream = [stream] ∧
      stream < e.planes.length :=
  ⟨W.st [(Obj.portState 23, .n 4), (Obj.pixelFormat 23, .n 1)] (fun d => d.updPort 23 (fun x => { x with ledger := [W.entry], cur := [(0, some 3)] })), 23, 191, 0, [1, 2], 3, W.entry, by decide +kernel⟩

theorem witness_LanesAndPacketsAreTaken_7 : ∃ (s : State) (p : Nat) (lane : Nat) (stream : Nat) (samples : List Nat) (lix : Nat) (e : LedgerEntry),
      s.Steady ∧
      p < 24 ∧
      s.dev.domOn (portDomain p) = true ∧
      (s.dev.rb9212 = true → p < 12) ∧
      lane / 8 = p ∧
      (s.dev.portState p = 3 ∨ s.dev.portState p = 4) ∧
      Tbl.get? (s.dev.port p).cur stream = some (some lix) ∧
      (s.dev.port p).held = [] ∧
      (s.dev.port p).ledger = [e] ∧
      e.lix = lix ∧
      e.closed = false ∧
      e.overrun = false ∧
      s.dev.ingressBytes p + ceilDiv (samples.length * (formatBits (s.dev.streamFormat p stream)).1) 8 ≤ 512 * 1024 ∧
      s.dev.streamPlanesOf p stream = [stream] ∧
      stream < e.planes.length :=
  ⟨W.st [(Obj.portState 23, .n 4), (Obj.pixelFormat 23, .n 1)] (fun d => d.updPort 23 (fun x => { x with ledger := [W.entry], cur := [(0, some 3)] })), 23, 191, 0, [1, 2], 3, W.entry, by decide +kernel⟩

theorem witness_LanesAndPacketsAreTaken_8 : ∃ (s : State) (p : Nat) (lane : Nat) (stream : Nat) (samples : List Nat) (lix : Nat) (e : LedgerEntry),
      s.Steady ∧
      p < 24 ∧
      s.dev.domOn (portDomain p) = true ∧
      (s.dev.rb9212 = true → p < 12) ∧
      lane / 8 = p ∧
      (s.dev.portState p = 3 ∨ s.dev.portState p = 4) ∧
      Tbl.get? (s.dev.port p).cur stream = some (some lix) ∧
      (s.dev.port p).held = [] ∧
      (s.dev.port p).ledger = [e] ∧
      e.lix = lix ∧
      e.closed = false ∧
      e.overrun = false ∧
      512 * 1024 < s.dev.ingressBytes p + ceilDiv (samples.length * (formatBits (s.dev.streamFormat p stream)).1) 8 :=
  ⟨W.st [(Obj.portState 23, .n 4), (Obj.pixelFormat 23, .n 1)] (fun d => d.updPort 23 (fun x => { x with ledger := [{ W.entry with bytes := 524288 }], cur := [(0, some 3)] })), 23, 191, 0, [1, 2], 3, { W.entry with bytes := 524288 }, by decide +kernel⟩

theorem witness_LanesAndPacketsAreTaken_9 : ∃ (s : State) (p : Nat) (lane : Nat) (stream : Nat) (samples : List Nat) (lix : Nat) (e : LedgerEntry) (x : PlaneRx),
      s.Steady ∧
      p < 24 ∧
      s.dev.domOn (portDomain p) = true ∧
      (s.dev.rb9212 = true → p < 12) ∧
      lane / 8 = p ∧
      (s.dev.portState p = 3 ∨ s.dev.portState p = 4) ∧
      Tbl.get? (s.dev.port p).cur stream = some (some lix) ∧
      (s.dev.port p).held = [] ∧
      (s.dev.port p).ledger = [e] ∧
      e.lix = lix ∧
      e.closed = false ∧
      e.overrun = false ∧
      s.dev.ingressBytes p + ceilDiv (samples.length * (formatBits (s.dev.streamFormat p stream)).1) 8 ≤ 512 * 1024 ∧
      s.dev.streamPlanesOf p stream = [0] ∧
      e.planes = [x] ∧
      x.matched = true :=
  ⟨W.st [(Obj.portState 23, .n 4), (Obj.pixelFormat 23, .n 1)] (fun d => d.updPort 23 (fun x => { x with ledger := [{ W.entry with planes := [{ PlaneRx.empty with matched := true }] }], cur := [(0, some 3)] })), 23, 191, 0, [1, 2], 3, { W.entry with planes := [{ PlaneRx.empty with matched := true }] }, { PlaneRx.empty with matched := true }, by decide +kernel⟩

theorem witness_LedgerEntriesCloseAndAreDelivered_0 : ∃ (s : State) (p : Nat),
      s.Steady ∧
      p < 24 ∧
      s.dev.domOn (portDomain p) = true ∧
      (s.dev.rb9212 = true → p < 12) :=
  ⟨W.st [] (fun d => d.updPort 23 (fun x => { x with ledger := [W.entry] })), 23, by decide +kernel⟩

theorem witness_LedgerEntriesCloseAndAreDelivered_1 : ∃ (s : State) (p : Nat) (e : LedgerEntry) (rest : List LedgerEntry),
      s.Steady ∧
      p < 24 ∧
      s.dev.domOn (portDomain p) = true ∧
      (s.dev.rb9212 = true → p < 12) ∧
      (s.dev.port p).ledger = e :: rest ∧
      e.closed = true ∧
      s.dev.nat (Obj.bindMode p) ≠ 2 ∧
      s.dev.creditsCover p = true :=
  ⟨W.st [] (fun d => d.updPort 23 (fun x => { x with ledger := [{ W.entry with closed := true }, W.entry] })), 23, ({ W.entry with closed := true } : LedgerEntry), [W.entry], by decide +kernel⟩

theorem witness_LedgerEntriesCloseAndAreDelivered_2 : ∃ (s : State) (p : Nat) (e : LedgerEntry) (rest : List LedgerEntry),
      s.Steady ∧
      p < 24 ∧
      s.dev.domOn (portDomain p) = true ∧
      (s.dev.rb9212 = true → p < 12) ∧
      (s.dev.port p).ledger = e :: rest ∧
      e.closed = true ∧
      s.dev.nat (Obj.bindMode p) = 2 :=
  ⟨W.st [(Obj.bindMode 23, .n 2)] (fun d => d.updPort 23 (fun x => { x with ledger := [{ W.entry with closed := true }, W.entry] })), 23, ({ W.entry with closed := true } : LedgerEntry), [W.entry], by decide +kernel⟩

theorem witness_LedgerEntriesCloseAndAreDelivered_3 : ∃ (s : State) (p : Nat),
      s.Steady ∧
      p < 24 ∧
      s.dev.domOn (portDomain p) = true ∧
      (s.dev.rb9212 = true → p < 12) ∧
      (((s.dev.port p).ledger.head?.map (fun e => e.closed)) ≠ some true ∨ s.dev.creditsCover p = false) :=
  ⟨W.st [] (fun d => d.updPort 23 (fun x => { x with ledger := [W.entry] })), 23, by decide +kernel⟩

theorem witness_TriggersAreAnsweredAndEnd_0 : ∃ (s : State) (p : Nat),
      s.Steady ∧
      p < 24 ∧
      s.dev.domOn (portDomain p) = true ∧
      (s.dev.rb9212 = true → p < 12) :=
  ⟨W.st [], 23, by decide +kernel⟩

theorem witness_TriggersAreAnsweredAndEnd_1 : ∃ (s : State) (p : Nat),
      s.Steady ∧
      p < 24 ∧
      s.dev.domOn (portDomain p) = true ∧
      (s.dev.rb9212 = true → p < 12) :=
  ⟨W.st [] (fun d => d.updPort 23 (fun x => { x with packets := [{ lix := 1, rising := true, sent := 0, answered := none, counted := false }] })), 23, by decide +kernel⟩

theorem witness_TriggersAreAnsweredAndEnd_2 : ∃ (s : State) (p : Nat) (u : Nat) (lix : Nat) (rest : List (Nat × Nat)),
      s.Steady ∧
      p < 24 ∧
      s.dev.domOn (portDomain p) = true ∧
      (s.dev.rb9212 = true → p < 12) ∧
      (s.dev.port p).falling = (u, lix) :: rest ∧
      u ≤ s.dev.now :=
  ⟨W.st [] (fun d => d.updPort 23 (fun x => { x with falling := [(5, 1)] })), 23, 5, 1, [], by decide +kernel⟩

theorem witness_TriggersAreAnsweredAndEnd_3 : ∃ (s : State) (p : Nat) (u : Nat) (active : Bool),
      s.Works pdPos ∧
      p < 24 ∧
      (s.dev.rb9212 = true → p < 12) ∧
      (s.dev.trig p).lvdsEnd = some (u, active) :=
  ⟨W.st [] (fun d => d.updTrig 23 (fun x => { x with lvdsEnd := some (5, true) })), 23, 5, true, by decide +kernel⟩

theorem witness_TriggersAreAnsweredAndEnd_4 : ∃ (s : State) (p : Nat),
      s.Steady ∧
      p < 24 ∧
      s.dev.domOn (portDomain p) = true ∧
      (s.dev.rb9212 = true → p < 12) ∧
      (s.dev.portState p = 3 ∨ s.dev.portState p = 4) :=
  ⟨W.st [(Obj.portState 23, .n 3)], 23, by decide +kernel⟩

theorem witness_TheControlBridgeRunsOneCommand_0 : ∃ (s : State) (ses : Nat) (p : Nat),
      s.Steady ∧
      p < 24 ∧
      (s.dev.rb9212 = true → p < 12) ∧
      s.MayWrite ses (Obj.ctlOp p) [1] ∧
      (s.dev.port p).ctl = none ∧
      (s.dev.port p).ctlWait = [] :=
  ⟨W.st [(Obj.portState 23, .n 3)], 0, 23, by decide +kernel⟩

theorem witness_TheControlBridgeRunsOneCommand_1 : ∃ (s : State) (ses : Nat) (p : Nat),
      s.Steady ∧
      p < 24 ∧
      (s.dev.rb9212 = true → p < 12) ∧
      s.MayWrite ses (Obj.ctlOp p) [2] ∧
      (s.dev.port p).ctl = none ∧
      (s.dev.port p).ctlWait = [] :=
  ⟨W.st [(Obj.portState 23, .n 3)], 0, 23, by decide +kernel⟩

theorem witness_TheControlBridgeRunsOneCommand_2 : ∃ (s : State) (p : Nat) (error : Bool) (data : Bytes) (a : Nat) (n : Nat) (u : Nat),
      s.Steady ∧
      p < 24 ∧
      s.dev.domOn (portDomain p) = true ∧
      (s.dev.rb9212 = true → p < 12) ∧
      (s.dev.port p).ctl = some (.bridgeRead a n, u) ∧
      (s.dev.port p).ctlWait = [] :=
  ⟨W.st [(Obj.portState 23, .n 3)] (fun d => d.updPort 23 (fun x => { x with ctl := some (.bridgeRead 4 8, 0) })), 23, false, [1], 4, 8, 0, by decide +kernel⟩

theorem witness_TheControlBridgeRunsOneCommand_3 : ∃ (s : State) (p : Nat) (a : Nat) (n : Nat) (u : Nat),
      s.Steady ∧
      p < 24 ∧
      s.dev.domOn (portDomain p) = true ∧
      (s.dev.rb9212 = true → p < 12) ∧
      (s.dev.port p).ctl = some (.bridgeRead a n, u) ∧
      (s.dev.port p).ctlWait = [] :=
  ⟨W.st [(Obj.portState 23, .n 3)] (fun d => d.updPort 23 (fun x => { x with ctl := some (.bridgeRead 4 8, 0) })), 23, 4, 8, 0, by decide +kernel⟩

theorem witness_TheControlBridgeRunsOneCommand_4 : ∃ (s : State) (ses : Nat) (p : Nat) (rd : Bool) (x : CtlCmd × Nat),
      s.Steady ∧
      p < 24 ∧
      (s.dev.rb9212 = true → p < 12) ∧
      s.MayWrite ses (Obj.ctlOp p) [if rd = true then 1 else 2] ∧
      (s.dev.port p).ctl = some x :=
  ⟨W.st [(Obj.portState 23, .n 3)] (fun d => d.updPort 23 (fun x => { x with ctl := some (.psetWrite 95 0, 0) })), 0, 23, false, (.psetWrite 95 0, 0), by decide +kernel⟩

theorem witness_TheControlBridgeRunsOneCommand_5 : ∃ (s : State) (p : Nat) (error : Bool) (data : Bytes) (a : Nat) (bs : Bytes) (u : Nat),
      s.Steady ∧
      p < 24 ∧
      s.dev.domOn (portDomain p) = true ∧
      (s.dev.rb9212 = true → p < 12) ∧
      (s.dev.port p).ctl = some (.bridgeWrite a bs, u) :=
  ⟨W.st [(Obj.portState 23, .n 3)] (fun d => d.updPort 23 (fun x => { x with ctl := some (.bridgeWrite 4 [1], 0), ctlWait := [.psetWrite 95 0] })), 23, false, [], 4, [1], 0, by decide +kernel⟩

theorem witness_TheControlBridgeRunsOneCommand_6 : ∃ (s : State) (p : Nat) (a : Nat) (bs : Bytes) (u : Nat),
      s.Steady ∧
      p < 24 ∧
      s.dev.domOn (portDomain p) = true ∧
      (s.dev.rb9212 = true → p < 12) ∧
      (s.dev.port p).ctl = some (.bridgeWrite a bs, u) :=
  ⟨W.st [(Obj.portState 23, .n 3)] (fun d => d.updPort 23 (fun x => { x with ctl := some (.bridgeWrite 4 [1], 0), ctlWait := [.psetWrite 95 0] })), 23, 4, [1], 0, by decide +kernel⟩

theorem witness_TheControlBridgeRunsOneCommand_7 : ∃ (s : State) (p : Nat) (e : PendFire) (u : Nat) (late : Bool) (a : Armed) (x : CtlCmd × Nat),
      s.Works pdPos ∧
      p < 24 ∧
      (s.dev.rb9212 = true → p < 12) ∧
      s.dev.fireDue p = some (e, u, late) ∧
      s.dev.flag (Obj.portEnable p) = true ∧
      s.dev.gapEnd = none ∧
      (s.dev.port p).ledger.length < 256 ∧
      e.lix % 256 ≠ 255 ∧
      (s.dev.ep p).armed = some a ∧
      a.issued = none ∧
      a.preload = true ∧
      a.issueLix ≤ e.lix ∧
      s.dev.portState p = 4 ∧
      s.dev.camWrites a.pset ≠ 0 ∧
      (s.dev.port p).ctl = some x :=
  ⟨W.st [(Obj.trigLcg 23, .n 0), (Obj.portEnable 23, .n 1), (Obj.portState 23, .n 4), (Obj.camWrites 95, .b (List.replicate 16 0))] (fun d => ((W.due 23 d).updEp 23 (fun x => { x with armed := some { W.armed with issueLix := 2 } })).updPort 23 (fun x => { x with ctl := some (.bridgeRead 4 8, 0) })), 23, ({ lix := 3, lcg := 0, target := 5, since := 0, notBefore := 0, hitLate := false } : PendFire), 1010, false, { W.armed with issueLix := 2 }, (.bridgeRead 4 8, 0), by decide +kernel⟩

theorem witness_TheControlBridgeRunsOneCommand_8 : ∃ (s : State) (p : Nat) (data : Bytes) (q : Nat) (step : Nat) (u : Nat) (a : Armed),
      s.Steady ∧
      p < 24 ∧
      s.dev.domOn (portDomain p) = true ∧
      (s.dev.rb9212 = true → p < 12) ∧
      (s.dev.port p).ctl = some (.psetWrite q step, u) ∧
      (s.dev.ep p).armed = some a ∧
      a.pset = q ∧
      a.issued.isSome = true ∧
      step + 1 < s.dev.camWrites q :=
  ⟨W.st [(Obj.portState 23, .n 4), (Obj.camWrites 95, .b (List.replicate 16 0))] (fun d => (d.updEp 23 (fun x => { x with armed := some { W.armed with issued := some 9 } })).updPort 23 (fun x => { x with ctl := some (.psetWrite 95 0, 0), ctlWait := [.bridgeRead 4 8] })), 23, [], 95, 0, 0, { W.armed with issued := some 9 }, by decide +kernel⟩

theorem witness_EnginesEmitLinesInOrder_0 : ∃ (s : State) (p : Nat) (l : RawLine) (rest : List RawLine),
      s.Steady ∧
      p < 24 ∧
      (s.dev.rb9212 = true → p < 12) ∧
      s.dev.domOn (engineDomain (s.dev.engineOf p)) = true ∧
      s.dev.nat (Obj.bindMode p) = 1 ∧
      (s.dev.ep p).creditsHeld = false ∧
      s.dev.noEngine p = true ∧
      (s.dev.ep p).queue = l :: rest ∧
      (s.dev.ep p).taken = [] ∧
      (s.dev.ep p).switches = [] ∧
      l.lix % 256 ≠ 255 ∧
      14 ≤ s.dev.nat Obj.auditEngine ∧
      s.dev.eng.audit.ended = false :=
  ⟨W.st [(Obj.bindMode 23, .n 1), (Obj.bindEngine 23, .n 11)] (fun d => (d.updEngine 11 (fun x => { x with state := 4 })).updEp 23 (fun x => { x with queue := [W.raw] })), 23, W.raw, [], by decide +kernel⟩

theorem witness_EnginesEmitLinesInOrder_1 : ∃ (s : State) (p : Nat) (l : RawLine),
      s.Steady ∧
      p < 24 ∧
      (s.dev.rb9212 = true → p < 12) ∧
      s.dev.domOn (engineDomain (s.dev.engineOf p)) = true ∧
      s.dev.nat (Obj.bindMode p) = 1 ∧
      (s.dev.ep p).creditsHeld = false ∧
      s.dev.noEngine p = false ∧
      (s.dev.ep p).queue = [l] ∧
      l.missing = true ∧
      l.lix % 256 ≠ 255 ∧
      14 ≤ s.dev.nat Obj.auditEngine ∧
      s.dev.eng.audit.ended = false ∧
      (s.dev.ep p).nextEmit = none ∧
      (s.dev.ep p).window = [] ∧
      (s.dev.ep p).switches = [] ∧
      (s.dev.ep p).acq = none ∧
      (s.dev.ep p).bad = [] ∧
      s.dev.lookahead p = 0 :=
  ⟨W.st [(Obj.bindMode 23, .n 1), (Obj.bindEngine 23, .n 11)] (fun d => (d.updEngine 11 (fun x => { x with state := 1 })).updEp 23 (fun x => { x with queue := [W.raw] })), 23, W.raw, by decide +kernel⟩

theorem witness_EnginesEmitLinesInOrder_2 : ∃ (s : State) (p : Nat) (l : RawLine),
      s.Steady ∧
      p < 24 ∧
      (s.dev.rb9212 = true → p < 12) ∧
      s.dev.domOn (engineDomain (s.dev.engineOf p)) = true ∧
      s.dev.nat (Obj.bindMode p) = 1 ∧
      (s.dev.ep p).creditsHeld = false ∧
      s.dev.noEngine p = false ∧
      (s.dev.ep p).queue = [l] ∧
      l.missing = false ∧
      l.planeMask = 1 ∧
      l.width ≤ (l.planes.getD 0 []).length ∧
      l.width ≤ s.dev.portWidth p ∧
      l.lix % 256 ≠ 255 ∧
      14 ≤ s.dev.nat Obj.auditEngine ∧
      s.dev.eng.audit.ended = false ∧
      (s.dev.ep p).nextEmit = none ∧
      (s.dev.ep p).window = [] ∧
      (s.dev.ep p).switches = [] ∧
      (s.dev.ep p).acq = none ∧
      (s.dev.ep p).bad = [] ∧
      s.dev.portPlanes p = 1 ∧
      s.dev.nat (Obj.mosaicRows p) = 1 ∧
      s.dev.nat (Obj.mosaicCols p) = 1 ∧
      s.dev.nat (Obj.mosaicPattern p 0) = 0 ∧
      s.dev.int (Obj.rowOffset p 0) = 0 ∧
      s.dev.flag (Obj.nrEnable (s.dev.ep p).pset) = false ∧
      (s.dev.ep p).table = none :=
  ⟨W.st [(Obj.bindMode 23, .n 1), (Obj.bindEngine 23, .n 11), (Obj.auditEngine, .n 255), (Obj.streamPlanes 23, .n 1)] (fun d => (d.updEngine 11 (fun x => { x with state := 1 })).updEp 23 (fun x => { x with queue := [{ W.raw with missing := false, width := 2, planeMask := 1, planes := [[7, 8]] }] })), 23, { W.raw with missing := false, width := 2, planeMask := 1, planes := [[7, 8]] }, by decide +kernel⟩

theorem witness_MemoryPathJobsStartEndAndAreLate_0 : ∃ (s : State) (e : Nat) (p : Nat) (sl : Slot),
      s.Steady ∧
      e < 14 ∧
      s.dev.domOn (engineDomain e) = true ∧
      (s.dev.engine e).state = 1 ∧
      (s.dev.engine e).job = none ∧
      s.dev.inRepair e = false ∧
      s.dev.pickJob e = some (p, sl) ∧
      s.dev.eng.audit.strip = none ∧
      s.dev.eng.audit.ended = false :=
  ⟨W.st [(Obj.bindMode 23, .n 2), (Obj.bindEngine 23, .n 13)] (fun d => (d.updEngine 13 (fun x => { x with state := 1 })).updEp 23 (fun x => { x with slots := [W.slot] })), 13, 23, W.slot, by decide +kernel⟩

theorem witness_MemoryPathJobsStartEndAndAreLate_1 : ∃ (s : State) (e : Nat) (j : Job),
      s.Steady ∧
      e < 14 ∧
      s.dev.domOn (engineDomain e) = true ∧
      (s.dev.engine e).job = some j ∧
      (∀ n ∈ (s.dev.ep j.port).oldest, s.dev.jobLast j.port j.strip < n) ∧
      (∀ x ∈ (s.dev.ep j.port).slots.head?, x.strip = j.strip) ∧
      (s.dev.ep j.port).acq = none ∧
      (s.dev.ep j.port).switches = [] ∧
      s.dev.eng.audit.strip = none ∧
      s.dev.eng.audit.ended = false :=
  ⟨W.st [] (fun d => d.updEngine 13 (fun x => { x with job := some W.job })), 13, W.job, by decide +kernel⟩

theorem witness_MemoryPathJobsStartEndAndAreLate_2 : ∃ (s : State) (p : Nat),
      s.Steady ∧
      p < 24 ∧
      (s.dev.rb9212 = true → p < 12) ∧
      s.dev.domOn (engineDomain (s.dev.engineOf p)) = true ∧
      s.dev.jobLate p = none ∧
      s.dev.eng.audit.ended = false :=
  ⟨W.st [], 23, by decide +kernel⟩

theorem witness_MemoryPathJobsStartEndAndAreLate_3 : ∃ (s : State) (p : Nat) (sl : Slot),
      s.Steady ∧
      p < 24 ∧
      (s.dev.rb9212 = true → p < 12) ∧
      s.dev.domOn (engineDomain (s.dev.engineOf p)) = true ∧
      s.dev.jobLate p = some sl ∧
      s.dev.engineOf p < 14 ∧
      (s.dev.ep p).acq = none :=
  ⟨W.st [(Obj.bindMode 23, .n 2), (Obj.bindEngine 23, .n 13), (Obj.trigLcg 23, .n 0), (Obj.mpDeadline 23, .n 1), (Obj.mpFloor 23, .n 0)] (fun d => (W.hitting d).updEp 23 (fun x => { x with slots := [W.slot] })), 23, W.slot, by decide +kernel⟩

theorem witness_ParameterSetsArmAndDisarm_0 : ∃ (s : State) (ses : Nat) (p : Nat) (q : Nat),
      s.Steady ∧
      p < 24 ∧
      q < 256 ∧
      q ≠ 255 ∧
      (s.dev.rb9212 = true → p < 12) ∧
      s.MayWrite ses (Obj.psetArm p) [BitVec.ofNat 8 q] :=
  ⟨W.st [(Obj.psetPort 95, .n 23), (Obj.tableValid 23, .n 1), (Obj.psetTarget 23, .n 1000)], 0, 23, 95, by decide +kernel⟩

theorem witness_ParameterSetsArmAndDisarm_1 : ∃ (s : State) (ses : Nat) (p : Nat) (a : Armed),
      s.Steady ∧
      p < 24 ∧
      (s.dev.rb9212 = true → p < 12) ∧
      s.MayWrite ses (Obj.psetArm p) [0xFF] ∧
      (s.dev.ep p).armed = some a ∧
      a.pset < 256 :=
  ⟨W.st [] (fun d => d.updEp 23 (fun e => { e with armed := some W.armed })), 0, 23, W.armed, by decide +kernel⟩

theorem witness_ParameterSetsArmAndDisarm_2 : ∃ (s : State) (p : Nat),
      s.Steady ∧
      p < 24 ∧
      (s.dev.rb9212 = true → p < 12) ∧
      s.dev.domOn (engineDomain (s.dev.engineOf p)) = true :=
  ⟨W.st [], 23, by decide +kernel⟩

theorem witness_TableBanksAreWrittenAndSealed_0 : ∃ (s : State) (ses : Nat) (p : Nat) (off : Nat) (data : Bytes) (b : Nat),
      s.Steady ∧
      p < 24 ∧
      (s.dev.rb9212 = true → p < 12) ∧
      (s.judged ses (0x3080 + p) 0x22 off data).isSome = true ∧
      b = s.dev.nat (Obj.tableBankSel p) ∧
      b < 4 ∧
      s.dev.bankUsed p b = false ∧
      (off = 0 ∨ off = (s.dev.ep p).bankLen.getD b 0) ∧
      off + data.length ≤ 524288 ∧
      Memory.wf s.dev.hbm = true :=
  ⟨W.st [(Obj.tableBankSel 23, .n 3), (Obj.portEnable 23, .n 0)], 0, 23, 0, [1, 0, 2], 3, by decide +kernel⟩

theorem witness_TableBanksAreWrittenAndSealed_1 : ∃ (s : State) (ses : Nat) (p : Nat) (off : Nat) (data : Bytes) (b : Nat),
      s.Steady ∧
      p < 24 ∧
      (s.dev.rb9212 = true → p < 12) ∧
      (s.judged ses (0x3080 + p) 0x22 off data).isSome = true ∧
      b = s.dev.nat (Obj.tableBankSel p) ∧
      (s.dev.bankUsed p b = true ∨ (off ≠ 0 ∧ off ≠ (s.dev.ep p).bankLen.getD b 0) ∨ 524288 < off + data.length) :=
  ⟨W.st [(Obj.tableBankSel 23, .n 3), (Obj.tableBank 95, .n 3)] (fun d => d.updEp 23 (fun e => { e with armed := some W.armed })), 0, 23, 0, [1, 0, 2, 3], 3, by decide +kernel⟩

theorem witness_TableBanksAreWrittenAndSealed_2 : ∃ (s : State) (ses : Nat) (p : Nat),
      s.Steady ∧
      p < 24 ∧
      (s.dev.rb9212 = true → p < 12) ∧
      s.MayWrite ses (Obj.tableSeal p) [1] :=
  ⟨W.st [(Obj.tableBankSel 23, .n 3)], 0, 23, by decide +kernel⟩

theorem witness_AcquisitionsStartAndTimeOut_0 : ∃ (s : State) (ses : Nat) (p : Nat),
      s.Steady ∧
      p < 24 ∧
      (s.dev.rb9212 = true → p < 12) ∧
      s.MayWrite ses (Obj.ffMode p) [1] :=
  ⟨W.st [(Obj.portState 23, .n 4), (Obj.tableBankSel 23, .n 3)], 0, 23, by decide +kernel⟩

theorem witness_AcquisitionsStartAndTimeOut_1 : ∃ (s : State) (ses : Nat) (p : Nat),
      s.Steady ∧
      p < 24 ∧
      (s.dev.rb9212 = true → p < 12) ∧
      s.MayWrite ses (Obj.ffMode p) [2] :=
  ⟨W.st [(Obj.portState 23, .n 4), (Obj.tableBankSel 23, .n 3)], 0, 23, by decide +kernel⟩

theorem witness_AcquisitionsStartAndTimeOut_2 : ∃ (s : State) (p : Nat) (a : Acq),
      s.Steady ∧
      p < 24 ∧
      (s.dev.rb9212 = true → p < 12) ∧
      s.dev.domOn (engineDomain (s.dev.engineOf p)) = true ∧
      (s.dev.ep p).acq = some a :=
  ⟨W.st [] (fun d => d.updEp 23 (fun e => { e with acq := some W.acq })), 23, W.acq, by decide +kernel⟩

theorem witness_CorrectedLinesEnterTheSkewBuffer_0 : ∃ (s : State) (p : Nat) (c : CorrLine) (rest : List CorrLine),
      s.Works pdHub ∧
      p < 24 ∧
      (s.dev.rb9212 = true → p < 12) ∧
      (s.dev.sp p).arriving = c :: rest ∧
      s.dev.viewsOf p = [] :=
  ⟨W.st [] (fun d => d.updSp 23 (fun x => { x with arriving := [W.corr] })), 23, W.corr, [], by decide +kernel⟩

theorem witness_CorrectedLinesEnterTheSkewBuffer_1 : ∃ (s : State) (p : Nat) (v : Nat) (c : CorrLine) (rest : List CorrLine),
      s.Works pdHub ∧
      p < 24 ∧
      (s.dev.rb9212 = true → p < 12) ∧
      (s.dev.sp p).arriving = c :: rest ∧
      s.dev.viewsOf p = [v] ∧
      s.dev.deferred v = false ∧
      s.dev.needs v c.lix = true ∧
      s.dev.stitched v c.lix = false :=
  ⟨W.st [(Obj.portMask 3, .n 8388608)] (fun d => (d.updSp 23 (fun x => { x with arriving := [W.corr], lines := List.replicate 7 W.corr })).updVw 3 (fun x => { x with running := true })), 23, 3, W.corr, [], by decide +kernel⟩

theorem witness_StitchedLinesFollowInOrder_0 : ∃ (s : State) (v : Nat),
      s.Works pdHub ∧
      v < 4 ∧
      (s.dev.vw v).running = true ∧
      0 ≤ lixDiff (s.dev.curLix (s.dev.viewLcg v)) (s.dev.vw v).next ∧
      ((s.dev.vw v).due.isSome = true ∨ ((s.dev.viewPorts v).all (fun p => s.dev.arrived v p ((s.dev.vw v).next + 3))) = true) ∧
      (s.dev.vw v).next % 256 ≠ 255 :=
  ⟨W.st [(Obj.nextLix 0, .n 10), (Obj.viewLcg 3, .n 0)] (fun d => d.updVw 3 (fun x => { x with running := true, next := 9, due := some [] })), 3, by decide +kernel⟩

theorem witness_StitchedLinesFollowInOrder_1 : ∃ (s : State) (v : Nat),
      s.Works pdHub ∧
      v < 4 ∧
      (s.dev.vw v).running = true ∧
      0 ≤ lixDiff (s.dev.curLix (s.dev.viewLcg v)) (s.dev.vw v).next ∧
      ((s.dev.vw v).due.isSome = true ∨ ((s.dev.viewPorts v).all (fun p => s.dev.arrived v p ((s.dev.vw v).next + 3))) = true) ∧
      (s.dev.vw v).next % 256 = 255 :=
  ⟨W.st [(Obj.nextLix 0, .n 300), (Obj.viewLcg 3, .n 0)] (fun d => d.updVw 3 (fun x => { x with running := true, next := 255, due := some [] })), 3, by decide +kernel⟩

theorem witness_StitchedLinesFollowInOrder_2 : ∃ (s : State) (v : Nat),
      s.Works pdHub ∧
      v < 4 ∧
      ((s.dev.vw v).running = false ∨ lixDiff (s.dev.curLix (s.dev.viewLcg v)) (s.dev.vw v).next < 0 ∨
           ((s.dev.vw v).due = none ∧ ((s.dev.viewPorts v).all (fun p => s.dev.arrived v p ((s.dev.vw v).next + 3))) = false)) :=
  ⟨W.st [], 3, by decide +kernel⟩

theorem witness_StitchedLinesFollowInOrder_3 : ∃ (s : State) (v : Nat),
      s.Works pdHub ∧
      v < 4 :=
  ⟨W.st [(Obj.nextLix 0, .n 500), (Obj.viewLcg 3, .n 0)] (fun d => d.updVw 3 (fun x => { x with running := true, next := 9 })), 3, by decide +kernel⟩

theorem witness_StitchedLinesFollowInOrder_4 : ∃ (s : State) (v : Nat),
      s.Works pdHub ∧
      v < 4 ∧
      (s.dev.vw v).running = true ∧
      0 ≤ lixDiff (s.dev.curLix (s.dev.viewLcg v)) (s.dev.vw v).next ∧
      ((s.dev.vw v).due.isSome = true ∨ ((s.dev.viewPorts v).all (fun p => s.dev.arrived v p ((s.dev.vw v).next + 3))) = true) ∧
      (s.dev.vw v).next % 256 ≠ 255 ∧
      (s.dev.vw v).stopAt ≠ some (s.dev.vw v).next ∧
      (s.dev.vw v).unityFrom = [] ∧
      (s.dev.vw v).newTargets = [] ∧
      s.dev.welts v (s.dev.vw v).next = [] :=
  ⟨W.st [(Obj.nextLix 0, .n 10), (Obj.viewLcg 3, .n 0)] (fun d => d.updVw 3 (fun x => { x with running := true, next := 9, due := some [] })), 3, by decide +kernel⟩

theorem witness_StitchedLinesFollowInOrder_5 : ∃ (s : State) (v : Nat) (w : Nat) (a : Nat) (b : Nat),
      s.Works pdHub ∧
      v < 4 ∧
      (s.dev.vw v).running = true ∧
      0 ≤ lixDiff (s.dev.curLix (s.dev.viewLcg v)) (s.dev.vw v).next ∧
      ((s.dev.vw v).due.isSome = true ∨ ((s.dev.viewPorts v).all (fun p => s.dev.arrived v p ((s.dev.vw v).next + 3))) = true) ∧
      (s.dev.vw v).next % 256 ≠ 255 ∧
      (s.dev.vw v).stopAt ≠ some (s.dev.vw v).next ∧
      s.dev.nat (Obj.viewOutPlanes v) = 1 ∧
      s.dev.welts v (s.dev.vw v).next = [w] ∧
      s.dev.natOn (s.dev.viewLcg v) (Obj.weltMode w) (s.dev.vw v).next ≤ 1 ∧
      (s.dev.grid v).zone (s.dev.lastAt (s.dev.viewLcg v) (s.dev.natOn (s.dev.viewLcg v) (Obj.weltLeft w) (s.dev.vw v).next) (s.dev.vw v).next)
           (s.dev.lastAt (s.dev.viewLcg v) (s.dev.natOn (s.dev.viewLcg v) (Obj.weltRight w) (s.dev.vw v).next) (s.dev.vw v).next) = some (a, b) ∧
      b < s.dev.nat (Obj.viewWidth v) :=
  ⟨W.st [(Obj.nextLix 0, .n 10), (Obj.viewLcg 3, .n 0), (Obj.viewWidth 3, .n 8), (Obj.weltView 95, .n 3), (Obj.weltLeft 95, .n 0), (Obj.weltRight 95, .n 1), (Obj.viewOutPlanes 3, .n 1), (Obj.lineWidth 0, .n 8), (Obj.lineWidth 1, .n 8)] (fun d => d.updVw 3 (fun x => { x with running := true, next := 9, due := some [] })), 3, 95, 0, 7, by decide +kernel⟩

theorem witness_ViewsStartAndStop_0 : ∃ (s : State) (ses : Nat) (v : Nat),
      s.Steady ∧
      v < 4 ∧
      s.MayWrite ses (Obj.viewEnable v) [1] ∧
      s.dev.flag (Obj.viewEnable v) = false ∧
      (s.dev.vw v).running = false :=
  ⟨W.st [(Obj.nextLix 0, .n 10), (Obj.viewLcg 3, .n 0)], 0, 3, by decide +kernel⟩

theorem witness_ViewsStartAndStop_1 : ∃ (s : State) (ses : Nat) (v : Nat),
      s.Steady ∧
      v < 4 ∧
      s.MayWrite ses (Obj.viewEnable v) [0] ∧
      s.dev.flag (Obj.viewEnable v) = true ∧
      (s.dev.vw v).running = true ∧
      0 ≤ lixDiff (s.dev.curLix (s.dev.viewLcg v)) (s.dev.vw v).next :=
  ⟨W.st [(Obj.nextLix 0, .n 10), (Obj.viewLcg 3, .n 0), (Obj.viewEnable 3, .n 1)] (fun d => d.updVw 3 (fun x => { x with running := true, next := 9 })), 0, 3, by decide +kernel⟩

theorem witness_LinesAreSegmentedInOrder_0 : ∃ (s : State) (v : Nat) (l : StitchLine) (rest : List StitchLine),
      s.Works pdHub ∧
      v < 4 ∧
      (s.dev.vw v).ready = l :: rest ∧
      (s.dev.sg v).running = false ∧
      l.last = false ∧
      l.lix % 256 ≠ 255 :=
  ⟨W.st [] (fun d => d.updVw 3 (fun x => { x with ready := [W.line] })), 3, W.line, [], by decide +kernel⟩

theorem witness_LinesAreSegmentedInOrder_1 : ∃ (s : State) (v : Nat) (l : StitchLine) (rest : List StitchLine),
      s.Works pdHub ∧
      v < 4 ∧
      (s.dev.vw v).ready = l :: rest ∧
      (s.dev.sg v).running = true ∧
      l.last = false ∧
      l.lix % 256 ≠ 255 :=
  ⟨W.st [] (fun d => (d.updVw 3 (fun x => { x with ready := [W.line], running := true })).updSg 3 (fun x => { x with running := true })), 3, W.line, [], by decide +kernel⟩

theorem witness_LinesAreSegmentedInOrder_2 : ∃ (s : State) (v : Nat) (l : StitchLine) (rest : List StitchLine),
      s.Works pdHub ∧
      v < 4 ∧
      (s.dev.vw v).ready = l :: rest ∧
      (s.dev.sg v).running = true ∧
      l.last = false ∧
      l.lix % 256 ≠ 255 ∧
      ((s.dev.sg v).blobs.map (fun b => b.serial)).Nodup ∧
      (∀ b ∈ (s.dev.sg v).blobs, b.serial < s.dev.nat (Obj.nextSerial v)) :=
  ⟨W.st [] (fun d => (d.updVw 3 (fun x => { x with ready := [W.line], running := true })).updSg 3 (fun x => { x with running := true })), 3, W.line, [], by decide +kernel⟩

theorem witness_LinesAreSegmentedInOrder_3 : ∃ (s : State) (v : Nat) (l : StitchLine) (rest : List StitchLine) (x : Run),
      s.Works pdHub ∧
      v < 4 ∧
      (s.dev.vw v).ready = l :: rest ∧
      (s.dev.sg v).running = true ∧
      l.last = false ∧
      l.lix % 256 ≠ 255 ∧
      (s.dev.sg v).blobs = [] ∧
      (s.dev.sg v).refs = [] ∧
      s.dev.lineRuns v l = [x] ∧
      0 < s.dev.nat (Obj.runLimit v) ∧
      0 < s.dev.nat (Obj.blobQuota v) :=
  ⟨W.st [(Obj.zoneCount 3, .n 1), (Obj.hiBright 192, .n 5), (Obj.bgWarmup 3, .n 1)] (fun d => (d.updVw 3 (fun x => { x with ready := [{ W.line with width := 1, valid := [true], planes := [[100]] }], running := true })).updSg 3 (fun x => { x with running := true, bg := [[{ s := 0, cnt := 9, gated := 0 }]], geometry := d.segGeometry 3 })), 3, { W.line with width := 1, valid := [true], planes := [[100]] }, [], { first := 0, last := 0, dark := false, strong := true, zone := 0, peak := 100, peakPos := 0, peakZone := 0, sumDev := 100, sumVal := 100, su := 0, suu := 0, edge := true }, by decide +kernel⟩

theorem witness_LinesAreSegmentedInOrder_4 : ∃ (s : State) (v : Nat) (l : StitchLine) (rest : List StitchLine) (b : Blob),
      s.Works pdHub ∧
      v < 4 ∧
      (s.dev.vw v).ready = l :: rest ∧
      (s.dev.sg v).running = true ∧
      l.last = false ∧
      l.lix % 256 ≠ 255 ∧
      (s.dev.sg v).blobs = [b] ∧
      s.dev.lineRuns v l = [] ∧
      (b.spans.all (spanDark l.valid.toArray) = false ∨ s.dev.natAt (Obj.bridgeMax v) l.lix ≤ b.hold) ∧
      b.segIndex < 65536 :=
  ⟨W.st [] (fun d => (d.updVw 3 (fun x => { x with ready := [W.line], running := true })).updSg 3 (fun x => { x with running := true, blobs := [{ W.blob with hold := 100000 }] })), 3, W.line, [], { W.blob with hold := 100000 }, by decide +kernel⟩

theorem witness_SegmentersStartAndStop_0 : ∃ (s : State) (ses : Nat) (v : Nat),
      s.Steady ∧
      v < 4 ∧
      s.MayWrite ses (Obj.segEnable v) [1] ∧
      s.dev.flag (Obj.segEnable v) = false :=
  ⟨W.st [], 0, 3, by decide +kernel⟩

theorem witness_SegmentersStartAndStop_1 : ∃ (s : State) (ses : Nat) (v : Nat),
      s.Steady ∧
      v < 4 ∧
      s.MayWrite ses (Obj.segEnable v) [0] ∧
      s.dev.flag (Obj.segEnable v) = true ∧
      (s.dev.vw v).ready = [] ∧
      (s.dev.sg v).running = true :=
  ⟨W.st [(Obj.segEnable 3, .n 1)] (fun d => d.updSg 3 (fun x => { x with running := true })), 0, 3, by decide +kernel⟩

theorem witness_SegmentersStartAndStop_2 : ∃ (s : State) (ses : Nat) (v : Nat),
      s.Steady ∧
      v < 4 ∧
      s.MayWrite ses (Obj.bgReset v) [1] :=
  ⟨W.st [], 0, 3, by decide +kernel⟩

theorem witness_PatchesAreCutOrExpire_0 : ∃ (s : State) (v : Nat),
      s.Works pdHub ∧
      v < 4 ∧
      s.dev.cropTurn ≠ some v :=
  ⟨W.st [], 3, by decide +kernel⟩

theorem witness_PatchesAreCutOrExpire_1 : ∃ (s : State) (v : Nat) (q : CropReq),
      s.Works pdHub ∧
      v < 4 ∧
      s.dev.cropTurn = some v ∧
      s.dev.seg.crop.find? (fun q => q.view == v && s.dev.cropReady q) = some q ∧
      q.cand.view = v :=
  ⟨W.st [] (fun d => ({ d with seg := { d.seg with crop := [{ W.crop with last := some 9 }] } } : Dev).updSg 3 (fun x => { x with waiting := [{ W.wait with ready := false, patch := none }] })), 3, { W.crop with last := some 9 }, by decide +kernel⟩

theorem witness_RecordsEnterAndLeaveTheClassifierInOrder_0 : ∃ (s : State) (v : Nat) (w : WaitRec) (rest : List WaitRec),
      s.Works pdHub ∧
      v < 4 ∧
      (s.dev.sg v).waiting = w :: rest ∧
      w.cand.view = v ∧
      w.ready = true ∧
      s.dev.clsReason w.cand w.patch ≠ 0 :=
  ⟨W.st [] (fun d => d.updSg 3 (fun x => { x with waiting := [W.wait] })), 3, W.wait, [], by decide +kernel⟩

theorem witness_RecordsEnterAndLeaveTheClassifierInOrder_1 : ∃ (s : State) (v : Nat) (w : WaitRec) (rest : List WaitRec) (p : Patch),
      s.Works pdHub ∧
      v < 4 ∧
      (s.dev.sg v).waiting = w :: rest ∧
      w.cand.view = v ∧
      w.ready = true ∧
      w.patch = some p ∧
      s.dev.clsReason w.cand (some p) = 0 ∧
      s.dev.cls.queue.length < 8192 :=
  ⟨W.st [(Obj.clsEnable, .n 1), (Obj.classifyKinds 3, .n 255), (Obj.modelSlotState 1, .n 2)] (fun d => (W.model d).updSg 3 (fun x => { x with waiting := [W.wait] })), 3, W.wait, [], W.patch, by decide +kernel⟩

theorem witness_RecordsEnterAndLeaveTheClassifierInOrder_2 : ∃ (s : State) (v : Nat) (seq : Nat) (q : ClsReq),
      s.Works pdHub ∧
      v < 4 ∧
      s.dev.cls.queue.find? (fun q => q.cand.view == v && q.cand.candSeq == seq) = some q :=
  ⟨W.st [] (fun d => d.updCls (fun x => { x with queue := [W.req] })), 3, 7, W.req, by decide +kernel⟩

theorem witness_RecordsEnterAndLeaveTheClassifierInOrder_3 : ∃ (s : State) (v : Nat) (f : Flight) (rest : List Flight) (r : ClsRes),
      s.Works pdHub ∧
      v < 4 ∧
      s.dev.flights v = f :: rest ∧
      f.result = some r ∧
      Tbl.get? s.dev.pair.results (v * 2 ^ 32 + f.cand.candSeq) = none :=
  ⟨W.st [] (fun d => d.updCls (fun x => { x with flights := x.flights.set 3 [W.flight] })), 3, W.flight, [], W.res, by decide +kernel⟩

theorem witness_RecordsEnterAndLeaveTheClassifierInOrder_4 : ∃ (s : State) (f : Flight) (r : ClsRes) (rest : List (Flight × ClsRes)),
      s.Works pdHub ∧
      s.dev.cls.toRelease = (f, r) :: rest :=
  ⟨W.st [] (fun d => d.updCls (fun x => { x with toRelease := [(W.flight, W.res)] })), W.flight, W.res, [], by decide +kernel⟩

theorem witness_RecordsEnterAndLeaveTheClassifierInOrder_5 : ∃ (s : State) (f : Flight) (r : ClsRes) (rest : List (Flight × ClsRes)) (n : Nat) (x : StallSt),
      s.Works pdHub ∧
      s.dev.cls.toRelease = (f, r) :: rest ∧
      f.hasPatch = false ∧
      n < 512 ∧
      s.dev.stallsOpen = [n] ∧
      s.dev.stall? n = some x :=
  ⟨W.st [(Obj.stallState 511, .n 2)] (fun d => W.stall StallSt.reset (d.updCls (fun x => { x with toRelease := [({ W.flight with hasPatch := false }, W.res)] }))), { W.flight with hasPatch := false }, W.res, [], 511, StallSt.reset, by decide +kernel⟩

theorem witness_ProductsAreCheckedAndRunAgain_0 : ∃ (s : State) (a : Nat) (err : List Int) (e0 : Int) (e1 : Int),
      s.Steady ∧
      a < 72 ∧
      (s.dev.inDispatch a = false ∨ s.dev.domOn pdCls = false ∨ (s.dev.pickMvp a s.dev.cls.running 0 = none ∧ s.dev.cls.queue = [])) :=
  ⟨W.st [], 71, [], 0, 0, by decide +kernel⟩

theorem witness_ProductsAreCheckedAndRunAgain_1 : ∃ (s : State) (a : Nat) (err : List Int) (e0 : Int) (e1 : Int) (i : Nat) (n : Inference) (pos : Nat) (k : Nat) (tile : Tile) (l : Layer),
      s.Works pdCls ∧
      a < 72 ∧
      s.dev.inDispatch a = true ∧
      s.dev.pickMvp a s.dev.cls.running 0 = some (i, n, pos, k, tile) ∧
      s.dev.layerOf n = some l :=
  ⟨W.st [(Obj.clsEnable, .n 1), (Obj.classifyKinds 3, .n 255), (Obj.modelSlotState 1, .n 2)] (fun d => (W.model d).updCls (fun x => { x with running := [W.infer] })), 63, [], 100000, 0, 0, W.infer, 0, 0, W.tile, W.layer, by decide +kernel, by decide, by decide +kernel, by decide +kernel, by decide +kernel⟩

theorem witness_ArraysAreRetiredAndReplaced_0 : ∃ (s : State) (ses : Nat) (a : Nat),
      s.Steady ∧
      a < 72 ∧
      s.MayWrite ses (Obj.arrayRetire a) [1] :=
  ⟨W.st [], 0, 71, by decide +kernel⟩

theorem witness_ArraysAreRetiredAndReplaced_1 : ∃ (s : State) (a : Nat),
      s.Works pdCls ∧
      a < 72 ∧
      (s.dev.arr a).state = 3 :=
  ⟨W.st [] (fun d => d.updCls (fun x => { x with arrays := x.arrays.modify 71 (fun y => { y with state := 3 }) })), 71, by decide +kernel⟩

theorem witness_ArraysAreRetiredAndReplaced_2 : ∃ (s : State) (a : Nat),
      s.Works pdCls ∧
      a < 72 ∧
      (s.dev.arr a).state ≠ 3 :=
  ⟨W.st [], 71, by decide +kernel⟩

theorem witness_ModelSlotsAreLoadedAndUnloaded_0 : ∃ (s : State) (ses : Nat) (m : Nat),
      s.Steady ∧
      m < 2 ∧
      s.MayWrite ses (Obj.modelLoad m) [1] :=
  ⟨W.st [], 0, 1, by decide +kernel⟩

theorem witness_ModelSlotsAreLoadedAndUnloaded_1 : ∃ (s : State) (m : Nat),
      s.Works pdCls ∧
      m < 2 ∧
      s.dev.nat (Obj.modelSlotState m) = 1 :=
  ⟨W.st [(Obj.modelSlotState 1, .n 1)], 1, by decide +kernel⟩

theorem witness_ModelSlotsAreLoadedAndUnloaded_2 : ∃ (s : State) (ses : Nat) (m : Nat),
      s.Steady ∧
      m < 2 ∧
      s.MayWrite ses (Obj.modelUnload m) [1] :=
  ⟨W.st [(Obj.modelSlotState 1, .n 2)], 0, 1, by decide +kernel⟩

theorem witness_CalibrationsAreRequestedAndStart_0 : ∃ (s : State) (ses : Nat) (a : Nat),
      s.Steady ∧
      a < 255 ∧
      s.MayWrite ses Obj.calStart [BitVec.ofNat 8 a] :=
  ⟨W.st [], 0, 71, by decide +kernel⟩

theorem witness_CalibrationsAreRequestedAndStart_1 : ∃ (s : State) (ses : Nat),
      s.Steady ∧
      s.MayWrite ses Obj.calStart [0xFF] :=
  ⟨W.st [], 0, by decide +kernel⟩

theorem witness_CalibrationsAreRequestedAndStart_2 : ∃ (s : State) (a : Nat),
      s.Works pdHub ∧
      a < 72 :=
  ⟨W.st [(Obj.calEnable, .n 1)] (fun d => d.updCls (fun x => { x with arrays := x.arrays.modify 71 (fun y => { y with calAt := some 0 }) })), 71, by decide +kernel⟩

theorem witness_CalibrationsAreRequestedAndStart_3 : ∃ (s : State) (x : Int),
      s.Works pdHub :=
  ⟨W.st [(Obj.calEnable, .n 1)] (fun d => d.updCls (fun x => { x with arrays := x.arrays.modify 71 (fun y => { y with calAt := some 0 }) })), -400, by decide +kernel⟩

theorem witness_CalibrationsAreRequestedAndStart_4 : ∃ (s : State) (a : Nat) (k : Nat),
      s.Works pdHub ∧
      s.dev.domOn pdCls = true ∧
      s.dev.domOn pdCal = true ∧
      s.dev.flag Obj.calHold = false ∧
      s.dev.cal.current = [] ∧
      s.dev.cal.boot = [] ∧
      queueHead s.dev.cal.queue = some (a, k) :=
  ⟨W.st [] (fun d => d.updCal (fun x => { x with queue := [(71, 2)] })), 71, 2, by decide +kernel⟩

theorem witness_CalibrationsAreAdopted_0 : ∃ (s : State) (passes : List (List ColumnSums)) (r : CalRun) (rest : List CalRun),
      s.Works pdHub ∧
      s.dev.cal.current = r :: rest ∧
      s.dev.flag Obj.calHold = true ∧
      s.dev.cal.pendStep = 0 :=
  ⟨W.st [(Obj.calHold, .n 1)] (fun d => d.updCal (fun x => { x with current := [W.run] })), [], W.run, [], by decide +kernel⟩

theorem witness_CalibrationsAreAdopted_1 : ∃ (s : State) (passes : List (List ColumnSums)) (r : CalRun) (rest : List CalRun),
      s.Works pdHub ∧
      s.dev.cal.current = r :: rest ∧
      s.dev.flag Obj.calHold = false ∧
      r.array < 72 :=
  ⟨W.st [] (fun d => d.updCal (fun x => { x with current := [W.run] })), [], W.run, [], by decide +kernel⟩

theorem witness_CalibrationsAreAdopted_2 : ∃ (s : State),
      s.Works pdCls :=
  ⟨W.st [], by decide +kernel⟩

theorem witness_CalibrationsAreAdopted_3 : ∃ (s : State) (x : Int) (y : Int) (z : Int),
      s.Works pdHub ∧
      s.dev.domOn pdCal = true :=
  ⟨W.st [], 500400, 500000, 500000, by decide +kernel⟩

theorem witness_CalibrationsAreAdopted_4 : ∃ (s : State) (ses : Nat),
      s.Steady ∧
      s.MayWrite ses Obj.calRecordLoad [1] ∧
      s.dev.nat Obj.calRecordSel < 72 ∧
      s.dev.nat Obj.calStoreMode = 1 :=
  ⟨W.st [(Obj.calRecordSel, .n 71), (Obj.calStoreMode, .n 1)], 0, by decide +kernel⟩

theorem witness_StallsAreClaimedOpenedAndClosed_0 : ∃ (s : State) (ses : Nat) (n : Nat),
      s.Steady ∧
      n < 512 ∧
      s.MayWrite ses (Obj.stallClaim n) [1] :=
  ⟨W.st [], 0, 511, by decide +kernel⟩

theorem witness_StallsAreClaimedOpenedAndClosed_1 : ∃ (s : State) (ses : Nat) (n : Nat) (x : Session),
      s.Steady ∧
      n < 512 ∧
      s.MayWrite ses (Obj.stallOpen n) [1] ∧
      s.session? ses = some x ∧
      s.dev.nat (Obj.lvMask n) = 0 :=
  ⟨W.st [(Obj.stallState 511, .n 1), (Obj.stallOwner 511, .n 7)], 0, 511, W.session, by decide +kernel⟩

theorem witness_StallsAreClaimedOpenedAndClosed_2 : ∃ (s : State) (ses : Nat) (n : Nat) (x : Session),
      s.Steady ∧
      n < 512 ∧
      s.MayWrite ses (Obj.stallOpen n) [1] ∧
      s.session? ses = some x ∧
      s.dev.nat (Obj.stallState n) = 1 ∧
      s.dev.stallConfigOk n = true ∧
      s.dev.stallTransportUp n = true :=
  ⟨W.st [(Obj.stallState 511, .n 1), (Obj.stallOwner 511, .n 7), (Obj.stallTransport 511, .n 0), (Obj.destPort 511, .n 63), (Obj.pubMtu 511, .n 1000)] (fun d => d.updRing 63 (fun r => { r with ctl := r.ctl + 256 })), 0, 511, W.session, by decide +kernel⟩

theorem witness_StallsAreClaimedOpenedAndClosed_3 : ∃ (s : State) (ses : Nat) (n : Nat),
      s.Steady ∧
      n < 512 ∧
      s.MayWrite ses (Obj.stallClose n) [1] :=
  ⟨W.st [(Obj.stallState 511, .n 2), (Obj.stallOwner 511, .n 7)] (W.stall { StallSt.reset with queue := [W.item] }), 0, 511, by decide +kernel⟩

theorem witness_HostsAskForPatchesAndGiveCredit_0 : ∃ (s : State) (ses : Nat) (n : Nat) (v : Nat),
      s.Steady ∧
      n < 512 ∧
      v < 2 ^ 64 ∧
      s.MayWrite ses (Obj.patchFetch n) (natLE 8 v) :=
  ⟨W.st [(Obj.stallState 511, .n 2), (Obj.stallOwner 511, .n 7)] (W.stall StallSt.reset), 0, 511, 4294967296, by decide +kernel⟩

theorem witness_HostsAskForPatchesAndGiveCredit_1 : ∃ (s : State) (ses : Nat) (n : Nat) (v : Nat),
      s.Steady ∧
      n < 512 ∧
      v < 2 ^ 64 ∧
      s.MayWrite ses (Obj.creditLimit n) (natLE 8 v) :=
  ⟨W.st [(Obj.stallState 511, .n 2), (Obj.stallOwner 511, .n 7)] (W.stall StallSt.reset), 0, 511, 2 ^ 64 - 1, by decide +kernel⟩

theorem witness_HostsAskForPatchesAndGiveCredit_2 : ∃ (s : State) (n : Nat),
      s.Works pdHub ∧
      n < 512 :=
  ⟨W.st [(Obj.stallState 511, .n 2), (Obj.stallOwner 511, .n 7)] (W.stall { StallSt.reset with dg := some W.dgram }), 511, by decide +kernel⟩

theorem witness_DatagramsAreSentAndLaunched_0 : ∃ (s : State) (q : Nat),
      s.Works pdHub ∧
      q < 7 ∧
      s.dev.pair.resume = none ∧
      (q = 0 ∨ s.dev.net.tx.getD (q - 1) [] = []) ∧
      s.dev.stallsOpen.all (fun n => ! s.dev.dgReady n) = true :=
  ⟨W.st [], 6, by decide +kernel⟩

theorem witness_DatagramsAreSentAndLaunched_1 : ∃ (s : State) (q : Nat) (n : Nat) (x : StallSt) (g : Datagram),
      s.Works pdHub ∧
      q < 7 ∧
      s.dev.pair.resume = none ∧
      s.dev.publishes = true ∧
      s.dev.stallsOpen.filter (fun m => s.dev.nat (Obj.stallTransport m) == q && s.dev.dgReady m) = [n] ∧
      s.dev.transportTakes n = true ∧
      s.dev.stall? n = some x ∧
      x.dg = some g ∧
      g.launch = none :=
  ⟨W.st [(Obj.stallState 511, .n 2), (Obj.stallOwner 511, .n 7), (Obj.stallTransport 511, .n 0), (Obj.destPort 511, .n 63), (Obj.pubMtu 511, .n 1000), (Obj.creditMode 511, .n 0)] (fun d => W.stall ({ StallSt.reset with dg := some W.dgram, tokens := 16000000000000 } : StallSt) (d.updRing 63 (fun r => { r with ctl := r.ctl + 256 }))), 0, 511, ({ StallSt.reset with dg := some W.dgram, tokens := 16000000000000 } : StallSt), W.dgram, by decide +kernel⟩

theorem witness_DatagramsAreSentAndLaunched_2 : ∃ (s : State) (q : Nat),
      s.Works pdHub ∧
      q < 7 ∧
      s.dev.pair.resume = none ∧
      s.dev.publishes = true ∧
      (q = 0 ∨ s.dev.net.tx.getD (q - 1) [] = []) ∧
      Tbl.wf s.dev.pub.stalls = true ∧
      (∀ m ∈ s.dev.stallsOpen, ∀ x ∈ s.dev.stall? m, ∀ g ∈ x.dg, g.launch = none) ∧
      (s.dev.stallsOpen.any (fun m => s.dev.nat (Obj.stallTransport m) == q && s.dev.dgReady m && s.dev.transportTakes m)) = true :=
  ⟨W.st [(Obj.stallState 511, .n 2), (Obj.stallOwner 511, .n 7), (Obj.stallTransport 511, .n 0), (Obj.destPort 511, .n 63), (Obj.pubMtu 511, .n 1000), (Obj.creditMode 511, .n 0)] (fun d => W.stall ({ StallSt.reset with dg := some W.dgram, tokens := 16000000000000 } : StallSt) (d.updRing 63 (fun r => { r with ctl := r.ctl + 256 }))), 0, by decide +kernel⟩

theorem witness_DatagramsAreSentAndLaunched_3 : ∃ (s : State) (q : Nat),
      s.Works pdHub ∧
      q < 6 ∧
      s.dev.pair.resume = none ∧
      (s.dev.pub.launch.getD q []).head?.all (fun l => decide ((webNs (s.dev.webAt s.dev.now) : Int) + s.dev.int (Obj.egressLatency q) / 65536 < l.launch)) = true :=
  ⟨W.st [], 5, by decide +kernel⟩

theorem witness_DatagramsAreSentAndLaunched_4 : ∃ (s : State) (q : Nat) (l : LaunchItem) (rest : List LaunchItem) (x : StallSt),
      s.Works pdHub ∧
      q < 6 ∧
      s.dev.pair.resume = none ∧
      s.dev.publishes = true ∧
      s.dev.portUp q = true ∧
      s.dev.pub.launch.getD q [] = l :: rest ∧
      (l.launch : Int) ≤ webNs (s.dev.webAt s.dev.now) + s.dev.int (Obj.egressLatency q) / 65536 ∧
      s.dev.net.busyUntil.getD q 0 ≤ s.dev.now ∧
      s.dev.stall? l.stall = some x ∧
      l.stall < 512 ∧
      s.dev.nat (Obj.stallTransport l.stall) = q + 1 ∧
      l.late = false :=
  ⟨W.st [(Obj.stallState 511, .n 2), (Obj.stallOwner 511, .n 7), (Obj.stallTransport 511, .n 6), (Obj.netEnable 5, .n 1), (Obj.linkUp 5, .n 1)] (fun d => W.stall StallSt.reset (d.updPub (fun z => { z with launch := z.launch.set 5 [W.lItem] }))), 5, W.lItem, [], StallSt.reset, by decide +kernel⟩

theorem witness_DatagramsAreSentAndLaunched_5 : ∃ (s : State) (q : Nat) (f : TxFrame),
      s.Works pdHub ∧
      q < 6 ∧
      s.dev.pair.resume = none ∧
      s.dev.net.tx.getD q [] = [f] ∧
      f.domain = none ∧
      s.dev.mayStart q f.len = true ∧
      s.dev.stallsOpen.all (fun n => ! s.dev.dgReady n) = true :=
  ⟨W.st [(Obj.netEnable 5, .n 1), (Obj.linkUp 5, .n 1)] (fun d => d.updNet (fun x => { x with tx := x.tx.set 5 [({ prio := 2, len := 64, out := .bar [1], domain := none } : TxFrame)] })), 5, ({ prio := 2, len := 64, out := .bar [1], domain := none } : TxFrame), by decide +kernel⟩

theorem witness_LiveViewsStartAndFlush_0 : ∃ (s : State) (ses : Nat) (c : Nat),
      s.Steady ∧
      c < 64 ∧
      s.MayWrite ses (Obj.lvEnable c) [1] ∧
      s.dev.flag (Obj.lvEnable c) = false :=
  ⟨W.st [(Obj.lvView 63, .n 3), (Obj.viewLcg 3, .n 0), (Obj.nextLix 0, .n 10)], 0, 63, by decide +kernel⟩

theorem witness_LiveViewsStartAndFlush_1 : ∃ (s : State) (c : Nat) (b : LvBand),
      s.Works pdHub ∧
      c < 64 ∧
      (s.dev.lvChan c).bands = [b] ∧
      b.complete = false ∧
      0 < s.dev.nat (Obj.overlayHold c) :=
  ⟨W.st [(Obj.overlayHold 63, .n 8)] (W.live W.band), 63, W.band, by decide +kernel⟩

theorem witness_LiveViewsStartAndFlush_2 : ∃ (s : State) (c : Nat) (b : LvBand),
      s.Works pdHub ∧
      c < 64 ∧
      (s.dev.lvChan c).bands = [b] ∧
      b.complete = false ∧
      s.dev.nat (Obj.overlayHold c) = 0 ∧
      b.rows ≠ [] ∧
      0 < s.dev.nat (Obj.mdScale c) ∧
      b.started + s.dev.nat (Obj.lvFlush c) * 1000000 ≤ s.dev.now :=
  ⟨W.st [(Obj.overlayHold 63, .n 0), (Obj.lvFlush 63, .n 1), (Obj.mdScale 63, .n 1)] (W.live { W.band with rows := [[1]] }), 63, { W.band with rows := [[1]] }, by decide +kernel⟩

theorem witness_CorrectedErrorsMarkRowsForReplacement_0 : ∃ (s : State) (c : Nat) (u : Nat) (row : Nat),
      s.Steady ∧
      sramBuffers.any (fun b => b.1 == c && decide (u < b.2)) = true ∧
      s.dev.domOn (bufferDomain c u) = true :=
  ⟨W.st [] (fun d => d.updFlt (fun f => { f with rows := Tbl.put f.rows (rowKey 9 63 5) [9999999999] })), 9, 63, 5, by decide +kernel⟩

theorem witness_CorrectedErrorsMarkRowsForReplacement_1 : ∃ (s : State) (c : Nat) (u : Nat) (row : Nat),
      s.Steady ∧
      sramBuffers.any (fun b => b.1 == c && decide (u < b.2)) = true ∧
      s.dev.domOn (bufferDomain c u) = true :=
  ⟨W.st [] (fun d => d.updFlt (fun f => { f with marked := [rowKey 9 63 5] })), 9, 63, 5, by decide +kernel⟩

theorem witness_UncorrectableErrorsLoseTheirItem_0 : ∃ (s : State) (c : Nat) (u : Nat) (x : Nat),
      s.Steady ∧
      sramBuffers.any (fun b => b.1 == c && decide (u < b.2)) = true ∧
      s.dev.domOn (bufferDomain c u) = true :=
  ⟨W.st [], 4, 23, 300, by decide +kernel⟩

theorem witness_UncorrectableErrorsLoseTheirItem_1 : ∃ (s : State) (p : Nat) (x : Nat),
      s.Steady ∧
      p < 24 ∧
      s.dev.domOn (portDomain p) = true :=
  ⟨W.st [] (fun d => d.updSp 23 (fun x => { x with lines := [W.corr] })), 23, 9, by decide +kernel⟩

theorem witness_UncorrectableErrorsLoseTheirItem_2 : ∃ (s : State) (n : Nat) (x : Nat) (y : StallSt),
      s.Works pdHub ∧
      n < 512 ∧
      s.dev.stall? n = some y ∧
      x < y.queue.length :=
  ⟨W.st [] (fun d => d.updPub (fun z => { z with stalls := Tbl.put z.stalls 63 { StallSt.reset with queue := [W.item] } })), 63, 0, ({ StallSt.reset with queue := [W.item] } : StallSt), by decide +kernel⟩

theorem witness_UncorrectableErrorsLoseTheirItem_3 : ∃ (s : State) (c : Nat) (u : Nat) (x : Nat),
      s.Steady ∧
      s.dev.domOn (bufferDomain c u) = false :=
  ⟨W.st [(Obj.domState 4, .n 0)], 1, 23, 5, by decide +kernel⟩

theorem witness_UncorrectableErrorsLoseTheirItem_4 : ∃ (s : State) (p : Nat) (x : Nat),
      s.Steady ∧
      p < 24 ∧
      s.dev.domOn (portDomain p) = true :=
  ⟨W.st [], 23, 5, by decide +kernel⟩

theorem witness_UncorrectableErrorsLoseTheirItem_5 : ∃ (s : State) (e : Nat) (x : Nat),
      s.Steady ∧
      e < 14 ∧
      s.dev.domOn (engineDomain e) = true :=
  ⟨W.st [], 13, 5, by decide +kernel⟩

theorem witness_UncorrectableErrorsLoseTheirItem_6 : ∃ (s : State) (e : Nat) (x : Nat),
      s.Steady ∧
      e < 14 ∧
      s.dev.domOn (engineDomain e) = true ∧
      (s.dev.engine e).state = 1 :=
  ⟨W.st [] (fun d => d.updEngine 13 (fun x => { x with state := 1 })), 13, 5, by decide +kernel⟩

theorem witness_UncorrectableErrorsLoseTheirItem_7 : ∃ (s : State) (v : Nat) (px : Nat),
      s.Works pdHub ∧
      v < 4 :=
  ⟨W.st [], 3, 262143, by decide +kernel⟩

theorem witness_UncorrectableErrorsLoseTheirItem_8 : ∃ (s : State) (v : Nat) (serial : Nat),
      s.Works pdHub ∧
      v < 4 ∧
      (s.dev.sg v).blobs.any (fun b => b.serial == serial) = false :=
  ⟨W.st [], 3, 1, by decide +kernel⟩

theorem witness_UncorrectableErrorsLoseTheirItem_9 : ∃ (s : State) (v : Nat) (b : Blob),
      s.Works pdHub ∧
      v < 4 ∧
      (s.dev.sg v).blobs.find? (fun y => y.serial == b.serial) = some b :=
  ⟨W.st [] (fun d => d.updSg 3 (fun x => { x with blobs := [W.blob] })), 3, W.blob, by decide +kernel⟩

theorem witness_UncorrectableErrorsLoseTheirItem_10 : ∃ (s : State) (a : Nat) (k : Nat),
      s.Works pdHub ∧
      s.dev.domOn pdCls = true ∧
      a < 72 ∧
      (((s.dev.arr a).blames.filter (fun x => decide (s.dev.now ≤ x + s.dev.nat Obj.retireWindow * 1000))).length + 1 < s.dev.nat Obj.retireCount ∨
           (s.dev.arr a).state = 4) :=
  ⟨W.st [], 71, 3, by decide +kernel⟩

theorem witness_UncorrectableErrorsLoseTheirItem_11 : ∃ (s : State) (v : Nat) (seq : Nat),
      s.Works pdHub ∧
      s.dev.domOn pdCls = true ∧
      seq < 2 ^ 32 :=
  ⟨W.st [], 3, 4294967295, by decide +kernel⟩

theorem witness_UncorrectableErrorsLoseTheirItem_12 : ∃ (s : State) (x : Nat),
      s.Works pdHub ∧
      x ≠ 0 ∧
      x ≠ s.dev.nat Obj.logSeq + 1 :=
  ⟨W.st [], 7, by decide +kernel⟩

theorem witness_ResidueAndParityErrorsAreJudged_0 : ∃ (s : State) (b : Nat) (v : Nat),
      s.Works pdHub ∧
      v < 4 ∧
      (b = 4 ∨ b = 5) :=
  ⟨W.st [] (fun d => d.updFlt (fun f => { f with webPipe := [9999999999, 9999999998] })), 5, 3, by decide +kernel⟩

theorem witness_ResidueAndParityErrorsAreJudged_1 : ∃ (s : State) (e : Nat),
      s.Steady ∧
      e < 14 ∧
      s.dev.enginePowered e = true ∧
      (s.dev.engine e).state = 1 :=
  ⟨W.st [], 11, by decide +kernel⟩

theorem witness_ResidueAndParityErrorsAreJudged_2 : ∃ (s : State) (e : Nat) (c : Instr) (x : Nat),
      s.Steady ∧
      e < 14 ∧
      s.dev.domOn (engineDomain e) = true ∧
      (c = .residueError 3 e ∨ c = .uncorrectableError 3 e x) ∧
      ((s.dev.engine e).state = 2 ∨ (s.dev.engine e).state = 3) :=
  ⟨W.st [] (fun d => d.updEngine 13 (fun x => { x with state := 2 })), 13, .residueError 3 13, 0, by decide +kernel⟩

theorem witness_ResidueAndParityErrorsAreJudged_3 : ∃ (s : State) (e : Nat),
      s.Steady ∧
      e < 14 ∧
      (s.dev.enginePowered e = false ∨ (s.dev.engine e).state = 0 ∨ (s.dev.engine e).state = 4) :=
  ⟨W.st [] (fun d => d.updEngine 13 (fun x => { x with state := 4 })), 13, by decide +kernel⟩

theorem witness_ResidueAndParityErrorsAreJudged_4 : ∃ (s : State) (b : Nat) (u : Nat) (both : Bool),
      s.Works 0 :=
  ⟨W.st [], 3, 11, true, by decide +kernel⟩

theorem witness_EnginesAreRepairedAndRetired_0 : ∃ (s : State) (e : Nat) (r : Repair),
      s.Steady ∧
      e < 14 ∧
      s.dev.domOn (engineDomain e) = true ∧
      s.dev.eng.repairs = [r] ∧
      r.replacement = some e ∧
      r.acceptAt ≤ s.dev.now :=
  ⟨W.st [] (W.fix [W.repair]), 13, W.repair, by decide +kernel⟩

theorem witness_EnginesAreRepairedAndRetired_1 : ∃ (s : State) (e : Nat) (r : Repair) (rest : List Repair),
      s.Steady ∧
      e < 14 ∧
      s.dev.eng.repairs = r :: rest ∧
      (r.replacement ≠ some e ∨ s.dev.now < r.acceptAt) :=
  ⟨W.st [] (W.fix [W.repair]), 12, W.repair, [], by decide +kernel⟩

theorem witness_EnginesAreRepairedAndRetired_2 : ∃ (s : State) (ses : Nat) (e : Nat),
      s.Steady ∧
      e < 14 ∧
      s.MayWrite ses Obj.engineRetire (natLE 1 e) ∧
      (s.dev.engine e).state ≤ 4 :=
  ⟨W.st [], 0, 13, by decide +kernel⟩

theorem witness_EnginesAreRepairedAndRetired_3 : ∃ (s : State) (e : Nat) (x : Nat),
      s.Steady ∧
      e < 14 ∧
      x < 14 ∧
      s.dev.enginePowered e = true ∧
      s.dev.enginePowered x = true ∧
      (s.dev.engine e).state = 1 ∧
      (((s.dev.engine x).state = 2 ∧ (∀ k : Nat, k < x → s.dev.enginePowered k = true → (s.dev.engine k).state ≠ 2)) ∨
           ((s.dev.engine x).state = 3 ∧ (∀ k : Nat, k < 14 → s.dev.enginePowered k = true →
             (s.dev.engine k).state ≠ 2 ∧ (k < x → (s.dev.engine k).state ≠ 3)))) ∧
      s.dev.eng.repairs = [] ∧
      s.dev.portsOf e = [] :=
  ⟨W.st [] (fun d => (d.updEngine 13 (fun x => { x with state := 1 })).updEngine 0 (fun x => { x with state := 2 })), 13, 0, by decide +kernel, by decide, by decide, by decide +kernel, by decide +kernel, by decide +kernel, Or.inl (by decide +kernel), rfl, by decide +kernel⟩

theorem witness_EnginesAreRepairedAndRetired_4 : ∃ (s : State) (e : Nat) (p : Nat) (x : Nat),
      s.Steady ∧
      e < 14 ∧
      s.dev.enginePowered e = true ∧
      (s.dev.engine e).state = 1 ∧
      s.dev.replacementFor = some x ∧
      s.dev.eng.repairs = [] ∧
      s.dev.portsOf e = [p] ∧
      s.dev.nat (Obj.bindMode p) = 1 ∧
      14 ≤ s.dev.nat Obj.auditEngine ∧
      s.dev.eng.audit.ended = false ∧
      (s.dev.ep p).taken = [] ∧
      (s.dev.ep p).slots = [] ∧
      (s.dev.ep p).switches = [] ∧
      (∀ l ∈ (s.dev.ep p).queue, l.lix % 256 ≠ 255) :=
  ⟨W.st [(Obj.portEnable 23, .n 1), (Obj.bindMode 23, .n 1), (Obj.bindEngine 23, .n 11), (Obj.auditEngine, .n 255)] (fun d => ((d.updEngine 11 (fun x => { x with state := 1 })).updEngine 0 (fun x => { x with state := 2 })).updEp 23 (fun x => { x with queue := [W.raw] })), 11, 23, 0, by decide +kernel⟩

theorem witness_LateItemsAreDeadlineFaults_0 : ∃ (s : State) (v : Nat) (m : Nat),
      s.Works pdHub ∧
      v < 4 ∧
      m < 4 ∧
      ((s.dev.vw v).running = true ∨ s.dev.flag (Obj.viewEnable v) = true) ∧
      s.dev.dlExists v (max (s.dev.nat (Obj.viewFirstLix v)) ((s.dev.flt.dlNext.getD v []).getD m 0)) = true ∧
      s.dev.dlDone v m (max (s.dev.nat (Obj.viewFirstLix v)) ((s.dev.flt.dlNext.getD v []).getD m 0)) = false ∧
      s.dev.flt.dlLate.contains (v, m, max (s.dev.nat (Obj.viewFirstLix v)) ((s.dev.flt.dlNext.getD v []).getD m 0)) = false ∧
      s.dev.dlPassed v m (max (s.dev.nat (Obj.viewFirstLix v)) ((s.dev.flt.dlNext.getD v []).getD m 0)) = true ∧
      s.dev.dlExists v (max (s.dev.nat (Obj.viewFirstLix v)) ((s.dev.flt.dlNext.getD v []).getD m 0) + 1) = false ∧
      0 ≤ lixDiff (s.dev.curLix (s.dev.viewLcg v)) (max (s.dev.nat (Obj.viewFirstLix v)) ((s.dev.flt.dlNext.getD v []).getD m 0)) :=
  ⟨W.st [(Obj.nextLix 0, .n 10), (Obj.viewLcg 3, .n 0), (Obj.viewFirstLix 3, .n 9), (Obj.dlLines 3 2, .n 0), (Obj.dlFloor 3 2, .n 0)] (fun d => (d.updVw 3 (fun x => { x with running := true })).updSg 3 (fun x => { x with running := true })), 3, 2, by decide +kernel⟩

theorem witness_LateItemsAreDeadlineFaults_1 : ∃ (s : State) (v : Nat) (m : Nat),
      s.Works pdHub ∧
      v < 4 ∧
      m < 4 ∧
      ((s.dev.vw v).running = true ∨ s.dev.flag (Obj.viewEnable v) = true) ∧
      (s.dev.dlExists v (max (s.dev.nat (Obj.viewFirstLix v)) ((s.dev.flt.dlNext.getD v []).getD m 0)) = false ∨
           (s.dev.dlDone v m (max (s.dev.nat (Obj.viewFirstLix v)) ((s.dev.flt.dlNext.getD v []).getD m 0)) = false ∧ s.dev.flt.dlLate.contains (v, m, max (s.dev.nat (Obj.viewFirstLix v)) ((s.dev.flt.dlNext.getD v []).getD m 0)) = false ∧
             s.dev.dlPassed v m (max (s.dev.nat (Obj.viewFirstLix v)) ((s.dev.flt.dlNext.getD v []).getD m 0)) = false ∧
             s.dev.dlExists v (max (s.dev.nat (Obj.viewFirstLix v)) ((s.dev.flt.dlNext.getD v []).getD m 0) + 1) = false)) :=
  ⟨W.st [(Obj.viewEnable 3, .n 1)], 3, 3, by decide +kernel⟩

theorem witness_LateItemsAreDeadlineFaults_2 : ∃ (s : State) (v : Nat) (m : Nat),
      s.Works pdHub ∧
      v < 4 ∧
      m < 4 ∧
      ((s.dev.vw v).running = true ∨ s.dev.flag (Obj.viewEnable v) = true) :=
  ⟨W.st [(Obj.viewEnable 3, .n 1)], 3, 3, by decide +kernel⟩

theorem witness_PairRolesAreEnteredAndLeft_0 : ∃ (s : State) (ses : Nat),
      s.Calm ∧
      s.MayWrite ses Obj.pairEnable [1] ∧
      s.dev.flag Obj.pairEnable = false ∧
      s.dev.role = 0 :=
  ⟨W.st [] (W.calm id), 0, by decide +kernel⟩

theorem witness_PairRolesAreEnteredAndLeft_1 : ∃ (s : State) (ses : Nat),
      s.Calm ∧
      s.MayWrite ses Obj.pairEnable [0] ∧
      s.dev.flag Obj.pairEnable = true :=
  ⟨W.st [(Obj.pairRole, .n 5), (Obj.pairEnable, .n 1)] (W.calm (fun x => { x with act := true })), 0, by decide +kernel⟩

theorem witness_PairRolesAreEnteredAndLeft_2 : ∃ (s : State),
      s.Calm ∧
      s.dev.domOn pdHub = true ∧
      s.dev.role = 1 ∧
      s.dev.pair.peer = false ∧
      s.dev.nat Obj.pairPosition ≠ 1 :=
  ⟨W.st [(Obj.pairRole, .n 1), (Obj.pairEnable, .n 1), (Obj.pairPosition, .n 0)] (W.calm id), by decide +kernel⟩

theorem witness_PairRolesAreEnteredAndLeft_3 : ∃ (s : State),
      s.Calm ∧
      s.dev.domOn pdHub = true ∧
      (s.dev.role ≠ 1 ∨ s.dev.pair.peer = true) :=
  ⟨W.st [(Obj.pairRole, .n 1), (Obj.pairEnable, .n 1)] (W.calm (fun x => { x with peer := true })), by decide +kernel⟩

theorem witness_PairRolesAreEnteredAndLeft_4 : ∃ (s : State) (high : Bool) (u : Nat),
      s.Calm ∧
      s.dev.domOn pdHub = true ∧
      s.dev.pair.actAt = some u ∧
      (s.dev.role = 4 ∨ s.dev.role = 5) ∧
      u + 200 ≤ s.dev.now :=
  ⟨W.st [(Obj.pairRole, .n 5), (Obj.pairEnable, .n 1), (Obj.pairPosition, .n 1)] (W.calm (fun x => { x with act := true, actAt := some 9999999800 })), true, 9999999800, by decide +kernel⟩

theorem witness_PairRolesAreEnteredAndLeft_5 : ∃ (s : State) (ses : Nat),
      s.Calm ∧
      s.MayWrite ses Obj.pairSwitch [1] :=
  ⟨W.st [(Obj.pairRole, .n 4), (Obj.pairEnable, .n 1), (Obj.partnerRole, .n 3), (Obj.linkState, .n 2)] (W.calm (fun x => { x with act := true })), 0, by decide +kernel⟩

theorem witness_PairRolesAreEnteredAndLeft_6 : ∃ (s : State),
      s.Calm ∧
      s.dev.domOn pdPos = true ∧
      (s.dev.role = 4 ∨ s.dev.role = 5) ∧
      (s.dev.domOn pdHub = true ∨ s.dev.boot.restartFrom + 2000 ≤ s.dev.now) :=
  ⟨W.st [(Obj.pairRole, .n 5), (Obj.pairEnable, .n 1)] (W.calm (fun x => { x with act := true })), by decide +kernel⟩

theorem witness_TheLinkCarriesTheMirrorAndTheJoin_0 : ∃ (s : State),
      s.Calm ∧
      s.dev.domOn pdHub = true ∧
      s.dev.role ≠ 0 ∧
      s.dev.nat Obj.linkState = 2 :=
  ⟨W.st [(Obj.pairRole, .n 5), (Obj.pairEnable, .n 1), (Obj.linkState, .n 2)] (W.calm id), by decide +kernel⟩

theorem witness_TheLinkCarriesTheMirrorAndTheJoin_1 : ∃ (s : State) (i : MirrorItem),
      s.Calm ∧
      s.dev.domOn pdHub = true ∧
      s.dev.nat Obj.linkState ≠ 2 :=
  ⟨W.st [] (W.calm id), .badFrame, by decide +kernel⟩

theorem witness_TheLinkCarriesTheMirrorAndTheJoin_2 : ∃ (s : State),
      s.Calm ∧
      s.dev.domOn pdHub = true ∧
      s.dev.nat Obj.linkState = 2 :=
  ⟨W.st [(Obj.pairRole, .n 5), (Obj.pairEnable, .n 1), (Obj.linkState, .n 2)] (W.calm id), by decide +kernel⟩

theorem witness_TheLinkCarriesTheMirrorAndTheJoin_3 : ∃ (s : State) (c : Nat),
      s.Calm ∧
      s.dev.domOn pdHub = true ∧
      s.dev.nat Obj.linkState = 2 :=
  ⟨W.st [(Obj.pairRole, .n 3), (Obj.pairEnable, .n 1), (Obj.linkState, .n 2)] (W.calm id), 1, by decide +kernel⟩

theorem witness_TheLinkCarriesTheMirrorAndTheJoin_4 : ∃ (s : State) (x : Nat) (l : List Nat) (w : List (Nat × Nat × Nat)) (q : List (Nat × Nat × Nat)),
      s.Calm ∧
      s.dev.domOn pdHub = true ∧
      s.dev.nat Obj.linkState = 2 ∧
      s.dev.role = 5 :=
  ⟨W.st [(Obj.pairRole, .n 5), (Obj.pairEnable, .n 1), (Obj.linkState, .n 2)] (W.calm id), 0, [], [], [], by decide +kernel⟩

theorem witness_TheLinkCarriesTheMirrorAndTheJoin_5 : ∃ (s : State) (h : PartnerHello),
      s.Calm ∧
      s.dev.domOn pdHub = true ∧
      (s.dev.role = 0 ∨ s.dev.nat Obj.linkState = 2) :=
  ⟨W.st [] (W.calm id), W.hello, by decide +kernel⟩

theorem witness_TheLinkCarriesTheMirrorAndTheJoin_6 : ∃ (s : State) (h : PartnerHello),
      s.Calm ∧
      s.dev.domOn pdHub = true ∧
      s.dev.role = 1 ∧
      s.dev.nat Obj.linkState ≠ 2 ∧
      h.publicKey = s.dev.bytes Obj.pairPartnerKey ∧
      h.proofOk = true ∧
      h.partCode = (if s.dev.rb9212 = true then 0x9212 else 0x9224) ∧
      h.fwMajor = field (s.dev.nat Obj.fwVersionRun) 24 8 ∧
      h.linkVersion = Config.linkVersion ∧
      (h.role = 4 ∨ h.role = 5) ∧
      h.hasStandby = false :=
  ⟨W.st [(Obj.pairRole, .n 1), (Obj.pairEnable, .n 1), (Obj.pairPartnerKey, .b [1])] (W.calm id), W.hello, by (repeat' apply And.intro) <;> first | decide +kernel | rfl⟩

theorem witness_TheLinkCarriesTheMirrorAndTheJoin_7 : ∃ (s : State) (h : PartnerHello),
      s.Calm ∧
      s.dev.domOn pdHub = true ∧
      s.dev.role ≠ 0 ∧
      s.dev.role ≠ 1 ∧
      s.dev.nat Obj.linkState ≠ 2 ∧
      (h.publicKey ≠ s.dev.bytes Obj.pairPartnerKey ∨ h.proofOk = false) :=
  ⟨W.st [(Obj.pairRole, .n 5), (Obj.pairEnable, .n 1), (Obj.pairPartnerKey, .b [1])] (W.calm id), ({ W.hello with proofOk := false } : PartnerHello), by decide +kernel⟩

theorem witness_TheLinkCarriesTheMirrorAndTheJoin_8 : ∃ (s : State) (h : PartnerHello) (u : Nat),
      s.Calm ∧
      s.dev.domOn pdHub = true ∧
      s.dev.pair.retryAt = some u ∧
      s.dev.role = 1 ∧
      s.dev.nat Obj.linkState = 2 :=
  ⟨W.st [(Obj.pairRole, .n 1), (Obj.pairEnable, .n 1), (Obj.pairPartnerKey, .b [1]), (Obj.linkState, .n 2)] (W.calm (fun x => { x with retryAt := some 10000000000 })), W.hello, 10000000000, by decide +kernel⟩

theorem witness_TheLinkCarriesTheMirrorAndTheJoin_9 : ∃ (s : State) (v : Nat) (c : Captured),
      s.Calm ∧
      v < 4 ∧
      s.dev.domOn pdHub = true ∧
      s.dev.role = 2 ∧
      s.dev.pair.phase = 2 ∧
      s.dev.pair.installed.length = 4 ∧
      s.dev.pair.installed.getD v false = false ∧
      (s.dev.vw v).ready = [] :=
  ⟨W.st [(Obj.pairRole, .n 2), (Obj.pairEnable, .n 1), (Obj.linkState, .n 2)] (W.calm (fun x => { x with phase := 2 })), 3, (W.st []).dev.captureStitch 3, by decide +kernel⟩

theorem witness_TheLinkCarriesTheMirrorAndTheJoin_10 : ∃ (s : State),
      s.Calm ∧
      s.dev.domOn pdHub = true ∧
      s.dev.nat Obj.linkState ≠ 0 :=
  ⟨W.st [(Obj.pairRole, .n 2), (Obj.pairEnable, .n 1), (Obj.linkState, .n 2)] (W.calm id), by decide +kernel⟩

theorem witness_TheLinkCarriesTheMirrorAndTheJoin_11 : ∃ (s : State) (index : Nat) (sub : Nat) (off : Nat) (data : Bytes) (b : ObjBlock) (r : ObjRow) (v : Val),
      s.Follows ∧
      s.dev.findObject index sub = .ok (b, some r) ∧
      s.dev.newValue b (index - b.base) sub off r data = some v ∧
      localKey (256 * index + sub) = false ∧
      r.app = .staged :=
  by
  obtain ⟨⟨b, r⟩, h, hp⟩ := W.foundOk (W.follow.dev.findObject 0x3500 0x13) (fun e => e.2.any (fun (r : ObjRow) => decide (r.app = .staged) && (W.follow.dev.newValue e.1 (0x3500 - e.1.base) 0x13 0 r [1, 0]).isSome)) (by decide +kernel)
  obtain ⟨r, rfl, hr⟩ := W.found r _ hp
  simp only [Bool.and_eq_true, decide_eq_true_eq] at hr
  obtain ⟨v, hv⟩ := Option.isSome_iff_exists.mp hr.2
  exact ⟨W.follow, 0x3500, 0x13, 0, [1, 0], b, r, v, by decide +kernel, h, hv, by decide +kernel, hr.1⟩

theorem witness_TheLinkCarriesTheMirrorAndTheJoin_12 : ∃ (s : State) (index : Nat) (sub : Nat) (off : Nat) (data : Bytes) (b : ObjBlock) (r : ObjRow) (v : Val) (g : Nat) (n : Nat),
      s.Follows ∧
      s.dev.findObject index sub = .ok (b, some r) ∧
      s.dev.newValue b (index - b.base) sub off r data = some v ∧
      localKey (256 * index + sub) = false ∧
      r.app = .live ∧
      g < 4 ∧
      s.dev.blockGroup b.group (index - b.base) = g ∧
      ((b.base = 0x3500 ∨ b.base = 0x3C00) → r.sub ≠ 1) ∧
      s.dev.nat (Obj.nextLix g) ≤ n :=
  by
  obtain ⟨⟨b, r⟩, h, hp⟩ := W.foundOk (W.follow.dev.findObject 0x2101 0x13) (fun e => e.2.any (fun (r : ObjRow) => decide (r.app = .live) && decide (W.follow.dev.blockGroup e.1.group (0x2101 - e.1.base) = 1) && decide (e.1.base ≠ 0x3500 ∧ e.1.base ≠ 0x3C00) && (W.follow.dev.newValue e.1 (0x2101 - e.1.base) 0x13 0 r [20, 0]).isSome)) (by decide +kernel)
  obtain ⟨r, rfl, hr⟩ := W.found r _ hp
  simp only [Bool.and_eq_true, decide_eq_true_eq] at hr
  obtain ⟨v, hv⟩ := Option.isSome_iff_exists.mp hr.2
  exact ⟨W.follow, 0x2101, 0x13, 0, [20, 0], b, r, v, 1, 5, by decide +kernel, h, hv, by decide +kernel, hr.1.1.1, by decide, hr.1.1.2, fun x => absurd x (by simp [hr.1.2]), by decide +kernel⟩

theorem witness_TheLinkCarriesTheMirrorAndTheJoin_13 : ∃ (s : State) (x : Nat),
      s.Follows ∧
      s.dev.boot.recovery = false ∧
      0 < x ∧
      x < 256 :=
  ⟨W.follow, 255, by decide +kernel⟩

theorem witness_TheLinkCarriesTheMirrorAndTheJoin_14 : ∃ (s : State) (csn : Nat) (g : Nat) (n : Nat),
      s.Follows ∧
      g < 4 ∧
      s.dev.nat (Obj.nextLix g) ≤ n :=
  ⟨W.follow, 5, 3, 100, by decide +kernel⟩

theorem witness_TheLinkCarriesTheMirrorAndTheJoin_15 : ∃ (s : State) (g : Nat) (csn : Nat),
      s.Follows ∧
      g < 5 :=
  ⟨W.follow, 4, 0, by decide +kernel⟩

theorem witness_TheLinkCarriesTheMirrorAndTheJoin_16 : ∃ (s : State) (g : Nat) (h : Hit) (n : Nat),
      s.Follows ∧
      g < 4 ∧
      n < 2 ^ 64 ∧
      h.lix < 2 ^ 64 ∧
      s.dev.nat (Obj.nextLix g) < 2 ^ 64 ∧
      (s.dev.lcg g).hits.find? (fun k => k.pos == h.pos) = some h :=
  ⟨{ W.follow with dev := W.hitting W.follow.dev }, 0, { lix := 0, pos := 4, time := 1000, web := 0, late := false, step := 16, epoch := 0 }, 5, by decide +kernel⟩

theorem witness_TheLinkCarriesTheMirrorAndTheJoin_17 : ∃ (s : State) (g : Nat) (n : Nat) (pos : Int),
      s.Follows ∧
      g < 4 ∧
      (s.dev.lcg g).hits.find? (fun k => k.pos == pos) = none :=
  ⟨W.follow, 3, 5, 4, by decide +kernel⟩

theorem witness_TheLinkCarriesTheMirrorAndTheJoin_18 : ∃ (s : State) (p : Nat) (lix : Nat) (f : Nat),
      s.Follows ∧
      p < 24 :=
  ⟨W.follow, 23, 254, 5, by decide +kernel⟩

theorem witness_TheLinkCarriesTheMirrorAndTheJoin_19 : ∃ (s : State) (p : Nat) (issue : Nat) (n : Nat) (res : Nat),
      s.Follows ∧
      p < 24 :=
  ⟨W.follow, 23, 5, 9, 1, by decide +kernel⟩

theorem witness_TheLinkCarriesTheMirrorAndTheJoin_20 : ∃ (s : State) (slot : Nat) (c : Option SessionCopy),
      s.Follows :=
  ⟨W.follow, 3, none, by decide +kernel⟩

theorem witness_TheLinkCarriesTheMirrorAndTheJoin_21 : ∃ (s : State) (v : Nat) (seq : Nat) (bits : Nat),
      s.Follows ∧
      s.dev.role = 3 ∧
      seq < 2 ^ 32 :=
  ⟨W.follow, 3, 7, 9, by decide +kernel⟩

theorem witness_TheLinkCarriesTheMirrorAndTheJoin_22 : ∃ (s : State) (v : Nat) (k : Nat) (bytes : Bytes),
      s.Calm ∧
      s.dev.domOn pdHub = true ∧
      s.dev.nat Obj.linkState = 2 ∧
      (s.dev.role = 4 ∨ s.dev.role = 5) :=
  ⟨W.st [(Obj.pairRole, .n 4), (Obj.pairEnable, .n 1), (Obj.linkState, .n 2)] (W.calm id), 3, 9, [1], by decide +kernel⟩

theorem witness_TheLinkCarriesTheMirrorAndTheJoin_23 : ∃ (s : State) (fi : Int) (fa : Int) (cause : Nat) (web : Nat) (w : Nat),
      s.Follows ∧
      s.dev.domOn pdNet = true :=
  ⟨W.follow, -5, 7, 0, 9, 8, by decide +kernel⟩

theorem witness_AStandbyTakesOverAndComparesDigests_0 : ∃ (s : State),
      s.Calm ∧
      s.dev.domOn pdHub = true ∧
      s.dev.role = 3 ∧
      s.dev.pair.take = false :=
  ⟨W.st [(Obj.pairRole, .n 3), (Obj.pairEnable, .n 1), (Obj.linkState, .n 2), (Obj.hbTimeout, .n 10000)] (W.calm (fun x => { x with linkAt := 9999990000 })), by decide +kernel⟩

theorem witness_AStandbyTakesOverAndComparesDigests_1 : ∃ (s : State) (u : Nat),
      s.Calm ∧
      s.dev.domOn pdHub = true ∧
      s.dev.role = 3 ∧
      s.dev.pair.takeAt = some u ∧
      u + 1000 ≤ s.dev.now :=
  ⟨W.st [(Obj.pairRole, .n 3), (Obj.pairEnable, .n 1)] (W.calm (fun x => { x with takeAt := some 9999999000, take := true, peer := true })), 9999999000, by decide +kernel⟩

theorem witness_AStandbyTakesOverAndComparesDigests_2 : ∃ (s : State),
      s.Calm ∧
      s.dev.domOn 0 = true ∧
      s.dev.role = 3 :=
  ⟨W.st [(Obj.pairRole, .n 3), (Obj.pairEnable, .n 1)] (W.calm (fun x => { x with peer := true, yieldAt := some (9999999000, 0) })), by decide +kernel⟩

theorem witness_AStandbyTakesOverAndComparesDigests_3 : ∃ (s : State),
      s.Calm ∧
      s.dev.domOn 0 = true ∧
      s.dev.role ≠ 3 :=
  ⟨W.st [(Obj.pairRole, .n 1), (Obj.pairEnable, .n 1)] (W.calm (fun x => { x with peer := true })), by decide +kernel⟩

theorem witness_AStandbyTakesOverAndComparesDigests_4 : ∃ (s : State),
      s.Calm ∧
      s.dev.domOn pdHub = true ∧
      (s.dev.pair.gap = none ∨ s.dev.gapEnd.any (fun e => decide (s.dev.now < e)) = true) :=
  ⟨W.st [(Obj.pairRole, .n 5), (Obj.pairEnable, .n 1)] (W.calm (fun x => { x with gap := some (0, true), actAt := some 9999999951 })), by decide +kernel⟩

theorem witness_AStandbyTakesOverAndComparesDigests_5 : ∃ (s : State) (p : Nat) (lix : Nat) (f : Nat) (b : Bool) (u : Nat) (a : Nat),
      s.Calm ∧
      s.dev.domOn pdHub = true ∧
      s.dev.pair.gap = some (a, true) ∧
      s.dev.pair.actAt = some u ∧
      u + 50 ≤ s.dev.now ∧
      s.dev.pair.fires = [(p, lix, f, b)] ∧
      a ≤ f ∧
      f ≤ u + 50 ∧
      p < 24 :=
  ⟨W.st [(Obj.pairRole, .n 5), (Obj.pairEnable, .n 1)] (W.calm (fun x => { x with gap := some (9999999900, true), actAt := some 9999999950, fires := [(23, 3, 9999999900, false)] })), 23, 3, 9999999900, false, 9999999950, 9999999900, by decide +kernel⟩

theorem witness_AStandbyTakesOverAndComparesDigests_6 : ∃ (s : State),
      s.Calm ∧
      s.dev.domOn pdHub = true ∧
      (s.dev.pair.hold = false ∨ s.dev.standby = true) :=
  ⟨W.st [(Obj.pairRole, .n 5), (Obj.pairEnable, .n 1)] (W.calm id), by decide +kernel⟩

theorem witness_AStandbyTakesOverAndComparesDigests_7 : ∃ (s : State),
      s.Calm ∧
      s.dev.domOn pdHub = true ∧
      s.dev.pair.hold = true ∧
      s.dev.standby = false :=
  ⟨W.st [(Obj.pairRole, .n 5), (Obj.pairEnable, .n 1)] (W.calm (fun x => { x with hold := true })), by decide +kernel⟩

theorem witness_AStandbyTakesOverAndComparesDigests_8 : ∃ (s : State) (v : Nat) (k : Nat) (e : DigestPair) (own : Bytes) (his : Bytes),
      s.Calm ∧
      v < 4 ∧
      s.dev.domOn pdHub = true ∧
      s.dev.pair.digests.find? (fun e => e.view == v && e.strip == k) = some e ∧
      e.own = some own ∧
      e.partner = some his ∧
      digestBody own = digestBody his :=
  ⟨W.st [(Obj.pairRole, .n 3), (Obj.pairEnable, .n 1)] (W.calm (fun x => { x with digests := [({ view := 3, strip := 6, own := some (List.replicate 64 1), partner := some (List.replicate 64 1) } : DigestPair)] })), 3, 6, ({ view := 3, strip := 6, own := some (List.replicate 64 1), partner := some (List.replicate 64 1) } : DigestPair), List.replicate 64 1, List.replicate 64 1, by decide +kernel⟩

theorem witness_AStandbyTakesOverAndComparesDigests_9 : ∃ (s : State) (v : Nat) (k : Nat) (e : DigestPair) (own : Bytes) (his : Bytes),
      s.Calm ∧
      v < 4 ∧
      s.dev.domOn pdHub = true ∧
      s.dev.pair.digests.find? (fun e => e.view == v && e.strip == k) = some e ∧
      e.own = some own ∧
      e.partner = some his ∧
      slice own 16 8 ≠ slice his 16 8 ∧
      digestBody own ≠ digestBody his :=
  ⟨W.st [(Obj.pairRole, .n 3), (Obj.pairEnable, .n 1)] (W.calm (fun x => { x with digests := [({ view := 3, strip := 6, own := some (List.replicate 64 1), partner := some (List.replicate 64 2) } : DigestPair)] })), 3, 6, ({ view := 3, strip := 6, own := some (List.replicate 64 1), partner := some (List.replicate 64 2) } : DigestPair), List.replicate 64 1, List.replicate 64 2, by decide +kernel⟩

theorem witness_MemoryRefreshesServesAndClosesPages_0 : ∃ (s : State) (n : Nat) (b : Nat),
      s.Steady ∧
      n < 64 ∧
      b < 48 ∧
      s.dev.domOn (if n < 32 then 7 else 8) = true ∧
      (s.dev.pcState n = 2 ∨ s.dev.pcState n = 3) :=
  ⟨W.st [(Obj.pcState 63, .n 2), (Obj.pcClass 63, .n 0)] (fun d => d.updPc 63 (fun x => x.setBank 47 { debt := 8, row := none, last := 0, busy := 0 })), 63, 47, by decide +kernel⟩

theorem witness_MemoryRefreshesServesAndClosesPages_1 : ∃ (s : State) (n : Nat),
      s.Steady ∧
      n < 64 ∧
      s.dev.domOn (if n < 32 then 7 else 8) = true ∧
      s.dev.takesSlots n = true ∧
      s.dev.realTime n = false ∧
      (s.dev.pc n).busy ≤ s.dev.now ∧
      1 ≤ (s.dev.pc n).debt ∧
      (8 ≤ (s.dev.pc n).debt ∨ (∀ q ∈ (s.dev.pc n).queue, s.dev.urgency q < 2)) :=
  ⟨W.st [(Obj.pcState 63, .n 2), (Obj.pcClass 63, .n 1)] (fun d => d.updPc 63 (fun x => { x with debt := 8 })), 63, by decide +kernel⟩

theorem witness_MemoryRefreshesServesAndClosesPages_2 : ∃ (s : State) (n : Nat) (b : Nat),
      s.Steady ∧
      n < 64 ∧
      b < 48 ∧
      s.dev.domOn (if n < 32 then 7 else 8) = true ∧
      s.dev.takesSlots n = true ∧
      s.dev.realTime n = true ∧
      8 ≤ ((s.dev.pc n).bank b).debt ∧
      ((s.dev.pc n).bank b).busy ≤ s.dev.now ∧
      (∀ k : Nat, k < b → ((s.dev.pc n).bank k).debt < 8 ∨ s.dev.now < ((s.dev.pc n).bank k).busy) :=
  ⟨W.st [(Obj.pcState 63, .n 2), (Obj.pcClass 63, .n 0)] (fun d => d.updPc 63 (fun x => x.setBank 47 { debt := 8, row := some 3, last := 0, busy := 0 })), 63, 47, by decide +kernel⟩

theorem witness_MemoryRefreshesServesAndClosesPages_3 : ∃ (s : State) (n : Nat) (q : MemReq),
      s.Steady ∧
      n < 64 ∧
      s.dev.domOn (if n < 32 then 7 else 8) = true ∧
      s.dev.takesSlots n = true ∧
      (if s.dev.realTime n = true then ∀ b : Nat, b < 48 → ((s.dev.pc n).bank b).debt < 8 ∨ s.dev.now < ((s.dev.pc n).bank b).busy
          else (s.dev.pc n).debt < 8 ∧ s.dev.bulkRefreshes (s.dev.pc n) = false) ∧
      s.dev.chooseReq (s.dev.pc n) ((s.dev.pc n).ready s.dev.now) = some q ∧
      q.port < 12 :=
  ⟨W.st [(Obj.pcState 63, .n 2), (Obj.pcClass 63, .n 1)] (fun d => d.updPc 63 (fun x => { x with debt := 7, queue := [({ port := 11, offset := 49151, arrival := 5, write := false } : MemReq)] })), 63, ({ port := 11, offset := 49151, arrival := 5, write := false } : MemReq), by decide +kernel⟩

theorem witness_MemoryRefreshesServesAndClosesPages_4 : ∃ (s : State) (n : Nat),
      s.Steady ∧
      n < 64 ∧
      s.dev.domOn (if n < 32 then 7 else 8) = true ∧
      s.dev.takesSlots n = true ∧
      s.dev.realTime n = true ∧
      (∀ b : Nat, b < 48 → ((s.dev.pc n).bank b).debt < 8 ∨ s.dev.now < ((s.dev.pc n).bank b).busy) ∧
      (s.dev.pc n).ready s.dev.now = [] :=
  ⟨W.st [(Obj.pcState 63, .n 2), (Obj.pcClass 63, .n 0)] (fun d => d.updPc 63 (fun x => x.setBank 47 { debt := 7, row := none, last := 0, busy := 0 })), 63, by decide +kernel⟩

theorem witness_MemoryRefreshesServesAndClosesPages_5 : ∃ (s : State) (n : Nat),
      s.Steady ∧
      n < 64 ∧
      s.dev.domOn (if n < 32 then 7 else 8) = true ∧
      (s.dev.takesSlots n = false ∨ (s.dev.realTime n = false ∧
           (s.dev.now < (s.dev.pc n).busy ∨ ((s.dev.pc n).debt < 8 ∧ s.dev.bulkRefreshes (s.dev.pc n) = false ∧ (s.dev.pc n).ready s.dev.now = [])))) :=
  ⟨W.st [(Obj.pcState 63, .n 1)], 63, by decide +kernel⟩

theorem witness_MemoryRefreshesServesAndClosesPages_6 : ∃ (s : State) (n : Nat) (b : Nat) (r : Nat),
      s.Steady ∧
      n < 64 ∧
      b < 48 ∧
      s.dev.domOn (if n < 32 then 7 else 8) = true ∧
      ((s.dev.pc n).bank b).row = some r :=
  ⟨W.st [(Obj.pcState 63, .n 2), (Obj.pcClass 63, .n 1)] (fun d => d.updPc 63 (fun x => x.setBank 47 { debt := 0, row := some 3, last := 0, busy := 0 })), 63, 47, 3, by decide +kernel⟩

theorem witness_MemoryRefreshesServesAndClosesPages_7 : ∃ (s : State) (k : Nat) (x : Int),
      s.Steady ∧
      k < 2 ∧
      s.dev.domOn (7 + k) = true :=
  ⟨W.st [], 1, 851, by decide +kernel⟩

theorem witness_PseudoChannelsTrainAndAreFenced_0 : ∃ (s : State) (k : Nat) (ms : List (Nat × Nat)),
      s.Works pdHub ∧
      k < 2 ∧
      (∃ n ∈ List.range 64, stackOf n = k ∧ s.dev.pcState n = 1) ∧
      (∀ n ∈ List.range 32, s.dev.marginOk (ms.getD n (0, 0)).1 (ms.getD n (0, 0)).2 = true) :=
  ⟨W.st [(Obj.pcState 63, .n 1), (Obj.pcClass 63, .n 1), (Obj.minMargin, .n 200)], 1, List.replicate 32 (200, 200), by decide +kernel⟩

theorem witness_PseudoChannelsTrainAndAreFenced_1 : ∃ (s : State) (n : Nat),
      s.Steady ∧
      n < 64 ∧
      s.dev.domOn (if n < 32 then 7 else 8) = true :=
  ⟨W.st [(Obj.pcState 63, .n 2), (Obj.pcClass 63, .n 1)] (fun d => d.updPc 63 (fun x => { x with want := true })), 63, by decide +kernel⟩

theorem witness_PseudoChannelsTrainAndAreFenced_2 : ∃ (s : State) (n : Nat) (h : Nat) (v : Nat),
      s.Steady ∧
      n < 64 ∧
      s.dev.domOn (if n < 32 then 7 else 8) = true ∧
      s.dev.pcState n = 3 ∧
      s.dev.realTime n = false ∧
      (s.dev.pc n).debt < 6 ∧
      ((s.dev.pc n).steps = 0 ∨ (s.dev.pc n).stepAt + 10000 ≤ s.dev.now) :=
  ⟨W.st [(Obj.pcState 63, .n 3), (Obj.pcClass 63, .n 1)] (fun d => d.updPc 63 (fun x => { x with debt := 5, steps := 62, stepAt := 9999990000 })), 63, 0, 0, by decide +kernel⟩

theorem witness_PseudoChannelsTrainAndAreFenced_3 : ∃ (s : State) (n : Nat),
      s.Steady ∧
      n < 64 ∧
      s.dev.domOn (if n < 32 then 7 else 8) = true ∧
      s.dev.pcState n = 2 :=
  ⟨W.st [(Obj.pcState 63, .n 2), (Obj.pcClass 63, .n 1)], 63, by decide +kernel⟩

theorem witness_PseudoChannelsTrainAndAreFenced_4 : ∃ (s : State) (n : Nat) (off : Nat),
      s.Steady ∧
      n < 64 ∧
      off < pcBytes ∧
      s.dev.domOn (if n < 32 then 7 else 8) = true ∧
      (s.dev.pcState n = 2 ∨ s.dev.pcState n = 3) :=
  ⟨W.st [(Obj.pcState 63, .n 3), (Obj.pcClass 63, .n 1)], 63, pcBytes - 1, by decide +kernel⟩

theorem witness_PseudoChannelsTrainAndAreFenced_5 : ∃ (s : State) (n : Nat) (off : Nat),
      s.Steady ∧
      n < 64 ∧
      off < pcBytes ∧
      s.dev.domOn (if n < 32 then 7 else 8) = true ∧
      (s.dev.pcState n = 2 ∨ s.dev.pcState n = 3) ∧
      (s.dev.pc n).retrained = none :=
  ⟨W.st [(Obj.pcState 63, .n 2), (Obj.pcClass 63, .n 1)], 63, pcBytes - 1, by decide +kernel⟩

theorem witness_PseudoChannelsTrainAndAreFenced_6 : ∃ (s : State) (ses : Nat) (n : Nat),
      s.Steady ∧
      n < 64 ∧
      s.MayWrite ses (Obj.pcFence n) [1] :=
  ⟨W.st ((List.range 32).flatMap (fun k => [(Obj.pcState (32 + k), .n 2), (Obj.pcClass (32 + k), .n 1)])), 0, 63, by decide +kernel⟩

theorem witness_PortsAndClocksFollowTheNetwork_0 : ∃ (s : State) (q : Nat) (f : EthFrame),
      s.Steady ∧
      q < 6 ∧
      s.dev.portUp q = true ∧
      (match f.kind with | .tol u => decide (u ≠ s.dev.nat Obj.udpPort) | _ => true) = true ∧
      s.dev.net.tx.getD q [] = [] :=
  ⟨W.st [(Obj.netEnable 5, .n 1), (Obj.linkUp 5, .n 1), (Obj.vlanId 5, .n 0)], 5, W.ethernet, by decide +kernel⟩

theorem witness_PortsAndClocksFollowTheNetwork_1 : ∃ (s : State) (q : Nat) (up : Bool),
      s.Steady ∧
      q < 6 :=
  ⟨W.st [(Obj.netEnable 5, .n 1), (Obj.linkUp 5, .n 1)], 5, false, by decide +kernel⟩

theorem witness_PortsAndClocksFollowTheNetwork_2 : ∃ (s : State) (k : Nat) (q : Nat) (h : PtpHead) (frac : Nat) (m : Bytes) (t1 : Int) (cs : Int) (li : Int),
      s.Steady ∧
      k < 2 ∧
      q < 6 ∧
      s.dev.vlanOk q h.vlan = true ∧
      s.dev.domainFor q h.transport h.number = some k ∧
      (s.dev.dom k).chosen = some m ∧
      -7 ≤ li ∧
      li ≤ 4 ∧
      (s.dev.dom k).lastSync.all (fun u => decide (u + 7800000 ≤ s.dev.now)) = true ∧
      (s.dev.delays k q = [] ∨ s.dev.nat Obj.selectedDomain ≠ k) :=
  ⟨W.st (W.ptp ++ [(Obj.delayMech 1, .n 0)]) (fun d => d.updDom 1 (fun x => { x with chosen := some [1] })), 1, 5, W.head, 0, [1], 0, 100000, 4, by decide +kernel⟩

theorem witness_PortsAndClocksFollowTheNetwork_3 : ∃ (s : State) (k : Nat) (q : Nat) (h : PtpHead) (frac : Nat) (m : Bytes) (t1 : Int) (cs : Int) (li : Int),
      s.Steady ∧
      k < 2 ∧
      q < 6 ∧
      s.dev.vlanOk q h.vlan = true ∧
      s.dev.domainFor q h.transport h.number = some k ∧
      (s.dev.dom k).chosen = some m ∧
      -7 ≤ li ∧
      li ≤ 4 ∧
      (s.dev.dom k).lastSync.all (fun u => decide (u + 7800000 ≤ s.dev.now)) = true ∧
      s.dev.delays k q ≠ [] ∧
      s.dev.nat Obj.selectedDomain = k ∧
      s.dev.nat Obj.servoState = 0 ∧
      s.dev.pub.launch.all (fun q => q.isEmpty) = true :=
  ⟨W.st (W.ptp ++ [(Obj.delayMech 1, .n 0), (Obj.selectedDomain, .n 1)]) (fun d => d.updDom 1 (fun x => { x with chosen := some [1], mpds := [8] })), 1, 5, W.head, 0, [1], 0, 100000, 4, by decide +kernel⟩

theorem witness_PortsAndClocksFollowTheNetwork_4 : ∃ (s : State) (k : Nat) (q : Nat) (h : PtpHead) (frac : Nat) (m : Bytes) (t1 : Int) (cs : Int) (li : Int) (st : Nat),
      s.Steady ∧
      k < 2 ∧
      q < 6 ∧
      s.dev.vlanOk q h.vlan = true ∧
      s.dev.domainFor q h.transport h.number = some k ∧
      (s.dev.dom k).chosen = some m ∧
      -7 ≤ li ∧
      li ≤ 4 ∧
      (s.dev.dom k).lastSync.all (fun u => decide (u + 7800000 ≤ s.dev.now)) = true ∧
      s.dev.delays k q ≠ [] ∧
      s.dev.nat Obj.selectedDomain = k ∧
      s.dev.nat Obj.servoState = st ∧
      (st = 1 ∨ st = 2 ∨ st = 3) ∧
      s.dev.pub.launch.all (fun q => q.isEmpty) = true :=
  ⟨W.st (W.ptp ++ [(Obj.delayMech 1, .n 0), (Obj.selectedDomain, .n 1), (Obj.servoState, .n 2)]) (fun d => d.updDom 1 (fun x => { x with chosen := some [1], mpds := [8] })), 1, 5, W.head, 0, [1], 0, 100000, 4, 2, by decide +kernel⟩

theorem witness_PortsAndClocksFollowTheNetwork_5 : ∃ (s : State) (k : Nat) (q : Nat) (h : PtpHead) (frac : Nat) (m : Bytes) (t4 : Int) (cs : Int) (t3 : Int) (fwd : Int),
      s.Steady ∧
      k < 2 ∧
      q < 6 ∧
      s.dev.vlanOk q h.vlan = true ∧
      s.dev.domainFor q h.transport h.number = some k ∧
      s.dev.nat (Obj.delayMech k) = 0 ∧
      (s.dev.dom k).fwd = some fwd ∧
      (s.dev.dom k).chosen = some m ∧
      Tbl.get? (s.dev.dom k).sent q = some t3 :=
  ⟨W.st (W.ptp ++ [(Obj.delayMech 1, .n 0)]) (fun d => d.updDom 1 (fun x => { x with chosen := some [1], fwd := some 7, sent := [(5, 70000)] })), 1, 5, W.head, 0, [1], 70100, 12, 70000, 7, by decide +kernel⟩

theorem witness_PortsAndClocksFollowTheNetwork_6 : ∃ (s : State) (k : Nat) (q : Nat) (h : PtpHead) (frac : Nat) (m : Bytes) (ta : Int) (cs : Int) (t3 : Int),
      s.Steady ∧
      k < 2 ∧
      q < 6 ∧
      s.dev.vlanOk q h.vlan = true ∧
      s.dev.domainFor q h.transport h.number = some k ∧
      s.dev.nat (Obj.delayMech k) = 1 ∧
      Tbl.get? (s.dev.dom k).sent q = some t3 :=
  ⟨W.st (W.ptp ++ [(Obj.delayMech 1, .n 1)]) (fun d => d.updDom 1 (fun x => { x with sent := [(5, 70000)] })), 1, 5, W.head, 0, [2], 100, 0, 70000, by decide +kernel⟩

theorem witness_PortsAndClocksFollowTheNetwork_7 : ∃ (s : State) (a : AnnounceMsg) (k : Nat),
      s.Steady ∧
      a.port < 6 ∧
      k < 2 ∧
      s.dev.domainFor a.port a.head.transport a.head.number = (if s.dev.domainHears k a.port = true then some k else none) :=
  ⟨W.st W.ptp, W.announce, 1, by decide +kernel⟩

theorem witness_PortsAndClocksFollowTheNetwork_8 : ∃ (s : State) (k : Nat) (q : Nat),
      s.Steady ∧
      k < 2 ∧
      q < 6 ∧
      s.dev.net.tx.getD q [] = [] :=
  ⟨W.st [(Obj.netEnable 5, .n 1), (Obj.linkUp 5, .n 1), (Obj.domainEnable 1, .n 1), (Obj.domainPorts 1, .n 63), (Obj.delayMech 1, .n 0)] (fun d => d.updDom 1 (fun x => { x with chosen := some [1] })), 1, 5, by decide +kernel⟩

theorem witness_PortsAndClocksFollowTheNetwork_9 : ∃ (s : State) (k : Nat) (u : Nat),
      s.Steady ∧
      k < 2 ∧
      (s.dev.dom k).lastSync.getD (s.dev.dom k).chosenAt = u ∧
      (s.dev.dom k).masters.all (s.dev.heard k) = true ∧
      (s.dev.dom k).chosen.all (fun m => (s.dev.dom k).masters.any (fun e => e.msg.master == m)) = true :=
  ⟨W.st [(Obj.netEnable 5, .n 1), (Obj.linkUp 5, .n 1), (Obj.domainEnable 1, .n 1), (Obj.domainPorts 1, .n 63), (Obj.delayMech 1, .n 0), (Obj.autoSwitch, .n 0), (Obj.domainState 1, .n 2)] (fun d => d.updDom 1 (fun x => { x with lastSync := some 6000000000 })), 1, 6000000000, by decide +kernel⟩

theorem witness_PortsAndClocksFollowTheNetwork_10 : ∃ (s : State) (u : Nat),
      s.Works pdNet ∧
      max s.dev.net.fedFrom ((s.dev.dom (s.dev.nat Obj.selectedDomain)).lastTheta.getD 0) = u ∧
      s.dev.nat Obj.selectedDomain < 2 :=
  ⟨W.st [(Obj.servoState, .n 2)] (fun d => d.updDom 0 (fun x => { x with lastTheta := some 6000000000 })), 6000000000, by decide +kernel⟩

theorem witness_PortsAndClocksFollowTheNetwork_11 : ∃ (s : State) (u : Nat),
      s.Works pdNet ∧
      s.dev.net.holdSince = some u :=
  ⟨W.st [(Obj.servoState, .n 3), (Obj.holdoverLimit, .n 9)] (fun d => d.updNet (fun x => { x with holdSince := some 1000000000 })), 1000000000, by decide +kernel⟩

theorem witness_PortsAndClocksFollowTheNetwork_12 : ∃ (s : State) (ses : Nat) (ns : Int),
      s.Steady ∧
      -(2 ^ 63) ≤ ns ∧
      ns < 2 ^ 63 ∧
      s.MayWrite ses Obj.timeStep (natLE 8 (ofSigned 64 ns)) :=
  ⟨W.st [(Obj.servoState, .n 2)], 0, -(2 ^ 63), by decide +kernel⟩

theorem witness_PortsAndClocksFollowTheNetwork_13 : ∃ (s : State) (ses : Nat) (k : Nat),
      s.Steady ∧
      k < 256 ∧
      s.MayWrite ses Obj.selectedDomain [BitVec.ofNat 8 k] :=
  ⟨W.st [(Obj.domainState 1, .n 2)], 0, 1, by decide +kernel⟩

theorem witness_PortsAndClocksFollowTheNetwork_14 : ∃ (s : State) (q : Nat) (left : Nat) (due : Nat),
      s.Steady ∧
      q < 6 ∧
      s.dev.net.arp.find? (fun e => e.1 == q) = some (q, left, due) ∧
      s.dev.net.tx.getD q [] = [] :=
  ⟨W.st [(Obj.netEnable 5, .n 1), (Obj.linkUp 5, .n 1)] (fun d => d.updNet (fun x => { x with arp := [(5, 1, 10000000000)] })), 5, 1, 10000000000, by decide +kernel⟩

theorem witness_ChannelsStartFetchMoveAndEnd_0 : ∃ (s : State) (ses : Nat) (c : Nat),
      s.Steady ∧
      c < 64 ∧
      s.MayWrite ses (Obj.chanStart c) [1] :=
  ⟨W.st [(Obj.chanDescAddr 63, .n 64)], 0, 63, by decide +kernel⟩

theorem witness_ChannelsStartFetchMoveAndEnd_1 : ∃ (s : State) (ses : Nat) (c : Nat),
      s.Steady ∧
      c < 64 ∧
      s.MayWrite ses (Obj.chanKick c) [1] :=
  ⟨W.st [(Obj.chanState 63, .n 2)] (W.chan (fun x => { x with kick := false })), 0, 63, by decide +kernel⟩

theorem witness_ChannelsStartFetchMoveAndEnd_2 : ∃ (s : State) (ses : Nat) (c : Nat),
      s.Steady ∧
      c < 64 ∧
      s.MayWrite ses (Obj.chanAbort c) [1] :=
  ⟨W.st [(Obj.chanState 63, .n 1)] (W.chan (fun x => { x with cur := some (W.desc 0), started := true })), 0, 63, by decide +kernel⟩

theorem witness_ChannelsStartFetchMoveAndEnd_3 : ∃ (s : State) (ses : Nat) (c : Nat) (x : Nat),
      s.Steady ∧
      c < 64 ∧
      x < 256 ∧
      s.MayWrite ses (Obj.chanIrqAck c) [BitVec.ofNat 8 x] :=
  ⟨W.st [(Obj.chanIrqCause 63, .n 9)], 0, 63, 15, by decide +kernel⟩

theorem witness_ChannelsStartFetchMoveAndEnd_4 : ∃ (s : State) (ses : Nat) (c : Nat),
      s.Steady ∧
      c < 64 ∧
      s.MayWrite ses (Obj.eocAck c) [1] :=
  ⟨W.st [(Obj.eocFlag 63, .n 1), (Obj.chanIrqCause 63, .n 9)], 0, 63, by decide +kernel⟩

theorem witness_ChannelsStartFetchMoveAndEnd_5 : ∃ (s : State) (c : Nat) (ok : Bool) (data : Bytes),
      s.Works pdHub ∧
      c < 64 ∧
      (s.dev.chanState c ≠ 1 ∨ (s.dev.chan c).fetching = false ∨ (s.dev.chan c).drain ≠ []) :=
  ⟨W.st [(Obj.chanState 63, .n 2)] (W.chan (fun x => { x with fetching := true })), 63, true, List.replicate 70 7, by decide +kernel⟩

theorem witness_ChannelsStartFetchMoveAndEnd_6 : ∃ (s : State) (c : Nat) (ok : Bool) (data : Bytes),
      s.Works pdHub ∧
      c < 64 ∧
      s.dev.chanState c = 1 ∧
      (s.dev.chan c).fetching = true ∧
      (s.dev.chan c).drain = [] ∧
      (s.dev.chan c).next.2 = false ∧
      s.dev.domOn pdPcie = true ∧
      s.dev.nat (Obj.paceEvent c) = 0 :=
  ⟨W.st [(Obj.chanState 63, .n 1), (Obj.paceEvent 63, .n 0)] (W.chan (fun x => { x with fetching := true, next := (64, false) })), 63, true, List.replicate 70 7, by decide +kernel⟩

theorem witness_ChannelsStartFetchMoveAndEnd_7 : ∃ (s : State) (c : Nat) (ok : Bool) (bad : Bool) (data : Bytes),
      s.Works pdHub ∧
      c < 64 ∧
      ((s.dev.chan c).cur = none ∨ s.dev.chanState c ≠ 1 ∧ (s.dev.chan c).started = true ∨ (s.dev.chan c).stop.isSome = true) :=
  ⟨W.st [(Obj.chanState 63, .n 1)] (W.chan (fun x => { x with cur := some (W.desc 0), started := true, stop := some 0 })), 63, true, false, List.replicate 70 7, by decide +kernel⟩

theorem witness_ChannelsStartFetchMoveAndEnd_8 : ∃ (s : State) (c : Nat) (bad : Bool) (data : Bytes) (q : Desc),
      s.Works pdHub ∧
      c < 64 ∧
      s.dev.chanState c = 1 ∧
      (s.dev.chan c).cur = some q ∧
      (s.dev.chan c).started = true ∧
      (s.dev.chan c).stop = none ∧
      (s.dev.chan c).drain = [] ∧
      q.op = 0 ∧
      s.dev.burstTurn c = true ∧
      q.srcHbm = false ∧
      q.dstHbm = false ∧
      q.pattern = 0 ∧
      q.rows = 1 ∧
      (s.dev.chan c).row = 0 ∧
      (s.dev.chan c).off < q.rowBytes ∧
      s.dev.nat (Obj.chanRateLimit c) = 0 ∧
      q.rowBytes ≤ (s.dev.chan c).off + data.length :=
  ⟨W.st [(Obj.chanState 63, .n 1), (Obj.chanRateLimit 63, .n 0)] (W.chan (fun x => { x with cur := some (W.desc 0), started := true, off := 19 })), 63, false, List.replicate 70 7, W.desc 0, by decide +kernel⟩

theorem witness_ChannelsStartFetchMoveAndEnd_9 : ∃ (s : State) (c : Nat) (bad : Bool) (data : Bytes) (q : Desc),
      s.Works pdHub ∧
      c < 64 ∧
      s.dev.chanState c = 1 ∧
      (s.dev.chan c).cur = some q ∧
      (s.dev.chan c).started = true ∧
      (s.dev.chan c).stop = none ∧
      (s.dev.chan c).drain = [] ∧
      q.op = 0 ∧
      s.dev.burstTurn c = true ∧
      (if q.pattern = 2 then (s.dev.chan c).table.any (fun l => match l with
             | e :: _ => decide (e.2.2 = 0 ∧ (s.dev.chan c).off < e.2.1)
             | [] => false) = true
           else (s.dev.chan c).row < q.rows ∧ (s.dev.chan c).off < q.rowBytes) ∧
      s.dev.nat (Obj.chanRateLimit c) = 0 ∧
      256 ≤ data.length ∧
      Memory.wf s.dev.hbm = true :=
  ⟨W.st [(Obj.chanState 63, .n 1), (Obj.chanRateLimit 63, .n 0)] (W.chan (fun x => { x with cur := some (W.desc 0), started := true, off := 19 })), 63, false, List.replicate 256 7, W.desc 0, by decide +kernel⟩

theorem witness_ChannelsStartFetchMoveAndEnd_10 : ∃ (s : State) (c : Nat) (data : Bytes) (q : Desc),
      s.Works pdHub ∧
      c < 64 ∧
      s.dev.chanState c = 1 ∧
      (s.dev.chan c).cur = some q ∧
      (s.dev.chan c).started = true ∧
      (s.dev.chan c).stop = none ∧
      (s.dev.chan c).drain = [] ∧
      q.op = 1 ∧
      s.dev.burstTurn c = true ∧
      q.engine < 4 ∧
      q.srcHbm = false ∧
      q.dstHbm = false ∧
      q.pattern = 0 ∧
      q.rows = 1 ∧
      (s.dev.chan c).row = 0 ∧
      (s.dev.chan c).off < q.rowBytes ∧
      s.dev.nat (Obj.chanRateLimit c) = 0 ∧
      0 < (s.dev.chan c).blockSize ∧
      q.rowBytes ≤ (s.dev.chan c).off + data.length :=
  ⟨W.st [(Obj.chanState 63, .n 1), (Obj.chanRateLimit 63, .n 0)] (W.chan (fun x => { x with cur := some (W.desc 1), started := true, off := 19 })), 63, List.replicate 70 7, W.desc 1, by decide +kernel⟩

theorem witness_ChannelsStartFetchMoveAndEnd_11 : ∃ (s : State) (c : Nat) (data : Bytes) (q : Desc) (e : Nat),
      s.Works pdHub ∧
      c < 64 ∧
      s.dev.chanState c = 1 ∧
      (s.dev.chan c).cur = some q ∧
      (s.dev.chan c).started = true ∧
      (s.dev.chan c).stop = none ∧
      (s.dev.chan c).drain = [] ∧
      q.op = 2 ∧
      s.dev.burstTurn c = true ∧
      q.srcHbm = false ∧
      (s.dev.chan c).inDone + 16 ≤ q.rowBytes ∧
      q.rowBytes ≤ (s.dev.chan c).inDone + data.length ∧
      qpkHead (data.take 16) = .error e :=
  ⟨W.st [(Obj.chanState 63, .n 1), (Obj.chanRateLimit 63, .n 0)] (W.chan (fun x => { x with cur := some (W.desc 2), started := true })), 63, List.replicate 70 7, W.desc 2, 1, by (repeat' apply And.intro) <;> first | decide +kernel | rfl⟩

theorem witness_ChannelsStartFetchMoveAndEnd_12 : ∃ (s : State) (c : Nat) (data : Bytes) (q : Desc) (h : QpkHead),
      s.Works pdHub ∧
      c < 64 ∧
      s.dev.chanState c = 1 ∧
      (s.dev.chan c).cur = some q ∧
      (s.dev.chan c).started = true ∧
      (s.dev.chan c).stop = none ∧
      (s.dev.chan c).drain = [] ∧
      q.op = 2 ∧
      s.dev.burstTurn c = true ∧
      q.engine < 4 ∧
      q.srcHbm = false ∧
      q.dstHbm = false ∧
      (s.dev.chan c).inDone + 16 ≤ q.rowBytes ∧
      s.dev.nat (Obj.chanRateLimit c) = 0 ∧
      q.rowBytes ≤ (s.dev.chan c).inDone + data.length ∧
      qpkHead (data.take 16) = .ok h :=
  ⟨W.st [(Obj.chanState 63, .n 1), (Obj.chanRateLimit 63, .n 0)] (W.chan (fun x => { x with cur := some (W.desc 2), started := true })), 63, W.qpk, W.desc 2, ({ crc := crc32c [7], orig := 1, len := 1, kind := 0, last := true } : QpkHead), by (repeat' apply And.intro) <;> first | decide +kernel | exact W.okIs _ _ (by decide +kernel)⟩

theorem witness_ChannelsStartFetchMoveAndEnd_13 : ∃ (s : State) (c : Nat) (ok : Bool),
      s.Works pdHub ∧
      c < 64 ∧
      ((s.dev.chan c).cur = none ∨ (s.dev.chan c).stop = none) :=
  ⟨W.st [(Obj.chanState 63, .n 1)] (W.chan (fun x => { x with cur := some (W.desc 0), started := true })), 63, true, by decide +kernel⟩

theorem witness_ChannelsStartFetchMoveAndEnd_14 : ∃ (s : State) (c : Nat) (status : Nat) (q : Desc),
      s.Works pdHub ∧
      c < 64 ∧
      (s.dev.chan c).cur = some q ∧
      (s.dev.chan c).stop = some status ∧
      q.hbm = false ∧
      q.engine < 4 ∧
      s.dev.domOn pdPcie = true ∧
      s.dev.flag (Obj.eocMode c) = false ∧
      (∀ k ∈ List.range 64, s.dev.nat (Obj.paceEvent k) ≠ 2) ∧
      (∀ k ∈ List.range 64, k ≠ c → (s.dev.chan k).cur = none ∨ (s.dev.chan k).started = true) :=
  ⟨W.st [(Obj.chanState 63, .n 1)] (W.chan (fun x => { x with cur := some (W.desc 0), started := true, stop := some 0 })), 63, 0, W.desc 0, by decide +kernel⟩

theorem witness_ChannelsStartFetchMoveAndEnd_15 : ∃ (s : State) (c : Nat) (q : Desc),
      s.Works pdHub ∧
      c < 64 ∧
      (s.dev.chan c).cur = some q ∧
      (s.dev.chan c).stop = some stOk ∧
      q.hbm = false ∧
      s.dev.domOn pdPcie = true ∧
      s.dev.flag (Obj.eocMode c) = true ∧
      1 ≤ s.dev.nat (Obj.eocRemaining c) ∧
      (s.dev.chan c).drain = [] ∧
      (s.dev.chan c).abort = false ∧
      (∀ k ∈ List.range 64, s.dev.nat (Obj.paceEvent k) ≠ 2) ∧
      s.dev.host.engines.contains (some c) = false :=
  ⟨W.st [(Obj.chanState 63, .n 1), (Obj.eocMode 63, .n 1), (Obj.eocRemaining 63, .n 1)] (W.chan (fun x => { x with cur := some (W.desc 0), started := true, stop := some 0 })), 63, W.desc 0, by decide +kernel⟩

theorem witness_ChannelsStartFetchMoveAndEnd_16 : ∃ (s : State) (c : Nat),
      s.Works pdHub ∧
      c < 64 ∧
      (s.dev.chan c).cur = none :=
  ⟨W.st [(Obj.paceEvent 63, .n 3), (Obj.eventCredit 63, .n 255)], 63, by decide +kernel⟩

theorem witness_ChannelsStartFetchMoveAndEnd_17 : ∃ (s : State) (c : Nat),
      s.Works pdHub ∧
      c < 64 ∧
      (s.dev.chan c).cur = none ∧
      s.dev.nat (Obj.eventCredit c) < 255 :=
  ⟨W.st [(Obj.paceEvent 63, .n 1), (Obj.paceArg 63, .n 1), (Obj.eventCredit 63, .n 254), (Obj.chanState 63, .n 2)], 63, by decide +kernel⟩

theorem witness_ChannelsStartFetchMoveAndEnd_18 : ∃ (s : State) (k : Nat),
      s.Works pdHub ∧
      k < 11 ∧
      (∀ c ∈ List.range 64, s.dev.nat (Obj.paceEvent c) ≠ 2) ∧
      (∀ c ∈ List.range 64, (s.dev.chan c).cur = none ∨ (s.dev.chan c).started = true ∨ (s.dev.chan c).drain ≠ []) :=
  ⟨W.st [(Obj.chanState 63, .n 1)] (W.chan (fun x => { x with cur := some (W.desc 0), started := true, drain := [(10, 9999900000)] })), 10, by decide +kernel⟩

theorem witness_TheHostAndBoardBusesDoAsTold_0 : ∃ (s : State) (n : Nat) (frame : Bytes),
      s.Works pdPcie ∧
      (n < 16 ∨ 4096 < n ∨ s.dev.mbxReady = false ∨ s.dev.host.mbx.h2dBusy = true) :=
  ⟨W.st [], 15, [], by decide +kernel⟩

theorem witness_TheHostAndBoardBusesDoAsTold_1 : ∃ (s : State) (n : Nat) (frame : Bytes) (slot : Nat) (x : Session) (f : TolFrame),
      s.Works pdPcie ∧
      16 ≤ n ∧
      n ≤ 4096 ∧
      n ≤ frame.length ∧
      s.dev.host.mbx.h2dBusy = false ∧
      s.dev.mbxReady = true ∧
      (s.dev.sessionFrame 0 (frame.take n)).2 = some (slot, x, f) ∧
      f.kind = 6 ∧
      (∀ k : Nat, k < 512 → s.dev.nat (Obj.stallOwner k) ≠ x.id) :=
  ⟨W.st [], 32, W.frame 6 0 [], 0, W.heard, W.parsed 6 0 [], by decide +kernel, by decide, by decide, by decide +kernel, rfl, rfl, W.taken _ W.session _ (W.parsed 6 0 []) rfl rfl rfl rfl (by decide +kernel), rfl, by decide +kernel⟩

theorem witness_TheHostAndBoardBusesDoAsTold_2 : ∃ (s : State),
      s.Works pdPcie :=
  ⟨W.st [] (fun d => d.updHost (fun h => { h with mbx := { Mailbox.reset with d2h := some [2], waiting := [[1]] } })), by decide +kernel⟩

theorem witness_TheHostAndBoardBusesDoAsTold_3 : ∃ (s : State) (r : Nat) (off : Nat) (v : Nat),
      s.Works pdPcie ∧
      r < 64 ∧
      (s.dev.ring r).enabled = false ∧
      v < 2 ^ 32 ∧
      off ≠ 16 ∧
      off ≠ 24 :=
  ⟨W.st [], 63, 12, 2 ^ 32 - 1, by decide +kernel⟩

theorem witness_TheHostAndBoardBusesDoAsTold_4 : ∃ (s : State) (r : Nat) (off : Nat) (v : Nat),
      s.Works pdPcie ∧
      r < 64 ∧
      s.dev.pub.restore = [] ∧
      (s.dev.ring r).enabled = false ∧
      v < 2 ^ 64 ∧
      (off = 0 ∨ off = 8 ∨ off = 16) :=
  ⟨W.st [], 63, 16, 365, by decide +kernel⟩

theorem witness_TheHostAndBoardBusesDoAsTold_5 : ∃ (s : State) (r : Nat) (v : Nat),
      s.Works pdPcie ∧
      r < 64 ∧
      v < 2 ^ 32 :=
  ⟨W.st [], 63, 4294967288, by decide +kernel⟩

theorem witness_TheHostAndBoardBusesDoAsTold_6 : ∃ (s : State) (v : Nat),
      s.Works pdPcie ∧
      v < 256 ∧
      s.dev.msix.enabled = true ∧
      s.dev.msix.fmask = false :=
  ⟨W.st [] (fun d => { d with msix := { d.msix with enabled := true, fmask := false, pending := 2 ^ 255 } }), 255, by decide +kernel⟩

theorem witness_TheHostAndBoardBusesDoAsTold_7 : ∃ (s : State) (a : Nat) (data : Bytes) (n : Nat) (c : Nat),
      s.Works pdPcie ∧
      s.dev.domOn 7 = true ∧
      s.dev.domOn 8 = true ∧
      s.dev.mem.fences = [] ∧
      s.dev.hbmBad (6 * 2 ^ 36 + a) n = false ∧
      0 < n :=
  ⟨W.st [(Obj.regionSize 6, .n 1)], 2 ^ 20 - 64, [], 64, 1, by decide +kernel⟩

theorem witness_TheHostAndBoardBusesDoAsTold_9 : ∃ (s : State) (a : Nat) (n : Nat) (data : Bytes),
      s.Works pdPcie ∧
      s.dev.domOn 7 = true ∧
      s.dev.domOn 8 = true ∧
      0 < n ∧
      a + n ≤ s.dev.regionBytes 6 ∧
      s.dev.mem.fences = [] ∧
      s.dev.hbmBad (6 * 2 ^ 36 + a) n = true :=
  ⟨W.st [(Obj.regionSize 6, .n 1)] (fun d => d.updMem (fun m => { m with bad := [6 * 2 ^ 28] })), 0, 4, [], by decide +kernel⟩

theorem witness_TheHostAndBoardBusesDoAsTold_10 : ∃ (s : State) (a : Nat) (n : Nat),
      s.Works pdPcie :=
  ⟨W.st [], 8191, 4, by decide +kernel⟩

theorem witness_TheHostAndBoardBusesDoAsTold_11 : ∃ (s : State) (a : Nat) (bs : Bytes),
      s.Works pdPcie ∧
      (bar0Bad a bs.length = true ∨ (4096 ≤ a ∧ a < 8192 ∧ s.dev.host.mbx.h2dBusy = true)) :=
  ⟨W.st [], 8191, [1, 2, 3, 4], by decide +kernel⟩

theorem witness_TheHostAndBoardBusesDoAsTold_12 : ∃ (s : State),
      s.Works pdPcie :=
  ⟨W.st [], by decide +kernel⟩

theorem witness_TheHostAndBoardBusesDoAsTold_13 : ∃ (s : State) (low : Bool),
      s.Works pdPcie :=
  ⟨W.st [], true, by decide +kernel⟩

theorem witness_TheHostAndBoardBusesDoAsTold_14 : ∃ (s : State) (sp : Nat) (w : Nat),
      s.Works pdPcie :=
  ⟨W.st [], 4, 16, by decide +kernel⟩

theorem witness_TheHostAndBoardBusesDoAsTold_15 : ∃ (s : State),
      s.Works pdPcie :=
  ⟨W.st [], by decide +kernel⟩

theorem witness_TheHostAndBoardBusesDoAsTold_16 : ∃ (s : State) (ses : Nat) (k : Nat) (bus : Option BusReply),
      s.Steady ∧
      k < 2 ∧
      s.MayWrite ses (Obj.twcOp k) [1] ∧
      bus = none :=
  ⟨W.st [(Obj.twcEnable 1, .n 1), (Obj.twcStatus 1, .n 0), (Obj.twcRxLen 1, .n 2)], 0, 1, none, by decide +kernel⟩

theorem witness_TheHostAndBoardBusesDoAsTold_17 : ∃ (s : State) (ses : Nat) (k : Nat) (bus : Option BusReply) (r : BusReply),
      s.Steady ∧
      k < 2 ∧
      s.MayWrite ses (Obj.twcOp k) [1] ∧
      (some r : Option BusReply) = bus ∧
      r.loss = none ∧
      s.dev.flag (Obj.twcEnable k) = true ∧
      s.dev.nat (Obj.twcStatus k) ≠ 1 :=
  ⟨W.st [(Obj.twcEnable 1, .n 1), (Obj.twcStatus 1, .n 0), (Obj.twcRxLen 1, .n 2)], 0, 1, some W.reply, W.reply, by decide +kernel⟩

theorem witness_TheHostAndBoardBusesDoAsTold_18 : ∃ (s : State) (ses : Nat) (k : Nat) (bus : Option BusReply) (r : BusReply),
      s.Steady ∧
      k < 2 ∧
      s.MayWrite ses (Obj.twcOp k) [2] ∧
      (some r : Option BusReply) = bus ∧
      r.loss = none ∧
      s.dev.flag (Obj.twcEnable k) = true ∧
      s.dev.nat (Obj.twcStatus k) ≠ 1 ∧
      r.addrAck = true :=
  ⟨W.st [(Obj.twcEnable 1, .n 1), (Obj.twcStatus 1, .n 0), (Obj.twcRxLen 1, .n 2)], 0, 1, some W.reply, W.reply, by decide +kernel⟩

theorem witness_TheHostAndBoardBusesDoAsTold_19 : ∃ (s : State) (ses : Nat) (k : Nat) (bus : Option BusReply) (r : BusReply),
      s.Steady ∧
      k < 2 ∧
      s.MayWrite ses (Obj.twcOp k) [3] ∧
      (some r : Option BusReply) = bus ∧
      r.loss = none ∧
      s.dev.flag (Obj.twcEnable k) = true ∧
      s.dev.nat (Obj.twcStatus k) ≠ 1 ∧
      r.addrAck = true ∧
      r.readAck = true ∧
      (s.dev.bytes (Obj.twcTxData k)).length ≤ r.dataAcks :=
  ⟨W.st [(Obj.twcEnable 1, .n 1), (Obj.twcStatus 1, .n 0), (Obj.twcRxLen 1, .n 2)], 0, 1, some W.reply, W.reply, by decide +kernel⟩

theorem witness_TheHostAndBoardBusesDoAsTold_20 : ∃ (s : State) (k : Nat) (x : TwcTx) (r : BusReply),
      s.Works pdHub ∧
      k < 2 ∧
      s.dev.twc k = some x ∧
      x.op = 1 ∧
      s.dev.flag (Obj.twcEnable k) = true ∧
      r.loss = none ∧
      r.addrAck = true ∧
      x.tx.length ≤ r.dataAcks :=
  ⟨W.st [(Obj.twcEnable 1, .n 1)] (fun d => d.setTwc 1 (some W.tx)), 1, W.tx, W.reply, by decide +kernel⟩

theorem witness_TheHostAndBoardBusesDoAsTold_21 : ∃ (s : State) (k : Nat) (r : BusReply),
      s.Works pdHub ∧
      k < 2 ∧
      (s.dev.twc k = none ∨ s.dev.flag (Obj.twcEnable k) = false) :=
  ⟨W.st [], 1, W.reply, by decide +kernel⟩

theorem witness_TheHostAndBoardBusesDoAsTold_22 : ∃ (s : State) (k : Nat) (p : Nat) (x : TwcTx) (r : BusReply),
      s.Works pdHub ∧
      k < 2 ∧
      s.dev.twc k = some x ∧
      x.op = 1 ∧
      s.dev.flag (Obj.twcEnable k) = true ∧
      r.loss = none ∧
      r.addrAck = true ∧
      x.tx.length ≤ r.dataAcks :=
  ⟨W.st [(Obj.twcEnable 1, .n 1)] (fun d => d.setTwc 1 (some W.tx)), 1, 9, W.tx, W.reply, by decide +kernel⟩

theorem witness_TheHostAndBoardBusesDoAsTold_23 : ∃ (s : State) (k : Nat),
      s.Works pdHub ∧
      k < 2 :=
  ⟨W.st [] (fun d => d.setTwc 1 (some W.tx)), 1, by decide +kernel⟩

theorem witness_TheHostAndBoardBusesDoAsTold_24 : ∃ (s : State) (a : Nat) (rd : Bool) (n : Nat),
      s.Works pdHub :=
  ⟨W.st [(Obj.twtEnable, .n 1), (Obj.twtAddr, .n 16)], 16, true, 3, by decide +kernel⟩

theorem witness_TheHostAndBoardBusesDoAsTold_25 : ∃ (s : State) (bs : List Byte) (broken : Option Nat),
      s.Works pdHub ∧
      bs.length ≤ 2 :=
  ⟨W.st [(Obj.twtEnable, .n 1), (Obj.twtAddr, .n 16)] (fun d => d.updHost (fun h => { h with twtWrite := true })), [15, 255], none, by decide +kernel⟩

theorem witness_TheHostAndBoardBusesDoAsTold_26 : ∃ (s : State) (bs : List Byte) (hi : Byte) (lo : Byte) (x : Byte),
      s.Works pdHub ∧
      s.dev.flag Obj.twtEnable = true ∧
      s.dev.host.twtWrite = true ∧
      bs = [hi, lo, x] ∧
      64 ≤ hi.toNat * 256 + lo.toNat ∧
      hi.toNat < 16 :=
  ⟨W.st [(Obj.twtEnable, .n 1), (Obj.twtAddr, .n 16)] (fun d => d.updHost (fun h => { h with twtWrite := true })), [15, 255, 9], 15, 255, 9, by decide +kernel⟩

theorem witness_TheHostAndBoardBusesDoAsTold_27 : ∃ (s : State) (n : Nat),
      s.Works pdHub :=
  ⟨W.st [(Obj.twtEnable, .n 1), (Obj.twtAddr, .n 16)], 3, by decide +kernel⟩

theorem witness_FirmwareAndDomainsFollowTheirCommands_0 : ∃ (s : State) (ses : Nat) (off : Nat) (data : Bytes),
      s.Steady ∧
      (s.judged ses 0x6000 5 off data).isSome = true :=
  ⟨W.st [], 0, 0, [1], by decide +kernel⟩

theorem witness_FirmwareAndDomainsFollowTheirCommands_1 : ∃ (s : State) (ses : Nat),
      s.Steady ∧
      s.MayWrite ses Obj.fwVerify [1] :=
  ⟨W.st [], 0, by decide +kernel⟩

theorem witness_FirmwareAndDomainsFollowTheirCommands_2 : ∃ (s : State) (ses : Nat) (e : RCode × Nat),
      s.Steady ∧
      s.MayWrite ses Obj.fwActivate [1] ∧
      s.dev.activateCase false = some e :=
  ⟨W.st [], 0, ((.state, 5) : RCode × Nat), by decide +kernel⟩

theorem witness_FirmwareAndDomainsFollowTheirCommands_3 : ∃ (s : State) (ses : Nat),
      s.Steady ∧
      s.MayWrite ses Obj.fwActivate [1] ∧
      s.dev.activateCase false = none ∧
      (s.dev.nat Obj.fwDownloadKind = 1 ∨ s.dev.boot.recovery = true) :=
  ⟨W.st [(Obj.fwState, .n 2), (Obj.fwDownloadKind, .n 1)] (W.boot (fun x => { x with holdup := true })), 0, by decide +kernel⟩

theorem witness_FirmwareAndDomainsFollowTheirCommands_4 : ∃ (s : State) (ses : Nat),
      s.Steady ∧
      s.MayWrite ses Obj.fwActivate [1] ∧
      s.dev.activateCase false = none ∧
      s.dev.nat Obj.fwDownloadKind ≠ 1 ∧
      s.dev.boot.recovery = false :=
  ⟨W.st [(Obj.fwState, .n 2), (Obj.fwDownloadKind, .n 0)] (W.boot (fun x => { x with holdup := true, run := some [] })), 0, by decide +kernel⟩

theorem witness_FirmwareAndDomainsFollowTheirCommands_5 : ∃ (s : State) (b : BootStraps) (due : Nat),
      s.Shaped ∧
      s.Bounded ∧
      s.dev.role = 0 ∧
      s.dev.nat Obj.fwState = 3 ∧
      s.dev.boot.work = some (.keep, due) ∧
      due ≤ s.dev.now ∧
      s.dev.boot.saving = none ∧
      s.dev.boot.heldIn = 0 ∧
      s.dev.boot.waitCopy = false :=
  ⟨W.st [(Obj.fwState, .n 3)] (W.boot (fun x => { x with work := some (.keep, 10000000000) })), W.straps, 10000000000, by decide +kernel⟩

theorem witness_FirmwareAndDomainsFollowTheirCommands_6 : ∃ (s : State) (b : BootStraps) (c : Nat) (second : Bool) (again : Bool) (due : Nat),
      s.Shaped ∧
      s.Bounded ∧
      s.dev.role = 0 ∧
      s.dev.nat Obj.fwState = 3 ∧
      c < 2 ∧
      s.dev.boot.loaders.length = 2 ∧
      s.dev.boot.work = some (.loader c second again, due) ∧
      due ≤ s.dev.now ∧
      s.dev.boot.saving = none ∧
      s.dev.boot.heldIn = 0 ∧
      s.dev.boot.recovery = false :=
  ⟨W.st [(Obj.fwState, .n 3)] (W.boot (fun x => { x with work := some (.loader 1 false false, 10000000000) })), W.straps, 1, false, false, 10000000000, by decide +kernel⟩

theorem witness_FirmwareAndDomainsFollowTheirCommands_7 : ∃ (s : State) (b : BootStraps) (due : Nat),
      s.Shaped ∧
      s.Bounded ∧
      s.dev.role = 0 ∧
      s.dev.nat Obj.fwState = 3 ∧
      s.dev.boot.work = some (.run, due) ∧
      due ≤ s.dev.now ∧
      s.dev.boot.saving = none ∧
      s.dev.boot.heldIn = 0 ∧
      s.dev.boot.recovery = true ∧
      s.dev.boot.waitCopy = false :=
  ⟨W.st [(Obj.fwState, .n 3)] (W.boot (fun x => { x with work := some (.run, 10000000000), recovery := true })), W.straps, 10000000000, by decide +kernel⟩

theorem witness_FirmwareAndDomainsFollowTheirCommands_8 : ∃ (s : State) (ses : Nat),
      s.Steady ∧
      s.MayWrite ses Obj.fwConfirm [1] :=
  ⟨W.st [(Obj.fwState, .n 4), (Obj.fwDownloadKind, .n 0)], 0, by decide +kernel⟩

theorem witness_FirmwareAndDomainsFollowTheirCommands_9 : ∃ (s : State) (u : Nat),
      s.Works pdHub ∧
      s.dev.boot.trialEnd = some u :=
  ⟨W.st [(Obj.fwState, .n 4), (Obj.fwDownloadKind, .n 0)] (W.boot (fun x => { x with trialEnd := some 10000000000 })), 10000000000, by decide +kernel⟩

theorem witness_FirmwareAndDomainsFollowTheirCommands_10 : ∃ (s : State) (ses : Nat),
      s.Steady ∧
      s.MayWrite ses Obj.fwRevert [1] :=
  ⟨W.st [(Obj.keepValid, .n 1)] (W.boot (fun x => { x with holdup := true })), 0, by decide +kernel⟩

theorem witness_FirmwareAndDomainsFollowTheirCommands_11 : ∃ (s : State) (ses : Nat),
      s.Steady ∧
      s.MayWrite ses Obj.fwRevert [1] ∧
      s.dev.flag Obj.keepValid = true ∧
      (match s.dev.keepImage with | some b => leAt b 34 2 | none => 0) < s.dev.boot.minSecurity :=
  ⟨W.st [(Obj.keepValid, .n 1)] (W.boot (fun x => { x with minSecurity := 1 })), 0, by decide +kernel⟩

theorem witness_FirmwareAndDomainsFollowTheirCommands_12 : ∃ (s : State) (ses : Nat),
      s.Steady ∧
      s.MayWrite ses Obj.settingsSave [1] :=
  ⟨W.st [], 0, by decide +kernel⟩

theorem witness_FirmwareAndDomainsFollowTheirCommands_13 : ∃ (s : State) (b : BootStraps) (x : Saving),
      s.Shaped ∧
      s.Bounded ∧
      s.dev.role = 0 ∧
      s.dev.nat Obj.fwState ≠ 5 ∧
      s.dev.boot.saving = some x ∧
      x.due ≤ s.dev.now ∧
      s.dev.boot.work = none ∧
      s.dev.boot.heldIn ≠ 1 :=
  ⟨W.st [] (W.boot (fun x => { x with saving := some { place := 1, seq := 3, bytes := [1], due := 10000000000 } })), W.straps, { place := 1, seq := 3, bytes := [1], due := 10000000000 }, by decide +kernel⟩

theorem witness_FirmwareAndDomainsFollowTheirCommands_14 : ∃ (s : State) (ses : Nat) (nonce : Bytes),
      s.Steady ∧
      s.MayWrite ses Obj.attestNonce nonce ∧
      nonce.length = 32 :=
  ⟨W.st [], 0, List.replicate 32 255, by decide +kernel⟩

theorem witness_FirmwareAndDomainsFollowTheirCommands_15 : ∃ (s : State) (ses : Nat) (k : Nat),
      s.Steady ∧
      k < 11 ∧
      s.MayWrite ses (Obj.domPower k) [1] :=
  ⟨W.st [(Obj.domState 10, .n 0)], 0, 10, by decide +kernel⟩

theorem witness_FirmwareAndDomainsFollowTheirCommands_16 : ∃ (s : State) (ses : Nat) (k : Nat),
      s.Steady ∧
      k < 11 ∧
      s.MayWrite ses (Obj.domPower k) [0] :=
  ⟨W.st [], 0, 9, by decide +kernel⟩

theorem witness_FirmwareAndDomainsFollowTheirCommands_17 : ∃ (s : State) (k : Nat),
      s.Steady ∧
      k < 11 ∧
      (s.dev.boot.waitCopy = false ∨ s.dev.holdupHigh = false) ∧
      (s.dev.nat (Obj.domState k) ≠ 1 ∨ (k = pdCls ∧ s.dev.domOn pdCal = false) ∨
           ((k = 7 ∨ k = 8) ∧ (List.range 64).any (fun n => stackDomain (stackOf n) == k && s.dev.pcState n == 1) = true)) :=
  ⟨W.st [], 10, by decide +kernel⟩

theorem witness_FirmwareAndDomainsFollowTheirCommands_18 : ∃ (s : State) (k : Nat),
      s.Steady ∧
      k < 11 ∧
      (s.dev.boot.waitCopy = false ∨ s.dev.holdupHigh = false) ∧
      s.dev.nat (Obj.domState k) = 1 ∧
      (k = pdCls → s.dev.domOn pdCal = true) ∧
      (k = 7 ∨ k = 8 → (List.range 64).any (fun n => stackDomain (stackOf n) == k && s.dev.pcState n == 1) = false) :=
  ⟨W.st [(Obj.domState 10, .n 1)], 10, by decide +kernel⟩

theorem witness_FirmwareAndDomainsFollowTheirCommands_19 : ∃ (s : State) (k : Nat),
      s.Steady ∧
      k < 11 :=
  ⟨W.st [(Obj.domState 10, .n 3)], 10, by decide +kernel⟩

theorem witness_FirmwareAndDomainsFollowTheirCommands_20 : ∃ (s : State) (k : Nat),
      s.Steady ∧
      k < 11 :=
  ⟨W.st [(Obj.domState 10, .n 3)], 10, by decide +kernel⟩

theorem witness_ResetsSuppliesAndClocksRestartTheDevice_0 : ∃ (s : State) (b : BootStraps),
      s.Steady ∧
      s.dev.boot.heldIn ≠ 1 :=
  ⟨W.st [], W.straps, by decide +kernel⟩

theorem witness_ResetsSuppliesAndClocksRestartTheDevice_1 : ∃ (s : State) (b : BootStraps),
      s.Steady ∧
      s.dev.boot.heldIn = 1 ∧
      s.dev.boot.waitCopy = false ∧
      s.dev.boot.recovery = false :=
  ⟨W.st [] (W.boot (fun x => { x with heldIn := 1 })), W.straps, by decide +kernel⟩

theorem witness_ResetsSuppliesAndClocksRestartTheDevice_2 : ∃ (s : State),
      s.Steady ∧
      (s.dev.boot.waitCopy = false ∨ s.dev.holdupHigh = false) :=
  ⟨W.st [], by decide +kernel⟩

theorem witness_ResetsSuppliesAndClocksRestartTheDevice_3 : ∃ (s : State),
      s.Steady :=
  ⟨W.st [], by decide +kernel⟩

theorem witness_ResetsSuppliesAndClocksRestartTheDevice_4 : ∃ (s : State),
      s.Steady :=
  ⟨W.st [], by decide +kernel⟩

theorem witness_ResetsSuppliesAndClocksRestartTheDevice_5 : ∃ (s : State) (r : Nat),
      s.Steady ∧
      8 ≤ r ∧
      r ≤ 11 :=
  ⟨W.st [], 11, by decide +kernel⟩

theorem witness_ResetsSuppliesAndClocksRestartTheDevice_6 : ∃ (s : State) (r : Nat),
      s.Steady ∧
      1 ≤ r ∧
      r ≤ 12 ∧
      aonRail r = false :=
  ⟨W.st [], 12, by decide +kernel⟩

theorem witness_ResetsSuppliesAndClocksRestartTheDevice_7 : ∃ (s : State) (r : Nat),
      s.Steady ∧
      (r = 4 ∨ r = 5) ∧
      s.dev.boot.heldIn = 0 :=
  ⟨W.st [], 5, by decide +kernel⟩

theorem witness_ResetsSuppliesAndClocksRestartTheDevice_8 : ∃ (s : State) (r : Nat),
      s.Steady ∧
      1 ≤ r ∧
      r ≤ 12 ∧
      s.dev.boot.heldIn ≠ 2 :=
  ⟨W.st [] (W.boot (fun x => { x with railsDown := [12] })), 12, by decide +kernel⟩

theorem witness_ResetsSuppliesAndClocksRestartTheDevice_9 : ∃ (s : State) (r : Nat),
      s.Steady ∧
      1 ≤ r ∧
      r ≤ 12 ∧
      s.dev.boot.heldIn = 2 ∧
      s.dev.boot.waitCopy = false ∧
      s.dev.boot.recovery = false :=
  ⟨W.st [] (W.boot (fun x => { x with heldIn := 2, railsDown := [9] })), 9, by decide +kernel⟩

theorem witness_ResetsSuppliesAndClocksRestartTheDevice_10 : ∃ (s : State) (c : Nat),
      s.Steady ∧
      c < 2 :=
  ⟨W.st [], 1, by decide +kernel⟩

theorem witness_ResetsSuppliesAndClocksRestartTheDevice_11 : ∃ (s : State),
      s.Steady ∧
      s.dev.boot.waitCopy = false ∧
      s.dev.boot.recovery = false :=
  ⟨W.st [] (W.boot (fun x => { x with heldIn := 3 })), by decide +kernel⟩

theorem witness_ResetsSuppliesAndClocksRestartTheDevice_12 : ∃ (s : State) (high : Bool),
      s.Steady ∧
      (high = true ∨ s.dev.boot.waitCopy = false ∨ s.dev.holdupHigh = false) :=
  ⟨W.st [], true, by decide +kernel⟩

theorem witness_ResetsSuppliesAndClocksRestartTheDevice_13 : ∃ (s : State),
      s.Steady ∧
      s.dev.boot.waitCopy = true ∧
      s.dev.holdupHigh = true :=
  ⟨W.st [] (W.boot (fun x => { x with waitCopy := true, holdup := true })), by decide +kernel⟩

theorem witness_ResetsSuppliesAndClocksRestartTheDevice_14 : ∃ (s : State) (n : Nat) (x : Int),
      s.Steady ∧
      n < 18 ∧
      s.dev.boot.heldIn = 0 ∧
      s.dev.boot.tripped = false ∧
      (1150 ≤ x ∨ ((n = 16 ∨ n = 17) ∧ 1050 ≤ x)) :=
  ⟨W.st [], 17, 1050, by decide +kernel⟩

theorem witness_ResetsSuppliesAndClocksRestartTheDevice_15 : ∃ (s : State) (n : Nat) (x : Int),
      s.Steady ∧
      n < 18 ∧
      (s.dev.boot.heldIn ≠ 0 ∨ s.dev.boot.tripped = true ∨ ¬ (1150 ≤ x ∨ ((n = 16 ∨ n = 17) ∧ 1050 ≤ x))) :=
  ⟨W.st [], 17, 1049, by decide +kernel⟩

theorem witness_ResetsSuppliesAndClocksRestartTheDevice_16 : ∃ (s : State),
      s.Steady :=
  ⟨W.st [] (W.boot (fun x => { x with tripped := true })), by decide +kernel⟩

theorem witness_ResetsSuppliesAndClocksRestartTheDevice_17 : ∃ (s : State),
      s.Steady :=
  ⟨W.st [], by decide +kernel⟩

theorem witness_ReadsAnswerTheValueAndChangeNothing_0 : ∃ (s : State) (ses : Nat) (index : Nat) (sub : Nat) (off : Nat) (len : Nat) (x : Session) (b : ObjBlock) (r : ObjRow),
      s.Steady ∧
      s.session? ses = some x ∧
      s.dev.findObject index sub = .ok (b, some r) ∧
      r.ty.size.isSome = true ∧
      off = 0 := by
  obtain ⟨⟨b, r⟩, h, hp⟩ := W.foundOk ((W.st []).dev.findObject 0x1100 6) (fun e => e.2.any (fun (r : ObjRow) => r.ty.size.isSome)) (by decide +kernel)
  obtain ⟨r, rfl, hr⟩ := W.found r _ hp
  exact ⟨W.st [], 0, 0x1100, 6, 0, 0, W.session, b, r, by decide +kernel, rfl, h, hr, rfl⟩

theorem witness_ReadsAnswerTheValueAndChangeNothing_2 : ∃ (s : State) (ses : Nat) (index : Nat) (sub : Nat) (x : Session) (b : ObjBlock) (r : ObjRow),
      s.Steady ∧
      s.session? ses = some x ∧
      s.dev.findObject index sub = .ok (b, some r) ∧
      r.ty.size.isSome = true ∧
      r.acc ≠ .wo := by
  obtain ⟨⟨b, r⟩, h, hp⟩ := W.foundOk ((W.st []).dev.findObject 0x3500 0x13) (fun e => e.2.any (fun (r : ObjRow) => r.ty.size.isSome && decide (r.acc ≠ .wo))) (by decide +kernel)
  obtain ⟨r, rfl, hr⟩ := W.found r _ hp
  simp only [Bool.and_eq_true, decide_eq_true_eq] at hr
  exact ⟨W.st [], 0, 0x3500, 0x13, W.session, b, r, by decide +kernel, rfl, h, hr.1, hr.2⟩

theorem witness_ReadsAnswerTheValueAndChangeNothing_3 : ∃ (s : State) (ses : Nat) (index : Nat) (sub : Nat) (x : Session) (b : ObjBlock) (r : ObjRow),
      s.Steady ∧
      s.session? ses = some x ∧
      s.dev.findObject index sub = .ok (b, some r) := by
  obtain ⟨⟨b, r⟩, h, hp⟩ := W.foundOk ((W.st []).dev.findObject 0x1100 6) (fun e => e.2.isSome) (by decide +kernel)
  obtain ⟨r, rfl⟩ := Option.isSome_iff_exists.mp hp
  exact ⟨W.st [], 0, 0x1100, 6, W.session, b, r, by decide +kernel, rfl, h⟩

theorem witness_ReadsAnswerTheValueAndChangeNothing_4 : ∃ (s : State) (ses : Nat) (index : Nat) (sub : Nat) (x : Session) (b : ObjBlock) (r : ObjRow),
      s.Steady ∧
      s.session? ses = some x ∧
      s.dev.findObject index sub = .ok (b, some r) ∧
      r.ty.size.isSome = true ∧
      r.acc ≠ .wo := by
  obtain ⟨⟨b, r⟩, h, hp⟩ := W.foundOk ((W.st []).dev.findObject 0x1100 6) (fun e => e.2.any (fun (r : ObjRow) => r.ty.size.isSome && decide (r.acc ≠ .wo))) (by decide +kernel)
  obtain ⟨r, rfl, hr⟩ := W.found r _ hp
  simp only [Bool.and_eq_true, decide_eq_true_eq] at hr
  exact ⟨W.st [], 0, 0x1100, 6, W.session, b, r, by decide +kernel, rfl, h, hr.1, hr.2⟩

theorem witness_WritesAreStagedOrTakeForce_0 : ∃ (s : State) (ses : Nat) (index : Nat) (sub : Nat) (off : Nat) (data : Bytes) (b : ObjBlock) (r : ObjRow) (v : Val),
      s.Steady ∧
      s.judged ses index sub off data = some (b, r, v) ∧
      r.app = .staged := by
  obtain ⟨⟨b, r, v⟩, h, hp⟩ := W.found ((W.st []).judged 0 0x3500 0x13 0 [1, 0]) (fun e => decide (e.2.1.app = .staged)) (by decide +kernel)
  exact ⟨W.st [], 0, 0x3500, 0x13, 0, [1, 0], b, r, v, by decide +kernel, h, of_decide_eq_true hp⟩

theorem witness_WritesAreStagedOrTakeForce_1 : ∃ (s : State) (ses : Nat) (index : Nat) (sub : Nat) (off : Nat) (data : Bytes) (b : ObjBlock) (r : ObjRow) (v : Val),
      s.Steady ∧
      s.judged ses index sub off data = some (b, r, v) ∧
      r.app = .live ∧
      s.dev.waits b r (s.dev.blockGroup b.group (index - b.base)) = true := by
  obtain ⟨⟨b, r, v⟩, h, hp⟩ := W.found ((W.st [(Obj.lcgRun 1, .n 1)]).judged 0 0x2101 0x13 0 [20, 0])
    (fun e => decide (e.2.1.app = .live) && (W.st [(Obj.lcgRun 1, .n 1)]).dev.waits e.1 e.2.1 ((W.st [(Obj.lcgRun 1, .n 1)]).dev.blockGroup e.1.group (0x2101 - e.1.base)))
    (by decide +kernel)
  simp only [Bool.and_eq_true, decide_eq_true_eq] at hp
  exact ⟨W.st [(Obj.lcgRun 1, .n 1)], 0, 0x2101, 0x13, 0, [20, 0], b, r, v, by decide +kernel, h, hp.1, hp.2⟩
end

section
/-! SUPPORT. What a session's write leaves, for an operation that leaves the sessions as they were. -/

namespace Sys2Proof.Machine

/-! ## Writes by a session -/

/-- What a write that passes R456 rests on: an open session that does not wait to be closed, and the judgement of the write. -/
theorem State.judged_some {s : State} {ses index sub off : Nat} {data : Bytes} {e : ObjBlock × ObjRow × Val}
    (h : s.judged ses index sub off data = some e) :
    s.dev.tol.selfClose = none ∧ ∃ x, Tbl.get? s.dev.tol.sessions ses = some x ∧
      s.dev.judgeWrite (x.writer ses) index sub off data = .ok e := by
  unfold State.judged at h
  split at h
  case h_1 x hc hx =>
    refine ⟨hc, x, hx, ?_⟩
    cases hj : s.dev.judgeWrite (x.writer ses) index sub off data with
    | error c => simp [hj, Except.toOption] at h
    | ok y =>
      rw [hj] at h
      exact congrArg Except.ok (Option.some.inj h)
  case h_2 => cases h

/-- The row and the value that a judged write is carried out with: the object's own (R28), and the value of its bytes (R29, R41). -/
theorem Dev.judgeWrite_ok {d : Dev} {w : Writer} {index sub off : Nat} {data : Bytes} {b : ObjBlock} {r : ObjRow} {v : Val}
    (h : d.judgeWrite w index sub off data = .ok (b, r, v)) :
    d.findObject index sub = .ok (b, some r) ∧ d.newValue b (index - b.base) sub off r data = some v := by
  unfold Dev.judgeWrite at h
  split at h
  case h_1 => cases h
  case h_2 => cases h
  case h_3 b' r' hf =>
    simp only at h
    repeat' split at h
    any_goals cases h
    all_goals exact ⟨hf, by assumption⟩

/-- An object that is found outside recovery is a row of the block of its index. -/
theorem Dev.findObject_ok {d : Dev} {index sub : Nat} {b : ObjBlock} {r : ObjRow} (h : d.findObject index sub = .ok (b, some r)) :
    blockOf d.rb9212 index = some b ∧ ∃ r', b.row? sub = some r' ∧ r = r'.here index := by
  unfold Dev.findObject at h
  split at h
  case h_1 => cases h
  case h_2 b' hb =>
    repeat' split at h
    all_goals cases h
    exact ⟨hb, _, by assumption, rfl⟩

/-- A device whose operation left the sessions as they were, and none waiting to be closed, keeps the operation's result (R59). -/
theorem Dev.hostWrite_single {d : Dev} {ses key : Nat} {data : Bytes} {x : Session} {b : ObjBlock} {r : ObjRow} {v : Val}
    (hx : Tbl.get? d.tol.sessions ses = some x) (hc : d.tol.selfClose = none)
    (hj : d.judgeWrite (x.writer ses) (key / 256) (key % 256) 0 data = .ok (b, r, v))
    (happ : r.app ≠ .staged) (hw : d.waits b r (d.blockGroup b.group (key / 256 - b.base)) = false) (e : Dev × RCode)
    (he : d.ownerWrite (x.writer ses) b (key / 256 - b.base) r.sub 0 data v none = e)
    (htol : e.1.tol = d.tol) (hrole : e.1.role = 0) :
    d.hostWrite ses key data = e.1.opResult e.2 [] := by
  have hwrite : d.write (x.writer ses) (key / 256) (key % 256) 0 data none = e := by
    unfold Dev.write Dev.doWrite
    simp only [hj, happ, hw, he, if_false, Bool.false_eq_true]
    split
    · rfl
    next hok =>
      have hok : e.2 = .ok := Classical.not_not.mp hok
      split
      · exact Prod.ext rfl hok.symm
      · exact Prod.ext (e.1.mirror_single _ hrole) hok.symm
  have hself : (e.1.opResult e.2 []).tol.selfClose = none := by
    show e.1.tol.selfClose = none
    rw [htol, hc]
  unfold Dev.hostWrite Dev.writeFrom Dev.onSession
  simp only [hx, hwrite, hself]
  show (e.1.opResult e.2 []).updTol (fun t => { t with selfClose := none }) = _
  show { e.1.opResult e.2 [] with tol := { (e.1.opResult e.2 []).tol with selfClose := none } } = _
  rw [← hself]

/-- What a command answers that leaves the result of an operation: the device as the operation left it, and the result (R59). -/
theorem onDev_opResult {s : State} {f : Dev → Dev} {e : Dev} {c : RCode} {data : Bytes} (h : s.Steady)
    (hf : f s.dev.begin = e.opResult c data) (hfit : e.Fit) (hrole : e.val Obj.pairRole = s.dev.val Obj.pairRole)
    (hfw : e.val Obj.fwState = s.dev.val Obj.fwState) :
    ∃ t, onDev s f = .next t ∧ t.Answered c data ∧ t.dev.blocks = e.blocks ∧ (∀ k, t.dev.val k = e.val k) ∧ t.pending = s.pending := by
  refine onDev_answers s f h ?_ ?_ ?_
  · rw [hf, Dev.val_opResult, hrole]
  · rw [hf, Dev.val_opResult, hfw]
  · intro t hp hv hb _ _ hcode hdata _ _
    rw [hf] at hb hv hcode hdata
    exact ⟨⟨hcode, hdata⟩, hb hfit, fun k => (hv k).trans (Dev.val_opResult ..), hp⟩

end Sys2Proof.Machine
end

section
/-! SUPPORT. The arrays of the classifier, what stands beside them, and the retirement of one (R222 to R225). -/

namespace Sys2Proof.Machine

/-! ## Reading and writing arrays -/

theorem Dev.arr_updArr (d : Dev) (a b : Nat) (f : ArrayUnit → ArrayUnit) :
    (d.updArr a f).arr b = if a = b ∧ b < d.cls.arrays.length then f (d.arr b) else d.arr b := getD_modify ..

theorem Dev.arr_congr {d e : Dev} (h : e.cls.arrays = d.cls.arrays) (a : Nat) : e.arr a = d.arr a := by
  unfold Dev.arr
  rw [h]

@[simp] theorem Dev.updArr_arrays_length (d : Dev) (a : Nat) (f : ArrayUnit → ArrayUnit) :
    (d.updArr a f).cls.arrays.length = d.cls.arrays.length := List.length_modify ..

theorem Dev.bump_cls (d : Dev) (k n : Nat) : (d.bump k n).cls = d.cls := rfl

@[simp] theorem Dev.log_cls (d : Dev) (src sev detail : Nat) (items : List Item) (g : Option Nat) (flags : Nat) :
    (d.log src sev detail items g flags).cls = d.cls := by
  show (d.log src sev detail items g flags).blocks.cls = d.blocks.cls
  rw [Dev.blocks_log]

/-! ## All that stands beside the arrays -/

/-- The classifier without what the dispatch of products moves: the arrays, the model slots, the requests and their flights are forgotten
but for how many units there are (R4). -/
def ClsState.forget (c : ClsState) : ClsState :=
  { c with
    arrays := List.replicate c.arrays.length (ArrayUnit.reset 0), slots := List.replicate c.slots.length ModelSlot.reset,
    flights := List.replicate c.flights.length [], queue := [], running := [] }

/-- All that a device's units hold beside that, and beside the queues of the pseudo-channels. -/
def Dev.besidesArrays (d : Dev) : Dev :=
  { d.blocks with cls := d.cls.forget, mem := { d.mem with pcs := List.replicate d.mem.pcs.length Pc.reset } }

/-- All that a retirement leaves alone: the calibrations and the pair's count of bad arrays are forgotten too (R222). -/
def Dev.besidesRepair (d : Dev) : Dev := { d.besidesArrays with cal := CalState.reset, pair := PairState.reset }

/-- A device with its dispatch of products as another device has it. -/
def Dev.withArrays (d e : Dev) : Dev :=
  { d with
    mem := { d.mem with pcs := e.mem.pcs }
    cls := { d.cls with
      arrays := e.cls.arrays, slots := e.cls.slots, queue := e.cls.queue, running := e.cls.running, flights := e.cls.flights } }

/-- A device with all that a retirement changes as another device has it. -/
def Dev.withRepair (d e : Dev) : Dev := { d.withArrays e with cal := e.cal, pair := e.blocks.pair }

theorem Dev.besidesArrays_now (d : Dev) : d.besidesArrays.now = d.now := rfl
theorem Dev.besidesArrays_clock (d : Dev) : d.besidesArrays.clock = d.clock := rfl

theorem Dev.cls_of_blocks {d e : Dev} (h : e.blocks = d.blocks) : e.cls = d.cls := by
  show e.blocks.cls = d.blocks.cls
  rw [h]

theorem Dev.besidesArrays_congr {d e : Dev} (h : e.blocks = d.blocks) : e.besidesArrays = d.besidesArrays := by
  show e.blocks.besidesArrays = d.blocks.besidesArrays
  rw [h]

theorem Dev.besidesRepair_congr {d e : Dev} (h : e.besidesArrays = d.besidesArrays) : e.besidesRepair = d.besidesRepair := by
  unfold Dev.besidesRepair
  rw [h]

/-- The units that a repair leaves alone. -/
theorem Dev.units_of_besidesRepair {d e : Dev} (h : e.besidesRepair = d.besidesRepair) :
    e.tol = d.tol ∧ e.stitch = d.stitch ∧ e.seg = d.seg ∧ e.pos = d.pos ∧ e.hbm = d.hbm ∧ e.ports = d.ports := by
  show e.besidesRepair.tol = d.besidesRepair.tol ∧ e.besidesRepair.stitch = d.besidesRepair.stitch ∧
    e.besidesRepair.seg = d.besidesRepair.seg ∧ e.besidesRepair.pos = d.besidesRepair.pos ∧
    e.besidesRepair.hbm = d.besidesRepair.hbm ∧ e.besidesRepair.ports = d.besidesRepair.ports
  rw [h]
  exact ⟨rfl, rfl, rfl, rfl, rfl, rfl⟩

theorem Dev.blocks_of_besidesArrays {d e : Dev} (h : e.besidesArrays = d.besidesArrays) : e.blocks = (d.withArrays e).blocks :=
  congrArg (fun x : Dev => x.withArrays e) h

theorem Dev.besidesArrays_updCls (d : Dev) (f : ClsState → ClsState) (h : (f d.cls).forget = d.cls.forget) :
    (d.updCls f).besidesArrays = d.besidesArrays := by
  show { d.besidesArrays with cls := (f d.cls).forget } = d.besidesArrays
  rw [h]
  rfl

@[simp] theorem Dev.besidesRepair_put (d : Dev) (k : Nat) (v : Val) : (d.put k v).besidesRepair = d.besidesRepair := rfl
theorem Dev.besidesRepair_bump (d : Dev) (k n : Nat) : (d.bump k n).besidesRepair = d.besidesRepair := rfl
@[simp] theorem Dev.besidesRepair_updCal (d : Dev) (f : CalState → CalState) : (d.updCal f).besidesRepair = d.besidesRepair := rfl
@[simp] theorem Dev.besidesRepair_updPair (d : Dev) (f : PairState → PairState) : (d.updPair f).besidesRepair = d.besidesRepair := rfl

@[simp] theorem Dev.besidesArrays_updArr (d : Dev) (a : Nat) (f : ArrayUnit → ArrayUnit) :
    (d.updArr a f).besidesArrays = d.besidesArrays := d.besidesArrays_updCls _ (by simp [ClsState.forget])

@[simp] theorem Dev.besidesArrays_log (d : Dev) (src sev detail : Nat) (items : List Item) (g : Option Nat) (flags : Nat) :
    (d.log src sev detail items g flags).besidesArrays = d.besidesArrays := Dev.besidesArrays_congr (by simp)

@[simp] theorem Dev.besidesArrays_memRequest (d : Dev) (port addr len : Nat) (write : Bool) :
    (d.memRequest port addr len write).besidesArrays = d.besidesArrays := by
  have h : (d.memRequest port addr len write).mem.pcs.length = d.mem.pcs.length :=
    foldl_keeps List.length _ _ d.mem.pcs (fun l e _ => by simp)
  show { d.besidesArrays with
    mem := { d.mem with pcs := List.replicate (d.memRequest port addr len write).mem.pcs.length Pc.reset } } = d.besidesArrays
  rw [h]
  rfl

/-- There are as many of each unit where the rest is the same. -/
theorem Dev.lengths_of_besidesRepair {d e : Dev} (h : e.besidesRepair = d.besidesRepair) :
    e.cls.arrays.length = d.cls.arrays.length ∧ e.cls.slots.length = d.cls.slots.length ∧
      e.cls.flights.length = d.cls.flights.length ∧ e.mem.pcs.length = d.mem.pcs.length := by
  have ha := congrArg (fun x : Dev => x.cls.arrays.length) h
  have hs := congrArg (fun x : Dev => x.cls.slots.length) h
  have hf := congrArg (fun x : Dev => x.cls.flights.length) h
  have hp := congrArg (fun x : Dev => x.mem.pcs.length) h
  simpa [Dev.besidesRepair, Dev.besidesArrays, ClsState.forget] using And.intro ha (And.intro hs (And.intro hf hp))

theorem Dev.arrays_length_of_besidesArrays {d e : Dev} (h : e.besidesArrays = d.besidesArrays) :
    e.cls.arrays.length = d.cls.arrays.length := (Dev.lengths_of_besidesRepair (Dev.besidesRepair_congr h)).1

/-- A device in which only what a repair touches has changed fits as before. -/
theorem Dev.Fit.of_besidesRepair {d e : Dev} (hd : d.Fit) (h : e.besidesRepair = d.besidesRepair) : e.Fit := by
  obtain ⟨ha, hs, hf, hp⟩ := Dev.lengths_of_besidesRepair h
  have ea : fixLen 72 (ArrayUnit.reset 0) e.cls.arrays = e.cls.arrays :=
    fixLen_eq _ _ _ (ha.trans (length_of_fixLen (congrArg (fun x => x.cls.arrays) hd)))
  have es : fixLen 2 ModelSlot.reset e.cls.slots = e.cls.slots :=
    fixLen_eq _ _ _ (hs.trans (length_of_fixLen (congrArg (fun x => x.cls.slots) hd)))
  have ef : fixLen 4 [] e.cls.flights = e.cls.flights :=
    fixLen_eq _ _ _ (hf.trans (length_of_fixLen (congrArg (fun x => x.cls.flights) hd)))
  have ep : fixLen 64 Pc.reset e.mem.pcs = e.mem.pcs :=
    fixLen_eq _ _ _ (hp.trans (length_of_fixLen (congrArg (fun x => x.mem.pcs) hd)))
  have hall : e.blocks = d.blocks.withRepair e := congrArg (fun x : Dev => x.withRepair e) h
  have htrim : (d.blocks.withRepair e).trim = d.blocks.trim.withRepair
      { e with
        cls := { e.cls with
          arrays := fixLen 72 (ArrayUnit.reset 0) e.cls.arrays, slots := fixLen 2 ModelSlot.reset e.cls.slots,
          flights := fixLen 4 [] e.cls.flights }
        mem := { e.mem with pcs := fixLen 64 Pc.reset e.mem.pcs } } := rfl
  show e.blocks.trim = e.blocks
  rw [hall, htrim, ea, es, ef, ep, hd]

/-! ## What follows a change of the active set (R224, R225) -/

/-- The objects that follow the arrays in service. -/
def loadKeys : List Nat := [Obj.modelMaxLoad 0, Obj.modelMaxLoad 1, Obj.modelRate 0, Obj.modelRate 1, Obj.logSeq]

/-- A device in which, of all units, only the model slots, the requests and the flights may have changed, and of the objects only
those of `keys`. -/
structure Dev.SlotsOnly (keys : List Nat) (d e : Dev) : Prop where
  besides : e.besidesArrays = d.besidesArrays
  arrays : e.cls.arrays = d.cls.arrays
  val : ∀ k, k ∉ keys → e.val k = d.val k

theorem Dev.SlotsOnly.now {keys : List Nat} {d e : Dev} (h : Dev.SlotsOnly keys d e) : e.now = d.now := by
  rw [← Dev.besidesArrays_now, h.besides, Dev.besidesArrays_now]

theorem Dev.SlotsOnly.clock {keys : List Nat} {d e : Dev} (h : Dev.SlotsOnly keys d e) : e.clock = d.clock := by
  rw [← Dev.besidesArrays_clock, h.besides, Dev.besidesArrays_clock]

theorem Dev.SlotsOnly.refl (keys : List Nat) (d : Dev) : Dev.SlotsOnly keys d d := ⟨rfl, rfl, fun _ _ => rfl⟩

theorem Dev.SlotsOnly.trans {keys : List Nat} {d e f : Dev} (h : Dev.SlotsOnly keys d e) (h' : Dev.SlotsOnly keys e f) :
    Dev.SlotsOnly keys d f :=
  ⟨h'.besides.trans h.besides, h'.arrays.trans h.arrays, fun k hk => (h'.val k hk).trans (h.val k hk)⟩

/-- A fold stays within what each of its steps stays within. -/
theorem Dev.SlotsOnly.foldl {α : Type} {keys : List Nat} (f : Dev → α → Dev) (l : List α) (d : Dev)
    (h : ∀ e, ∀ x ∈ l, Dev.SlotsOnly keys e (f e x)) : Dev.SlotsOnly keys d (l.foldl f d) := by
  induction l generalizing d with
  | nil => exact .refl keys d
  | cons x t ih => exact (h d x (by simp)).trans (ih _ (fun e y hy => h e y (by simp [hy])))

theorem Dev.SlotsOnly.put {keys : List Nat} (d : Dev) (k : Nat) (v : Val) (h : k ∈ keys) : Dev.SlotsOnly keys d (d.put k v) :=
  ⟨rfl, rfl, fun j hj => d.val_put_other k j v (fun e => hj (e ▸ h))⟩

theorem Dev.SlotsOnly.updCls {keys : List Nat} (d : Dev) (f : ClsState → ClsState) (h : (f d.cls).forget = d.cls.forget)
    (ha : (f d.cls).arrays = d.cls.arrays) : Dev.SlotsOnly keys d (d.updCls f) :=
  ⟨d.besidesArrays_updCls f h, ha, fun _ _ => by simp⟩

theorem Dev.SlotsOnly.updSlot {keys : List Nat} (d : Dev) (m : Nat) (f : ModelSlot → ModelSlot) :
    Dev.SlotsOnly keys d (d.updSlot m f) := .updCls d _ (by simp [ClsState.forget]) rfl

theorem Dev.SlotsOnly.log {keys : List Nat} (d : Dev) (src sev detail : Nat) (items : List Item) (g : Option Nat) (flags : Nat)
    (h : Obj.logSeq ∈ keys) : Dev.SlotsOnly keys d (d.log src sev detail items g flags) :=
  ⟨by simp, by simp, fun k hk => d.log_val src sev detail items g flags k (fun e => hk (e ▸ h))⟩

theorem Dev.giveResult_slotsOnly (keys : List Nat) (d : Dev) (r : ClsRes) : Dev.SlotsOnly keys d (d.giveResult r) :=
  .updCls d _ (by simp [ClsState.forget]) rfl

theorem Dev.slotUnusable_slotsOnly (keys : List Nat) (d : Dev) (m : Nat) : Dev.SlotsOnly keys d (d.slotUnusable m) :=
  (Dev.SlotsOnly.updCls d _ rfl rfl).trans (.foldl _ _ _ (fun e _ _ => e.giveResult_slotsOnly keys _))

theorem Dev.refreshLoad_slotsOnly (d : Dev) (m : Nat) (hm : m < 2) : Dev.SlotsOnly loadKeys d (d.refreshLoad m) := by
  have hk : Obj.modelMaxLoad m ∈ loadKeys ∧ Obj.modelRate m ∈ loadKeys := by
    match m, hm with
    | 0, _ | 1, _ => decide
  unfold Dev.refreshLoad
  split
  · exact .refl _ d
  · exact (Dev.SlotsOnly.put d _ _ hk.1).trans (.put _ _ _ hk.2)

theorem Dev.judgeSlot_slotsOnly (d : Dev) (m : Nat) (hm : m < 2) : Dev.SlotsOnly loadKeys d (d.judgeSlot m) := by
  have hload := d.refreshLoad_slotsOnly m hm
  unfold Dev.judgeSlot
  simp only
  split
  · exact hload
  · exact ((hload.trans (.updSlot _ _ _)).trans (.foldl _ _ _ (fun e _ _ => .log e _ _ _ _ _ _ (by decide)))).trans
      (Dev.slotUnusable_slotsOnly _ _ m)

theorem Dev.activeSetChanged_slotsOnly (d : Dev) : Dev.SlotsOnly loadKeys d d.activeSetChanged :=
  .foldl _ _ d (fun e m hm => e.judgeSlot_slotsOnly m (List.mem_range.mp hm))

/-! ## Retirement (R222 to R224) -/

theorem Dev.giveUpMvp_slotsOnly (d : Dev) (i key : Nat) : Dev.SlotsOnly [Obj.reruns] d (d.giveUpMvp i key) := by
  unfold Dev.giveUpMvp
  split
  · exact .refl _ d
  · simp only
    split
    · exact .refl _ d
    · have hrun : ∀ n, Dev.SlotsOnly [Obj.reruns] d (d.updCls (fun x => { x with running := x.running.set i n })) :=
        fun _ => .updCls d _ rfl rfl
      split
      · exact (hrun _).trans (.put _ _ _ (by simp))
      · exact hrun _

theorem Dev.giveUpMvps_slotsOnly (d : Dev) (a : Nat) : Dev.SlotsOnly [Obj.reruns] d (d.giveUpMvps a) := by
  unfold Dev.giveUpMvps
  simp only
  split
  · exact .refl _ d
  · exact .foldl _ _ d (fun e m _ => e.giveUpMvp_slotsOnly m.1 m.2)

theorem Dev.stamp_congr {d e : Dev} (hn : e.now = d.now) (hc : e.clock = d.clock)
    (hv : e.val (Obj.domState pdNet) = d.val (Obj.domState pdNet)) : e.stamp = d.stamp := by
  have hon : e.domOn pdNet = d.domOn pdNet := by simp only [Dev.domOn, Dev.nat, hv]
  simp only [Dev.stamp, Dev.stampAt, Dev.webAt, hon, hn, hc]

/-- The spare that takes over the logical number of an array: the lowest one (R223). -/
def Dev.spareFor (d : Dev) (a : Nat) : Option Nat :=
  if (d.arr a).logical = 0xFF then none else (List.range 72).find? (fun b => b != a && (d.arr b).state == 2)

/-- The array leaves dispatch: its products are given up and its logical number is free (R222, R223). -/
def Dev.takeOut (d : Dev) (a : Nat) : Dev :=
  (d.giveUpMvps a).updArr a (fun x => { x with state := 4, logical := 0xFF, unfit := false })

/-- What a retirement writes down: its time and count, the calibrations that fall away, and the pair's count of bad arrays. -/
def Dev.retireMarks (d : Dev) (a : Nat) (spare : Option Nat) : Dev :=
  let d := d.putN (Obj.retireTime a) d.stamp
  let d := d.updCal (fun x => { x with
    queue := x.queue.filter (fun e => e.1 != a), current := x.current.filter (fun c => c.array != a && some c.array != spare),
    cycle := x.cycle.filter (fun b => b != a), boot := x.boot.filter (fun b => b != a) })
  ((d.bump Obj.repairsDone).putN Obj.lastRepairTime d.stamp).updPair (fun x => { x with badArrays := x.badArrays + 1 })

/-- The spare takes logical number `l` over (R223). -/
def Dev.spareTakesOver (d : Dev) (spare : Option Nat) (l : Nat) : Dev :=
  match spare with
  | some b => d.updArr b (fun x => { x with state := 3, logical := l })
  | none => d

/-- The events of a retirement, and the health bit where no spare is left (R224). -/
def Dev.retireNews (d : Dev) (a : Nat) (spare : Option Nat) (l : Nat) : Dev :=
  let d := d.log 0x06 sevFault 0x0006 [.f a, .f (spare.getD 0xFF), .f l] none 2
  if spare.isNone ∧ l ≠ 0xFF then (d.log 0x06 sevFault 0x0008 [.f a]).setHealth 1 true else d

theorem Dev.spareFor_congr {d e : Dev} (h : e.cls.arrays = d.cls.arrays) (a : Nat) : e.spareFor a = d.spareFor a := by
  unfold Dev.spareFor
  simp only [Dev.arr_congr h]

/-- A retirement step by step. -/
theorem Dev.retireArray_eq (d : Dev) (a : Nat) :
    d.retireArray a =
      ((((d.takeOut a).retireMarks a (d.spareFor a)).spareTakesOver (d.spareFor a) (d.arr a).logical).retireNews a (d.spareFor a)
        (d.arr a).logical).activeSetChanged := by
  have hg := (d.giveUpMvps_slotsOnly a).arrays
  rw [← Dev.spareFor_congr hg, ← Dev.arr_congr hg]
  rfl

theorem Dev.takeOut_besidesArrays (d : Dev) (a : Nat) : (d.takeOut a).besidesArrays = d.besidesArrays :=
  (Dev.besidesArrays_updArr ..).trans (d.giveUpMvps_slotsOnly a).besides

theorem Dev.takeOut_val (d : Dev) (a k : Nat) (hk : k ≠ Obj.reruns) : (d.takeOut a).val k = d.val k :=
  (Dev.val_updArr ..).trans ((d.giveUpMvps_slotsOnly a).val k (by simpa using hk))

theorem Dev.takeOut_arr (d : Dev) (a b : Nat) (hb : b < d.cls.arrays.length) :
    (d.takeOut a).arr b = if b = a then { d.arr b with state := 4, logical := 0xFF, unfit := false } else d.arr b := by
  have hg := (d.giveUpMvps_slotsOnly a).arrays
  simp [Dev.takeOut, Dev.arr_updArr, Dev.arr_congr hg, hg, hb, eq_comm]

theorem Dev.takeOut_stamp (d : Dev) (a : Nat) : (d.takeOut a).stamp = d.stamp :=
  Dev.stamp_congr (d.giveUpMvps_slotsOnly a).now (d.giveUpMvps_slotsOnly a).clock (d.takeOut_val a _ (by decide))

/-- The spare is another array. -/
theorem Dev.spareFor_ne {d : Dev} {a b : Nat} (h : d.spareFor a = some b) : b ≠ a := by
  unfold Dev.spareFor at h
  split at h
  · cases h
  · have hb := List.find?_some h
    simp only [Bool.and_eq_true, bne_iff_ne] at hb
    exact hb.1

@[simp] theorem Dev.retireMarks_cls (d : Dev) (a : Nat) (spare : Option Nat) : (d.retireMarks a spare).cls = d.cls := by
  unfold Dev.retireMarks
  rw [Dev.updPair_cls, Dev.putN_eq, Dev.put_cls, Dev.bump_cls, Dev.updCal_cls, Dev.putN_eq, Dev.put_cls]

@[simp] theorem Dev.retireMarks_besidesRepair (d : Dev) (a : Nat) (spare : Option Nat) :
    (d.retireMarks a spare).besidesRepair = d.besidesRepair := by
  unfold Dev.retireMarks
  rw [Dev.besidesRepair_updPair, Dev.putN_eq, Dev.besidesRepair_put, Dev.besidesRepair_bump, Dev.besidesRepair_updCal, Dev.putN_eq,
    Dev.besidesRepair_put]

theorem Dev.retireMarks_val (d : Dev) (a : Nat) (spare : Option Nat) (k : Nat)
    (hk : k ∉ [Obj.retireTime a, Obj.repairsDone, Obj.lastRepairTime]) : (d.retireMarks a spare).val k = d.val k := by
  simp only [List.mem_cons, List.not_mem_nil, or_false, not_or] at hk
  obtain ⟨ht, hd, hl⟩ := hk
  simp [Dev.retireMarks, Dev.val_put_other, ht, hd, hl]

theorem Dev.retireMarks_retireTime (d : Dev) (a : Nat) (spare : Option Nat) :
    (d.retireMarks a spare).nat (Obj.retireTime a) = d.stamp := by
  have hd : Obj.retireTime a ≠ Obj.repairsDone := by simp only [Obj.retireTime, Obj.repairsDone]; omega
  have hl : Obj.retireTime a ≠ Obj.lastRepairTime := by simp only [Obj.retireTime, Obj.lastRepairTime]; omega
  simp [Dev.retireMarks, Dev.nat_put, hd, hl]

theorem Dev.retireMarks_repairsDone (d : Dev) (a : Nat) (spare : Option Nat) :
    (d.retireMarks a spare).nat Obj.repairsDone = min (2 ^ 32 - 1) (d.nat Obj.repairsDone + 1) := by
  have hd : Obj.repairsDone ≠ Obj.retireTime a := by simp only [Obj.retireTime, Obj.repairsDone]; omega
  have hl : Obj.repairsDone ≠ Obj.lastRepairTime := by decide
  simp only [Dev.retireMarks, Dev.nat_updPair, Dev.putN_eq, Dev.nat_put, hl, if_false, Dev.nat_bump, Dev.nat_updCal, hd]

theorem Dev.spareTakesOver_besidesArrays (d : Dev) (spare : Option Nat) (l : Nat) :
    (d.spareTakesOver spare l).besidesArrays = d.besidesArrays := by
  cases spare with
  | none => rfl
  | some b => exact d.besidesArrays_updArr b _

theorem Dev.spareTakesOver_val (d : Dev) (spare : Option Nat) (l k : Nat) : (d.spareTakesOver spare l).val k = d.val k := by
  cases spare with
  | none => rfl
  | some b => exact Dev.val_updArr ..

theorem Dev.spareTakesOver_arr (d : Dev) (spare : Option Nat) (l b : Nat) (hb : b < d.cls.arrays.length) :
    (d.spareTakesOver spare l).arr b = if spare = some b then { d.arr b with state := 3, logical := l } else d.arr b := by
  cases spare with
  | none => rfl
  | some c => simp [Dev.spareTakesOver, Dev.arr_updArr, hb]

theorem Dev.retireNews_slotsOnly (d : Dev) (a : Nat) (spare : Option Nat) (l : Nat) :
    Dev.SlotsOnly [Obj.logSeq, Obj.deviceHealthHeld] d (d.retireNews a spare l) := by
  have hlog : ∀ (e : Dev) n items f, Dev.SlotsOnly [Obj.logSeq, Obj.deviceHealthHeld] e (e.log 0x06 sevFault n items none f) :=
    fun e n items f => .log e _ _ _ _ _ _ (by simp)
  unfold Dev.retireNews
  simp only
  split
  · exact ((hlog d _ _ _).trans (hlog _ _ _ _)).trans (.put _ _ _ (by simp))
  · exact hlog d _ _ _

/-- The objects that a retirement writes, with those that its change of the active set writes. -/
def retireKeys (a : Nat) : List Nat :=
  [Obj.reruns, Obj.retireTime a, Obj.repairsDone, Obj.lastRepairTime, Obj.logSeq, Obj.deviceHealthHeld] ++ loadKeys

theorem Dev.retireArray_besidesRepair (d : Dev) (a : Nat) : (d.retireArray a).besidesRepair = d.besidesRepair := by
  rw [Dev.retireArray_eq, Dev.besidesRepair_congr (Dev.activeSetChanged_slotsOnly _).besides,
    Dev.besidesRepair_congr (Dev.retireNews_slotsOnly ..).besides, Dev.besidesRepair_congr (Dev.spareTakesOver_besidesArrays ..),
    Dev.retireMarks_besidesRepair, Dev.besidesRepair_congr (d.takeOut_besidesArrays a)]

/-- The arrays after a retirement: the array itself is out, its spare takes over, and the others stay (R222, R223). -/
theorem Dev.retireArray_arr (d : Dev) (a b : Nat) (hb : b < d.cls.arrays.length) :
    (d.retireArray a).arr b =
      if b = a then { d.arr b with state := 4, logical := 0xFF, unfit := false }
      else if d.spareFor a = some b then { d.arr b with state := 3, logical := (d.arr a).logical } else d.arr b := by
  have hlen : b < ((d.takeOut a).retireMarks a (d.spareFor a)).cls.arrays.length := by
    rw [Dev.retireMarks_cls, Dev.takeOut, Dev.updArr_arrays_length, (d.giveUpMvps_slotsOnly a).arrays]
    exact hb
  rw [Dev.retireArray_eq, Dev.arr_congr (Dev.activeSetChanged_slotsOnly _).arrays, Dev.arr_congr (Dev.retireNews_slotsOnly ..).arrays,
    Dev.spareTakesOver_arr _ _ _ _ hlen, Dev.arr_congr (congrArg _ (Dev.retireMarks_cls ..)), d.takeOut_arr a b hb]
  by_cases hba : b = a
  · subst hba
    have hne : d.spareFor b ≠ some b := fun h => Dev.spareFor_ne h rfl
    simp [hne]
  · simp [hba]

/-- What a retirement's events and the new active set leave of its marks. -/
theorem Dev.retireArray_val_marks (d : Dev) (a k : Nat) (h1 : k ∉ loadKeys) (h2 : k ∉ [Obj.logSeq, Obj.deviceHealthHeld]) :
    (d.retireArray a).val k = ((d.takeOut a).retireMarks a (d.spareFor a)).val k := by
  rw [Dev.retireArray_eq, (Dev.activeSetChanged_slotsOnly _).val k h1, (Dev.retireNews_slotsOnly ..).val k h2,
    Dev.spareTakesOver_val]

theorem Dev.retireArray_val (d : Dev) (a k : Nat) (hk : k ∉ retireKeys a) : (d.retireArray a).val k = d.val k := by
  simp only [retireKeys, List.mem_append, not_or] at hk
  obtain ⟨hk, hload⟩ := hk
  simp only [List.mem_cons, List.not_mem_nil, or_false, not_or] at hk
  obtain ⟨hreruns, ht, hd, hl, hlog, hhealth⟩ := hk
  rw [Dev.retireArray_val_marks d a k hload (by simp [hlog, hhealth]), Dev.retireMarks_val _ _ _ _ (by simp [ht, hd, hl]),
    d.takeOut_val a k hreruns]

theorem Dev.retireArray_retireTime (d : Dev) (a : Nat) : (d.retireArray a).nat (Obj.retireTime a) = d.stamp := by
  have hload : Obj.retireTime a ∉ loadKeys := by
    simp only [loadKeys, Obj.modelMaxLoad, Obj.modelRate, Obj.logSeq, Obj.retireTime, List.mem_cons, List.not_mem_nil, or_false]
    omega
  have hlog : Obj.retireTime a ∉ [Obj.logSeq, Obj.deviceHealthHeld] := by
    simp only [Obj.logSeq, Obj.deviceHealthHeld, Obj.retireTime, List.mem_cons, List.not_mem_nil, or_false]
    omega
  rw [Dev.nat, d.retireArray_val_marks a _ hload hlog, ← Dev.nat, Dev.retireMarks_retireTime, d.takeOut_stamp]

theorem Dev.retireArray_repairsDone (d : Dev) (a : Nat) :
    (d.retireArray a).nat Obj.repairsDone = min (2 ^ 32 - 1) (d.nat Obj.repairsDone + 1) := by
  rw [Dev.nat, d.retireArray_val_marks a _ (by decide) (by decide), ← Dev.nat, Dev.retireMarks_repairsDone, Dev.nat,
    d.takeOut_val a _ (by decide), ← Dev.nat]

theorem retireKeys_steady (a : Nat) : Obj.pairRole ∉ retireKeys a ∧ Obj.fwState ∉ retireKeys a := by
  simp only [retireKeys, loadKeys, Obj.reruns, Obj.retireTime, Obj.repairsDone, Obj.lastRepairTime, Obj.logSeq, Obj.deviceHealthHeld,
    Obj.modelMaxLoad, Obj.modelRate, Obj.pairRole, Obj.fwState, List.mem_append, List.mem_cons, List.not_mem_nil, or_false]
  omega

/-! ## A write of Retire (R21, R222) -/

/-- Retire is a command of an unclocked block: a write of it is neither staged nor held for a hit (R236). -/
theorem retire_row : ∀ rb : Bool, ∀ a < 72, (blockOf rb (Obj.arrayRetire a / 256)).any (fun b =>
    b.base == 0x3840 && b.group == .unclocked &&
      (b.row? (Obj.arrayRetire a % 256)).any (fun r => r.sub == 8 && r.ty == .bool && r.app == .live)) = true := by
  decide +kernel

theorem Dev.findObject_retire {d : Dev} {a : Nat} {b : ObjBlock} {r : ObjRow} (ha : a < 72)
    (h : d.findObject (Obj.arrayRetire a / 256) (Obj.arrayRetire a % 256) = .ok (b, some r)) :
    b.base = 0x3840 ∧ b.group = .unclocked ∧ r.sub = 8 ∧ r.ty = .bool ∧ r.app = .live := by
  obtain ⟨hb, r', hr, rfl⟩ := Dev.findObject_ok h
  have hrow := retire_row d.rb9212 a ha
  simp only [hb, hr, Option.any_some, Bool.and_eq_true, beq_iff_eq] at hrow
  obtain ⟨⟨hbase, hgroup⟩, ⟨hsub, hty⟩, happ⟩ := hrow
  have hhere : r'.here (Obj.arrayRetire a / 256) = r' := by
    unfold ObjRow.here
    rw [if_neg (by simp [hsub])]
  rw [hhere]
  exact ⟨hbase, hgroup, hsub, hty, happ⟩

/-- The value of a BOOL written as one byte 1. -/
theorem Dev.newValue_bool_one {d : Dev} {b : ObjBlock} {u sub : Nat} {r : ObjRow} {v : Val} (hty : r.ty = .bool)
    (h : d.newValue b u sub 0 r [1] = some v) : v = .n 1 := by
  have hsize : r.ty.size = some 1 := by rw [hty]; rfl
  have hnum : decodeNum r.ty [1] = some 1 := by rw [hty]; rfl
  unfold Dev.newValue at h
  simp only [hsize, hnum] at h
  split at h
  · exact (Option.some.inj h).symm
  · cases h

theorem Dev.retireArray_tol (d : Dev) (a : Nat) : (d.retireArray a).tol = d.tol :=
  (Dev.units_of_besidesRepair (d.retireArray_besidesRepair a)).1

theorem Dev.retireArray_role (d : Dev) (a : Nat) : (d.retireArray a).role = d.role := by
  simp only [Dev.role, Dev.nat, d.retireArray_val a _ (retireKeys_steady a).1]

/-- An array may be retired: it is in service, and each tile of a model in use keeps a placement without it (R222). -/
def Dev.mayRetire (d : Dev) (a : Nat) : Prop := ¬ ((d.arr a).state = 4 ∨ (d.arr a).state = 0 ∨ d.retireLeaves a = true)

theorem Dev.writeRetire_refused {d : Dev} {a : Nat} (h : ¬ d.mayRetire a) : d.writeRetire a = (d, .state) :=
  if_pos (Classical.not_not.mp h)

theorem Dev.writeRetire_taken {d : Dev} {a : Nat} (h : d.mayRetire a) : d.writeRetire a = (d.retireArray a, .ok) := if_neg h

theorem Dev.writeRetire_tol (d : Dev) (a : Nat) : (d.writeRetire a).1.tol = d.tol := by
  by_cases h : d.mayRetire a
  · rw [Dev.writeRetire_taken h, Dev.retireArray_tol]
  · rw [Dev.writeRetire_refused h]

theorem Dev.writeRetire_role (d : Dev) (a : Nat) : (d.writeRetire a).1.role = d.role := by
  by_cases h : d.mayRetire a
  · rw [Dev.writeRetire_taken h, Dev.retireArray_role]
  · rw [Dev.writeRetire_refused h]

theorem Dev.ownerWrite_retire (d : Dev) (w : Writer) {b : ObjBlock} (a sub off : Nat) (data : Bytes) (bus : Option BusReply)
    (hb : b.base = 0x3840) : d.ownerWrite w b a sub off data (.n 1) bus = d.writeRetire a := by
  unfold Dev.ownerWrite
  simp only [hb]
  unfold Dev.onOne
  rw [if_neg (by decide)]

/-- What a write of 1 to Retire leaves, as the session that may write it sees it. -/
theorem State.Steady.hostWrite_retire {s : State} (h : s.Steady) {ses a : Nat} (ha : a < 72)
    (hm : s.MayWrite ses (Obj.arrayRetire a) [1]) :
    s.dev.begin.hostWrite ses (Obj.arrayRetire a) [1] = (s.dev.begin.writeRetire a).1.opResult (s.dev.begin.writeRetire a).2 [] := by
  obtain ⟨⟨b, r, v⟩, hj⟩ := Option.isSome_iff_exists.mp hm
  obtain ⟨hc, x, hx, hjudge⟩ := State.judged_some hj
  obtain ⟨hfind, hval⟩ := Dev.judgeWrite_ok hjudge
  obtain ⟨hbase, hgroup, hsub, hty, happ⟩ := Dev.findObject_retire ha hfind
  have hv := Dev.newValue_bool_one hty hval
  have hunit : Obj.arrayRetire a / 256 - b.base = a := by rw [hbase, Obj.arrayRetire]; omega
  refine Dev.hostWrite_single (d := s.dev.begin) hx hc hjudge (by rw [happ]; decide) ?_ (s.dev.begin.writeRetire a) ?_ ?_ ?_
  · simp [Dev.waits, hgroup, Dev.blockGroup]
  · rw [hunit, hv]
    exact Dev.ownerWrite_retire _ _ a _ _ _ _ hbase
  · exact Dev.writeRetire_tol _ a
  · exact (Dev.writeRetire_role _ a).trans h.role_begin

/-- A refused write of Retire changes nothing (R21, R222). -/
theorem retire_refused {s : State} (h : s.Steady) {ses a : Nat} (ha : a < 72) (hm : s.MayWrite ses (Obj.arrayRetire a) [1])
    (hno : ¬ s.dev.mayRetire a) :
    Answers (.retire ses a) s (fun t => t.Answered .state [] ∧ s.Leaves t s.dev []) := by
  have hw : s.dev.begin.hostWrite ses (Obj.arrayRetire a) [1] = s.dev.begin.opResult .state [] := by
    rw [h.hostWrite_retire ha hm, Dev.writeRetire_refused (d := s.dev.begin) hno]
  obtain ⟨t, ht, hans, hblocks, hval, hpend⟩ :=
    onDev_opResult (f := fun d => d.hostWrite ses (Obj.arrayRetire a) [1]) h hw h.fit_begin rfl rfl
  exact ⟨t, (if_pos ha).trans ht, hans, hpend, hblocks, fun k _ => hval k⟩

/-- What a retirement at the host's word leaves (R222, R223). -/
theorem retire_taken {s : State} (h : s.Steady) {ses a : Nat} (ha : a < 72) (hm : s.MayWrite ses (Obj.arrayRetire a) [1])
    (hyes : s.dev.mayRetire a) :
    Answers (.retire ses a) s (fun t => t.Answered .ok [] ∧ t.dev.blocks = (s.dev.begin.retireArray a).blocks ∧
      (∀ k, t.dev.val k = (s.dev.begin.retireArray a).val k) ∧ t.pending = s.pending) := by
  have hw : s.dev.begin.hostWrite ses (Obj.arrayRetire a) [1] = (s.dev.begin.retireArray a).opResult .ok [] := by
    rw [h.hostWrite_retire ha hm, Dev.writeRetire_taken (d := s.dev.begin) hyes]
  obtain ⟨hrole, hfw⟩ := retireKeys_steady a
  obtain ⟨t, ht, hans⟩ :=
    onDev_opResult (f := fun d => d.hostWrite ses (Obj.arrayRetire a) [1]) h hw
      (h.fit_begin.of_besidesRepair (Dev.retireArray_besidesRepair _ a)) (Dev.retireArray_val _ _ _ hrole) (Dev.retireArray_val _ _ _ hfw)
  exact ⟨t, (if_pos ha).trans ht, hans⟩

/-- A write of Retire: refused, or the array is out, its spare takes over, and all that stands beside stays (R222, R223). -/
theorem retire_answers {s : State} (h : s.Steady) {ses a : Nat} (ha : a < 72) (hm : s.MayWrite ses (Obj.arrayRetire a) [1]) :
    Answers (.retire ses a) s (fun t =>
      if (s.dev.arr a).state = 4 ∨ (s.dev.arr a).state = 0 ∨ s.dev.retireLeaves a = true then t.Answered .state [] ∧ s.Leaves t s.dev []
      else t.Answered .ok [] ∧ t.dev.arr a = { s.dev.arr a with state := 4, logical := 0xFF, unfit := false } ∧
        (∀ b : Nat, b < 72 → b ≠ a →
          t.dev.arr b = if s.dev.spareFor a = some b then { s.dev.arr b with state := 3, logical := (s.dev.arr a).logical } else s.dev.arr b) ∧
        t.dev.nat (Obj.retireTime a) = s.dev.stamp ∧ t.dev.nat Obj.repairsDone = min (2 ^ 32 - 1) (s.dev.nat Obj.repairsDone + 1) ∧
        t.dev.stitch = s.dev.stitch ∧ t.dev.seg = s.dev.seg ∧ t.dev.pos = s.dev.pos ∧ t.dev.hbm = s.dev.hbm ∧ t.dev.ports = s.dev.ports ∧
        t.pending = s.pending) := by
  by_cases hno : (s.dev.arr a).state = 4 ∨ (s.dev.arr a).state = 0 ∨ s.dev.retireLeaves a = true
  · simp only [if_pos hno]
    exact retire_refused h ha hm (Classical.not_not.mpr hno)
  · obtain ⟨t, ht, hans, hblocks, hval, hpend⟩ := retire_taken h ha hm hno
    obtain ⟨⟨_, _, _, _, _, _, _, _, _, _, harrays, _⟩, _⟩ := h
    have hcls : t.dev.cls = (s.dev.begin.retireArray a).cls := Dev.cls_of_blocks hblocks
    have harr : ∀ b, b < 72 → t.dev.arr b = (s.dev.begin.retireArray a).arr b :=
      fun b _ => Dev.arr_congr (by rw [hcls]) b
    have hfrom := fun b (hb : b < 72) => Dev.retireArray_arr s.dev.begin a b (Nat.lt_of_lt_of_eq hb harrays.symm)
    obtain ⟨_, hstitch, hseg, hpos, hhbm, hports⟩ := Dev.units_of_besidesRepair
      ((Dev.besidesRepair_congr (Dev.besidesArrays_congr hblocks)).trans (Dev.retireArray_besidesRepair s.dev.begin a))
    simp only [if_neg hno]
    refine ⟨t, ht, hans, ?_, ?_, ?_, ?_, hstitch, hseg, hpos, hhbm, hports, hpend⟩
    · rw [harr a ha, hfrom a ha, if_pos rfl]
      rfl
    · intro b hb hba
      rw [harr b hb, hfrom b hb, if_neg hba]
      rfl
    · rw [Dev.nat, hval, ← Dev.nat, Dev.retireArray_retireTime]
      rfl
    · rw [Dev.nat, hval, ← Dev.nat, Dev.retireArray_repairsDone]
      rfl

end Sys2Proof.Machine
end

section
/-! SUPPORT. The programming of a spare (R214, R215, R223). -/

namespace Sys2Proof.Machine

/-! ## Programming an array (R214, R215) -/

/-- What bank `b` of array `a` is programmed with: the tile that the image of its slot places there (R214 to R216). -/
def Dev.bankOf (d : Dev) (a b : Nat) : Option WBank :=
  let i := d.image (b / 2)
  ((i.tiles.zip (List.range i.tiles.length)).find? (fun e =>
    e.1.places.any (fun p => p.1 == (d.arr a).logical && p.2 == b % 2))).map (fun e => bankWith (d.slot (b / 2)).image e.2 e.1)

/-- `e` is `d` with the banks `bs` of array `a` programmed. -/
structure Dev.Programmed (a : Nat) (bs : List Nat) (d e : Dev) : Prop where
  besides : e.besidesArrays = d.besidesArrays
  val : ∀ k, e.val k = d.val k
  slots : e.cls.slots = d.cls.slots
  others : ∀ x, x ≠ a → e.arr x = d.arr x
  self : e.arr a = { d.arr a with banks := (e.arr a).banks }
  banks : ∀ b, Tbl.get? (e.arr a).banks b = if b ∈ bs then d.bankOf a b else Tbl.get? (d.arr a).banks b

theorem Dev.Programmed.bankOf_eq {a : Nat} {bs : List Nat} {d e : Dev} (h : Dev.Programmed a bs d e) (b : Nat) :
    e.bankOf a b = d.bankOf a b := by
  have hslot : ∀ m, e.slot m = d.slot m := fun m => by unfold Dev.slot; rw [h.slots]
  have hlog : (e.arr a).logical = (d.arr a).logical := by rw [h.self]
  simp only [Dev.bankOf, Dev.image, hslot, hlog]

theorem Dev.Programmed.refl (a : Nat) (d : Dev) : Dev.Programmed a [] d d :=
  ⟨rfl, fun _ => rfl, rfl, fun _ _ => rfl, rfl, fun _ => by simp⟩

theorem Dev.Programmed.trans {a : Nat} {bs cs : List Nat} {d e f : Dev} (h : Dev.Programmed a bs d e) (h' : Dev.Programmed a cs e f) :
    Dev.Programmed a (bs ++ cs) d f where
  besides := h'.besides.trans h.besides
  val k := (h'.val k).trans (h.val k)
  slots := h'.slots.trans h.slots
  others x hx := (h'.others x hx).trans (h.others x hx)
  self := by rw [h'.self, h.self]
  banks b := by
    rw [h'.banks, h.banks, h.bankOf_eq]
    by_cases hc : b ∈ cs <;> simp [hc]

/-- Programming a bank changes the banks of its array alone, and of these only that one. -/
theorem Dev.programBank_banks (d : Dev) (a b : Nat) : ∃ f : Tbl WBank → Tbl WBank,
    (d.programBank a b).cls = (d.updArr a (fun x => { x with banks := f x.banks })).cls ∧
      (d.programBank a b).besidesArrays = d.besidesArrays ∧ (∀ k, (d.programBank a b).val k = d.val k) ∧
      ∀ t c, Tbl.get? (f t) c = if c = b then d.bankOf a b else Tbl.get? t c := by
  unfold Dev.programBank
  simp only
  split
  case h_1 t k hfind =>
    refine ⟨fun x => Tbl.put x b (bankWith (d.slot (b / 2)).image k t), rfl, by simp, fun k => Dev.val_updMem .., fun t' c => ?_⟩
    simp only [Tbl.get?_put, Dev.bankOf, hfind, Option.map_some, eq_comm]
  case h_2 hfind =>
    refine ⟨fun x => Tbl.del x b, rfl, by simp, fun k => Dev.val_updArr .., fun t' c => ?_⟩
    simp only [Tbl.get?_del, Dev.bankOf, hfind, Option.map_none, eq_comm]

theorem Dev.programBank_programmed (d : Dev) (a b : Nat) (ha : a < d.cls.arrays.length) :
    Dev.Programmed a [b] d (d.programBank a b) := by
  obtain ⟨f, hcls, hbesides, hval, hbanks⟩ := d.programBank_banks a b
  have harr : ∀ x, (d.programBank a b).arr x = (d.updArr a (fun y => { y with banks := f y.banks })).arr x :=
    fun x => Dev.arr_congr (by rw [hcls]) x
  have hself : (d.programBank a b).arr a = { d.arr a with banks := f (d.arr a).banks } := by simp [harr, Dev.arr_updArr, ha]
  refine ⟨hbesides, hval, by rw [hcls]; rfl, fun x hx => ?_, by rw [hself], fun c => ?_⟩
  · simp [harr, Dev.arr_updArr, Ne.symm hx]
  · rw [hself]
    by_cases hc : c = b
    · simp [hbanks, hc]
    · simp [hbanks, hc]

/-- The two banks of each of the slots `ms` (R215). -/
def bankPairs (ms : List Nat) : List Nat := ms.flatMap (fun m => [2 * m, 2 * m + 1])

theorem mem_bankPairs (ms : List Nat) (m k : Nat) (hk : k < 2) : 2 * m + k ∈ bankPairs ms ↔ m ∈ ms := by
  simp only [bankPairs, List.mem_flatMap, List.mem_cons, List.not_mem_nil, or_false]
  constructor
  · rintro ⟨n, hn, h⟩
    have : m = n := by omega
    exact this ▸ hn
  · exact fun h => ⟨m, h, by omega⟩

theorem Dev.programArray_programmed (d : Dev) (m a : Nat) (ha : a < d.cls.arrays.length) :
    Dev.Programmed a [2 * m, 2 * m + 1] d (d.programArray m a) := by
  have h := d.programBank_programmed a (2 * m) ha
  have hlen := Dev.arrays_length_of_besidesArrays h.besides
  exact h.trans (Dev.programBank_programmed _ a _ (Nat.lt_of_lt_of_eq ha hlen.symm))

theorem Dev.programArrays_programmed (ms : List Nat) (d : Dev) (a : Nat) (ha : a < d.cls.arrays.length) :
    Dev.Programmed a (bankPairs ms) d (ms.foldl (fun d m => d.programArray m a) d) := by
  induction ms generalizing d with
  | nil => exact .refl a d
  | cons m ms ih =>
    have h := d.programArray_programmed m a ha
    have hlen := Dev.arrays_length_of_besidesArrays h.besides
    rw [show bankPairs (m :: ms) = [2 * m, 2 * m + 1] ++ bankPairs ms from List.flatMap_cons, List.foldl_cons]
    exact h.trans (ih (d.programArray m a) (Nat.lt_of_lt_of_eq ha hlen.symm))

/-! ## A spare that has been programmed (R223) -/

/-- The slots that hold a model. -/
def Dev.readySlots (d : Dev) : List Nat := (List.range 2).filter (fun m => d.nat (Obj.modelSlotState m) == 2)

theorem Dev.mem_readySlots (d : Dev) (m : Nat) : m ∈ d.readySlots ↔ m < 2 ∧ d.nat (Obj.modelSlotState m) = 2 := by
  simp [Dev.readySlots]

/-- What the end of programming leaves: the array with the banks of every slot that is Ready, and in dispatch. -/
structure Dev.SpareEntered (a : Nat) (d e : Dev) : Prop where
  besides : e.besidesArrays = d.besidesArrays
  val : ∀ k, k ∉ loadKeys → e.val k = d.val k
  others : ∀ x, x ≠ a → e.arr x = d.arr x
  self : e.arr a = { d.arr a with state := 1, banks := (e.arr a).banks }
  banks : ∀ b, Tbl.get? (e.arr a).banks b = if b ∈ bankPairs d.readySlots then d.bankOf a b else Tbl.get? (d.arr a).banks b

theorem Dev.spareProgrammed_entered (d : Dev) (a : Nat) (ha : a < d.cls.arrays.length) (h3 : (d.arr a).state = 3) :
    Dev.SpareEntered a d (d.spareProgrammed a) := by
  have hprog := Dev.programArrays_programmed d.readySlots d a ha
  have hlen := Dev.arrays_length_of_besidesArrays hprog.besides
  have heq : d.spareProgrammed a =
      (((d.readySlots.foldl (fun d m => d.programArray m a) d).updArr a (fun x => { x with state := 1 })).log 0x06 sevInfo 0x0007
        [.f a, .f (sumN (d.readySlots.map (fun m => 2 ^ m)))]).activeSetChanged := if_neg (Classical.not_not.mpr h3)
  rw [heq]
  generalize d.readySlots.foldl (fun d m => d.programArray m a) d = p at hprog hlen ⊢
  have hact := (Dev.SlotsOnly.log (p.updArr a (fun x => { x with state := 1 })) 0x06 sevInfo 0x0007
    [.f a, .f (sumN (d.readySlots.map (fun m => 2 ^ m)))] none 0 (by decide)).trans (Dev.activeSetChanged_slotsOnly _)
  have harr := fun x => (Dev.arr_congr hact.arrays x).trans (Dev.arr_updArr p a x _)
  generalize Dev.activeSetChanged _ = e at hact harr ⊢
  have hself : e.arr a = { p.arr a with state := 1 } := by simp [harr, hlen, ha]
  exact
    { besides := hact.besides.trans ((Dev.besidesArrays_updArr ..).trans hprog.besides)
      val := fun k hk => (hact.val k hk).trans ((Dev.val_updArr ..).trans (hprog.val k))
      others := fun x hx => by simp [harr, Ne.symm hx, hprog.others x hx]
      self := by rw [hself, hprog.self]
      banks := fun b => by rw [hself, ← hprog.banks] }

/-- While the classifier works, SPARE_PROGRAMMED acts on the device as the rule says. -/
theorem spareProgrammed_answers {s : State} (h : s.Works pdCls) {a : Nat} (ha : a < 72) {e : Dev}
    (he : s.dev.begin.spareProgrammed a = e) (hbesides : e.besidesArrays = s.dev.besidesArrays)
    (hval : ∀ k, k ∉ loadKeys → e.val k = s.dev.val k) :
    Answers (.spareProgrammed a) s (fun t => t.pending = s.pending ∧ t.dev.blocks = e.blocks ∧ ∀ k, t.dev.val k = e.val k) := by
  obtain ⟨hs, hon⟩ := h
  have hf : s.dev.begin.whileOn pdCls (fun d => d.spareProgrammed a) = e := by rw [Dev.whileOn, Dev.begin_domOn, if_pos hon, he]
  have hfit : e.Fit := hs.fit_begin.of_besidesRepair (Dev.besidesRepair_congr hbesides)
  have hans := onDev_answers s (fun d => d.whileOn pdCls (fun d => d.spareProgrammed a)) hs
    (P := fun t => t.pending = s.pending ∧ t.dev.blocks = e.blocks ∧ ∀ k, t.dev.val k = e.val k)
    (by rw [hf, hval _ (by decide)]) (by rw [hf, hval _ (by decide)]) (by
      intro t hp hv hb _ _ _ _ _ _
      rw [hf] at hb hv
      exact ⟨hp, hb hfit, hv⟩)
  obtain ⟨t, ht, hP⟩ := hans
  exact ⟨t, (if_pos ha).trans ht, hP⟩

end Sys2Proof.Machine
end

section
open Sys2Proof Sys2Proof.Machine

/-- Settles O38. A write of Retire goes through `Dev.retireArray_arr`, which says of every array what a retirement leaves, and
`Dev.besidesRepair`, all that it leaves alone; the banks of a spare follow from `Dev.programArrays_programmed`, by induction on the slots
that are Ready. -/
theorem arraysAreRetiredAndReplaced : Obligations.ArraysAreRetiredAndReplaced := by
  unfold Obligations.ArraysAreRetiredAndReplaced
  refine ⟨fun s ses a hs ha hm => retire_answers hs ha hm, ?_, ?_⟩
  · intro s a hw ha h3
    have hlen : s.dev.cls.arrays.length = 72 := by
      obtain ⟨⟨⟨_, _, _, _, _, _, _, _, _, _, harrays, _⟩, _⟩, _⟩ := hw
      exact harrays
    have hent := Dev.spareProgrammed_entered s.dev.begin a (Nat.lt_of_lt_of_eq ha hlen.symm) h3
    obtain ⟨t, ht, hpend, hblocks, hval⟩ := spareProgrammed_answers hw ha rfl hent.besides hent.val
    have harr : ∀ b, t.dev.arr b = (s.dev.begin.spareProgrammed a).arr b := Dev.arr_congr (by rw [Dev.cls_of_blocks hblocks])
    refine ⟨t, ht, (harr a).trans ?_, ?_, ?_, fun b _ hba => (harr b).trans (hent.others b hba), hpend, ?_, ?_⟩
    · rw [hent.self, harr]
      rfl
    · intro m hm hstate k hk
      have hnot : 2 * m + k ∉ bankPairs s.dev.begin.readySlots := fun hin =>
        hstate ((Dev.mem_readySlots _ m).mp ((mem_bankPairs _ m k hk).mp hin)).2
      rw [harr, hent.banks, if_neg hnot]
      rfl
    · intro m hm hstate k hk
      have hin : 2 * m + k ∈ bankPairs s.dev.begin.readySlots :=
        (mem_bankPairs _ m k hk).mpr ((Dev.mem_readySlots _ m).mpr ⟨hm, hstate⟩)
      have hslot : (2 * m + k) / 2 = m := by omega
      have hbank : (2 * m + k) % 2 = k := by omega
      rw [harr, hent.banks, if_pos hin, Dev.bankOf, hslot, hbank]
      rfl
    · have hsame : t.dev.besidesArrays = s.dev.besidesArrays := (Dev.besidesArrays_congr hblocks).trans hent.besides
      exact Dev.blocks_of_besidesArrays hsame
    · exact fun k hk => (hval k).trans (hent.val k hk)
  · intro s a hw ha h3
    have hstay : s.dev.begin.spareProgrammed a = s.dev.begin := if_pos h3
    obtain ⟨t, ht, hpend, hblocks, hval⟩ := spareProgrammed_answers hw ha hstay rfl (fun _ _ => rfl)
    exact ⟨t, ht, hpend, hblocks, fun k _ => hval k⟩
end
